-- ==== Sys2Proof/Word.lean ====
section
/-! DEFINITION. Word.lean: the word types of the KV-4T and nothing else. Multi-byte values are little-endian (R256, R427): byte `i` of a sector is its bits [8i+7:8i]. -/
namespace Sys2Proof

/-- One byte. -/
abbrev Byte := BitVec 8

/-- The 64 B of one sector (R15). -/
abbrev Sector := BitVec 512

/-- The 256 B of one line (R95). -/
abbrev Line := BitVec 2048

end Sys2Proof
end

