-- ==== Sys2Proof/Syntax.lean ====
section
/-! DEFINITION. Syntax.lean: the commands of the block, one constructor per row of opcode_table.json, and the
operand records they carry. Only what the outside decides is an operand (a pin value, a packet field, a reading, an
error met on the way, the result of a test, which unit takes its step). -/
namespace Sys2Proof

/-- Service class of a request (R105). -/
inductive Cls where
  | critical | assured | bulk | upkeep
deriving DecidableEq, Repr

/-- One request slot of a requester port (R43); the constructor fixes the operation. -/
structure PortReq where
  /-- Port RP00 to RP35. -/
  port : Fin 36
  /-- 0: 32 B, 1: 64 B, 2: 128 B, 3: 256 B. -/
  size : BitVec 2
  /-- Block address. -/
  addr : BitVec 48
  /-- Class. -/
  cls : Cls
  /-- Stream ID. -/
  stream : BitVec 12
  /-- Requester's tag. -/
  tag : BitVec 14
  /-- Tenant on whose behalf the request is made. -/
  tenant : BitVec 10
deriving DecidableEq, Repr

/-- Who sends a management message: the host session whose keys protect it (none outside a session), the
transport (0 I3C, 1 mailbox, 2 management packets) and MCTP endpoint it arrives from, and its tag (R429, R432). -/
structure Rq where
  /-- Session number, none outside a session. -/
  session : Option (Fin 4)
  /-- 0 I3C, 1 mailbox, 2 management packets. -/
  transport : Fin 3
  /-- MCTP endpoint ID. -/
  endpoint : BitVec 8
  /-- Tag, echoed in the response. -/
  tag : BitVec 8
deriving DecidableEq, Repr

/-- A dictionary object and its first element (R426). -/
structure Obj where
  /-- Index. -/
  index : BitVec 16
  /-- Sub-index. -/
  sub : BitVec 8
  /-- First TABLE element, zero otherwise. -/
  elem : BitVec 32
deriving DecidableEq, Repr

/-- The header of a contribution packet (R53). -/
structure ContribHdr where
  /-- Shot ID. -/
  shot : BitVec 16
  /-- Shot epoch. -/
  epoch : BitVec 8
  /-- 0x01 contribution. -/
  kind : BitVec 8
  /-- Chunk index. -/
  chunk : BitVec 32
  /-- Direct contributor. -/
  contributor : BitVec 9
  /-- Leaf-count weight. -/
  leaves : BitVec 21
  /-- Payload bytes. -/
  length : BitVec 13
deriving DecidableEq, Repr

/-- Where a slate is posted from (R243): a POST slot of a port (its address names the list), with `sent` when its write data
travels in the same cycle (R48), or a session that names the list. -/
inductive PostOrigin where
  | port (r : PortReq) (sent : Bool)
  | host (rq : Rq) (list : BitVec 32)
deriving DecidableEq, Repr

/-- A post: where it comes from and its slate, whose kind field the command itself fixes (R240). -/
structure Post where
  /-- Port or session. -/
  origin : PostOrigin
  /-- The 64 B slate. -/
  slate : BitVec 512
deriving DecidableEq, Repr

/-- What the word code of a slice finds in a word (R232): nothing, one bit (and whether the rewritten word
reads wrong again), two bits, or a tag of which one or both copies are bad. -/
inductive WordFound where
  | ok
  | corrected (again : Bool)
  | uncorrectable
  | tagOne
  | tagBoth
deriving DecidableEq, Repr

/-- What one Loft cycle of a slice meets, beside the requests and other work that the state holds (R229): a reduction lane's
accumulator read and its write back, another engine's accesses, those of shot contexts, patrol or test reads, and what the word
code finds in the words that the cycle reads (R232). -/
structure LoftDemand where
  /-- A reduction lane reads its accumulators. -/
  laneRead : Bool := false
  /-- A reduction lane writes its accumulators. -/
  laneWrite : Bool := false
  /-- Another engine reads: filter, select, held results. -/
  engine : Bool := false
  /-- Another engine writes. -/
  engineWrite : Bool := false
  /-- A shot context is fetched. -/
  contextRead : Bool := false
  /-- A shot context is spilled. -/
  contextWrite : Bool := false
  /-- Patrol or test reads. -/
  upkeep : Bool := false
  /-- Words of the slice and what the word code finds in them. -/
  found : List (Nat × WordFound) := []
deriving DecidableEq, Repr

/-- What a retraining cut finds for one lane (R191): whether its data sampler and four probes see no error, which of
the write points -2, -1, 0, +1, +2 pass (bits 0 to 4), and which neighbours of the write reference pass. -/
structure CalResult where
  /-- Lane 0 to 37. -/
  lane : Fin 38
  /-- Read confirmation passes. -/
  readOk : Bool
  /-- Write points that pass, bit 0 for -2 taps. -/
  points : BitVec 5
  /-- The reference one step down passes. -/
  refDown : Bool
  /-- The reference one step up passes. -/
  refUp : Bool
deriving DecidableEq, Repr

/-- The passing ranges that training finds for one lane of one pseudo-channel in one timing set (R182, R183). -/
structure LaneEye where
  /-- Pseudo-channel. -/
  pc : Fin 64
  /-- Timing set. -/
  set : Fin 4
  /-- Lane. -/
  lane : Fin 38
  /-- Passing read delays. -/
  rdLo : BitVec 7
  rdHi : BitVec 7
  /-- Passing reference codes. -/
  refLo : BitVec 7
  refHi : BitVec 7
  /-- Passing write delays. -/
  wrLo : BitVec 7
  wrHi : BitVec 7
  /-- Passing write references of the pseudo-channel. -/
  wrefLo : BitVec 7
  wrefHi : BitVec 7
deriving DecidableEq, Repr

/-- What full training of a stack finds (R182 to R184). -/
structure TrainResult where
  /-- Command-bus training passes on every channel. -/
  cmdOk : Bool
  /-- Sets that passed verification on every pseudo-channel in use. -/
  sets : BitVec 4
  /-- Lanes that the screen finds stuck or open: pseudo-channel, lane. -/
  badLanes : List (Nat × Nat)
  /-- What training finds for each lane it reports; an unreported lane keeps its settings. -/
  eyes : List LaneEye
deriving DecidableEq, Repr

/-- What a stack's bring-up step shows (R471); each step reads the fields it names. -/
structure BringResult where
  /-- Step 1: the IEEE 1500 port answers. -/
  answered : Bool
  /-- Step 1: identity codes. -/
  identity : BitVec 256
  /-- Step 1: temperature in 1/8 degree, none when the read fails. -/
  reading : Option Int
  /-- Step 1: the stack reports directed RFM (R165). -/
  directedRfm : Bool
  /-- Step 2: training. -/
  train : TrainResult
  /-- Step 3: faulty rows: pseudo-channel x 4 + SID, bank, row. -/
  rows : List (Nat × Nat × Nat)
  /-- Step 3: pseudo-channels whose own logic fails. -/
  badPcs : List Nat
  /-- Step 4: post-package repairs each pseudo-channel has resources for. -/
  ppr : List (Nat × Nat)
deriving DecidableEq, Repr

/-- What the FS-5 control CPU supplies at reset (R422, R450): what the boot ROM finds of the image's signature, its
security version and microcode version, the four profile images and the compatibility request. -/
structure BootImage where
  /-- The signature verifies. -/
  sigOk : Bool
  /-- Security version. -/
  version : BitVec 16
  /-- Microcode version. -/
  mcVersion : BitVec 32
  /-- Profiles P0 to P3. -/
  profiles : List (List Byte)
  /-- Compatibility request. -/
  compatReq : Bool
deriving DecidableEq, Repr

/-- A change of the noise source (R409): a test fails (1 repetition count, 2 adaptive proportion), samples pass both
tests, or a fresh seed is drawn. -/
inductive HealthChange where
  | fails (test : Fin 3)
  | passes (samples : Nat)
  | seed
deriving DecidableEq, Repr

/-- The error symbols that the reads of one engine step meet on their way, and those its second looks meet (R359,
R361): sector (numbered in the order the step reads), position, xor. Positions 72 to 77 are the address symbols of
the place that the command reached. -/
structure ReadErrs where
  /-- Met by the reads. -/
  first : List (Nat × Nat × Nat)
  /-- Met by the second looks. -/
  second : List (Nat × Nat × Nat)
deriving DecidableEq, Repr

/-- How a self-test slice ends (R481): patterns applied, whether the compacted data matches, and what mismatched. -/
structure SliceResult where
  /-- Patterns applied. -/
  count : BitVec 16
  /-- Bits 47 to 0 equal the golden signature. -/
  sigOk : Bool
  /-- Stack slices: rows with a mismatch: bank, row. -/
  rows : List (Nat × Nat)
  /-- Stack slices: the one lane in both rows that the mismatches are confined to. -/
  lane : Option (Fin 36)
  /-- Loft slices: failing words among the 4,096 tested. -/
  words : List Nat
  /-- Stack slices: errors that the decode of the 32 saved sectors meets. -/
  errs : ReadErrs
deriving DecidableEq, Repr

/-- What the host's certificate says at FINISH (R417): the handshake verifies, the role root the leaf chains to, and
the roles and tenant of its extension. -/
structure LeafCert where
  /-- The signature and the chain verify. -/
  ok : Bool
  /-- Root it chains to: 0 Operator, 1 Keeper, 2 Tenant, 3 Observer. -/
  root : Fin 4
  /-- Roles: bit 0 Operator, 1 Keeper, 2 Tenant, 3 Observer. -/
  roles : BitVec 4
  /-- Tenant. -/
  tenant : BitVec 10
deriving DecidableEq, Repr

/-- The commands, in the order of opcode_table.json. -/
inductive Instr where
  /-- READ. R44: a READ slot on a requester port. -/
  | read (r : PortReq)
  /-- WRITE. R44: a WRITE slot; its data comes with WRITE_DATA. -/
  | write (r : PortReq)
  /-- ADD. R44: an ADD slot. -/
  | add (r : PortReq)
  /-- SWAP. R44: a SWAP slot. -/
  | swap (r : PortReq)
  /-- CAS. R44: a CAS slot. -/
  | cas (r : PortReq)
  /-- FENCE. R96: a FENCE slot. -/
  | fence (r : PortReq)
  /-- RESERVED_OPERATION. R44, R46: a slot whose operation or class field is reserved. -/
  | reservedOperation (r : PortReq) (op cls : BitVec 4)
  /-- WRITE_DATA. R48: the valid write-data positions of one cycle, in position order. -/
  | writeData (port : Fin 36) (ps : List Sector)
  /-- HOLD_BUFFER_RELEASE. R109: the oldest held request of a class tries to leave its hold buffer. -/
  | holdBufferRelease (port : Fin 36) (c : Cls)
  /-- RESPONSE_RELEASE. R103: one engine cycle of a port's response channel. -/
  | responseRelease (port : Fin 36)
  /-- ARBITER_CYCLE. R114, R115: controller cycle k of a stack arbiter. -/
  | arbiterCycle (stack : Fin 32) (k : Fin 1000)
  /-- AGE_PROMOTION. R107: a request (by issue serial) has reached the age limit. -/
  | agePromotion (req : Nat)
  /-- WATCHDOG_BITE. R118: a request (by issue serial) has outwaited the watchdog period. -/
  | watchdogBite (req : Nat)
  /-- PC_CONTROLLER_CYCLE. R139, R140: controller cycle k of a pseudo-channel controller. -/
  | pcControllerCycle (stack : Fin 32) (pc : Fin 64) (k : Fin 1000)
  /-- ROW_IDLE_CLOSE. R141: PRE of a row left open for 200 cycles. -/
  | rowIdleClose (stack : Fin 32) (pc : Fin 64) (sid : Fin 4) (bank : Fin 16) (k : Fin 1000)
  /-- READ_DATA_RETURN. R359: the oldest read's data arrives, with the error symbols this read met on its way. -/
  | readDataReturn (stack : Fin 32) (pc : Fin 64) (errs : List (Nat × Nat))
  /-- SECOND_LOOK_RESULT. R361: the data of a second look arrives. -/
  | secondLookResult (stack : Fin 32) (pc : Fin 64) (errs : List (Nat × Nat))
  /-- CORRECTIVE_REWRITE. R363: the oldest queued corrective rewrite of a stack. -/
  | correctiveRewrite (stack : Fin 32)
  /-- PARITY_ERROR. R150, R151: the parity error signal reaches a controller in cycle k. -/
  | parityError (stack : Fin 32) (pc : Fin 64) (k : Fin 1000)
  /-- REPLAY_TAKE_END. R151: a replay take ends. -/
  | replayTakeEnd (stack : Fin 32) (pc : Fin 64)
  /-- FRAME_BOUNDARY. R27: a frame boundary. -/
  | frameBoundary
  /-- CALL_SHEET_COMPLETE. R36, R119: the 64 sheets of a stack for the next frame are complete. -/
  | callSheetComplete (stack : Fin 32)
  /-- REFERENCE_CYCLE. R29: one cycle of the timing reference. -/
  | referenceCycle
  /-- PTP_OFFSET. R58: an offset measurement, I64 ns. -/
  | ptpOffset (ofs : BitVec 64)
  /-- PTP_RATE. R34, R58: a rate correction of the 1588 engine, I32 parts per 10^9. -/
  | ptpRate (rate : BitVec 32)
  /-- STEP_REQUEST. R35: a write of 0x7801.03. -/
  | stepRequest (rq : Rq) (ns : BitVec 64)
  /-- CORRECTION_MODE_SELECT. R34: a write of 0x7801.01. -/
  | correctionModeSelect (rq : Rq) (v : BitVec 8)
  /-- RATE_CORRECTION_WRITE. R34: a write of 0x7801.02. -/
  | rateCorrectionWrite (rq : Rq) (v : BitVec 32)
  /-- REFERENCE_FREQUENCY_WRITE. R58: a write of 0x7803.01. -/
  | referenceFrequencyWrite (rq : Rq) (hz : BitVec 32)
  /-- CONTRIBUTION. R270: a contribution packet of so many beats on an engine packet entry. -/
  | contribution (pipe : Fin 32) (h : ContribHdr) (beats : Nat) (payload : List Byte)
  /-- LANE_ACCUMULATE. R273: a lane takes the head of its input queue. -/
  | laneAccumulate (lane : Fin 64)
  /-- CREDIT_RETURN. R52: one credit goes back to a pipeline. -/
  | creditReturn (pipe : Fin 32)
  /-- RESULT_SEND. R54: the head packet leaves on the result output (kv_rs_ready is high). -/
  | resultSend
  /-- SPILL_PACKET. R341: a spilled packet: its descriptor and the bytes its beats carry. -/
  | spillPacket (desc : BitVec 64) (bytes : List Byte)
  /-- SPILL_PULL. R345: a pull for an egress port. -/
  | spillPull (port : BitVec 9)
  /-- LINK_STATUS. R347: a link status message. -/
  | linkStatus (port : BitVec 9) (up : Bool)
  /-- HOLD_EXPIRY. R348: the end of a port-down hold. -/
  | holdExpiry (port : BitVec 9)
  /-- BACK_PRESSURE_REFRESH. R56: the reel's resend of all 4,096 states. -/
  | backPressureRefresh
  /-- CAPTURE_HEADER. R351: a mirror header on the capture entry. -/
  | captureHeader (port : BitVec 9) (queue len : BitVec 8) (hdr : BitVec 1792)
  /-- CAPTURE_READ_INDEX. R352: a write of 0x5900.04. -/
  | captureReadIndex (rq : Rq) (v : BitVec 64)
  /-- STOCKROOM_ENABLE. R336: a write of 1 to 0x5800.02. -/
  | stockroomEnable (rq : Rq)
  /-- STOCKROOM_DISABLE. R349: a write of 0 to 0x5800.02, or a loss (none). -/
  | stockroomDisable (rq : Option Rq)
  /-- CHUNK_FILL_END. R85: a priority fill completes. -/
  | chunkFillEnd (chunk : BitVec 21)
  /-- FILL_ALLOWANCE_TAKEN. R83: a raised background fill takes its allowance. -/
  | fillAllowanceTaken (chunk : BitVec 21)
  /-- BACKGROUND_FILL_WRITE. R88: a stack's fill and scrub engine does its share of the next BLANK chunk. -/
  | backgroundFillWrite (stack : Fin 32)
  /-- ENGINE_WAIT_END. R514: the oldest waiting engine write tries again. -/
  | engineWaitEnd
  /-- VERSION_DROP. R92: the old version of a region drains. -/
  | versionDrop (region : BitVec 12)
  /-- SHOT_TABLE_VERSION_DROP. R248: the old version of a shot-table entry is dropped. -/
  | shotTableVersionDrop (entry : BitVec 12)
  /-- REFRESH_WINDOW_START. R159, R163: a refresh window starts. -/
  | refreshWindowStart (stack : Fin 32)
  /-- SELF_REFRESH_ENTRY. R167: the next step of a self-refresh entry in cycle k. -/
  | selfRefreshEntry (stack : Fin 32) (pc : Fin 64) (k : Fin 1000)
  /-- SELF_REFRESH_EXIT. R169: SRX, or its end, in cycle k. -/
  | selfRefreshExit (stack : Fin 32) (pc : Fin 64) (k : Fin 1000)
  /-- STACK_SELF_REFRESH_ENTER. R171: a write of 1 to 0x2008.06. -/
  | stackSelfRefreshEnter (rq : Rq) (stack : Fin 32)
  /-- STACK_WAKE_REQUEST. R173: a write of 0 to 0x2008.06. -/
  | stackWakeRequest (rq : Rq) (stack : Fin 32)
  /-- STACK_IDLE_EXPIRY. R171: the stack idle threshold is reached. -/
  | stackIdleExpiry (stack : Fin 32)
  /-- STACK_GATE. R171: the stack domain is gated. -/
  | stackGate (stack : Fin 32)
  /-- STACK_WAKE. R173: the next step of a wake. -/
  | stackWake (stack : Fin 32)
  /-- STACK_WAKE_SERVICE. R173, R195: confirmation done; the pseudo-channels that failed it. -/
  | stackWakeService (stack : Fin 32) (identity : BitVec 256) (res : List (Fin 64 × CalResult)) (train : TrainResult)
  /-- TIMING_SWITCH_REQUEST. R175, R177: a write of 0x2801.01. -/
  | timingSwitchRequest (rq : Rq) (stack : Fin 32) (set : BitVec 8)
  /-- TIMING_SWITCH_CHANNEL_DONE. R176: a channel's timing-switch cut ends. -/
  | timingSwitchChannelDone (stack : Fin 32)
  /-- HISTOGRAM_BIN_ADVANCE. R185: 128 bursts sampled; the disagreements of each lane. -/
  | histogramBinAdvance (stack : Fin 32) (pc : Fin 64) (dis : List Nat)
  /-- RETRAINING_APPLY. R192: the boundary that ends a retraining cut; what the cut found for each lane. -/
  | retrainingApply (stack : Fin 32) (pc : Fin 64) (res : List CalResult)
  /-- PC_RETRAIN_COMPLETE. R195: a retrained pseudo-channel enters service. -/
  | pcRetrainComplete (stack : Fin 32) (pc : Fin 64) (eyes : List LaneEye)
  /-- DOMAIN_GATE_REQUEST. R199: a write of 0x7001.03. -/
  | domainGateRequest (rq : Rq) (domain : Fin 43) (v : BitVec 8)
  /-- DOMAIN_WAKE_COMPLETE. R197: a woken domain becomes ready. -/
  | domainWakeComplete (domain : Fin 43)
  /-- POWER_TELEMETRY. R200, R201: last frame's energy in nJ of the domains and of the stack rails. -/
  | powerTelemetry (domains rails : List Nat)
  /-- TEMPERATURE_READ. R205: a sensor read in 1/8 degree, or a failed one. -/
  | temperatureRead (stack : Fin 32) (reading : Option Int)
  /-- STACK_T4_GATE. R210: 100 reels at T4. -/
  | stackT4Gate (stack : Fin 32)
  /-- THERMAL_SLIP_RECORD. R214: a thermal-slip record of a shot. -/
  | thermalSlipRecord (shot : BitVec 16)
  /-- LOFT_PORT_CYCLE. R229: one Loft cycle of a slice's ports. -/
  | loftPortCycle (slice : Fin 64) (d : LoftDemand)
  /-- LOFT_LINE_FILL. R222: the sectors of the oldest fetch of a slice have arrived. -/
  | loftLineFill (slice : Fin 64)
  /-- LOFT_WRITE_BACK. R223: the oldest write-back of a slice goes to its stack. -/
  | loftWriteBack (slice : Fin 64)
  /-- LOFT_PATROL_STEP. R232: the patrol reads the next word of a slice. -/
  | loftPatrolStep (slice : Fin 64) (found : WordFound)
  /-- PARTITION_CHANGE_EFFECT. R219: a partition change takes effect. -/
  | partitionChangeEffect (q : Fin 4)
  /-- SLICE_FAIL. R235: a failed slice's declaration takes effect. -/
  | sliceFail (slice : Fin 64) (tagsLost : Bool)
  /-- SLICE_FENCE. R235: its last write-back has reached its stack. -/
  | sliceFence (slice : Fin 64)
  /-- SLICE_MAP_RETURN. R221: an eligible slice gets its map entry back. -/
  | sliceMapReturn (slice : Fin 64)
  /-- REDUCE. R265: a post of a REDUCE slate. -/
  | reduce (p : Post)
  /-- GATHER. R290: a post of a GATHER slate. -/
  | gather (p : Post)
  /-- SCORE. R305: a post of a SCORE slate. -/
  | score (p : Post)
  /-- PROJECT. R305: a post of a PROJECT slate. -/
  | project (p : Post)
  /-- SELECT. R318: a post of a SELECT slate. -/
  | select (p : Post)
  /-- FILTER. R329: a post of a FILTER slate. -/
  | filter (p : Post)
  /-- CONVERT. R332: a post of a CONVERT slate. -/
  | convert (p : Post)
  /-- COPY. R333: a post of a COPY slate. -/
  | copy (p : Post)
  /-- SCAN. R370: a post of a SCAN slate. -/
  | scan (p : Post)
  /-- FILL. R334: a post of a FILL slate. -/
  | fill (p : Post)
  /-- RESERVED_KIND. R243: a post whose slate names a reserved kind. -/
  | reservedKind (p : Post) (kind : BitVec 8)
  /-- SHOT_EXTEND. R250: a shot at its budget end is extended. -/
  | shotExtend (shot : BitVec 16)
  /-- SHOT_TIME_ABORT. R250: a shot at its final end is aborted. -/
  | shotTimeAbort (shot : BitVec 16)
  /-- LIST_HEAD_TIMEOUT. R246: a slate has waited too long at its list's head. -/
  | listHeadTimeout (list : Fin 64)
  /-- CONTEXT_FREE. R249: a context has rested. -/
  | contextFree (shot : BitVec 16)
  /-- JOB_ABORT. R255: a write of 0x5003.01. -/
  | jobAbort (rq : Rq) (v : BitVec 32)
  /-- GATHER_BAG_START. R294: a gather unit starts its next bag, or issues the next row fetches. -/
  | gatherBagStart (unit : Fin 32)
  /-- GATHER_ROW_DATA. R296: a fetched row's data is pooled. -/
  | gatherRowData (unit : Fin 32)
  /-- ARRAY_RUN. R306: an array takes a run of candidate rows. -/
  | arrayRun (array : Fin 4)
  /-- SELECT_MERGE. R320: the partial lists of a shot are merged. -/
  | selectMerge (shot : BitVec 16)
  /-- FILTER_KEY. R327: a filter unit takes the next key of a shot. -/
  | filterKey (shot : BitVec 16)
  /-- PATROL_STEP. R365: a patrol step. -/
  | patrolStep (stack : Fin 32) (e : ReadErrs)
  /-- BUCKET_LEAK. R364: every bucket that is not empty loses one. -/
  | bucketLeak
  /-- SPLICE_LINE_COPY. R381: one line of a spliced row is copied. -/
  | spliceLineCopy (stack : Fin 32) (e : ReadErrs)
  /-- MIGRATION_START. R386: a queued migration starts. -/
  | migrationStart (stack : Fin 32)
  /-- MIGRATION_LINE_COPY. R388: Dolly copies a line. -/
  | migrationLineCopy (stack : Fin 32) (e : ReadErrs)
  /-- MIGRATION_COMMIT. R391: a migration commits. -/
  | migrationCommit (stack : Fin 32)
  /-- REBUILD_LINE_COPY. R395: Dolly copies a line of a region being rebuilt. -/
  | rebuildLineCopy (region : BitVec 12) (e : ReadErrs)
  /-- DECLARE_DEAD. R397: a write of 0x6040.02. -/
  | declareDead (rq : Rq) (unit : BitVec 32)
  /-- READMIT. R398: a write of 0x6040.04. -/
  | readmit (rq : Rq) (unit : BitVec 32)
  /-- READMIT_RESULT. R398: the re-admission self-test ends. -/
  | readmitResult (pass : Bool)
  /-- RETIREMENT_READ_INDEX. R385: a write of 0x6050.03. -/
  | retirementReadIndex (rq : Rq) (v : BitVec 64)
  /-- KEY_ROTATE. R412: a write of 0x6802.01. -/
  | keyRotate (rq : Rq) (region : BitVec 16)
  /-- SWEEP_STEP. R413: a stack sweeps the next sector of a region. -/
  | sweepStep (stack : Fin 32) (region : BitVec 12) (e : ReadErrs)
  /-- SWEEP_COMPLETE. R413: the boundary after every stack finished. -/
  | sweepComplete (region : BitVec 12)
  /-- KEY_ERASE. R416: a write of 0x6802.03. -/
  | keyErase (rq : Rq) (region : BitVec 16)
  /-- ERASE_EFFECT. R416: the boundary with no request outstanding. -/
  | eraseEffect (region : BitVec 12)
  /-- ENTROPY_HEALTH_CHANGE. R409: a noise-source health test fails, passes samples, or a fresh seed is drawn. -/
  | entropyHealthChange (h : HealthChange)
  /-- DRBG_RESEED. R408: the generator is reseeded. -/
  | drbgReseed
  /-- MICROCODE_SEGMENT. R423: a staging segment; at the last one what verification finds. -/
  | microcodeSegment (rq : Rq) (segment : BitVec 32) (last sigOk : Bool) (version : BitVec 16)
  /-- RAISE_MINIMUM_VERSION. R423: a write of 0x6810.03. -/
  | raiseMinimumVersion (rq : Rq)
  /-- SCAN_REQUEST. R424: kv_scan_en rises. -/
  | scanRequest
  /-- SCAN_CLEAR_COMPLETE. R424: the read-back of step 4. -/
  | scanClearComplete (ok : Bool)
  /-- RESET_ASSERT. R63: kv_rst_n falls and stays low so many ns. -/
  | resetAssert (lowNs : Nat)
  /-- RESET_RELEASE. R468: the filtered rising edge of kv_rst_n with its straps. -/
  | resetRelease (profile : BitVec 2) (compat : Bool)
  /-- MICROCODE_IMAGE. R422, R450: the FS-5 supplies image, profiles and compatibility request. -/
  | microcodeImage (img : BootImage)
  /-- DICTIONARY_REACHABLE. R468: the boundary that opens frame r. -/
  | dictionaryReachable
  /-- STACK_BRING_UP_STEP_DONE. R471: a stack ends a bring-up step. -/
  | stackBringUpStepDone (stack : Fin 32) (r : BringResult)
  /-- HARDWARE_FILL_DONE. R472: a stack's hardware fill completes. -/
  | hardwareFillDone (stack : Fin 32)
  /-- LOFT_QUADRANT_TEST_DONE. R474: a quadrant's test and fill complete; the hard-fault words of each of its 16 slices. -/
  | loftQuadrantTestDone (q : Fin 4) (bad : List (List Nat))
  /-- ENGINE_SELF_TEST_DONE. R474: an engine unit (R396; 88,328 Dolly, 88,329 scan unit, 88,330 capture writer, 88,331 Stockroom, which R396 does not number) ends its logic self-test. -/
  | engineSelfTestDone (unit : Nat) (pass : Bool)
  /-- SELF_TEST_SLICE_REQUEST. R478: the pass requests its next slice. -/
  | selfTestSliceRequest
  /-- SELF_TEST_SLICE_END. R481: a slice ends with its signature. -/
  | selfTestSliceEnd (unit : Nat) (r : SliceResult)
  /-- COUNTER_SAMPLE. R491: the sample in a counter's capture register leaves it for the ring. -/
  | counterSample (counter : Fin 1088)
  /-- COUNTER_GRANT. R494: a write of 0x9004.01. -/
  | counterGrant (rq : Rq) (elem : Fin 1088) (v : BitVec 16)
  /-- SAMPLE_READ_INDEX. R465: a write of 0x9003.03. -/
  | sampleReadIndex (rq : Rq) (v : BitVec 64)
  /-- MAILBOX_DOORBELL. R60: kv_mb_db_in pulses, with a packet in the request window, the last of its message or not. -/
  | mailboxDoorbell (packet : List Byte) (last : Bool)
  /-- MANAGEMENT_PACKET. R61: a management packet. -/
  | managementPacket (rq : Rq) (bytes : Nat)
  /-- DICTIONARY_READ. R433: a READ. -/
  | dictionaryRead (rq : Rq) (o : Obj) (staged : Bool) (length : Nat)
  /-- DICTIONARY_WRITE. R446: a WRITE. -/
  | dictionaryWrite (rq : Rq) (o : Obj) (data : List Byte)
  /-- LOCK. R445: a LOCK. -/
  | lock (rq : Rq) (scopes : List (BitVec 16))
  /-- COMMIT. R448: a COMMIT. -/
  | commit (rq : Rq)
  /-- DISCARD. R433: a DISCARD. -/
  | discard (rq : Rq)
  /-- RENEW. R447: a RENEW. -/
  | renew (rq : Rq)
  /-- SESSION_RESET. R431: a SESSION_RESET. -/
  | sessionReset (rq : Rq)
  /-- RESERVED_DICTIONARY_OP. R433: a request with a reserved operation. -/
  | reservedDictionaryOp (rq : Rq) (op : BitVec 8)
  /-- LEASE_EXPIRY. R449: a session's lease has run out. -/
  | leaseExpiry (n : Fin 4)
  /-- SESSION_TIMEOUT. R431: no message for twice the heartbeat period. -/
  | sessionTimeout (n : Fin 4)
  /-- EVENT_ACKNOWLEDGE. R443: a session writes its read index. -/
  | eventAcknowledge (rq : Rq) (v : BitVec 64)
  /-- STATE_REQUEST_SERVICE. R440: a write of 2 to 0x1100.02. -/
  | stateRequestService (rq : Rq)
  /-- STATE_REQUEST_DRAIN. R440: a write of 3 to 0x1100.02. -/
  | stateRequestDrain (rq : Rq)
  /-- STATE_REQUEST_TEST. R440: a write of 4 to 0x1100.02. -/
  | stateRequestTest (rq : Rq)
  /-- STATE_REQUEST_SAFE. R440: a write of 5 to 0x1100.02. -/
  | stateRequestSafe (rq : Rq)
  /-- KEY_EXCHANGE. R430: SPDM KEY_EXCHANGE. -/
  | keyExchange (rq : Rq)
  /-- FINISH. R430, R417: SPDM FINISH with what the host's certificate says. -/
  | finish (rq : Rq) (leaf : LeafCert)
  /-- END_SESSION. R431: SPDM END_SESSION. -/
  | endSession (rq : Rq)
  /-- GET_MEASUREMENTS. R421: SPDM GET_MEASUREMENTS. -/
  | getMeasurements (rq : Rq) (index : BitVec 8)
  /-- GET_VERSION. R419: SPDM GET_VERSION. -/
  | getVersion (rq : Rq)
  /-- GET_CAPABILITIES. R419: SPDM GET_CAPABILITIES. -/
  | getCapabilities (rq : Rq)
  /-- NEGOTIATE_ALGORITHMS. R419: SPDM NEGOTIATE_ALGORITHMS; whether the offer holds the block's algorithms. -/
  | negotiateAlgorithms (rq : Rq) (supported : Bool)
  /-- GET_DIGESTS. R419: SPDM GET_DIGESTS. -/
  | getDigests (rq : Rq)
  /-- GET_CERTIFICATE. R419: SPDM GET_CERTIFICATE. -/
  | getCertificate (rq : Rq) (slot : BitVec 4) (offset length : BitVec 16)
  /-- CHALLENGE. R419: SPDM CHALLENGE. -/
  | challenge (rq : Rq) (slot : BitVec 4) (nonce : BitVec 256)
  /-- HEARTBEAT. R419: SPDM HEARTBEAT. -/
  | heartbeat (rq : Rq)
  /-- KEY_UPDATE. R419: SPDM KEY_UPDATE. -/
  | keyUpdate (rq : Rq)
  /-- ENTDAA. R59: ENTDAA assigns a dynamic address. -/
  | entdaa (addr : BitVec 7)
  /-- RSTDAA. R59, R431: RSTDAA. -/
  | rstdaa
  /-- ENEC. R59: ENEC. -/
  | enec (mask : BitVec 8)
  /-- DISEC. R59: DISEC. -/
  | disec (mask : BitVec 8)
  /-- GETPID. R59: GETPID. -/
  | getpid
  /-- GETBCR. R59: GETBCR. -/
  | getbcr
  /-- GETDCR. R59: GETDCR. -/
  | getdcr
  /-- GETMRL. R59: GETMRL. -/
  | getmrl
  /-- GETMWL. R59: GETMWL. -/
  | getmwl
  /-- SETMRL. R59: SETMRL. -/
  | setmrl (v : BitVec 16)
  /-- SETMWL. R59: SETMWL. -/
  | setmwl (v : BitVec 16)
  /-- CORE_SELF_TEST_DONE. R469: core self-test ends. -/
  | coreSelfTestDone (pass : Bool)
  /-- I3C_MCTP_TRANSFER. R59: an MCTP packet on the I3C sideband, the last of its message or not. -/
  | i3cMctpTransfer (rq : Rq) (bytes : Nat) (last : Bool)
  /-- UNSUPPORTED_SPDM_REQUEST. R419: an SPDM request the block does not support. -/
  | unsupportedSpdmRequest (rq : Rq) (code : BitVec 8)
  /-- CORE_POWER_LOSS. R438: the core domain loses power. -/
  | corePowerLoss
  /-- SELECT_ENTRY_DEAL. R320: the next input entries of a SELECT shot are dealt, one cycle of 64. -/
  | selectEntryDeal (shot : BitVec 16)
  /-- CHECK_VALUE_BLOCK. R371: the next 64 B block of a SCAN shot. -/
  | checkValueBlock (shot : BitVec 16)
  /-- DOLLY_SHOT_TRANSFER. R333: the next part of a COPY or CONVERT shot. -/
  | dollyShotTransfer (shot : BitVec 16)
  /-- FILL_SHOT_WRITE. R334: the next part of a FILL shot. -/
  | fillShotWrite (shot : BitVec 16)
  /-- LOST_LINE_REWRITE. R393: the next lost line is rewritten poisoned. -/
  | lostLineRewrite (stack : Fin 32)

deriving DecidableEq, Repr

end Sys2Proof
end

