-- ==== Sys2Proof/Decode.lean ====
section
/-! DEFINITION. Decode.lean: what a word of the command table spells. The table of this block gives no row any bits: its
commands are transactions of ports, packets, management requests and events, and no one word carries one. -/
namespace Sys2Proof

/-- The command that a word spells: none, since no row of the table has bits. -/
def decodeTableWord (_nbits _w : Nat) : Option Instr := none

end Sys2Proof
end

