-- ==== Sys2Proof/Config.lean ====
section
/-! DEFINITION. Config.lean: the values the specification leaves open, as opaque constants with no body (log 4), so
that nothing in Lean can evaluate one or prove a value of it. Each is applied to what it may depend on, or to the
counter `State.free` for a fresh value each time. -/
namespace Sys2Proof

/-- A value the specification does not state, numbered by the counter of free values. -/
opaque Config.freeNat : Nat → Nat

/-- What a sector deciphers to under a key or tweak it was not enciphered under (R406, R415), or when its stored
symbols do not form its codeword: key handle and tweak tried, key handle and tweak used, the plaintext sealed. -/
opaque Config.garbled : Nat → Nat → Nat → Nat → Sector → Sector

/-- An estimate of the Gaffer's for the coming frame in nJ (R202): what it estimates, last frame's energy of it, the work queued
for it, and the shots admitted that need it. -/
opaque Config.demandEstimate : Nat → Nat → Nat → Nat → Nat

/-- What a governor charges for one event of a domain, in nJ: its estimator's coefficient, which each frame's measured
figures correct (R201): domain, last frame's energy. -/
opaque Config.eventEnergy : Nat → Nat → Nat

/-- The PI servo's rate correction (R32): the offset just measured, the one before, the sum of those measured since SERVO was
selected, the rate it last set, and its two gains. -/
opaque Config.servoRate : Int → Int → Int → Int → Nat → Nat → Int

/-- Read-only identity of the part: silicon stepping, serial number, vendor number (R455). -/
opaque Config.stepping : Nat
opaque Config.serial : Nat
opaque Config.vendor : Nat

/-- The device certificate chain as read in 0x6800.01 (R420). -/
opaque Config.certificate : List (BitVec 8)

/-- SHA-384 of a string of bytes (R421): an algorithm the specification names and does not state. -/
opaque Config.sha384 : List (BitVec 8) → BitVec 384

/-- The digest of the verified microcode image in force, by its security version and its microcode version (R421). -/
opaque Config.imageDigest : Nat → Nat → BitVec 384

/-- The bytes of the I3C provisioned ID, BCR and DCR of the block (R59). -/
opaque Config.i3cPid : List Nat
opaque Config.i3cBcr : Nat
opaque Config.i3cDcr : Nat

end Sys2Proof
end

