-- ==== Sys2Proof/Machine/State.lean ====
section
/-! DEFINITION. State.lean: everything the specification gives the block, as plain data, the reasons a step could
stop, and the state after reset. Each field's comment gives its meaning, width, rule and reset value; INVENTORY.md lists
the same. Sparse tables are lists of key and value in one canonical form (Machine/Ops.lean). -/
namespace Sys2Proof.Machine

/-- A sparse table: rising keys, no entry equal to what an unlisted key reads as. -/
abbrev Map (V : Type) := List (Nat × V)

/-- Correction mode (R32). -/
inductive CorrMode where
  | track | servo
deriving DecidableEq, Repr

/-- Block state (R438), in code order. -/
inductive BlkState where
  | off | bringUp | service | drain | test | safe
deriving DecidableEq, Repr

/-- Where the reset sequence of R468 stands: core self-test; waiting for the microcode image; waiting for the boundary
that opens frame r; dictionary reachable; held in reset after a failure (R469); no power or reset (OFF). -/
inductive BootStage where
  | coreTest | image | boundary | up | held | down
deriving DecidableEq, Repr

/-- Response code (R50). -/
inductive RspCode where
  | done | poison | refused | aborted
deriving DecidableEq, Repr

/-- Response detail (R51), in code order. -/
inductive Detail where
  | none | range | denied | state | notReady | epoch | generation
deriving DecidableEq, Repr

/-- Operation of a request (R44). -/
inductive ReqOp where
  | read | write | add | swap | cas | fence | post | reserved (op : Nat)
deriving DecidableEq, Repr

/-- Where a request stands: in its hold buffer (R46), on a FILLING chunk (R84), at its Loft slice (R220), waiting
for a line fill (R222), at its stack arbiter (R114), in a pseudo-channel queue (R132), answered and waiting
for the tracker (R103); with its engine, until a cause of R514 ends or its caps have room (R109). -/
inductive Phase where
  | held | chunk | loft | line | arb | queued | done | wait
deriving DecidableEq, Repr

/-- Who takes a request's answer: its port; a Loft line being fetched (its cache key, R222); a gather row
(unit, shot, bag, entry, R294); the engine that reads for a shot (its ID) or for a pull (65,536 + egress port, R345);
nobody, for an engine's write; the write-back buffer of a slice that the sector leaves (R223). -/
inductive Dest where
  | port | line (key : Nat) | row (unit shot bag entry : Nat) | eng (who : Nat) | sink | back (slice : Nat)
deriving DecidableEq, Repr

/-- Kind of a queue entry (R132, R145). -/
inductive QKind where
  | read | write | partialWrite | atomic
deriving DecidableEq, Repr

/-- Progress of a queue entry: waiting; its RD issued; waiting for its WR from a cycle on (R145); WR issued. -/
inductive QStage where
  | waiting | reading | merge (earliest : Nat) | writing (at_ : Nat)
deriving DecidableEq, Repr

/-- Commands to a stack (R134, R153, R167). -/
inductive CmdKind where
  | act | pre | prea | refpb | rfm | rd | wr | refab | sre | srx
deriving DecidableEq, Repr

/-- Kinds of cut (R37), retraining with its group of R190 (1 deferred, 2 repair, 3 failed confirmation, 4 brought
forward, 5 scheduled). -/
inductive CutKind where
  | retrain (group : Nat) | slice | switch | confirm
deriving DecidableEq, Repr

/-- A cut placed on a sheet. -/
structure Cut where
  /-- Kind. -/
  kind : CutKind := .slice
  /-- First cycle. -/
  start : Nat := 0
  /-- Cycles. -/
  len : Nat := 0
deriving DecidableEq, Repr

/-- Self-refresh of a pseudo-channel (R167 to R169): awake; preparing since a cycle; committed at a cycle; asleep
(with its commit cycle); returning from an entry that was abandoned, or exiting: first command at a cycle. -/
inductive SrPhase where
  | awake | preparing (t : Nat) | committed (t : Nat) | asleep (t : Nat) | returning (ready : Nat) | exiting (ready : Nat)
deriving DecidableEq, Repr

/-- Power state of a stack (R171, R173, R471): no power; in bring-up; in service; entering stack self-refresh; gated;
waking (frames since w); waking under full training. -/
inductive StackPower where
  | off | bringUp | service | entering | gated | waking (frames : Nat) | training
deriving DecidableEq, Repr

/-- Who posted a slate (R243). -/
inductive Origin where
  | port (n : Nat) | session (n : Nat) (operator : Bool) | block
deriving DecidableEq, Repr

/-- Time of day, frames and the correction of the local clock (02). -/
structure TimeState where
  /-- time of day in units of 2^-32 x 10^-9 ns, so that every applied increment is exact | 80-bit TIME | 02 R25 R26 R29 | 0 -/
  tod : Nat := 0
  /-- time of day, in ns, at which the next frame boundary falls | 80 | 02 R27 R35 | 1,000 (derived) -/
  nextNs : Nat := 1000
  /-- frame count | U64 | 02 R28 | 0 -/
  frame : Nat := 0
  /-- nominal increment in 2^-32 ns | U64 | 02 R29, 03 R58 | 10^9 / 312,500,000 ns, from the default of 0x7803.01 -/
  nominal : Nat := 13743895347
  /-- nominal increment accepted and not yet in force | U64 | 03 R58 | none -/
  nominalReq : Option Nat := none
  /-- rate correction in force, parts per 10^9 | I32 | 02 R29 R30 | 0 -/
  rate : Int := 0
  /-- correction mode in force | 1 | 02 R32 R33 | SERVO -/
  mode : CorrMode := .servo
  /-- last rate correction of the servo | I32 | 02 R32 | 0 DESIGN CHOICE (log 10) -/
  servoRate : Int := 0
  /-- sum of the offsets measured since SERVO was selected, ns | - | 02 R32 | 0 DESIGN CHOICE (log 10) -/
  servoSum : Int := 0
  /-- step requested in SERVO and not yet applied, ns | I64 | 02 R35 | none -/
  pendingStep : Option Int := none
  /-- join step that the next boundary applies, ns | 64 | 02 R33 | none -/
  joinDue : Option Int := none
  /-- time of day at the boundary that opened the frame in progress | 80 | 02 R27 | 0 -/
  frameStart : Nat := 0
deriving DecidableEq, Repr

/-- Block state, reset, straps, scan and readiness (03, 19, 21). -/
structure BlockState where
  /-- block state | 3 | 19 R438 | BRING-UP (reads 1, 21 R468) -/
  state : BlkState := .bringUp
  /-- step of the reset sequence | - | 21 R468 | step 2 runs after the edge -/
  boot : BootStage := .coreTest
  /-- cause of entry to SAFE, 0x1100.04 | U8 | 19 R440 R455 | 0 -/
  safeCause : Nat := 0
  /-- state change accepted, for the next boundary | 3 | 19 R440 | none -/
  request : Option BlkState := none
  /-- kv_scan_en has risen since reset | 1 | 03 R65 | false -/
  scanEn : Bool := false
  /-- clearing step of R424 reached, 0-4 | 3 | 18 R424 | 0 -/
  scanStep : Nat := 0
  /-- kv_scan_rdy | 1 | 03 R62 R65 | low -/
  scanRdy : Bool := false
  /-- kv_rst_n is low | 1 | 03 R63 | high (after the edge) -/
  rstLow : Bool := false
  /-- kv_profile as sampled | 2 | 03 R64 | 0 DESIGN CHOICE (log 3) -/
  profile : Nat := 0
  /-- compatibility in force, 0xF000.02 | 1 | 23 R495 | false DESIGN CHOICE (log 3) -/
  compat : Bool := false
  /-- readiness, element = domain, 0x1100.03 | U8 x 43 | 19 R441, 09 R197 | 0 each -/
  ready : Map Nat := []
  /-- readiness results that apply at the next boundary | - | 21 R470 | none -/
  readyNext : List (Nat × Nat) := []
deriving DecidableEq, Repr

/-- One staged element of a locked object (R446). -/
structure Staged where
  /-- object index -/
  index : Nat := 0
  /-- sub-index -/
  sub : Nat := 0
  /-- element -/
  elem : Nat := 0
  /-- value, little-endian -/
  value : Nat := 0
  /-- bytes staged -/
  bytes : Nat := 0
deriving DecidableEq, Repr

/-- One host session H0-H3 (19). -/
structure Session where
  /-- the session exists | 1 | 19 R430 | closed -/
  isOpen : Bool := false
  /-- transport code | 2 | 19 R430 R455 | 0 -/
  transport : Nat := 0
  /-- MCTP endpoint ID | 8 | 19 R430 | 0 -/
  endpoint : Nat := 0
  /-- roles: bit 0 Operator, 1 Keeper, 2 Tenant, 3 Observer | 4 | 18 R417 | 0 -/
  roles : Nat := 0
  /-- tenant | 10 | 18 R417 | 0 -/
  tenant : Nat := 0
  /-- frame of the last message | U64 | 19 R431 | 0 -/
  lastMsg : Nat := 0
  /-- heartbeat period offered, frames | - | 19 R431 | 0 -/
  hbFrames : Nat := 0
  /-- ended; frees at the next boundary | 1 | 19 R431 | false -/
  ending : Bool := false
  /-- lock scopes held | - | 19 R444 | none -/
  scopes : List Nat := []
  /-- number of the last grant | U32 | 19 R445 | 0 -/
  lockNo : Nat := 0
  /-- frame count at which the lease runs out | U64 | 19 R447 | 0 -/
  leaseEnd : Nat := 0
  /-- a lock was broken since the last lock-related request | 1 | 19 R449 | false -/
  broken : Bool := false
  /-- staged writes, 256 KiB at most | - | 19 R446 | none -/
  staged : List Staged := []
deriving DecidableEq, Repr

/-- A KEY_EXCHANGE that has not finished (R430). -/
structure Handshake where
  /-- transport -/
  transport : Nat := 0
  /-- endpoint -/
  endpoint : Nat := 0
deriving DecidableEq, Repr

/-- One record of the event ring (R442). -/
structure EventRec where
  /-- event within its class -/
  code : Nat := 0
  /-- class 0-10 -/
  cls : Nat := 0
  /-- raises no interrupt -/
  quiet : Bool := false
  /-- tenant -/
  tenant : Option Nat := none
  /-- session that caused it, 0xFF the block -/
  session : Nat := 255
  /-- frame count -/
  frame : Nat := 0
  /-- TIME -/
  time : Nat := 0
  /-- 32 B body of R512 -/
  body : Nat := 0
deriving DecidableEq, Repr

/-- Sessions, locks, events and transports (03, 19). -/
structure MgmtState where
  /-- host sessions H0-H3 | 4 | 19 R430 | all closed -/
  sessions : Map Session := []
  /-- KEY_EXCHANGE awaiting FINISH | - | 19 R430 | none -/
  handshake : Option Handshake := none
  /-- lock numbers given so far | U32 | 19 R445 | 0 DESIGN CHOICE (log 11) -/
  lockCount : Nat := 0
  /-- event ring, element = write index mod 4,096 | 64 B x 4,096 | 19 R442 | 0 -/
  events : Map EventRec := []
  /-- a mailbox request is in service | 1 | 03 R60 | idle -/
  mbBusy : Bool := false
  /-- mailbox request window, as the last doorbell handed it over | 4 KiB | 03 R60 | empty DESIGN CHOICE (log 12) -/
  mbRequest : List (BitVec 8) := []
  /-- mailbox response window: abort code and data of the last response (R434) | 4 KiB | 03 R60 | empty DESIGN CHOICE (log 12) -/
  mbResponse : Option (Nat × List (BitVec 8)) := none
  /-- bytes of the messages under reassembly from the I3C sideband, by endpoint | - | 03 R59, 19 R429 | none -/
  i3cParts : Map Nat := []
  /-- I3C dynamic address | 7 | 03 R59 | none -/
  i3cAddr : Option Nat := none
  /-- I3C target events enabled | 8 | 03 R59 | 0 PRESUMED (log 12) -/
  i3cEvents : Nat := 0
  /-- I3C maximum read length | 16 | 03 R59 | 69, the 64 B baseline, PRESUMED (log 12) -/
  i3cMrl : Nat := 69
  /-- I3C maximum write length | 16 | 03 R59 | 69, the 64 B baseline, PRESUMED (log 12) -/
  i3cMwl : Nat := 69
  /-- key updates of each session's keys | - | 18 R419 | 0 -/
  keyUpdates : Map Nat := []
  /-- session that asked for a change whose event is still to come, by event and item | 8 each | 19 R442, R512 | none -/
  asked : Map Nat := []
deriving DecidableEq, Repr

/-- One region entry (R73). -/
structure RegionEntry where
  /-- block address of the first byte -/
  base : Nat := 0
  /-- size in 2 MiB chunks -/
  size : Nat := 0
  /-- 1 HASHED, 2 PINNED -/
  mode : Nat := 0
  /-- stack set -/
  stackMask : Nat := 0
  /-- first extent -/
  extentBase : Nat := 0xFFFF
  /-- owning tenant -/
  tenant : Nat := 0
  /-- 0 none, 1 cache, 2 scratch -/
  loft : Nat := 0
  /-- current version -/
  version : Nat := 0
  /-- LIVE -/
  live : Bool := false
  /-- first chunk index -/
  chunkBase : Nat := 0
deriving DecidableEq, Repr

/-- A key held in a slot: its epoch and the handle of its material. -/
structure KeyRec where
  /-- key epoch 0-15 -/
  epoch : Nat := 0
  /-- serial number of the generated key -/
  handle : Nat := 0
deriving DecidableEq, Repr

/-- A rotation sweep (R413). -/
structure Sweep where
  /-- stacks finished -/
  done : Nat := 0
  /-- every stack finished: the previous key goes at the next boundary -/
  destroy : Bool := false
  /-- stack set swept -/
  stackMask : Nat := 0
deriving DecidableEq, Repr

/-- Lines of a region lost with the tags of a failed slice (R236). -/
structure LostLines where
  /-- slice-map entries whose lines are lost -/
  entries : List Nat := []
  /-- next region line to rewrite poisoned -/
  next : Nat := 0
  /-- lines written since -/
  done : List Nat := []
deriving DecidableEq, Repr

/-- What the block keeps for one region ID (04, 18). -/
structure RegionSlot where
  /-- current entry | 32 B | 04 R73 | FREE, fields at their defaults -/
  now : RegionEntry := {}
  /-- committed entry, current at the next boundary | 32 B | 04 R92 | none -/
  next : Option RegionEntry := none
  /-- held old version, 0x3400.02 | 32 B | 04 R92 R93 | none -/
  old : Option RegionEntry := none
  /-- home placement: stack_mask at creation, 0x6801.04 | U32 | 18 R405 | 0 -/
  homeMask : Nat := 0
  /-- home placement: extent_base at creation | U16 | 18 R405 | 0 -/
  homeBase : Nat := 0
  /-- key of the current epoch | 512 + epoch | 18 R410 | empty -/
  cur : Option KeyRec := none
  /-- key of the previous epoch | 512 + epoch | 18 R410 | empty -/
  prev : Option KeyRec := none
  /-- generated key, current at the next boundary | 512 | 18 R412 | none -/
  keyNext : Option KeyRec := none
  /-- rotation sweep in progress | - | 18 R413 | none -/
  sweep : Option Sweep := none
  /-- an erase is pending | 1 | 18 R416 | false -/
  erasing : Bool := false
  /-- a boundary found no request to the region outstanding: the erase takes effect | 1 | 18 R416 | no -/
  eraseNow : Bool := false
  /-- dirty-slice mask | 64 | 10 R236 | 0 -/
  dirtySlices : Nat := 0
  /-- region left as R394 leaves it: reads POISON, writes STATE | 1 | 17 R394 R395 | false -/
  lost : Bool := false
  /-- rebuild watermark, region line | U36 | 17 R395 | none -/
  rebuildWm : Option Nat := none
  /-- lines of a rebuild pulled ahead, above the watermark | - | 17 R395 | none -/
  pulled : List Nat := []
  /-- cache lines lost with a failed slice | - | 10 R236 | none -/
  lostG : List LostLines := []
  /-- a boundary found that nothing carries the old version | 1 | 04 R92 | false -/
  drained : Bool := false
deriving DecidableEq, Repr

/-- An entry of the fill table (R83). -/
structure Fill where
  /-- chunk index -/
  chunk : Nat := 0
  /-- region -/
  region : Nat := 0
  /-- priority fill (else background) -/
  prio : Bool := true
  /-- its allowance is taken -/
  taken : Bool := true
  /-- stacks whose share is not written yet, 0 for scratch -/
  stackMask : Nat := 0
  /-- bytes of allowance on each stack -/
  share : Nat := 0
  /-- frame of the triggering acceptance -/
  started : Nat := 0
  /-- a background fill raised by a request -/
  raised : Bool := false
  /-- stack set that the chunk spans, 0 for scratch (R87) -/
  span : Nat := 0
  /-- sectors of its share that each stack has written for the background fill (R88), or cycles each slice has given (R226) -/
  wrote : Map Nat := []
  /-- the shot whose run of writes covers the whole chunk, which then needs no fill (R334) -/
  run : Option Nat := none
deriving DecidableEq, Repr

/-- Region table, chunks and fills (04). -/
structure RegionState where
  /-- 4,096 region slots -/
  slots : Map RegionSlot := []
  /-- blank-chunk bitmap: true = WRITTEN (bit clear) | 2,097,152 bits | 04 R82 | all BLANK -/
  written : Map Bool := []
  /-- fill table, at most 128 entries | - | 04 R83 | empty -/
  fills : List Fill := []
deriving DecidableEq, Repr

/-- One sector at rest in a stack: its sealed data and metadata byte (16, 18); what is stored is always a codeword, and error symbols are met by reads. -/
structure StoredSector where
  /-- handle of the key it was enciphered under; 0 is the fill key -/
  key : Nat := 0
  /-- tweak it was enciphered under (R404) -/
  tweak : Nat := 0
  /-- the plaintext sealed -/
  plain : BitVec 512 := 0
  /-- key_epoch of the metadata byte -/
  epoch : Nat := 0
  /-- poison bit -/
  poison : Bool := false
deriving DecidableEq, Repr

/-- The answer of one sector: code and data (R50, R51). -/
structure SectorRsp where
  /-- POISON -/
  poison : Bool := false
  /-- read data -/
  data : BitVec 512 := 0
deriving DecidableEq, Repr

/-- One request from acceptance until delivery: a tracker record with its port state (03, 05). -/
structure Req where
  /-- issue order, block-wide serial -/
  id : Nat := 0
  /-- master identity (R10) -/
  master : Nat := 0
  /-- operation -/
  op : ReqOp := .read
  /-- size in bytes -/
  bytes : Nat := 0
  /-- block address -/
  addr : Nat := 0
  /-- region -/
  region : Nat := 0
  /-- region version carried -/
  version : Nat := 0
  /-- service class -/
  cls : Cls := .bulk
  /-- stream ID -/
  stream : Nat := 0
  /-- its stream was marked ordered at acceptance -/
  ordered : Bool := false
  /-- tag -/
  tag : Nat := 0
  /-- tenant -/
  tenant : Nat := 0
  /-- acceptance, ns of frame time -/
  bornNs : Nat := 0
  /-- frame since which it waits at its resource class -/
  waitSince : Nat := 0
  /-- promoted to Critical rank -/
  promoted : Bool := false
  /-- write data, complete -/
  data : Option (BitVec 2048) := none
  /-- where the request stands -/
  phase : Phase := .held
  /-- sectors answered -/
  rsp : List (Nat × SectorRsp) := []
  /-- answer of the whole request -/
  whole : Option (RspCode × Detail) := none
  /-- positions delivered -/
  released : Nat := 0
  /-- shot-related flag of the reply -/
  oor : Bool := false
  /-- read accepted while its chunk was BLANK (R22) -/
  blank : Bool := false
  /-- FILLING chunk that holds it (R84) -/
  chunk : Option Nat := none
  /-- reached its point of visibility (R102) -/
  visible : Bool := false
  /-- who takes the data -/
  dest : Dest := .port
  /-- a class reserved value: class field undefined -/
  reserved : Bool := false
  /-- left its hold buffer: counts against the caps -/
  routed : Bool := false
  /-- kept in the hold buffer for a NOT_READY cause (R498) -/
  notReady : Bool := false
  /-- the port whose miss a fetch or write-back serves (R12) -/
  forPort : Option Nat := none
  /-- controller cycle of its grant -/
  grantCyc : Nat := 0
  /-- bytes that an engine's write changes, from its first byte -/
  mask : BitVec 256 := BitVec.allOnes 256
  /-- sectors that an engine's write leaves poisoned, by their number in the request -/
  bad : BitVec 4 := 0
  /-- the shot that an engine works for -/
  shot : Option Nat := none
  /-- whose work it is, as the counters' role filter has it: 0 a port, 1 Operator, 2 Tenant, 3 the block (R485) -/
  role : Nat := 3
  /-- work the block raises itself: Critical rank whatever its master's cap (R120) -/
  raised : Bool := false
  /-- order in which it reached its Loft slice (R230) -/
  reached : Nat := 0
  /-- order in which its data was complete (R297) -/
  landed : Nat := 0
deriving DecidableEq, Repr

/-- Write data still due for one request (R48). -/
structure Due where
  /-- request -/
  req : Nat := 0
  /-- positions -/
  n : Nat := 1
  /-- accepted before a watchdog reset of the path (R49) -/
  late : Bool := false
  /-- positions discarded while the port's write data was not ready: the request lacks its data (R48) -/
  lost : Nat := 0
deriving DecidableEq, Repr

/-- Requester port (03, 05). -/
structure PortState where
  /-- write data due, in issue order | - | 03 R48 R49 | none -/
  due : List Due := []
  /-- write-data positions received for a request that needs more | 64 KiB buffer | 03 R48 | empty -/
  gathered : List (BitVec 512) := []
  /-- slots accepted in the engine cycle in progress, by class | 4 x 4 | 03 R46 | 0 -/
  slots : Map Nat := []
deriving DecidableEq, Repr

/-- One entry of a pseudo-channel queue: one sector (R132, R133). -/
structure QEntry where
  /-- request -/
  req : Nat := 0
  /-- sector within the request -/
  seq : Nat := 0
  /-- physical place, as R404 packs it -/
  place : Nat := 0
  /-- home place (R405) -/
  tweak : Nat := 0
  /-- region -/
  region : Nat := 0
  /-- read, write, partial write or atomic -/
  kind : QKind := .read
  /-- operation of the request -/
  op : ReqOp := .read
  /-- class -/
  cls : Cls := .bulk
  /-- master -/
  master : Nat := 0
  /-- Critical rank at the grant, or promoted -/
  critical : Bool := false
  /-- write data in its sector position -/
  data : BitVec 512 := 0
  /-- 8 B word of an atomic -/
  half : Nat := 0
  /-- compare value of a CAS -/
  cmp : BitVec 64 := 0
  /-- progress -/
  stage : QStage := .waiting
  /-- grant, controller cycle -/
  cyc : Nat := 0
  /-- acceptance of its request -/
  bornNs : Nat := 0
  /-- rank at the grant (R106) -/
  rank : Nat := 3
  /-- written poisoned, or a merged sector keeps its poison (R146) -/
  poison : Bool := false
  /-- bytes of a partial write -/
  mask : BitVec 64 := 0
  /-- the port whose miss a fetch or write-back serves (R12) -/
  forPort : Option Nat := none
  /-- whose work it is, as the counters' role filter has it (R485) -/
  role : Nat := 3
  /-- block address and tag of its request (R492) -/
  addr : Nat := 0
  tag : Nat := 0
  /-- its next read is a second look: 1 after an address error, 2 after an uncorrectable finding (R361) -/
  look : Nat := 0
deriving DecidableEq, Repr

/-- One entry of a bank's activate table (R163). -/
structure ActEntry where
  /-- row -/
  row : Nat := 0
  /-- count -/
  count : Nat := 0
deriving DecidableEq, Repr

/-- One bank of one SID (06, 07). -/
structure Bank where
  /-- open row -/
  openRow : Option Nat := none
  /-- row last opened -/
  lastRow : Option Nat := none
  /-- cycle of the last ACT -/
  actAt : Option Nat := none
  /-- cycle at which the last precharge took effect -/
  preAt : Option Nat := none
  /-- cycle of the last RD -/
  rdAt : Option Nat := none
  /-- last write burst -/
  wrEnd : Option Nat := none
  /-- no command before this cycle (REFpb, RFM) -/
  busyTo : Nat := 0
  /-- consecutive open-row choices that passed over an older entry -/
  streak : Nat := 0
  /-- cycle of the last column command -/
  lastCol : Nat := 0
  /-- activate table, 16 entries -/
  table : Map ActEntry := []
  /-- spill count -/
  spill : Nat := 0
  /-- the row was left open by the last access -/
  wasOpen : Bool := false
  /-- the stack's own row counter: the next row that a REFpb refreshes (R157) -/
  refRow : Nat := 0
deriving DecidableEq, Repr

/-- A command of the replay log (R150). -/
structure LogCmd where
  /-- cycle -/
  cyc : Nat := 0
  /-- command -/
  kind : CmdKind := .act
  /-- SID -/
  sid : Nat := 0
  /-- bank -/
  bank : Nat := 0
  /-- row -/
  row : Nat := 0
  /-- request served -/
  req : Nat := 0
  /-- sector -/
  seq : Nat := 0
  /-- a column command with auto-precharge -/
  ap : Bool := false
  /-- an RFM's kind on its sheet: 1 neighbour refresh, 2 overrun -/
  ref : Nat := 0
deriving DecidableEq, Repr

/-- Command-path recovery in progress (R151). -/
structure Recovery where
  /-- first cycle after recovery -/
  resume : Nat := 0
  /-- PREA has been issued -/
  prea : Bool := false
  /-- marked commands still to issue -/
  replay : List LogCmd := []
  /-- replayed commands not yet complete -/
  out : List LogCmd := []
  /-- takes of this event -/
  takes : Nat := 1
  /-- SIDs of the faulty commands -/
  sids : List Nat := []
  /-- answers of replayed reads: request, sector, answer -/
  held : List (Nat × Nat × SectorRsp) := []
deriving DecidableEq, Repr

/-- A read whose data has not reached the controller. -/
structure InFlight where
  /-- request -/
  req : Nat := 0
  /-- sector -/
  seq : Nat := 0
  /-- place -/
  place : Nat := 0
  /-- cycle of the RD -/
  cyc : Nat := 0
  /-- second look -/
  second : Bool := false
  /-- first finding: 1 address error, 2 uncorrectable -/
  first : Nat := 0
deriving DecidableEq, Repr

/-- A refresh-class command of a call sheet (R158). -/
structure SheetCmd where
  /-- first slot -/
  cyc : Nat := 0
  /-- slots -/
  len : Nat := 0
  /-- 0 REFpb, 1 neighbour refresh, 2 overrun RFM -/
  kind : Nat := 0
  /-- SID -/
  sid : Nat := 0
  /-- bank -/
  bank : Nat := 0
  /-- aggressor row -/
  row : Nat := 0
deriving DecidableEq, Repr

/-- What a retraining cut proposes for a lane, from the histograms frozen for its sheet (R186, R187). -/
structure LanePlan where
  /-- lane -/
  lane : Nat := 0
  /-- change of the read delay, taps -/
  rd : Int := 0
  /-- change of the read reference, steps -/
  ref : Int := 0
  /-- every bin needed was filled -/
  filled : Bool := false
deriving DecidableEq, Repr

/-- A call sheet (R36, R37). -/
structure Sheet where
  /-- the band -/
  cmds : List SheetCmd := []
  /-- slots of the band with its pads -/
  band : Nat := 0
  /-- the cut -/
  cut : Option Cut := none
  /-- deliverable slots (R39) -/
  deliver : Nat := 1000
  /-- doubled refresh -/
  doubled : Bool := false
  /-- proposals of its retraining cut -/
  cal : List LanePlan := []
  /-- a cut was deferred to a later frame (R38, R167) -/
  deferred : Bool := false
deriving DecidableEq, Repr

/-- A pending neighbour refresh (R166). -/
structure Trigger where
  /-- SID -/
  sid : Nat := 0
  /-- bank -/
  bank : Nat := 0
  /-- aggressor row; none for an overrun -/
  row : Option Nat := none
  /-- frame raised -/
  frame : Nat := 0
deriving DecidableEq, Repr

/-- Training state of one lane (08). -/
structure LaneCal where
  /-- consecutive failed takes -/
  takes : Nat := 0
  /-- marked for repair -/
  marked : Bool := false
  /-- marked suspect -/
  suspect : Bool := false
  /-- corrections located in this reel -/
  located : Nat := 0
deriving DecidableEq, Repr

/-- One pseudo-channel controller (06, 07, 08). -/
structure PcState where
  /-- request queue, 64 entries, oldest first | 64 sectors | 06 R132 | empty -/
  queue : List QEntry := []
  /-- banks, SID x 16 + bank | 64 | 06 R135 R141 | closed -/
  banks : Map Bank := []
  /-- recent ACT-like commands: cycle, SID x 16 + bank, newest first | - | 06 R135 | none -/
  acts : List (Nat × Nat) := []
  /-- recent column commands: cycle, SID x 16 + bank, read | - | 06 R135 | none -/
  cols : List (Nat × Nat × Bool) := []
  /-- in a write drain | 1 | 06 R143 | false -/
  draining : Bool := false
  /-- sectors written in the drain | - | 06 R143 | 0 -/
  drained : Nat := 0
  /-- data-bus slots occupied | - | 22 R483 | none -/
  bursts : List Nat := []
  /-- reads issued, oldest first | - | 06 R133 R137 | none -/
  inflight : List InFlight := []
  /-- replay log of 16 cycles | - | 06 R150 | empty -/
  log : List LogCmd := []
  /-- command-path recovery | - | 06 R151 | none -/
  recovery : Option Recovery := none
  /-- parity events in this reel | - | 06 R152 | 0 -/
  parityReel : Nat := 0
  /-- call sheet in force | - | 02 R36 | nothing placed -/
  sheet : Sheet := {}
  /-- call sheet of the next frame | - | 02 R36 | none -/
  sheetNext : Option Sheet := none
  /-- pending neighbour refreshes, at most 64 | 64 | 07 R166 | empty -/
  triggers : List Trigger := []
  /-- cuts deferred or brought forward, in the order of R190 | - | 02 R38, 08 R189 | none -/
  cutDue : List CutKind := []
  /-- the frame in progress is not idle | 1 | 07 R167 | false -/
  used : Bool := false
  /-- consecutive idle frames | - | 07 R167 | 0 -/
  idle : Nat := 0
  /-- self-refresh state and the cycle of its start | 3 | 07 R167 | awake -/
  sr : SrPhase := .awake
  /-- histogram bin of the auxiliary samplers | 6 | 08 R185 | 0 DESIGN CHOICE (log 13) -/
  probeBin : Nat := 0
  /-- bursts sampled on the bin | 7 | 08 R185 | 0 DESIGN CHOICE (log 13) -/
  probeBursts : Nat := 0
  /-- bursts of the dwell that a clearing of the histogram came after | 7 | 08 R185 | 0 -/
  probeLost : Nat := 0
  /-- lanes under watch | 38 | 08 R187 R193 | none -/
  lanes : Map LaneCal := []
  /-- a retraining cut has ended: its proposals, to apply | - | 08 R191 R192 | none -/
  pendingCal : Option (List LanePlan) := none
  /-- cut of the frame before | - | 02 R38, 07 R176 | none -/
  lastCut : Option CutKind := none
  /-- frame of the last applied calibration | U64 | 08 R189 | 0 -/
  calFrame : Nat := 0
  /-- temperature at the last applied calibration, 1/8 C | I16 | 08 R189 | 0 -/
  calTemp : Int := 0
  /-- its channel has switched in the timing switch under way | 1 | 07 R175 | false -/
  switched : Bool := false
  /-- retrained after a failed wake confirmation | 1 | 08 R195 | false -/
  retraining : Bool := false
  /-- that training is done: in service from the next boundary | 1 | 08 R195 | false -/
  retrained : Bool := false
  /-- cycle at which it last left self-refresh | U64 | 07 R169 | 0 -/
  backAt : Nat := 0
  /-- cuts asked for in the frame in progress, due from the next boundary | - | 02 R36 | none -/
  cutAsked : List CutKind := []
  /-- refresh commands shifted by recovery | - | 06 R149 | none -/
  late : List SheetCmd := []
  /-- what an empty slot would count as: slot, kind | - | 22 R483 | none -/
  judged : List (Nat × Nat) := []
deriving DecidableEq, Repr

/-- A rank-unit migration (R386-R392). -/
structure Migration where
  /-- source PC x 4 + SID -/
  src : Nat := 0
  /-- destination -/
  dst : Nat := 0
  /-- watermark -/
  wm : Nat := 0
  /-- urgent -/
  urgent : Bool := false
  /-- left service for the command path: the source is never read by requests (R390) -/
  blind : Bool := false
  /-- lines pulled ahead, above the watermark -/
  pulled : List Nat := []
  /-- lines lost with a destination, carried poisoned (R392) -/
  lost : List Nat := []
  /-- lines that requests wait for (R390) -/
  wanted : List Nat := []
deriving DecidableEq, Repr

/-- A recent correctable finding (R375). -/
structure RecentFinding where
  /-- place -/
  place : Nat := 0
  /-- located positions -/
  symbols : List Nat := []
  /-- its corrective rewrite is visible -/
  rewritten : Bool := false
  /-- frame -/
  frame : Nat := 0
deriving DecidableEq, Repr

/-- A corrective rewrite that waits (R363). -/
structure Rewrite where
  /-- place -/
  place : Nat := 0
  /-- symbols that the correction left wrong: position, xor -/
  residual : List (Nat × Nat) := []
deriving DecidableEq, Repr

/-- A splice being copied line by line (R381). -/
structure SpliceCopy where
  /-- splice entry -/
  entry : Nat := 0
  /-- next line 0-3 -/
  line : Nat := 0
  /-- for each line, the former substitute (bank and row) that serves it until it moves; none: the row itself -/
  homes : List (Option (Nat × Nat)) := []
deriving DecidableEq, Repr

/-- A lost rank unit whose lines are rewritten poisoned (R393). -/
structure LostUnit where
  /-- rank unit its map element now names; none without a destination -/
  dst : Option Nat := none
  /-- element of the rank-unit map -/
  el : Nat := 0
  /-- next line -/
  next : Nat := 0
  /-- line after the last -/
  last : Nat := 2097152
  /-- lines written since -/
  done : List Nat := []
deriving DecidableEq, Repr

/-- One stack: arbiter, thermal, power, bring-up, repair (05, 07, 09, 16, 17, 21). -/
structure StackState where
  /-- step-2 grants since the last longest-waiter grant | 8 | 05 R115 | 0 -/
  longest : Nat := 0
  /-- Assured credit of each reservation | U24 x 1,024 | 05 R125 | 0 -/
  credit : Map Nat := []
  /-- Critical sectors granted to each master in this frame | - | 05 R106 | 0 -/
  critUsed : Map Nat := []
  /-- Upkeep sectors granted in this frame | - | 05 R106 | 0 -/
  upkeepUsed : Nat := 0
  /-- sectors granted in this frame at T3 | - | 09 R206 | 0 -/
  critFrame : Nat := 0
  /-- Bulk sectors granted in this frame | - | 09 R202 | 0 -/
  bulkUsed : Nat := 0
  /-- Assured scale of the next frame, 1/256 | U16 | 05 R126 | 256 -/
  scaleNext : Nat := 256
  /-- in a run of deficit frames | 1 | 05 R127 | false -/
  deficit : Bool := false
  /-- the next frame is a deficit frame | 1 | 05 R126 | false -/
  deficitNext : Bool := false
  /-- neighbour threshold of the window in progress | U16 | 07 R163 R178 | 1,024 -/
  nbLimit : Nat := 1024
  /-- exact D of the next frame | U32 | 05 R119 | 0 -/
  dPlan : Nat := 0
  /-- exact D of the frame in progress | U32 | 05 R106 R119 | 0 -/
  dNow : Nat := 0
  /-- Bulk sectors that the block's trim leaves this stack in this frame | - | 09 R202 | none -/
  bulkCap : Option Nat := none
  /-- Bulk sectors of this stack in this frame | - | 09 R204 | none -/
  trimCap : Option Nat := none
  /-- power Assured scale of this stack, 1/256 | U16 | 09 R204 | 256 -/
  trimScale : Nat := 256
  /-- thermal level in force at the arbiter | 3 | 09 R207 | 0 -/
  levelArb : Nat := 0
  /-- thermal level the sheets of this frame carry | 3 | 09 R207 | 0 -/
  levelPrev : Nat := 0
  /-- frame since which the level is held | U64 | 09 R208 | 0 -/
  levelSince : Nat := 0
  /-- failed reads in a row | 2 | 09 R205 | 0 -/
  fails : Nat := 0
  /-- thermal level by the good readings alone | 3 | 09 R205 R208 | 0 -/
  heat : Nat := 0
  /-- treated as at least T3 for failed reads | 1 | 09 R205 | false -/
  forced : Bool := false
  /-- has had a good read | 1 | 09 R205 | false -/
  everRead : Bool := false
  /-- frame since which the stack is at T4 | U64 | 09 R210 | none -/
  t4Since : Option Nat := none
  /-- the thermal hold has been entered | 1 | 09 R210 | false -/
  t4Done : Bool := false
  /-- gated by the Gaffer after 100 reels at T4 | 1 | 09 R210 | false -/
  byGaffer : Bool := false
  /-- stack power state, 0x2008.08 with the bring-up states | 2 | 07 R171 R173 | unpowered until frame r -/
  power : StackPower := .off
  /-- stack self-refresh asked for | 1 | 07 R171 | false -/
  srRequest : Bool := false
  /-- a wake starts at the next boundary | 1 | 07 R173 | false -/
  wakeReq : Bool := false
  /-- frames with all pseudo-channels in self-refresh | - | 07 R171 | 0 -/
  allIdle : Nat := 0
  /-- slew or drive changed while gated | 1 | 07 R173 | false -/
  slewDirty : Bool := false
  /-- bring-up step under way, 1-5; 6 ready; 7 failed; 0 not started | 3 | 21 R471 | 0 -/
  bring : Nat := 0
  /-- a reading at or above T4 was met at step 1 | 1 | 21 R471 | false -/
  hotStart : Bool := false
  /-- faulty rows reported by stack self-test (places) | - | 21 R471 | none -/
  rows : List Nat := []
  /-- timing switch: target set, channels that have switched | - | 07 R175 | none -/
  switch : Option (Nat × Nat) := none
  /-- next channel to take its timing-switch cut, from the first boundary after the request on | - | 02 R36, 07 R175 | none -/
  switchNext : Option Nat := none
  /-- splices being copied | - | 17 R381 | none -/
  copies : List SpliceCopy := []
  /-- migration running | - | 17 R386 | none -/
  mig : Option Migration := none
  /-- queued migrations: rank unit, urgent, command path | - | 17 R386 | none -/
  migQ : List (Nat × Bool × Bool) := []
  /-- the migration commits at the next boundary | 1 | 17 R391 | false -/
  migCommit : Bool := false
  /-- a boundary has come since a migration was queued: the first may start | 1 | 17 R386 | no -/
  migGo : Bool := false
  /-- the no-spare event has been raised | 1 | 17 R387 | false -/
  noSpareSaid : Bool := false
  /-- lost rank units being rewritten | - | 17 R393 | none -/
  lostUnits : List LostUnit := []
  /-- 64 most recent correctable findings | 64 | 17 R375 | none -/
  recents : List RecentFinding := []
  /-- corrective rewrites that wait, at most 256 | 256 | 16 R363 | none -/
  rewrites : List Rewrite := []
  /-- frame + 1 of the last patrol step | U64 | 16 R365 R367 | 0 -/
  patrolLast : Nat := 0
  /-- visible writes held for a rank unit that left service | - | 17 R390 | none -/
  heldWrites : List QEntry := []
  /-- frame at which the patrol pass started | U64 | 16 R365 | 0 -/
  patrolStart : Nat := 0
  /-- interval in hours of the pass under way | U16 | 16 R374 | 12 -/
  patrolFor : Nat := 12
  /-- next sector of each region's sweep on this stack | - | 18 R413 | 0 -/
  sweepPos : Map Nat := []
  /-- sectors swept in this frame | - | 18 R413 | 0 -/
  sweepUsed : Nat := 0
  /-- sectors copied by Dolly in this frame | - | 17 R388 | 0 -/
  dollyUsed : Nat := 0
  /-- handle of the fill key | 512 | 18 R407 | 0 -/
  fillKey : Nat := 0
  /-- pseudo-channels lost at the next boundary | - | 17 R393 | none -/
  fenceNext : List Nat := []
  /-- pseudo-channels being evacuated | - | 17 R393 | none -/
  evacuate : List Nat := []
  /-- the stack leaves service at the next boundary | 1 | 17 R394 | false -/
  loseNext : Bool := false
  /-- trim step on this stack alone (R204) | - | 09 R204 | 0 -/
  trim : Nat := 0
  /-- trim of the next frame | - | 09 R204 | 0 -/
  trimNext : Nat := 0
  /-- first frame in which its share applies | - | 21 R472 | 0 -/
  shareFrom : Nat := 0
  /-- identity codes read, 0x2000.01 | 32 B | 20 R458 | 0 -/
  identity : Nat := 0
deriving DecidableEq, Repr

/-- One cache line of the Loft (R220, R222). -/
structure LoftLine where
  /-- region ID -/
  region : Nat := 0
  /-- 40-bit line number -/
  a : Nat := 0
  /-- valid bits -/
  valid : BitVec 4 := 0
  /-- dirty bits -/
  dirty : BitVec 4 := 0
  /-- poison bits -/
  poison : BitVec 4 := 0
  /-- used bit -/
  used : Bool := false
  /-- being fetched or written back -/
  busy : Bool := false
  /-- 256 B -/
  data : BitVec 2048 := 0
deriving DecidableEq, Repr

/-- A write-back buffer (R223). -/
structure WriteBack where
  /-- slice -/
  slice : Nat := 0
  /-- region -/
  region : Nat := 0
  /-- line number -/
  a : Nat := 0
  /-- sectors -/
  dirty : BitVec 4 := 0
  /-- poisoned sectors -/
  poison : BitVec 4 := 0
  /-- 256 B -/
  data : BitVec 2048 := 0
  /-- Critical rank (R224) -/
  raised : Bool := false
  /-- its line has been read out of the array, in a port cycle of the slice (R229) -/
  copied : Bool := false
  /-- its sectors have been asked for at their stacks -/
  asked : Bool := false
  /-- the port whose miss it serves (R12) -/
  forPort : Option Nat := none
deriving DecidableEq, Repr

/-- A word of a slice that was corrected and is to be rewritten (R232). -/
structure LoftRewrite where
  /-- slice -/
  slice : Nat := 0
  /-- word -/
  word : Nat := 0
  /-- the rewritten word reads back wrong (R233) -/
  again : Bool := false
deriving DecidableEq, Repr

/-- A line of scratch space. -/
structure ScratchLine where
  /-- poison bits -/
  poison : BitVec 4 := 0
  /-- 256 B -/
  data : BitVec 2048 := 0
deriving DecidableEq, Repr

/-- The Loft (10). -/
structure LoftState where
  /-- cache: key (slice x 8,192 + set) x 16 + way | 2 GiB array | 10 R217 R237 | invalid -/
  lines : Map LoftLine := []
  /-- write-back buffers, oldest first | 96 x 64 | 10 R223 R224 | empty -/
  wbs : List WriteBack := []
  /-- scratch lines: key (quadrant x 256 + place) x 8,192 + line | - | 10 R226 | zeros -/
  scratch : Map ScratchLine := []
  /-- chunk place of each scratch chunk: quadrant x 256 + place | - | 10 R226 | none -/
  places : Map (Option Nat) := []
  /-- scratch lines lost with a slice (keys) | - | 10 R235 | none -/
  lostLines : List Nat := []
  /-- partition change waiting for clean ways, by quadrant | 32 | 10 R219 | none -/
  partNext : Map (Option Nat) := []
  /-- quadrants whose changed ways were clean at the last boundary | - | 10 R219 | none -/
  partReady : List Nat := []
  /-- remapped words: slice, word | 16 x 64 | 10 R233 | none -/
  remaps : List (Nat × Nat) := []
  /-- words corrected in this patrol interval | - | 10 R233 | none -/
  corrected : List (Nat × Nat) := []
  /-- corrected words to be rewritten | - | 10 R232 | none -/
  rewrites : List LoftRewrite := []
  /-- uncorrectable words of each slice in this reel | - | 10 R235 | 0 -/
  bad : Map Nat := []
  /-- slices declared failed, at the next boundary; tags unreadable | - | 10 R235 | none -/
  failNext : List (Nat × Bool) := []
  /-- failed slices with write-backs left | - | 10 R235 | none -/
  evac : List Nat := []
  /-- slice-map entries to return: entry, interim slice | - | 10 R221 | none -/
  moves : List (Nat × Nat) := []
  /-- read-port cycles of the lanes in this frame, by slice | - | 10 R229 | 0 -/
  rdLane : Map Nat := []
  /-- write-port cycles of the lanes in this frame | - | 10 R229 | 0 -/
  wrLane : Map Nat := []
  /-- read-port cycles given to Loft ranks 3, 4 and 6 in this frame, by slice | - | 10 R229 R231 | 0 -/
  rdAll : Map Nat := []
  /-- write-port cycles given to Loft ranks 3, 4 and 6 in this frame | - | 10 R229 R231 | 0 -/
  wrAll : Map Nat := []
  /-- write-port and read-port cycles that accumulations have used in this frame, by slice | - | 01 R17 | 0 -/
  laneUsed : Map Nat := []
  /-- next word of the Loft patrol, by slice | - | 10 R232 | 0 -/
  patrolWord : Map Nat := []
  /-- frame at which the Loft patrol's pass started, by slice | U64 | 10 R232 R238 | 0 -/
  patrolFrom : Map Nat := []
  /-- quadrants whose memory was tested and filled in the wake under way | 4 | 21 R474, 10 R237 | none -/
  retested : List Nat := []
  /-- freed space to zero: slice, lines of 256 B | - | 10 R227 | none -/
  zeroing : List (Nat × Nat) := []
deriving DecidableEq, Repr

/-- A shot context (R249). -/
structure Ctx where
  /-- 0 FREE 1 LISTED 2 ADMITTED 3 EXTENDED 4 COMPLETE 5 ABORTED -/
  state : Nat := 0
  /-- last epoch -/
  epoch : Nat := 0
  /-- abort cause -/
  cause : Nat := 0
  /-- flags of the last completion -/
  flags : Nat := 0
  /-- tenant of the last slate -/
  tenant : Nat := 0
  /-- frame of the last change -/
  frame : Nat := 0
deriving DecidableEq, Repr

/-- A slate in a shot list. -/
structure Listed where
  /-- the slate -/
  slate : BitVec 512 := 0
  /-- who posted it -/
  origin : Origin := .port 0
  /-- frame at which it came to the head -/
  headSince : Option Nat := none
  /-- abort asked for: cause, detail -/
  abort : Option (Nat × Nat) := none
deriving DecidableEq, Repr

/-- A shot-table entry with its versions (R248). -/
structure TableSlot where
  /-- current entry -/
  now : BitVec 512 := 0
  /-- committed entry -/
  next : Option (BitVec 512) := none
  /-- held old version -/
  old : Option (BitVec 512) := none
  /-- Loft units of a filter set: slice, units -/
  units : List (Nat × Nat) := []
  /-- units of the old version -/
  unitsOld : List (Nat × Nat) := []
  /-- a boundary found that no shot carries the old version (R248) -/
  drained : Bool := false
deriving DecidableEq, Repr

/-- A paired accumulator: high part and compensation, binary32 (R272). -/
structure Pair where
  /-- high part -/
  hi : BitVec 32 := 0
  /-- compensation -/
  lo : BitVec 32 := 0
deriving DecidableEq, Repr

/-- An accumulator element: a pair, or an INT64 for integers. -/
structure Acc where
  /-- pair -/
  pair : Pair := {}
  /-- integer -/
  int : Int := 0
deriving DecidableEq, Repr

/-- A slot of a REDUCE shot (R268). -/
structure RSlot where
  /-- chunks finished: the next chunk is slot + W x this -/
  next : Nat := 0
  /-- arrival bitmap -/
  bitmap : BitVec 512 := 0
  /-- arrival count -/
  arrived : Nat := 0
  /-- contributions accumulated -/
  done : Nat := 0
  /-- leaf sum -/
  leaves : Nat := 0
  /-- open -/
  isOpen : Bool := false
  /-- accumulators -/
  acc : List Acc := []
  /-- its result waits for the output -/
  sent : Bool := false
deriving DecidableEq, Repr

/-- A contribution in a lane's input queue. -/
structure LaneItem where
  /-- shot -/
  shot : Nat := 0
  /-- epoch -/
  epoch : Nat := 0
  /-- slot -/
  slot : Nat := 0
  /-- chunk -/
  chunk : Nat := 0
  /-- contributor -/
  contributor : Nat := 0
  /-- leaf-count weight -/
  leaves : Nat := 0
  /-- payload -/
  payload : List (BitVec 8) := []
  /-- pipeline -/
  pipe : Nat := 0
  /-- beats to free -/
  beats : Nat := 0
deriving DecidableEq, Repr

/-- A bag held by a gather unit (R294). -/
structure Bag where
  /-- bag number -/
  bag : Nat := 0
  /-- first index entry -/
  first : Nat := 0
  /-- entries -/
  len : Nat := 0
  /-- rows on their way: entry, row, weight -/
  rows : List (Nat × Nat × Nat) := []
  /-- entries fetched -/
  issued : Nat := 0
  /-- entries pooled -/
  pooled : Nat := 0
  /-- accumulators -/
  acc : List Acc := []
  /-- CONCAT elements, binary32 -/
  out : List (BitVec 32) := []
  /-- a row was pooled -/
  any : Bool := false
  /-- poisoned -/
  poison : Bool := false
deriving DecidableEq, Repr

/-- A partial top-k list of one select unit. -/
structure Partial where
  /-- unit 0-15 -/
  unit : Nat := 0
  /-- query -/
  query : Nat := 0
  /-- score and item ID, highest rank first -/
  entries : List (BitVec 32 × Nat) := []
deriving DecidableEq, Repr

/-- What an admitted shot has done so far, by kind. -/
structure ShotWork where
  /-- items or bytes done -/
  pos : Nat := 0
  /-- slots of a REDUCE -/
  slots : Map RSlot := []
  /-- chunk results that have left -/
  sentChunks : Nat := 0
  /-- a chunk result is withheld (R278) -/
  withheld : Bool := false
  /-- bags in progress -/
  bags : List Bag := []
  /-- bags pooled -/
  closed : List Nat := []
  /-- bags pooled -/
  doneBags : Nat := 0
  /-- bag lengths -/
  lens : Option (List Nat) := none
  /-- partial lists -/
  parts : List Partial := []
  /-- lists merged and delivered -/
  merged : Bool := false
  /-- check-value register -/
  reg : Nat := 0
  /-- captured check-value configuration -/
  config : Nat := 0
  /-- the work has begun -/
  started : Bool := false
  /-- captured desc entry -/
  table : BitVec 512 := 0
  /-- lane list L at admission -/
  lanesL : List Nat := []
  /-- keys written by a FILTER -/
  writes : Nat := 0
  /-- query operands in their operand format -/
  queries : List (BitVec 8) := []
deriving DecidableEq, Repr

/-- An admitted shot (11). -/
structure Shot where
  /-- shot ID -/
  id : Nat := 0
  /-- slate -/
  slate : BitVec 512 := 0
  /-- who posted it -/
  origin : Origin := .port 0
  /-- list -/
  list : Nat := 0
  /-- frame of admission -/
  admitted : Nat := 0
  /-- budget end -/
  budgetEnd : Nat := 0
  /-- final end -/
  finalEnd : Nat := 0
  /-- frames of thermal slip -/
  slipped : Nat := 0
  /-- captured region versions: region, version -/
  versions : List (Nat × Nat) := []
  /-- EXTENDED -/
  extended : Bool := false
  /-- its work has ended -/
  ended : Bool := false
  /-- abort that applies at the next boundary: cause, detail -/
  abort : Option (Nat × Nat) := none
  /-- Loft units: slice, units -/
  units : List (Nat × Nat) := []
  /-- slice that backs its context, when not resident -/
  backed : Option Nat := none
  /-- place of its context in the slice's backing area, 256 B each (R228) -/
  backedAt : Nat := 0
  /-- frame of its last extension -/
  extFrame : Option Nat := none
  /-- holds a query store -/
  stores : Bool := false
  /-- items of count processed -/
  done : Nat := 0
  /-- out-of-range inputs -/
  oor : Nat := 0
  /-- values saturated -/
  sat : Nat := 0
  /-- NaN values replaced -/
  nan : Nat := 0
  /-- poison carried -/
  poison : Bool := false
  /-- reply positions -/
  reply : List SectorRsp := []
  /-- frame of the first affected frame of a run -/
  runSince : Option Nat := none
  /-- frame of its last thermal-slip record -/
  slipFrame : Option Nat := none
  /-- affected in the frame in progress -/
  affected : Bool := false
  /-- domains below full duty at which it has had work in the frame in progress -/
  slow : List Nat := []
  /-- captured version of the desc entry -/
  descVer : Nat := 0
  /-- work -/
  work : ShotWork := {}
deriving DecidableEq, Repr

/-- Contents of a filter set (R322-R326). -/
structure FilterSet where
  /-- cuckoo buckets: slot 1-7 to key + 1 -/
  buckets : Map (Map Nat) := []
  /-- stash -/
  stash : List Nat := []
  /-- keys held -/
  keys : Nat := 0
  /-- Bloom lines: 2,048 bits each -/
  bits : Map Nat := []
  /-- damaged -/
  damaged : Bool := false
deriving DecidableEq, Repr

/-- Lists, contexts, the shot table and admitted shots (11-14). -/
structure ShotState where
  /-- 65,536 contexts | 128 bits each | 11 R249 | FREE -/
  ctxs : Map Ctx := []
  /-- 64 shot lists | 256 slates each | 11 R243 | empty -/
  lists : Map (List Listed) := []
  /-- list visited first at the next boundary | 6 | 11 R246 | 0 DESIGN CHOICE (log 14) -/
  rotor : Nat := 0
  /-- 4,096 shot-table entries | 64 B each | 11 R248 | free -/
  table : Map TableSlot := []
  /-- admitted shots in admission order | - | 11 R246 | none -/
  shots : List Shot := []
  /-- input queues of the reduction lanes | - | 12 R271 | empty -/
  lanes : Map (List LaneItem) := []
  /-- shot each matrix array served last, plus 1 | 16 each | 13 R307 | none -/
  turns : Map Nat := []
  /-- filter sets by entry (current) and entry + 4,096 (old) | - | 14 R322 | empty -/
  sets : Map FilterSet := []
  /-- shots that have ended in a run of affected frames, whose last thermal-slip record is due | - | 09 R214 | none -/
  tails : List Shot := []
deriving DecidableEq, Repr

/-- A packet waiting for the result output (R54). -/
structure RsPacket where
  /-- type -/
  ty : Nat := 0
  /-- shot -/
  shot : Nat := 0
  /-- epoch -/
  epoch : Nat := 0
  /-- chunk -/
  chunk : Nat := 0
  /-- group -/
  group : Nat := 0
  /-- format -/
  format : Nat := 0
  /-- payload -/
  payload : List (BitVec 8) := []
  /-- last part of a chunk result -/
  last : Bool := false
  /-- slot of a chunk result -/
  slot : Nat := 0
deriving DecidableEq, Repr

/-- Engine packet entries and the result output (03, 12). -/
structure EntryState where
  /-- credits spent by each pipeline (128 at the start) | 8 x 32 | 03 R52 | 0 spent -/
  credits : Map Nat := []
  /-- pipelines owed a credit, in the order beats were freed | - | 03 R52 | none -/
  owed : List Nat := []
  /-- packets waiting for the result output | - | 03 R54 | none -/
  results : List RsPacket := []
deriving DecidableEq, Repr

/-- A stored packet of an egress queue (R339). -/
structure SpillRec where
  /-- descriptor -/
  desc : Nat := 0
  /-- frame of acceptance -/
  frame : Nat := 0
  /-- sequence number -/
  seq : Nat := 0
  /-- position in the queue, bytes -/
  pos : Nat := 0
  /-- record bytes r -/
  bytes : Nat := 0
deriving DecidableEq, Repr

/-- Queue state of one egress port (R340). -/
structure Egress where
  /-- records in order -/
  recs : List SpillRec := []
  /-- pages of the chain -/
  pages : List Nat := []
  /-- bytes read of the first page -/
  head : Nat := 0
  /-- bytes used of the last page -/
  tail : Nat := 0
  /-- occupancy B -/
  occ : Nat := 0
  /-- 0 UP 1 HELD 2 EXPIRED -/
  link : Nat := 0
  /-- frame that ends the hold -/
  holdEnd : Nat := 0
  /-- next sequence number -/
  seq : Nat := 0
deriving DecidableEq, Repr

/-- Stockroom and capture (15). -/
structure PacketState where
  /-- Stockroom enabled | 1 | 15 R336 | disabled -/
  enabled : Bool := false
  /-- enable or disable accepted for the next boundary | 1 | 15 R354 | none -/
  enableReq : Option Bool := none
  /-- 512 egress queues | - | 15 R340 | UP, empty -/
  queues : Map Egress := []
  /-- pages in use, rising (free-page bitmap) | 2^23 bits | 15 R338 | none -/
  usedPages : List Nat := []
  /-- pages of the spill region | 24 | 15 R338 | 0 -/
  pages : Nat := 0
  /-- Loft units of the bitmap: slice, units | - | 15 R338 | none -/
  units : List (Nat × Nat) := []
  /-- back-pressure states: on with the queue that set it, element = port x 8 + priority | 4,096 | 03 R56, 15 R344 | off -/
  bp : Map (Option Nat) := []
  /-- capture records of a place-1 ring that wait for its slice | 64 | 15 R353 | empty -/
  capStage : List (BitVec 2048) := []
  /-- number of the next capture record to be written | U48 | 15 R351 | 0 -/
  capNext : Nat := 0
  /-- Loft units of the capture ring | - | 15 R350 | none -/
  capUnits : List (Nat × Nat) := []
  /-- pulls not answered yet, in order: egress ports | - | 15 R345 | none -/
  pulls : List Nat := []
deriving DecidableEq, Repr

/-- Keys, generator and microcode (18). -/
structure KeyState where
  /-- serial number of the next key | - | 18 R408 | 1 -/
  nextHandle : Nat := 1
  /-- the generator is seeded | 1 | 18 R408 | false -/
  seeded : Bool := false
  /-- generate calls since the last seed | 20 | 18 R408 | 0 -/
  calls : Nat := 0
  /-- frame of the last seed | U64 | 18 R408 | 0 -/
  seedFrame : Nat := 0
  /-- consecutive samples that passed since a failure | 11 | 18 R409 | 0 -/
  goodRun : Nat := 0
  /-- the identity key exists | 1 | 18 R420 | not yet derived -/
  identity : Bool := false
  /-- running security version, 0x6800.02 | U16 | 18 R422 | 0 DESIGN CHOICE (log 15) -/
  running : Nat := 0
  /-- running microcode version, 0x1000.03 | U32 | 19 R455 | 0 DESIGN CHOICE (log 15) -/
  runVersion : Nat := 0
  /-- minimum security version in fuses | U16 | 18 R423 | 0 DESIGN CHOICE (log 15) -/
  minimum : Nat := 0
  /-- raises left in the fuses | 7 | 18 R423 | 64 DESIGN CHOICE (log 15) -/
  raises : Nat := 64
  /-- staged microcode segments received | - | 18 R423 | none -/
  segments : List Nat := []
  /-- security version of the verified staged image | U16 | 18 R423 | none -/
  stagedVersion : Option Nat := none
deriving DecidableEq, Repr

/-- A self-test slice that runs (R478). -/
structure Slice where
  /-- 0 stack, 1 Loft, 2 engine -/
  kind : Nat := 0
  /-- unit number of R396 -/
  unit : Nat := 0
  /-- slice of the unit -/
  index : Nat := 0
  /-- frame requested -/
  frame : Nat := 0
deriving DecidableEq, Repr

/-- The capture register of a counter (R491). -/
structure CapReg where
  /-- record waiting for the ring, laid out as R492 -/
  held : Option Nat := none
  /-- a crossing that waits: counter value after it, matching transactions since -/
  cross : Option (Nat × Nat) := none
deriving DecidableEq, Repr

/-- Periodic self-test, counters, power and repair records of the block. -/
structure TestState where
  /-- slices running | 4 | 21 R478 | none -/
  slices : List Slice := []
  /-- next slice of the pass | U32 | 21 R478 | 0 -/
  passPos : Nat := 0
  /-- frame at which the pass started | U64 | 21 R478 | 0 -/
  passStart : Nat := 0
  /-- period of the pass under way, hours | U16 | 20 R464 | 24 -/
  passFor : Nat := 24
  /-- INCOMPLETE slices to run again: kind, unit, index | - | 21 R481 | none -/
  reruns : List (Nat × Nat × Nat) := []
  /-- INCOMPLETE results in a row, by unit | - | 21 R481 | 0 -/
  incomplete : Map Nat := []
  /-- unit in re-admission self-test | U32 | 17 R398 | none -/
  readmit : Option Nat := none
  /-- units declared dead, for the next boundary | - | 17 R397 | none -/
  dead : List Nat := []
  /-- engine units in STANDBY | - | 17 R398 | none -/
  standby : List Nat := []
  /-- domains gated at the next boundary | - | 09 R199 | none -/
  gateReq : List Nat := []
  /-- deepest trim step in force | 3 | 09 R202 | 0 -/
  trimStep : Nat := 0
  /-- power Assured scale, 1/256 | U16 | 09 R202 | 256 -/
  powerScale : Nat := 256
  /-- issue duty of Gaffer step 3 in sixteenths | 5 | 09 R202 | 16 -/
  duty : Nat := 16
  /-- issue duty of Gaffer step 4 in sixteenths | 5 | 09 R202 | 16 -/
  laneDuty : Nat := 16
  /-- issue duty of the Upkeep engines under Gaffer step 1, in sixteenths | 5 | 09 R202 | 16 -/
  upDuty : Nat := 16
  /-- engine cycles in which a domain has issued in this frame | - | 09 R202 R211 | 0 -/
  issued : Map Nat := []
  /-- allotment left in this frame, nJ | U32 x 43 | 09 R201 | no allotment given -/
  unspent : Map (Option Nat) := []
  /-- regions to rebuild: region, stack lost | - | 17 R395 | none -/
  rebuild : List (Nat × Nat) := []
  /-- capture register of each counter | - | 22 R491 | free -/
  capture : Map CapReg := []
  /-- frame + 1 of each counter's last sample | - | 22 R491 | never -/
  sampledAt : Map Nat := []
  /-- counters whose configuration was committed in this frame: they start from zero at the boundary | - | 20 R465 | none -/
  cfgNew : List Nat := []
  /-- engine units whose bring-up self-test has ended, with its result | - | 21 R470 R474 | none -/
  tested : List (Nat × Bool) := []
  /-- the buckets leak at this boundary | 1 | 16 R364 | false -/
  boundaryLeak : Bool := false
deriving DecidableEq, Repr


/-- Answers to SPDM requests (R419, R430). -/
inductive SpdmRsp where
  | version | capabilities (heartbeat : Nat) | algorithms | digests | certificate (offset length : Nat)
  | challengeAuth (nonce : BitVec 256)
  | measurements (index frame : Nat) (digests : List (BitVec 384))
  | keyExchange (heartbeat : Nat)
  | finished (session : Nat)
  | heartbeatAck | keyUpdateAck | endSessionAck
  | error (code : Nat)
deriving DecidableEq, Repr

/-- Everything the block sends out of its boundary (R41). -/
inductive Output where
  /-- One response position (R50). -/
  | rsp (port tag : Nat) (code : RspCode) (detail : Detail) (seq : Nat) (last oor : Bool) (data : BitVec 512)
  /-- One credit to a pipeline (R52). -/
  | credit (pipe : Nat)
  /-- One packet of the result output (R54). -/
  | result (p : RsPacket)
  /-- One packet of the spill output (R55). -/
  | spill (port desc : Nat) (bytes : List (BitVec 8))
  /-- An empty answer to a pull (R55). -/
  | spillEmpty (port : Nat)
  /-- One back-pressure message (R56). -/
  | backPressure (port prio : Nat) (on : Bool)
  /-- The frame pulse (R58). -/
  | framePulse
  /-- A Rykin response: abort code (0 served) and data (R434). -/
  | rykin (rq : Rq) (op code : Nat) (data : List (BitVec 8))
  /-- An SPDM response. -/
  | spdm (rq : Rq) (r : SpdmRsp)
  /-- Bytes answered to an I3C common command code (R59). -/
  | i3c (bytes : List Nat)
  /-- An in-band interrupt: a response is pending on the I3C sideband (R59). -/
  | inBand
  /-- kv_mb_db_out pulses (R60). -/
  | doorbell
deriving DecidableEq, Repr

/-- The whole block. -/
structure State where
  /-- time of day and frames -/
  time : TimeState := {}
  /-- block state and readiness -/
  block : BlockState := {}
  /-- management -/
  mgmt : MgmtState := {}
  /-- dictionary objects held by value: last value accepted | see the object list | 20 R456-R463 | each object's default -/
  objs : Map Nat := []
  /-- object values in force since the last boundary | as objs | 20 R463 | defaults -/
  live : Map Nat := []
  /-- object values one boundary older: inputs of the call sheets in force | as objs | 02 R36 | defaults -/
  live2 : Map Nat := []
  /-- regions -/
  regions : RegionState := {}
  /-- sectors of the 32 stacks by physical place (R404 packing) | 72 B each, 4 TiB | 16 R355, 21 R472 | the bring-up fill -/
  dram : Map StoredSector := []
  /-- requests outstanding, in issue order | 294,912 records | 05 R101 | none -/
  reqs : List Req := []
  /-- issue serial of the next request | - | 03 R45 | 0 -/
  nextReq : Nat := 0
  /-- 36 requester ports -/
  ports : Map PortState := []
  /-- 32 stacks -/
  stackTab : Map StackState := []
  /-- 2,048 pseudo-channels, stack x 64 + PC -/
  pcs : Map PcState := []
  /-- Loft -/
  loft : LoftState := {}
  /-- shots -/
  shot : ShotState := {}
  /-- packet entries and result output -/
  entry : EntryState := {}
  /-- Stockroom and capture -/
  packet : PacketState := {}
  /-- order of arrivals at the slices and of data returned: the model's own counter | - | 10 R230, 13 R297 | 0 -/
  seqNo : Nat := 0
  /-- keys -/
  keys : KeyState := {}
  /-- self-test and Gaffer -/
  test : TestState := {}
  /-- tokens spent of each regulator, element = master x 4 + class | U32 | 05 R112 | 0 spent (full) -/
  tokens : Map Nat := []
  /-- counter of free values taken: the model's own field, not the spec's | - | model | 0 DESIGN CHOICE (log 4) -/
  free : Nat := 0
  /-- everything sent at the boundary since reset, oldest first: the model's own trace | - | model | none (log 5) -/
  outbox : List Output := []
  /-- commands waiting, first in first out: the model's own queue | - | model | none (log 1) -/
  pending : List Instr := []
deriving DecidableEq, Repr

/-- The reasons a step stops with a fault. No meaning of this model raises one: the specification gives every command
an effect, and a step whose trigger does not hold does nothing (log 2). -/
inductive Fault where
  /-- Raised by no meaning. Safe. -/
  | unreachable
deriving DecidableEq, Repr

/-- The reasons a command is refused by the model. -/
inductive Refusal where
  /-- A command that has no meaning in this model yet; raised by the dispatch alone. Safe. -/
  | notModelled (mnemonic : String)
deriving DecidableEq, Repr

/-- The block right after reset: every field at its reset value (R468, step 1; log 3, log 16). -/
def State.reset : State := {}

end Sys2Proof.Machine
end

