-- ==== Sys2Proof/Machine/Ops.lean ====
section
/-! DEFINITION. Ops.lean: the named operations over tables and the structured parts of the state: sparse tables in
canonical form, one accessor and one update per part, outputs, time. -/
namespace Sys2Proof.Machine

/-- What a table holds at a key, `d` where it lists none. -/
def Map.look {V : Type} (d : V) (k : Nat) : Map V → V
  | [] => d
  | (a, v) :: m => if a = k then v else Map.look d k m

/-- Write a key; an entry equal to the default `d` is not listed. -/
def Map.put {V : Type} [DecidableEq V] (d v : V) (k : Nat) : Map V → Map V
  | [] => if v = d then [] else [(k, v)]
  | (a, w) :: m =>
    if k < a then (if v = d then (a, w) :: m else (k, v) :: (a, w) :: m)
    else if a = k then (if v = d then m else (k, v) :: m)
    else (a, w) :: Map.put d v k m

/-- Change what a key holds. -/
def Map.upd {V : Type} [DecidableEq V] (d : V) (k : Nat) (f : V → V) (m : Map V) : Map V :=
  Map.put d (f (Map.look d k m)) k m

/-- Change every value that a table lists; one that becomes the default `d` is no longer listed. -/
def Map.vals {V : Type} [DecidableEq V] (d : V) (f : V → V) (m : Map V) : Map V :=
  (m.map fun x => (x.1, f x.2)).filter fun x => decide (x.2 ≠ d)

/-- Keys above a bound that rise, no entry equal to its default. -/
def Map.above {V : Type} [DecidableEq V] (dflt : Nat → V) (lo : Nat) : Map V → Bool
  | [] => true
  | (a, v) :: m => decide (lo ≤ a) && decide (v ≠ dflt a) && Map.above dflt (a + 1) m

/-- The canonical form of a table. -/
def Map.wf {V : Type} [DecidableEq V] (dflt : Nat → V) (m : Map V) : Bool := Map.above dflt 0 m

/-- Keys from a bound on that rise. -/
def Map.risingFrom {V : Type} (lo : Nat) : Map V → Bool
  | [] => true
  | (a, _) :: m => decide (lo ≤ a) && Map.risingFrom (a + 1) m

/-- The keys of a table rise: what it holds at a key is its one entry there. -/
def Map.rising {V : Type} (m : Map V) : Bool := Map.risingFrom 0 m

/-- Numbers below `n`. -/
abbrev upTo (n : Nat) : List Nat := List.range n

/-- Apply a change for each element in turn. -/
def State.each {A : Type} (s : State) (l : List A) (f : State → A → State) : State := l.foldl f s

/-- Change the state when a condition holds. -/
def State.when (s : State) (c : Bool) (f : State → State) : State := if c then f s else s

/-- Send something at the boundary (log 5). -/
def State.emit (s : State) (o : Output) : State := { s with outbox := s.outbox ++ [o] }

/-- The next free value and the state that has taken it (log 4). -/
def State.takeFree (s : State) : Nat × State := (Config.freeNat s.free, { s with free := s.free + 1 })

/-- Number of a pseudo-channel, block-wide (R396). -/
def pcNo (st pc : Nat) : Nat := st * 64 + pc

def State.pc (s : State) (p : Nat) : PcState := Map.look {} p s.pcs
def State.stack (s : State) (st : Nat) : StackState := Map.look {} st s.stackTab
def State.port (s : State) (p : Nat) : PortState := Map.look {} p s.ports
def State.slot (s : State) (r : Nat) : RegionSlot := Map.look {} r s.regions.slots
def State.session (s : State) (n : Nat) : Session := Map.look {} n s.mgmt.sessions
def State.ctx (s : State) (n : Nat) : Ctx := Map.look {} n s.shot.ctxs
def State.tslot (s : State) (t : Nat) : TableSlot := Map.look {} t s.shot.table
def State.egress (s : State) (p : Nat) : Egress := Map.look {} p s.packet.queues

def State.modPc (s : State) (p : Nat) (f : PcState → PcState) : State := { s with pcs := Map.upd {} p f s.pcs }
/-- Change every pseudo-channel that differs from its reset value. -/
def State.eachPc (s : State) (f : PcState → PcState) : State := { s with pcs := Map.vals {} f s.pcs }
def State.modStack (s : State) (st : Nat) (f : StackState → StackState) : State :=
  { s with stackTab := Map.upd {} st f s.stackTab }
def State.modPort (s : State) (p : Nat) (f : PortState → PortState) : State :=
  { s with ports := Map.upd {} p f s.ports }
def State.modTime (s : State) (f : TimeState → TimeState) : State := { s with time := f s.time }
def State.modBlock (s : State) (f : BlockState → BlockState) : State := { s with block := f s.block }
def State.modMgmt (s : State) (f : MgmtState → MgmtState) : State := { s with mgmt := f s.mgmt }
def State.modLoft (s : State) (f : LoftState → LoftState) : State := { s with loft := f s.loft }
def State.modShotS (s : State) (f : ShotState → ShotState) : State := { s with shot := f s.shot }
def State.modEntry (s : State) (f : EntryState → EntryState) : State := { s with entry := f s.entry }
def State.modPacket (s : State) (f : PacketState → PacketState) : State := { s with packet := f s.packet }
def State.modKeys (s : State) (f : KeyState → KeyState) : State := { s with keys := f s.keys }
def State.modTest (s : State) (f : TestState → TestState) : State := { s with test := f s.test }
def State.modRegions (s : State) (f : RegionState → RegionState) : State := { s with regions := f s.regions }
def State.modSlot (s : State) (r : Nat) (f : RegionSlot → RegionSlot) : State :=
  s.modRegions fun g => { g with slots := Map.upd {} r f g.slots }
def State.modSession (s : State) (n : Nat) (f : Session → Session) : State :=
  s.modMgmt fun m => { m with sessions := Map.upd {} n f m.sessions }
def State.modCtx (s : State) (n : Nat) (f : Ctx → Ctx) : State :=
  s.modShotS fun x => { x with ctxs := Map.upd {} n f x.ctxs }
def State.modTslot (s : State) (t : Nat) (f : TableSlot → TableSlot) : State :=
  s.modShotS fun x => { x with table := Map.upd {} t f x.table }
def State.modEgress (s : State) (p : Nat) (f : Egress → Egress) : State :=
  s.modPacket fun x => { x with queues := Map.upd {} p f x.queues }

/-- The request of a serial number. -/
def State.req? (s : State) (id : Nat) : Option Req := s.reqs.find? fun r => r.id == id

/-- Change the request of a serial number. -/
def State.modReq (s : State) (id : Nat) (f : Req → Req) : State :=
  { s with reqs := s.reqs.map fun r => if r.id == id then f r else r }

/-- The admitted shot of an ID. -/
def State.shot? (s : State) (id : Nat) : Option Shot := s.shot.shots.find? fun x => x.id == id

/-- Change the admitted shot of an ID. -/
def State.modShot (s : State) (id : Nat) (f : Shot → Shot) : State :=
  s.modShotS fun y => { y with shots := y.shots.map fun x => if x.id == id then f x else x }

/-- Ask for an abort of an admitted shot at the next boundary, unless one is asked for (R250, R254). -/
def State.askAbort (s : State) (id cause detail : Nat) : State :=
  s.modShot id fun x => { x with abort := x.abort.orElse fun _ => some (cause, detail) }

/-- One unit of the time of day: 2^-32 x 10^-9 ns. -/
def nsUnit : Nat := 4294967296 * 1000000000

/-- The time of day in whole nanoseconds. -/
def State.nowNs (s : State) : Nat := s.time.tod / nsUnit

/-- A time in nanoseconds as a TIME value (R25). -/
def timeWord (ns : Nat) : Nat := ns / 1000000000 * 4294967296 + ns % 1000000000

/-- The time stamp of this moment (R25). -/
def State.stamp (s : State) : Nat := timeWord s.nowNs

/-- Nanoseconds of frame time since reset: 1,000 for each frame (R28) and what the frame in progress has run. -/
def State.frameNs (s : State) : Nat :=
  s.time.frame * 1000 + min 999 ((s.time.tod - s.time.frameStart) / nsUnit)

/-- Controller cycle `k` of the frame in progress, on the count of all cycles (R13). -/
def State.cycle (s : State) (k : Nat) : Nat := s.time.frame * 1000 + k

/-- Number of set bits among the low `n`. -/
def popcount (n w : Nat) : Nat := (upTo n).foldl (fun c i => c + (w >>> i) % 2) 0

/-- Positions of the set bits among the low `n`, rising. -/
def setBits (n w : Nat) : List Nat := (upTo n).filter fun i => (w >>> i) % 2 == 1

/-- Bits hi to lo of a word. -/
def bits (w hi lo : Nat) : Nat := (w >>> lo) % 2 ^ (hi + 1 - lo)

/-- Bit `i` of a word. -/
def bit (w i : Nat) : Bool := (w >>> i) % 2 == 1

/-- A Bool as a bit. -/
def b2n (b : Bool) : Nat := if b then 1 else 0

/-- Two's complement reading of the low `n` bits. -/
def toInt (n w : Nat) : Int := if w % 2 ^ n < 2 ^ (n - 1) then (w % 2 ^ n : Nat) else (w % 2 ^ n : Nat) - (2 ^ n : Nat)

/-- The low `n` bits of an integer in two's complement. -/
def ofInt (n : Nat) (i : Int) : Nat := (i % (2 ^ n : Nat)).toNat

/-- Little-endian bytes of a value. -/
def leBytes (n w : Nat) : List (BitVec 8) := (upTo n).map fun i => BitVec.ofNat 8 (w >>> (8 * i))

/-- The value of little-endian bytes. -/
def ofLe (l : List (BitVec 8)) : Nat := l.foldr (fun b a => b.toNat + 256 * a) 0

/-- Ceiling division. -/
def ceilDiv (a b : Nat) : Nat := (a + b - 1) / b

/-- First element at which a test holds, by position. -/
def firstIdx {A : Type} (p : A → Bool) : List A → Option Nat
  | [] => none
  | x :: l => if p x then some 0 else (firstIdx p l).map (· + 1)

/-- Least element of a list under a key, the first among equals. -/
def leastBy {A : Type} (key : A → Nat) : List A → Option A
  | [] => none
  | x :: l =>
    match leastBy key l with
    | none => some x
    | some y => if key y < key x then some y else some x

/-- First element under a strict order given as a test, the earlier among equals. -/
def firstBy {A : Type} (before : A → A → Bool) : List A → Option A
  | [] => none
  | x :: l =>
    match firstBy before l with
    | none => some x
    | some y => if before y x then some y else some x

end Sys2Proof.Machine
end

