-- ==== Sys2Proof/Machine/Codec.lean ====
section
/-! DEFINITION. Codec.lean: the K72 code (R355 to R360): arithmetic of GF(2^8), the encoder, the errors-and-erasures
decoder and the findings. The code is linear, so a decode is a function of the pattern of symbols that differ from the
codeword that was stored. -/
namespace Sys2Proof.Machine

/-- Multiplication by the primitive element 0x02 modulo 0x11D (R355). -/
def gfDouble (a : Nat) : Nat := if a < 128 then 2 * a else Nat.xor (2 * a) 0x11D

/-- Product in GF(2^8), from the low `n` bits of the second factor. -/
def gfMulN : Nat → Nat → Nat → Nat
  | 0, _, _ => 0
  | n + 1, a, b => Nat.xor (if b % 2 == 1 then a else 0) (gfMulN n (gfDouble a) (b / 2))

/-- Product in GF(2^8). -/
def gfMul (a b : Nat) : Nat := gfMulN 8 a b

/-- The first `n` powers of a, from `x` on. -/
def gfPowers : Nat → Nat → Nat → List Nat
  | 0, _, _ => []
  | n + 1, a, x => x :: gfPowers n a (gfMul x a)

/-- The powers of the primitive element, 0 to 254. -/
def gfExpTable : List Nat := gfPowers 255 2 1

/-- A power of the primitive element. -/
def gfExp (n : Nat) : Nat := gfExpTable.getD (n % 255) 1

/-- Inverse in GF(2^8): the 254th power. -/
def gfInv (a : Nat) : Nat :=
  let a2 := gfMul a a
  let a4 := gfMul a2 a2
  let a8 := gfMul a4 a4
  let a16 := gfMul a8 a8
  let a32 := gfMul a16 a16
  let a64 := gfMul a32 a32
  let a128 := gfMul a64 a64
  gfMul (gfMul (gfMul a2 a4) (gfMul a8 a16)) (gfMul (gfMul a32 a64) a128)

/-- Sum of two polynomials, lowest coefficient first. -/
def polyAdd : List Nat → List Nat → List Nat
  | [], q => q
  | p, [] => p
  | a :: p, b :: q => Nat.xor a b :: polyAdd p q

/-- A polynomial times a constant. -/
def polyScale (c : Nat) (p : List Nat) : List Nat := p.map (gfMul c)

/-- Product of two polynomials. -/
def polyMul : List Nat → List Nat → List Nat
  | [], _ => []
  | a :: p, q => polyAdd (polyScale a q) (0 :: polyMul p q)

/-- Value of a polynomial. -/
def polyEval (p : List Nat) (x : Nat) : Nat := p.foldr (fun c acc => Nat.xor c (gfMul acc x)) 0

/-- Formal derivative in characteristic 2: the odd coefficients. -/
def polyDeriv : List Nat → List Nat
  | [] => []
  | _ :: p => (p.zipIdx).map fun ci => if ci.2 % 2 == 0 then ci.1 else 0

/-- The generator (x - 1)(x - a) ... (x - a^6) of R355. -/
def k72Generator : List Nat := (upTo 7).foldl (fun g i => polyMul g [gfExp i, 1]) [1]

/-- One step of the division that forms the check symbols: the register takes the next symbol, highest position
first. -/
def k72Shift (reg : List Nat) (sym : Nat) : List Nat :=
  let fb := Nat.xor (reg.getD 6 0) sym
  polyAdd (0 :: reg.take 6) (polyScale fb (k72Generator.take 7))

/-- The check symbols C0 to C6 of the symbols at positions 7 to 77 (R355). -/
def k72Check (m : List Nat) : List Nat := m.reverse.foldl k72Shift [0, 0, 0, 0, 0, 0, 0]

/-- The address symbols A0 to A5 of a place (R358). -/
def addressSymbols (stack pc sid bank row sector : Nat) : List Nat :=
  [row % 256, row / 256 % 128, bank % 16 + 16 * (sid % 4), pc % 64, stack % 32, sector % 16]

/-- The metadata byte (R357). -/
def metaByte (poison : Bool) (epoch : Nat) : Nat := b2n poison + 2 * (epoch % 16)

/-- The 78 symbols of a sector, position 0 first (R355). -/
def k72Encode (md : Nat) (data addr : List Nat) : List Nat :=
  k72Check (md :: data ++ addr) ++ (md :: data ++ addr)

/-- Syndrome i of an error pattern (positions with what they are off by). -/
def syndrome (errs : List (Nat × Nat)) (i : Nat) : Nat :=
  errs.foldl (fun acc pe => Nat.xor acc (gfMul pe.2 (gfExp (i * pe.1)))) 0

/-- The seven syndromes (R359). -/
def syndromes (errs : List (Nat × Nat)) : List Nat := (upTo 7).map (syndrome errs)

/-- The seven syndromes of a received word of 78 symbols (R359). -/
def wordSyndromes (w : List Nat) : List Nat :=
  (upTo 7).map fun i => (w.zipIdx).foldl (fun acc ci => Nat.xor acc (gfMul ci.1 (gfExp (i * ci.2)))) 0

/-- Registers of the shift-register synthesis: locator, previous locator, its length, shift, last discrepancy. -/
structure Bm where
  cur : List Nat
  prev : List Nat
  len : Nat
  gap : Nat
  disc : Nat

/-- One step of the synthesis on syndrome number n of a list. -/
def bmStep (t : List Nat) (b : Bm) (n : Nat) : Bm :=
  let d := (upTo (b.len + 1)).foldl (fun acc i => Nat.xor acc (gfMul (b.cur.getD i 0) (t.getD (n - i) 0))) 0
  if d = 0 then { b with gap := b.gap + 1 }
  else
    let corr := List.replicate b.gap 0 ++ polyScale (gfMul d (gfInv b.disc)) b.prev
    if 2 * b.len ≤ n then
      { cur := polyAdd b.cur corr, prev := b.cur, len := n + 1 - b.len, gap := 1, disc := d }
    else { b with cur := polyAdd b.cur corr, gap := b.gap + 1 }

/-- The shortest register that produces a sequence: its connection polynomial and length. -/
def bmRun (t : List Nat) : List Nat × Nat :=
  let b := (upTo t.length).foldl (bmStep t) { cur := [1], prev := [1], len := 0, gap := 1, disc := 1 }
  (b.cur, b.len)

/-- Findings of a decode (R360), with the code the event gives them. -/
inductive Finding where
  | clean | dataCorrectable | checkCorrectable | addressError | uncorrectable
deriving DecidableEq, Repr

/-- What a decode answers: its finding, the correction it makes, what is still wrong afterwards, and how many
symbols were located or erased. -/
structure Decoded where
  finding : Finding
  located : List Nat
  residual : List (Nat × Nat)
  symbols : Nat
deriving DecidableEq, Repr

/-- Sum of two error patterns. -/
def addErr (p : List (Nat × Nat)) (e : Nat × Nat) : List (Nat × Nat) :=
  match p with
  | [] => if e.2 = 0 then [] else [e]
  | x :: l => if x.1 = e.1 then (if Nat.xor x.2 e.2 = 0 then l else (x.1, Nat.xor x.2 e.2) :: l) else x :: addErr l e

/-- An error pattern with each position once. -/
def normErrs (l : List (Nat × Nat)) : List (Nat × Nat) := l.foldl addErr []

/-- The correction that a decode finds for its syndromes with some erasures, none when no error locator of permitted
degree has all its roots in positions 0 to 77 or more than e_max errors are needed (R359). -/
def k72Solve (syn : List Nat) (erased : List Nat) : Option (List (Nat × Nat)) :=
  let f := erased.length
  let eMax := (6 - f) / 2
  let gamma := erased.foldl (fun g p => polyMul g [1, gfExp p]) [1]
  let t := (polyMul syn gamma).take 7
  let (lam, deg) := bmRun (t.drop f)
  let psi := polyMul lam gamma
  let roots := (upTo 78).filter fun p => polyEval psi (gfExp (255 - p)) == 0
  let errRoots := (upTo 78).filter fun p => polyEval lam (gfExp (255 - p)) == 0
  if deg > eMax ∨ errRoots.length ≠ deg ∨ roots.length ≠ deg + f then none
  else
    let omega := (polyMul syn psi).take 7
    let dpsi := polyDeriv psi
    some (roots.map fun p =>
      let xi := gfExp (255 - p)
      (p, gfMul (gfExp p) (gfMul (polyEval omega xi) (gfInv (polyEval dpsi xi)))))

/-- Decode a sector whose symbols differ from its codeword as `errs` says, with some erased positions (R359, R360). -/
def k72Decode (errs : List (Nat × Nat)) (erased : List Nat) : Decoded :=
  let syn := syndromes errs
  if syn.all (· == 0) then
    { finding := .clean, located := [], residual := normErrs errs, symbols := erased.length }
  else
    match k72Solve syn erased with
    | none => { finding := .uncorrectable, located := [], residual := [], symbols := erased.length }
    | some cor =>
      let located := (cor.filter fun pe => pe.2 ≠ 0).map (·.1)
      let residual := normErrs (errs ++ cor)
      if syndromes residual ≠ [0, 0, 0, 0, 0, 0, 0] then
        { finding := .uncorrectable, located := [], residual := [], symbols := erased.length }
      else
        let n := (located ++ erased).eraseDups.length
        if located.any (72 ≤ ·) then { finding := .addressError, located, residual := [], symbols := n }
        else if located.any (7 ≤ ·) then { finding := .dataCorrectable, located, residual, symbols := n }
        else { finding := .checkCorrectable, located, residual, symbols := n }

/-- The lane that carries a stored position (R356). -/
def laneOf (p : Nat) : Nat :=
  if 8 ≤ p then (p - 8) % 32 else if p < 4 then 32 + p else if p < 7 then 28 + p else 35

/-- The two positions a lane carries (R356). -/
def lanePositions (lane : Nat) : List Nat :=
  if lane < 32 then [8 + lane, 40 + lane] else if lane < 35 then [lane - 32, lane - 28] else [3, 7]

/-- The erased positions of the lanes marked for repair; none when more than three are marked (R359). -/
def erasures (lanes : List Nat) : List Nat :=
  if lanes.length > 3 then [] else lanes.flatMap lanePositions

end Sys2Proof.Machine
end

