-- ==== Sys2Proof/Machine/Objects.lean ====
section
/-! DEFINITION. Objects.lean: the object dictionary of chapter 20 (R456 to R467): for every object its encoded size,
the number of its elements, its access, whether it is a locked object (R428), its default and the range its row gives. -/
namespace Sys2Proof.Machine

/-- One object. -/
structure ObjRow where
  /-- Index of S00's copy, and sub-index. -/
  ix : Nat
  sub : Nat
  /-- Bytes of the value, or of one element (R427, R459). -/
  size : Nat
  /-- Elements of a TABLE, 0 for any other type. -/
  count : Nat
  /-- 0 RO, 1 RW, 2 WO. -/
  acc : Nat
  /-- A locked object (R428). -/
  locked : Bool
  /-- Default; elements with defaults of their own are in `objDefault`. -/
  dflt : Nat
  /-- Range of values a write may carry. -/
  lo : Nat
  hi : Nat
deriving DecidableEq, Repr

/-- R40. -/
def objs02 : List ObjRow :=
  [ ⟨0x7800, 1, 10, 0, 0, false, 0, 0, 0⟩
  , ⟨0x7800, 2, 8, 0, 0, false, 0, 0, 0xffffffffffffffff⟩
  , ⟨0x7801, 1, 1, 0, 1, false, 1, 0, 1⟩
  , ⟨0x7801, 2, 4, 0, 1, false, 0, 0, 4294967295⟩
  , ⟨0x7801, 3, 8, 0, 2, false, 0, 0, 0xffffffffffffffff⟩
  , ⟨0x7801, 4, 4, 0, 1, false, 1048576000, 0, 4294967295⟩
  , ⟨0x7801, 5, 4, 0, 1, false, 1031798784, 0, 4294967295⟩
  , ⟨0x7801, 6, 4, 0, 1, false, 100000, 0, 4294967295⟩
  , ⟨0x7802, 1, 8, 0, 0, false, 0, 0, 0xffffffffffffffff⟩
  , ⟨0x7802, 2, 1, 0, 0, false, 0, 0, 1⟩
  , ⟨0x7802, 3, 8, 0, 0, false, 0, 0, 0xffffffffffffffff⟩
  , ⟨0x7802, 4, 8, 0, 0, false, 0, 0, 0xffffffffffffffff⟩ ]

/-- R71. -/
def objs03 : List ObjRow :=
  [ ⟨0x1311, 2, 8, 0, 0, false, 0, 0, 0xffffffffffffffff⟩
  , ⟨0x1311, 3, 8, 0, 0, false, 0, 0, 0xffffffffffffffff⟩
  , ⟨0x1311, 4, 8, 0, 0, false, 0, 0, 0xffffffffffffffff⟩
  , ⟨0x1311, 5, 8, 0, 0, false, 0, 0, 0xffffffffffffffff⟩
  , ⟨0x1311, 7, 8, 0, 0, false, 0, 0, 0xffffffffffffffff⟩
  , ⟨0x201C, 1, 1, 0, 1, false, 2, 0, 3⟩
  , ⟨0x201C, 2, 1, 0, 1, false, 1, 0, 2⟩
  , ⟨0x5201, 4, 8, 0, 0, false, 0, 0, 0xffffffffffffffff⟩
  , ⟨0x5201, 5, 8, 0, 0, false, 0, 0, 0xffffffffffffffff⟩
  , ⟨0x5901, 4, 8, 0, 0, false, 0, 0, 0xffffffffffffffff⟩
  , ⟨0x7803, 1, 4, 0, 1, false, 312500000, 100000000, 400000000⟩
  , ⟨0x7810, 1, 1, 0, 1, false, 1, 0, 1⟩ ]

/-- R94. -/
def objs04 : List ObjRow :=
  [ ⟨0x3400, 1, 32, 4096, 1, true, 0, 0, 0⟩
  , ⟨0x3400, 2, 32, 4096, 0, false, 0, 0, 0⟩
  , ⟨0x3400, 3, 2, 0, 0, false, 0, 0, 65535⟩
  , ⟨0x3401, 1, 4, 32, 0, false, 64512, 0, 4294967295⟩
  , ⟨0x3401, 2, 4, 32, 0, false, 64512, 0, 4294967295⟩
  , ⟨0x3401, 3, 4, 0, 0, false, 2097152, 0, 4294967295⟩
  , ⟨0x3402, 1, 8, 0, 0, false, 0, 0, 0xffffffffffffffff⟩
  , ⟨0x3402, 2, 8, 0, 0, false, 0, 0, 0xffffffffffffffff⟩
  , ⟨0x3402, 3, 8, 0, 0, false, 0, 0, 0xffffffffffffffff⟩
  , ⟨0x3402, 4, 4, 0, 0, false, 0, 0, 4294967295⟩
  , ⟨0x3402, 5, 1, 0, 1, false, 1, 0, 1⟩
  , ⟨0x3402, 6, 8, 0, 0, false, 0, 0, 0xffffffffffffffff⟩
  , ⟨0x3402, 7, 1, 0, 0, false, 0, 0, 255⟩
  , ⟨0x3403, 1, 8, 0, 0, false, 0, 0, 0xffffffffffffffff⟩
  , ⟨0x3403, 2, 8, 0, 0, false, 0, 0, 0xffffffffffffffff⟩
  , ⟨0x2010, 1, 1, 252, 0, false, 0, 0, 255⟩ ]

/-- R131. -/
def objs05 : List ObjRow :=
  [ ⟨0x4000, 1, 1, 0, 1, true, 0, 0, 1⟩
  , ⟨0x4000, 2, 4, 0, 1, true, 2000, 200, 1000000⟩
  , ⟨0x4000, 3, 2, 0, 1, true, 16, 4, 256⟩
  , ⟨0x4000, 4, 2, 0, 1, true, 50, 2, 1000⟩
  , ⟨0x4000, 5, 1, 0, 1, true, 90, 50, 99⟩
  , ⟨0x4000, 6, 2, 0, 1, true, 512, 0, 65535⟩
  , ⟨0x4001, 1, 2, 64, 1, true, 8192, 1, 16384⟩
  , ⟨0x4001, 2, 2, 256, 1, true, 0, 0, 65535⟩
  , ⟨0x4001, 3, 1, 64, 1, true, 4, 0, 7⟩
  , ⟨0x4001, 4, 4, 256, 1, true, 0, 0, 4294967295⟩
  , ⟨0x4001, 5, 4, 256, 1, true, 1024, 0, 4294967295⟩
  , ⟨0x4001, 6, 4, 64, 1, true, 0, 0, 4294967295⟩
  , ⟨0x4002, 1, 4, 4608, 1, true, 4294967295, 0, 4294967295⟩
  , ⟨0x4003, 1, 16, 1024, 1, true, 0, 0, 0⟩
  , ⟨0x4004, 1, 1, 32000, 1, true, 255, 0, 255⟩
  , ⟨0x4020, 1, 4, 32, 0, false, 0, 0, 4294967295⟩
  , ⟨0x4020, 2, 4, 32, 0, false, 0, 0, 4294967295⟩
  , ⟨0x4020, 3, 4, 32, 0, false, 0, 0, 4294967295⟩
  , ⟨0x4020, 4, 4, 32, 0, false, 0, 0, 4294967295⟩
  , ⟨0x4020, 5, 2, 32, 0, false, 256, 0, 65535⟩
  , ⟨0x4020, 6, 8, 32, 0, false, 0, 0, 0xffffffffffffffff⟩
  , ⟨0x4030, 1, 8, 0, 0, false, 0, 0, 0xffffffffffffffff⟩
  , ⟨0x4030, 2, 8, 0, 0, false, 0, 0, 0xffffffffffffffff⟩
  , ⟨0x4030, 3, 8, 0, 0, false, 0, 0, 0xffffffffffffffff⟩
  , ⟨0x4030, 4, 8, 0, 0, false, 0, 0, 0xffffffffffffffff⟩
  , ⟨0x4030, 5, 8, 0, 0, false, 0, 0, 0xffffffffffffffff⟩ ]

/-- R155. -/
def objs06 : List ObjRow :=
  [ ⟨0x2001, 1, 1, 0, 1, false, 32, 9, 56⟩
  , ⟨0x2001, 2, 1, 0, 1, false, 8, 0, 55⟩
  , ⟨0x2001, 3, 1, 0, 1, false, 48, 8, 64⟩
  , ⟨0x2001, 4, 1, 0, 1, false, 8, 1, 32⟩
  , ⟨0x2001, 5, 1, 0, 1, false, 0, 0, 2⟩
  , ⟨0x2001, 6, 1, 0, 1, false, 16, 1, 64⟩
  , ⟨0x2002, 1, 1, 0, 0, false, 0, 0, 255⟩
  , ⟨0x2002, 2, 2, 29, 0, false, 0, 0, 65535⟩
  , ⟨0x2003, 1, 8, 64, 0, false, 0, 0, 0xffffffffffffffff⟩
  , ⟨0x2003, 2, 8, 64, 0, false, 0, 0, 0xffffffffffffffff⟩
  , ⟨0x2003, 3, 8, 64, 0, false, 0, 0, 0xffffffffffffffff⟩
  , ⟨0x2003, 4, 1, 0, 1, false, 3, 1, 8⟩
  , ⟨0x2003, 5, 1, 0, 1, false, 8, 1, 64⟩
  , ⟨0x2004, 1, 1, 4096, 0, false, 2, 0, 255⟩
  , ⟨0x2004, 2, 8, 64, 0, false, 0, 0, 0xffffffffffffffff⟩
  , ⟨0x2004, 3, 8, 64, 0, false, 0, 0, 0xffffffffffffffff⟩
  , ⟨0x2004, 4, 8, 64, 0, false, 0, 0, 0xffffffffffffffff⟩
  , ⟨0x2005, 1, 8, 64, 0, false, 0, 0, 0xffffffffffffffff⟩ ]

/-- R178. -/
def objs07 : List ObjRow :=
  [ ⟨0x2006, 1, 1, 0, 0, false, 0, 0, 255⟩
  , ⟨0x2006, 2, 2, 64, 0, false, 0, 0, 65535⟩
  , ⟨0x2006, 3, 8, 64, 0, false, 0, 0, 0xffffffffffffffff⟩
  , ⟨0x2007, 1, 2, 0, 1, false, 1024, 128, 4096⟩
  , ⟨0x2007, 2, 1, 0, 1, false, 0, 0, 1⟩
  , ⟨0x2007, 3, 8, 64, 0, false, 0, 0, 0xffffffffffffffff⟩
  , ⟨0x2007, 4, 8, 64, 0, false, 0, 0, 0xffffffffffffffff⟩
  , ⟨0x2007, 5, 1, 64, 0, false, 0, 0, 255⟩
  , ⟨0x2007, 6, 8, 64, 0, false, 0, 0, 0xffffffffffffffff⟩
  , ⟨0x2007, 7, 8, 65536, 0, false, 0, 0, 0xffffffffffffffff⟩
  , ⟨0x2008, 1, 2, 0, 1, false, 50, 0, 1000⟩
  , ⟨0x2008, 2, 1, 64, 0, false, 0, 0, 255⟩
  , ⟨0x2008, 3, 8, 64, 0, false, 0, 0, 0xffffffffffffffff⟩
  , ⟨0x2008, 4, 8, 64, 0, false, 0, 0, 0xffffffffffffffff⟩
  , ⟨0x2008, 5, 8, 64, 0, false, 0, 0, 0xffffffffffffffff⟩
  , ⟨0x2008, 6, 1, 0, 1, false, 0, 0, 1⟩
  , ⟨0x2008, 7, 4, 0, 1, false, 0, 0, 4294967295⟩
  , ⟨0x2008, 8, 1, 0, 0, false, 0, 0, 255⟩
  , ⟨0x2008, 9, 8, 0, 0, false, 0, 0, 0xffffffffffffffff⟩
  , ⟨0x2800, 1, 2, 128, 1, true, 0, 0, 65535⟩
  , ⟨0x2800, 2, 1, 128, 0, false, 0, 0, 255⟩
  , ⟨0x2801, 1, 1, 32, 1, true, 0, 0, 3⟩
  , ⟨0x2801, 2, 1, 32, 0, false, 0, 0, 255⟩
  , ⟨0x2801, 3, 8, 0, 0, false, 0, 0, 0xffffffffffffffff⟩ ]

/-- R196. -/
def objs08 : List ObjRow :=
  [ ⟨0x8000, 1, 8, 2048, 0, false, 0, 0, 0xffffffffffffffff⟩
  , ⟨0x8000, 2, 10, 2048, 0, false, 0, 0, 0⟩
  , ⟨0x8000, 3, 1, 2048, 0, false, 0, 0, 255⟩
  , ⟨0x8001, 1, 4, 311296, 0, false, 0, 0, 4294967295⟩
  , ⟨0x8001, 2, 1, 8192, 0, false, 60, 0, 255⟩
  , ⟨0x8002, 1, 8, 4980736, 0, false, 0, 0, 0xffffffffffffffff⟩
  , ⟨0x8003, 1, 2, 0, 1, false, 100, 10, 1000⟩
  , ⟨0x8003, 3, 1, 0, 1, false, 24, 8, 48⟩
  , ⟨0x8003, 4, 1, 0, 1, false, 8, 2, 16⟩
  , ⟨0x8003, 5, 1, 0, 1, false, 20, 8, 48⟩
  , ⟨0x8003, 6, 2, 0, 1, false, 64, 1, 65535⟩
  , ⟨0x8003, 7, 1, 0, 1, false, 10, 2, 40⟩
  , ⟨0x8003, 8, 1, 0, 1, false, 3, 1, 8⟩
  , ⟨0x8004, 1, 1, 32, 1, false, 15, 0, 15⟩
  , ⟨0x8005, 1, 8, 2048, 0, false, 0, 0, 0xffffffffffffffff⟩
  , ⟨0x8005, 2, 8, 2048, 0, false, 0, 0, 0xffffffffffffffff⟩
  , ⟨0x8005, 3, 8, 2048, 0, false, 0, 0, 0xffffffffffffffff⟩
  , ⟨0x8005, 4, 8, 0, 0, false, 0, 0, 0xffffffffffffffff⟩ ]

/-- R216. -/
def objs09 : List ObjRow :=
  [ ⟨0x7000, 1, 2, 0, 1, false, 300, 100, 300⟩
  , ⟨0x7000, 2, 2, 0, 1, false, 60, 0, 300⟩
  , ⟨0x7000, 3, 4, 0, 0, false, 0, 0, 4294967295⟩
  , ⟨0x7000, 4, 1, 0, 0, false, 0, 0, 255⟩
  , ⟨0x7000, 5, 8, 0, 0, false, 0, 0, 0xffffffffffffffff⟩
  , ⟨0x7001, 1, 4, 43, 0, false, 0, 0, 4294967295⟩
  , ⟨0x7001, 2, 1, 43, 0, false, 0, 0, 255⟩
  , ⟨0x7001, 3, 1, 43, 1, false, 0, 0, 255⟩
  , ⟨0x7001, 4, 4, 43, 0, false, 0, 0, 4294967295⟩
  , ⟨0x7002, 1, 2, 0, 1, false, 640, 0, 65535⟩
  , ⟨0x7002, 2, 2, 32, 1, false, 200, 0, 65535⟩
  , ⟨0x7002, 3, 4, 32, 0, false, 0, 0, 4294967295⟩
  , ⟨0x7010, 1, 1, 0, 1, false, 85, 0, 255⟩
  , ⟨0x7010, 2, 1, 0, 1, false, 95, 0, 255⟩
  , ⟨0x7010, 3, 1, 0, 1, false, 100, 0, 255⟩
  , ⟨0x7010, 4, 1, 0, 1, false, 105, 0, 255⟩
  , ⟨0x7010, 5, 1, 0, 1, false, 3, 1, 5⟩
  , ⟨0x7010, 6, 2, 0, 1, false, 1, 1, 100⟩
  , ⟨0x7011, 1, 4, 32, 0, false, 0, 0, 4294967295⟩
  , ⟨0x7011, 2, 8, 32, 0, false, 0, 0, 0xffffffffffffffff⟩
  , ⟨0x7011, 3, 8, 32, 0, false, 0, 0, 0xffffffffffffffff⟩
  , ⟨0x7011, 4, 8, 32, 0, false, 0, 0, 0xffffffffffffffff⟩
  , ⟨0x7012, 1, 2, 32, 1, false, 0, 0, 65535⟩
  , ⟨0x7012, 2, 1, 5, 1, false, 0, 25, 100⟩
  , ⟨0x7013, 1, 8, 0, 0, false, 0, 0, 0xffffffffffffffff⟩
  , ⟨0x7013, 2, 8, 0, 0, false, 0, 0, 0xffffffffffffffff⟩
  , ⟨0x7013, 3, 2, 0, 1, false, 16, 1, 1000⟩ ]

/-- R238. -/
def objs10 : List ObjRow :=
  [ ⟨0x3000, 1, 4, 4, 1, true, 0, 0, 4294967295⟩
  , ⟨0x3000, 2, 1, 4, 0, false, 0, 0, 255⟩
  , ⟨0x3001, 1, 1, 64, 0, false, 0, 0, 255⟩
  , ⟨0x3001, 2, 8, 0, 0, false, 0, 0, 0xffffffffffffffff⟩
  , ⟨0x3001, 3, 8, 0, 0, false, 0, 0, 0xffffffffffffffff⟩
  , ⟨0x3001, 4, 8, 0, 0, false, 0, 0, 0xffffffffffffffff⟩
  , ⟨0x3001, 5, 4, 64, 0, false, 0, 0, 4294967295⟩
  , ⟨0x3002, 1, 2, 4, 0, false, 32, 0, 65535⟩
  , ⟨0x3002, 2, 2, 64, 0, false, 0, 0, 65535⟩
  , ⟨0x3003, 1, 2, 0, 1, false, 1000, 10, 10000⟩
  , ⟨0x3003, 2, 8, 64, 0, false, 0, 0, 0xffffffffffffffff⟩
  , ⟨0x3003, 3, 1, 0, 1, false, 4, 1, 64⟩
  , ⟨0x3003, 4, 8, 64, 0, false, 0, 0, 0xffffffffffffffff⟩
  , ⟨0x3003, 5, 1, 64, 0, false, 0, 0, 255⟩
  , ⟨0x3003, 6, 8, 0, 0, false, 0, 0, 0xffffffffffffffff⟩
  , ⟨0x3004, 1, 1, 0, 1, false, 25, 0, 90⟩
  , ⟨0x3005, 1, 1, 64, 0, false, 0, 0, 255⟩
  , ⟨0x3005, 2, 8, 0, 0, false, 0, 0, 0xffffffffffffffff⟩ ]

/-- R261. -/
def objs11 : List ObjRow :=
  [ ⟨0x5000, 1, 8, 0, 0, false, 0, 0, 0xffffffffffffffff⟩
  , ⟨0x5000, 2, 8, 0, 0, false, 0, 0, 0xffffffffffffffff⟩
  , ⟨0x5000, 3, 8, 32, 0, false, 0, 0, 0xffffffffffffffff⟩
  , ⟨0x5000, 4, 2, 0, 1, false, 10, 2, 1000⟩
  , ⟨0x5000, 5, 8, 0, 0, false, 0, 0, 0xffffffffffffffff⟩
  , ⟨0x5000, 6, 4, 0, 0, false, 0, 0, 4294967295⟩
  , ⟨0x5000, 7, 4, 0, 1, false, 1000, 10, 1000000⟩
  , ⟨0x5000, 8, 8, 13, 0, false, 0, 0, 0xffffffffffffffff⟩
  , ⟨0x5001, 1, 4, 64, 1, true, 0, 0, 4294967295⟩
  , ⟨0x5001, 2, 2, 64, 0, false, 0, 0, 65535⟩
  , ⟨0x5001, 3, 64, 64, 2, false, 0, 0, 0⟩
  , ⟨0x5002, 1, 64, 4096, 1, true, 0, 0, 0⟩
  , ⟨0x5002, 2, 64, 4096, 0, false, 0, 0, 0⟩
  , ⟨0x5003, 1, 4, 0, 2, false, 0, 0, 4294967295⟩
  , ⟨0x5004, 1, 16, 65536, 0, false, 0, 0, 0⟩ ]

/-- R286. -/
def objs12 : List ObjRow :=
  [ ⟨0x5200, 1, 8, 0, 0, false, 0, 0, 0xffffffffffffffff⟩
  , ⟨0x5200, 2, 2, 0, 0, false, 0, 0, 65535⟩
  , ⟨0x5200, 3, 8, 0, 0, false, 0, 0, 0xffffffffffffffff⟩
  , ⟨0x5200, 4, 8, 0, 0, false, 0, 0, 0xffffffffffffffff⟩
  , ⟨0x5201, 1, 8, 0, 0, false, 0, 0, 0xffffffffffffffff⟩
  , ⟨0x5201, 2, 8, 0, 0, false, 0, 0, 0xffffffffffffffff⟩
  , ⟨0x5201, 3, 8, 0, 0, false, 0, 0, 0xffffffffffffffff⟩
  , ⟨0x5201, 6, 8, 0, 0, false, 0, 0, 0xffffffffffffffff⟩
  , ⟨0x5201, 7, 8, 0, 0, false, 0, 0, 0xffffffffffffffff⟩
  , ⟨0x5201, 8, 8, 0, 0, false, 0, 0, 0xffffffffffffffff⟩ ]

/-- R315. -/
def objs13 : List ObjRow :=
  [ ⟨0x5300, 1, 8, 0, 0, false, 0, 0, 0xffffffffffffffff⟩
  , ⟨0x5300, 2, 8, 0, 0, false, 0, 0, 0xffffffffffffffff⟩
  , ⟨0x5300, 3, 8, 0, 0, false, 0, 0, 0xffffffffffffffff⟩
  , ⟨0x5300, 4, 2, 0, 0, false, 0, 0, 65535⟩
  , ⟨0x5300, 5, 8, 0, 0, false, 0, 0, 0xffffffffffffffff⟩
  , ⟨0x5300, 6, 4, 0, 0, false, 4294967295, 0, 4294967295⟩
  , ⟨0x5400, 1, 1, 0, 0, false, 15, 0, 255⟩
  , ⟨0x5400, 2, 8, 0, 0, false, 0, 0, 0xffffffffffffffff⟩
  , ⟨0x5400, 3, 1, 0, 0, false, 0, 0, 255⟩
  , ⟨0x5400, 4, 8, 0, 0, false, 0, 0, 0xffffffffffffffff⟩
  , ⟨0x5400, 5, 8, 4, 0, false, 0, 0, 0xffffffffffffffff⟩
  , ⟨0x5400, 6, 2, 0, 1, false, 512, 64, 4096⟩ ]

/-- R335. -/
def objs14 : List ObjRow :=
  [ ⟨0x5100, 1, 8, 0, 0, false, 0, 0, 0xffffffffffffffff⟩
  , ⟨0x5100, 2, 8, 0, 0, false, 0, 0, 0xffffffffffffffff⟩
  , ⟨0x5100, 3, 8, 0, 0, false, 0, 0, 0xffffffffffffffff⟩
  , ⟨0x5500, 1, 8, 0, 0, false, 0, 0, 0xffffffffffffffff⟩
  , ⟨0x5500, 2, 8, 0, 0, false, 0, 0, 0xffffffffffffffff⟩
  , ⟨0x5500, 3, 8, 16, 0, false, 0, 0, 0xffffffffffffffff⟩
  , ⟨0x5600, 1, 8, 4096, 0, false, 0, 0, 0xffffffffffffffff⟩
  , ⟨0x5600, 2, 8, 0, 0, false, 0, 0, 0xffffffffffffffff⟩
  , ⟨0x5600, 3, 8, 0, 0, false, 0, 0, 0xffffffffffffffff⟩
  , ⟨0x5600, 4, 8, 0, 0, false, 0, 0, 0xffffffffffffffff⟩
  , ⟨0x5600, 5, 8, 0, 0, false, 0, 0, 0xffffffffffffffff⟩ ]

/-- R354. -/
def objs15 : List ObjRow :=
  [ ⟨0x5800, 1, 2, 0, 1, false, 65535, 0, 65535⟩
  , ⟨0x5800, 2, 1, 0, 1, false, 0, 0, 1⟩
  , ⟨0x5800, 3, 2, 0, 1, false, 1, 0, 1000⟩
  , ⟨0x5800, 4, 4, 0, 0, false, 0, 0, 4294967295⟩
  , ⟨0x5801, 1, 1, 512, 1, false, 6, 0, 9⟩
  , ⟨0x5801, 2, 8, 512, 0, false, 0, 0, 0xffffffffffffffff⟩
  , ⟨0x5801, 3, 8, 512, 0, false, 0, 0, 0xffffffffffffffff⟩
  , ⟨0x5801, 4, 1, 512, 0, false, 0, 0, 255⟩
  , ⟨0x5802, 1, 8, 0, 0, false, 0, 0, 0xffffffffffffffff⟩
  , ⟨0x5802, 2, 8, 0, 0, false, 0, 0, 0xffffffffffffffff⟩
  , ⟨0x5802, 3, 8, 0, 0, false, 0, 0, 0xffffffffffffffff⟩
  , ⟨0x5802, 4, 8, 0, 0, false, 0, 0, 0xffffffffffffffff⟩
  , ⟨0x5802, 5, 8, 0, 0, false, 0, 0, 0xffffffffffffffff⟩
  , ⟨0x5802, 6, 8, 0, 0, false, 0, 0, 0xffffffffffffffff⟩
  , ⟨0x5802, 7, 8, 0, 0, false, 0, 0, 0xffffffffffffffff⟩
  , ⟨0x5802, 8, 2, 0, 0, false, 0, 0, 65535⟩
  , ⟨0x5802, 9, 2, 4096, 0, false, 0, 0, 65535⟩
  , ⟨0x5900, 1, 16, 0, 1, true, 0, 0, 0⟩
  , ⟨0x5900, 3, 8, 0, 0, false, 0, 0, 0xffffffffffffffff⟩
  , ⟨0x5900, 4, 8, 0, 1, false, 0, 0, 0xffffffffffffffff⟩
  , ⟨0x5900, 5, 256, 16777216, 0, false, 0, 0, 0⟩
  , ⟨0x5901, 1, 8, 0, 0, false, 0, 0, 0xffffffffffffffff⟩
  , ⟨0x5901, 2, 8, 0, 0, false, 0, 0, 0xffffffffffffffff⟩
  , ⟨0x5901, 3, 8, 0, 0, false, 0, 0, 0xffffffffffffffff⟩ ]

/-- R374. -/
def objs16 : List ObjRow :=
  [ ⟨0x6000, 1, 8, 2048, 0, false, 0, 0, 0xffffffffffffffff⟩
  , ⟨0x6000, 2, 8, 2048, 0, false, 0, 0, 0xffffffffffffffff⟩
  , ⟨0x6000, 3, 8, 4096, 0, false, 0, 0, 0xffffffffffffffff⟩
  , ⟨0x6000, 4, 8, 2048, 0, false, 0, 0, 0xffffffffffffffff⟩
  , ⟨0x6000, 5, 8, 2048, 0, false, 0, 0, 0xffffffffffffffff⟩
  , ⟨0x6000, 6, 8, 0, 0, false, 0, 0, 0xffffffffffffffff⟩
  , ⟨0x6000, 7, 8, 0, 0, false, 0, 0, 0xffffffffffffffff⟩
  , ⟨0x6001, 1, 2, 0, 1, false, 12, 1, 168⟩
  , ⟨0x6001, 2, 1, 0, 1, false, 1, 0, 1⟩
  , ⟨0x6001, 3, 4, 32, 0, false, 0, 0, 4294967295⟩
  , ⟨0x6001, 4, 8, 32, 0, false, 0, 0, 0xffffffffffffffff⟩
  , ⟨0x6001, 5, 1, 0, 1, false, 0, 0, 1⟩
  , ⟨0x6002, 1, 1, 2048, 0, false, 0, 0, 255⟩
  , ⟨0x6002, 2, 1, 0, 1, false, 32, 1, 255⟩
  , ⟨0x6002, 3, 2, 0, 1, false, 100, 1, 10000⟩
  , ⟨0x6002, 4, 8, 2048, 0, false, 0, 0, 0xffffffffffffffff⟩
  , ⟨0x6010, 1, 32, 16, 1, true, 0, 0, 0⟩
  , ⟨0x6011, 1, 8, 65536, 0, false, 0, 0, 0xffffffffffffffff⟩
  , ⟨0x6011, 2, 8, 0, 0, false, 0, 0, 0xffffffffffffffff⟩ ]

/-- R401. -/
def objs17 : List ObjRow :=
  [ ⟨0x6020, 1, 8, 8192, 0, false, 0, 0, 0xffffffffffffffff⟩
  , ⟨0x6020, 2, 2, 32, 0, false, 65535, 0, 65535⟩
  , ⟨0x6020, 3, 2, 32, 0, false, 0, 0, 65535⟩
  , ⟨0x6020, 4, 8, 4, 0, false, 0, 0, 0xffffffffffffffff⟩
  , ⟨0x6021, 1, 8, 8192, 1, false, 0, 0, 0xffffffffffffffff⟩
  , ⟨0x6021, 2, 8, 32, 0, false, 0, 0, 0xffffffffffffffff⟩
  , ⟨0x6030, 1, 2, 0, 1, false, 256, 16, 480⟩
  , ⟨0x6030, 2, 8, 32, 0, false, 0, 0, 0xffffffffffffffff⟩
  , ⟨0x6030, 3, 1, 8192, 0, false, 0, 0, 255⟩
  , ⟨0x6030, 4, 8, 0, 0, false, 0, 0, 0xffffffffffffffff⟩
  , ⟨0x6030, 5, 8, 0, 0, false, 0, 0, 0xffffffffffffffff⟩
  , ⟨0x6030, 6, 8, 0, 0, false, 0, 0, 0xffffffffffffffff⟩
  , ⟨0x6031, 1, 1, 2048, 0, false, 0, 0, 255⟩
  , ⟨0x6031, 2, 1, 32, 0, false, 0, 0, 255⟩
  , ⟨0x6031, 3, 1, 4096, 0, false, 0, 0, 255⟩
  , ⟨0x6031, 4, 8, 0, 0, false, 0, 0, 0xffffffffffffffff⟩
  , ⟨0x6040, 1, 2, 88328, 0, false, 0, 0, 65535⟩
  , ⟨0x6040, 2, 4, 0, 2, false, 0, 0, 4294967295⟩
  , ⟨0x6040, 3, 8, 88328, 0, false, 0, 0, 0xffffffffffffffff⟩
  , ⟨0x6040, 4, 4, 0, 2, false, 0, 0, 4294967295⟩
  , ⟨0x6040, 5, 1, 88328, 0, false, 0, 0, 255⟩
  , ⟨0x6050, 1, 16, 4096, 0, false, 0, 0, 0⟩
  , ⟨0x6050, 2, 8, 0, 0, false, 0, 0, 0xffffffffffffffff⟩
  , ⟨0x6050, 3, 8, 0, 1, false, 0, 0, 0xffffffffffffffff⟩
  , ⟨0x6050, 4, 8, 0, 0, false, 0, 0, 0xffffffffffffffff⟩ ]

/-- R425. -/
def objs18 : List ObjRow :=
  [ ⟨0x6800, 1, 0, 0, 0, false, 0, 0, 0⟩
  , ⟨0x6800, 2, 2, 0, 0, false, 0, 0, 65535⟩
  , ⟨0x6800, 3, 2, 0, 0, false, 0, 0, 65535⟩
  , ⟨0x6800, 4, 1, 0, 0, false, 0, 0, 255⟩
  , ⟨0x6801, 1, 2, 4096, 0, false, 0, 0, 65535⟩
  , ⟨0x6801, 2, 8, 0, 0, false, 0, 0, 0xffffffffffffffff⟩
  , ⟨0x6801, 3, 8, 0, 0, false, 0, 0, 0xffffffffffffffff⟩
  , ⟨0x6801, 4, 8, 4096, 0, false, 0, 0, 0xffffffffffffffff⟩
  , ⟨0x6802, 1, 2, 0, 2, false, 0, 0, 65535⟩
  , ⟨0x6802, 2, 8, 4096, 0, false, 0, 0, 0xffffffffffffffff⟩
  , ⟨0x6802, 3, 2, 0, 2, false, 0, 0, 65535⟩
  , ⟨0x6802, 4, 2, 0, 1, false, 256, 16, 480⟩
  , ⟨0x6802, 5, 8, 0, 0, false, 0, 0, 0xffffffffffffffff⟩
  , ⟨0x6803, 1, 97, 4, 1, true, 0, 0, 0⟩
  , ⟨0x6810, 1, 65536, 65536, 2, false, 0, 0, 0⟩
  , ⟨0x6810, 2, 1, 0, 0, false, 0, 0, 255⟩
  , ⟨0x6810, 3, 1, 0, 2, false, 0, 0, 1⟩ ]

/-- R455. -/
def objs19 : List ObjRow :=
  [ ⟨0x1000, 1, 5, 0, 0, false, 0, 0, 0xffffffffff⟩
  , ⟨0x1000, 2, 2, 0, 0, false, 0, 0, 65535⟩
  , ⟨0x1000, 3, 4, 0, 0, false, 0, 0, 4294967295⟩
  , ⟨0x1000, 4, 8, 0, 0, false, 0, 0, 0xffffffffffffffff⟩
  , ⟨0x1000, 5, 4, 0, 0, false, 0, 0, 4294967295⟩
  , ⟨0x1100, 1, 1, 0, 0, false, 1, 0, 255⟩
  , ⟨0x1100, 2, 1, 0, 2, false, 0, 0, 255⟩
  , ⟨0x1100, 3, 1, 43, 0, false, 0, 0, 255⟩
  , ⟨0x1100, 4, 1, 0, 0, false, 0, 0, 255⟩
  , ⟨0x1200, 1, 4, 4, 0, false, 0, 0, 4294967295⟩
  , ⟨0x1200, 2, 2, 0, 1, false, 100, 1, 10000⟩
  , ⟨0x1200, 3, 1, 0, 1, false, 1, 1, 60⟩
  , ⟨0x1200, 4, 8, 1280, 0, false, 255, 0, 0xffffffffffffffff⟩
  , ⟨0x1200, 5, 4, 4, 0, false, 0, 0, 4294967295⟩
  , ⟨0x1200, 6, 4, 4, 0, false, 0, 0, 4294967295⟩
  , ⟨0x1200, 7, 8, 0, 0, false, 0, 0, 0xffffffffffffffff⟩
  , ⟨0x1200, 8, 8, 0, 0, false, 0, 0, 0xffffffffffffffff⟩
  , ⟨0x1300, 1, 64, 4096, 0, false, 0, 0, 0⟩
  , ⟨0x1300, 2, 8, 0, 0, false, 0, 0, 0xffffffffffffffff⟩
  , ⟨0x1301, 1, 8, 4, 1, false, 0, 0, 0xffffffffffffffff⟩
  , ⟨0x1301, 2, 2, 4, 1, false, 2046, 0, 65535⟩
  , ⟨0x1301, 3, 8, 4, 0, false, 0, 0, 0xffffffffffffffff⟩
  , ⟨0x1311, 1, 8, 0, 0, false, 0, 0, 0xffffffffffffffff⟩
  , ⟨0x1311, 6, 8, 0, 0, false, 0, 0, 0xffffffffffffffff⟩
  , ⟨0x1F00, 1, 1, 0, 0, false, 0, 0, 255⟩
  , ⟨0x1F00, 2, 1, 0, 1, true, 0, 0, 255⟩
  , ⟨0x1F00, 3, 1, 0, 0, false, 0, 0, 255⟩
  , ⟨0x1F01, 1, 34176, 4, 1, true, 0, 0, 0⟩ ]

/-- R458, R464, R465, R467. -/
def objs20 : List ObjRow :=
  [ ⟨0x2000, 1, 32, 0, 0, false, 0, 0, 0⟩
  , ⟨0x8800, 1, 1, 0, 1, false, 1, 0, 1⟩
  , ⟨0x8800, 2, 1, 0, 1, false, 4, 1, 4⟩
  , ⟨0x8800, 3, 2, 0, 1, false, 24, 1, 168⟩
  , ⟨0x8801, 1, 1, 88328, 0, false, 0, 0, 255⟩
  , ⟨0x8801, 2, 8, 0, 0, false, 0, 0, 0xffffffffffffffff⟩
  , ⟨0x8801, 3, 8, 0, 0, false, 0, 0, 0xffffffffffffffff⟩
  , ⟨0x8801, 4, 8, 0, 0, false, 0, 0, 0xffffffffffffffff⟩
  , ⟨0x8801, 5, 1, 43, 0, false, 0, 0, 255⟩
  , ⟨0x8801, 6, 1, 0, 0, false, 0, 0, 255⟩
  , ⟨0x9000, 1, 24, 1024, 0, false, 0, 0, 0⟩
  , ⟨0x9000, 2, 16, 1024, 1, true, 0, 0, 0⟩
  , ⟨0x9001, 1, 24, 8192, 0, false, 0, 0, 0⟩
  , ⟨0x9002, 1, 24, 64, 0, false, 0, 0, 0⟩
  , ⟨0x9002, 2, 16, 64, 1, true, 0, 0, 0⟩
  , ⟨0x9003, 1, 32, 256, 0, false, 0, 0, 0⟩
  , ⟨0x9003, 2, 8, 0, 0, false, 0, 0, 0xffffffffffffffff⟩
  , ⟨0x9003, 3, 8, 0, 1, false, 0, 0, 0xffffffffffffffff⟩
  , ⟨0x9004, 1, 2, 1088, 1, false, 0, 0, 65535⟩
  , ⟨0xF000, 1, 1, 0, 1, true, 0, 0, 1⟩
  , ⟨0xF000, 2, 1, 0, 0, false, 0, 0, 1⟩ ]

/-- The objects of the block. -/
def objRows : List ObjRow :=
  objs02 ++ objs03 ++ objs04 ++ objs05 ++ objs06 ++ objs07 ++
  objs08 ++ objs09 ++ objs10 ++ objs11 ++ objs12 ++ objs13 ++
  objs14 ++ objs15 ++ objs16 ++ objs17 ++ objs18 ++ objs19 ++ objs20

/-- The index of S00's copy of a per-stack object (R6); every other index itself. -/
def normIx (ix : Nat) : Nat := if 0x2000 ≤ ix && ix < 0x2400 then 0x2000 + ix % 0x20 else ix

/-- The stack whose copy an index names (R458). -/
def stackOfIx (ix : Nat) : Nat := (ix - 0x2000) / 0x20

/-- Index of a per-stack object for a stack (R6). -/
def stackIx (ix st : Nat) : Nat := ix + 0x20 * st

/-- The row of an object. -/
def objRow? (ix sub : Nat) : Option ObjRow := objRows.find? fun r => r.ix == normIx ix && r.sub == sub

/-- Parameters 0 to 28 of R135 and R156 in the default sets (R174; log 17). -/
def timingDefault (set p : Nat) : Nat :=
  match p with
  | 0 => 15 | 1 => 15 | 2 => 30 | 3 => 45 | 4 => 4 | 5 => 6 | 6 => 22 | 7 => 2 | 8 => 3 | 9 => 22
  | 10 => 8 | 11 => 4 | 12 => 16 | 13 => 6 | 14 => 10 | 15 => 2 | 16 => 10 | 17 => 20 | 18 => 30 | 19 => 60
  | 20 => 30 | 21 => 260 | 22 => 400 | 23 => 400 | 24 => 4 | 25 => 8 | 26 => 8
  | 27 => if set = 0 then 1000 else if set = 1 then 800 else if set = 2 then 500 else 250
  | 28 => if set = 0 then 8000 else if set = 1 then 6400 else if set = 2 then 4000 else 2000
  | _ => 0

/-- Bring-up content of the rank-unit map (R80). -/
def rankMapDefault (el : Nat) : Nat :=
  let t := el / 63
  let k := el % 63
  (if k < 16 * t + 15 then k else k + 1) * 4 + t

/-- Default neighbour map of a stack (R211). -/
def neighbourDefault (st : Nat) : Nat :=
  2 ^ (st / 8) + 2 ^ (4 + st / 8) +
    (if st = 3 ∨ st = 4 ∨ st = 19 ∨ st = 20 then 256 else 0) +
    (if st = 11 ∨ st = 12 ∨ st = 27 ∨ st = 28 then 512 else 0)

/-- Defaults other than zero that do not depend on the element: index and sub-index (index x 256 + sub), value. -/
def objPlain : List (Nat × Nat) :=
  [ (0x110001, 1), (0x120002, 100), (0x120003, 1), (0x120004, 255), (0x130102, 2046), (0x200101, 32), (0x200102, 8), (0x200103, 48), (0x200104, 8), (0x200106, 16), (0x200304, 3), (0x200305, 8), (0x200401, 2), (0x200701, 1024), (0x200801, 50), (0x201c01, 2), (0x201c02, 1), (0x300001, 6216), (0x300201, 32), (0x300301, 1000), (0x300303, 4), (0x300401, 25), (0x340101, 64512), (0x340102, 64512), (0x340103, 2097152), (0x340205, 1), (0x400002, 2000), (0x400003, 16), (0x400004, 50), (0x400005, 90) ] ++
  [ (0x400006, 512), (0x400101, 8192), (0x400103, 4), (0x400105, 1024), (0x400201, 4294967295), (0x400401, 255), (0x402005, 256), (0x500004, 10), (0x500007, 1000), (0x500101, 524288), (0x530006, 4294967295), (0x540001, 15), (0x540006, 512), (0x580001, 65535), (0x580003, 1), (0x580101, 6), (0x600101, 12), (0x600102, 1), (0x600202, 32), (0x600203, 100), (0x602002, 65535), (0x603001, 256), (0x680204, 256), (0x700001, 300), (0x700002, 60), (0x700201, 640), (0x700202, 200), (0x701001, 85), (0x701002, 95), (0x701003, 100) ] ++
  [ (0x701004, 105), (0x701005, 3), (0x701006, 1), (0x701303, 16), (0x780101, 1), (0x780104, 1048576000), (0x780105, 1031798784), (0x780106, 100000), (0x780301, 312500000), (0x781001, 1), (0x800102, 60), (0x800301, 100), (0x800303, 24), (0x800304, 8), (0x800305, 20), (0x800306, 64), (0x800307, 10), (0x800308, 3), (0x800401, 15), (0x880001, 1), (0x880002, 4), (0x880003, 24) ]

/-- The value an object holds when neither a profile nor a write has set it (R8). -/
def objDefault (ix sub el : Nat) : Nat :=
  let i := normIx ix
  if i = 0x4001 ∧ sub = 2 then (if el % 4 = 0 then 2048 else if el % 4 = 3 then 1024 else 8192)
  else if i = 0x4001 ∧ sub = 6 then (if el < 36 then 64 else if el = 0x24 then 512 else 0)
  else if i = 0x2010 ∧ sub = 1 then rankMapDefault el
  else if i = 0x2800 ∧ sub = 1 then timingDefault (el / 32) (el % 32)
  else if i = 0x8001 ∧ sub = 1 then 32 + 32 * 256 + 60 * 65536 + (if 36 ≤ el % 38 then 2 * 16777216 else 0)
  else if i = 0x7012 ∧ sub = 1 then neighbourDefault el
  else if i = 0x7012 ∧ sub = 2 then (if el < 2 then 100 else if el = 2 then 75 else 50)
  else if i = 0x3001 ∧ sub = 1 then el
  else if i = 0x6010 ∧ sub = 1 then
    (if el = 0 then 0x04C11DB7 + 0xFFFFFFFF * 2 ^ 64 + 0xFFFFFFFF * 2 ^ 128 + 32 * 2 ^ 192 + 2 ^ 199 + 2 ^ 200 else 0)
  else if i = 0x6030 ∧ sub = 3 then
    (if el % 256 = 60 ∨ el % 256 = 125 ∨ el % 256 = 190 ∨ el % 256 = 255 then 3 else 0)
  else Map.look 0 (i * 256 + sub) objPlain

/-- Key of an object's element. -/
def oKey (ix sub el : Nat) : Nat := (ix * 256 + sub) * 4294967296 + el

/-- The value last accepted (R463). -/
def State.obj (s : State) (ix sub el : Nat) : Nat := Map.look (objDefault ix sub el) (oKey ix sub el) s.objs

/-- The value in force since the last frame boundary. -/
def State.live' (s : State) (ix sub el : Nat) : Nat := Map.look (objDefault ix sub el) (oKey ix sub el) s.live

/-- The value in force one boundary earlier: an input of the call sheets in force (R36). -/
def State.live2' (s : State) (ix sub el : Nat) : Nat := Map.look (objDefault ix sub el) (oKey ix sub el) s.live2

/-- Set an object's element. -/
def State.setObj (s : State) (ix sub el v : Nat) : State :=
  { s with objs := Map.put (objDefault ix sub el) v (oKey ix sub el) s.objs }

/-- Set an object's element and bring it into force at once. -/
def State.setNow (s : State) (ix sub el v : Nat) : State :=
  { s.setObj ix sub el v with live := Map.put (objDefault ix sub el) v (oKey ix sub el) s.live }

/-- Add to a counter. -/
def State.bump (s : State) (ix sub el n : Nat) : State := s.setObj ix sub el (s.obj ix sub el + n)

/-- Add one to a counter. -/
def State.count (s : State) (ix sub : Nat) : State := s.bump ix sub 0 1

/-- Objects of a stack. -/
def State.stObj (s : State) (st ix sub el : Nat) : Nat := s.obj (stackIx ix st) sub el
def State.stLive (s : State) (st ix sub el : Nat) : Nat := s.live' (stackIx ix st) sub el
def State.stSet (s : State) (st ix sub el v : Nat) : State := s.setObj (stackIx ix st) sub el v
def State.stBump (s : State) (st ix sub el n : Nat) : State := s.bump (stackIx ix st) sub el n

/-- The timing set in force on a stack, and a parameter of it (R135, R156). -/
def State.timingSet (s : State) (st : Nat) : Nat := s.stObj st 0x2002 1 0
def State.tParam (s : State) (st p : Nat) : Nat := s.obj 0x2800 1 (s.timingSet st * 32 + p)

/-- Whether compatibility is in force (R495). -/
def State.compat (s : State) : Bool := s.block.compat

end Sys2Proof.Machine
end

