-- ==== Sys2Proof/Machine/Operands.lean ====
section
/-! DEFINITION. Operands.lean: the field maps of the specification, packed and unpacked. -/
namespace Sys2Proof.Machine

/-- The rank of a class among the four codes (R43). -/
def clsCode : Cls → Nat
  | .critical => 0 | .assured => 1 | .bulk => 2 | .upkeep => 3

/-- A class from its code. -/
def clsOf (n : Nat) : Cls := if n = 0 then .critical else if n = 1 then .assured else if n = 2 then .bulk else .upkeep

def BlkState.code : BlkState → Nat
  | .off => 0 | .bringUp => 1 | .service => 2 | .drain => 3 | .test => 4 | .safe => 5

def RspCode.code : RspCode → Nat
  | .done => 0 | .poison => 1 | .refused => 2 | .aborted => 3

def Detail.code : Detail → Nat
  | .none => 0 | .range => 1 | .denied => 2 | .state => 3 | .notReady => 4 | .epoch => 5 | .generation => 6

/-- The operation codes of R44. -/
def ReqOp.code : ReqOp → Nat
  | .read => 0 | .write => 1 | .add => 2 | .swap => 3 | .cas => 4 | .fence => 5 | .post => 6 | .reserved n => n

/-- Operations that carry write data (R48). -/
def ReqOp.needsData : ReqOp → Bool
  | .write | .add | .swap | .cas | .post => true
  | _ => false

def ReqOp.isAtomic : ReqOp → Bool
  | .add | .swap | .cas => true
  | _ => false

/-- Operations that change memory. -/
def ReqOp.writes (o : ReqOp) : Bool := o == .write || o.isAtomic

/-- A region entry in the layout of R73; the key slot is the region ID (R410). -/
def RegionEntry.pack (e : RegionEntry) (id : Nat) : Nat :=
  e.base % 2 ^ 48 + e.size % 2 ^ 22 * 2 ^ 48 + e.mode % 4 * 2 ^ 70 + e.stackMask % 2 ^ 32 * 2 ^ 72 +
    e.extentBase % 2 ^ 16 * 2 ^ 104 + e.tenant % 2 ^ 10 * 2 ^ 120 + id % 2 ^ 12 * 2 ^ 130 +
    e.loft % 4 * 2 ^ 142 + e.version % 2 ^ 8 * 2 ^ 144 + b2n e.live * 2 ^ 152 + e.chunkBase % 2 ^ 21 * 2 ^ 156

/-- The fields a write of a region entry carries (R73). -/
def unpackRegion (w : Nat) : RegionEntry :=
  { base := bits w 47 0, size := bits w 69 48, mode := bits w 71 70, stackMask := bits w 103 72
    extentBase := bits w 119 104, tenant := bits w 129 120, loft := bits w 143 142, version := bits w 151 144
    live := bit w 152, chunkBase := bits w 176 156 }

/-- Fields of an Assured reservation (R124). -/
def resMaster (w : Nat) : Nat := bits w 5 0
def resRegion (w : Nat) : Nat := bits w 19 8
def resSectors (w : Nat) : Nat := bits w 47 24
def resPattern (w : Nat) : Nat := bits w 49 48
def resActive (w : Nat) : Bool := bit w 50

/-- Cost of a pattern in quarter slots per sector (R122). -/
def patternCost4 (p : Nat) : Nat := if p = 0 then 9 else if p = 1 then 12 else 24

/-- Fields of a partition word (R218). -/
def partCache (w : Nat) : Nat := bits w 4 0
def partScratch (w : Nat) : Nat := bits w 9 5
def partEngine (w : Nat) : Nat := bits w 14 10

/-- A physical place of a sector, in the layout of R404. -/
def mkPlace (stack pc sid bank row sector : Nat) : Nat :=
  stack % 32 + pc % 64 * 32 + sid % 4 * 2048 + bank % 16 * 8192 + row % 32768 * 131072 + sector % 16 * 4294967296

def plStack (p : Nat) : Nat := p % 32
def plPc (p : Nat) : Nat := p / 32 % 64
def plSid (p : Nat) : Nat := p / 2048 % 4
def plBank (p : Nat) : Nat := p / 8192 % 16
def plRow (p : Nat) : Nat := p / 131072 % 32768
def plSector (p : Nat) : Nat := p / 4294967296 % 16
/-- The pseudo-channel of a place, block-wide. -/
def plPcNo (p : Nat) : Nat := pcNo (plStack p) (plPc p)
/-- The rank unit of a place: PC x 4 + SID. -/
def plUnit (p : Nat) : Nat := plPc p * 4 + plSid p
/-- The bank of a place within its pseudo-channel: SID x 16 + bank. -/
def plBankNo (p : Nat) : Nat := plSid p * 16 + plBank p
/-- The line of a place: its first sector. -/
def plLine (p : Nat) : Nat := mkPlace (plStack p) (plPc p) (plSid p) (plBank p) (plRow p) (plSector p / 4 * 4)
/-- The row of a place: its sector 0. -/
def plRowPlace (p : Nat) : Nat := mkPlace (plStack p) (plPc p) (plSid p) (plBank p) (plRow p) 0

/-- Fields of a splice entry (R379). -/
def spState (w : Nat) : Nat := bits w 1 0
def spStrikes (w : Nat) : Nat := bits w 3 2
def spPc (w : Nat) : Nat := bits w 9 4
def spBank (w : Nat) : Nat := bits w 13 10
def spRow (w : Nat) : Nat := bits w 28 14
def spSubBank (w : Nat) : Nat := bits w 32 29
def spSubRow (w : Nat) : Nat := bits w 47 33
def spMoved (w : Nat) : Nat := bits w 51 48

/-- A splice entry. -/
def packSplice (state strikes pc bank row subBank subRow moved : Nat) : Nat :=
  state + strikes * 4 + pc * 16 + bank * 1024 + row * 16384 + subBank * 2 ^ 29 + subRow * 2 ^ 33 + moved * 2 ^ 48

/-- Bytes lo to lo + n - 1 of a value. -/
def byteField (w lo n : Nat) : Nat := (w >>> (8 * lo)) % 2 ^ (8 * n)

/-- A sector with `n` bytes from `lo` on replaced. -/
def putBytes (w lo n v : Nat) : Nat :=
  w - byteField w lo n * 2 ^ (8 * lo) + v % 2 ^ (8 * n) * 2 ^ (8 * lo)

/-- A sector merged with the bytes of a mask. -/
def maskMerge (old new : Sector) (mask : Nat) : Sector :=
  BitVec.ofNat 512 ((upTo 64).foldl (fun w i => if bit mask i then putBytes w i 1 (byteField new.toNat i 1) else w) old.toNat)

end Sys2Proof.Machine
end

