-- ==== Sys2Proof/Machine/Places.lean ====
section
/-! DEFINITION. Places.lean: the place of a line (R79, R80, R497), its home place (R405), and the physical place a
request is routed to: migration watermark (R388), splice (R381) and rebuild watermark (R395). -/
namespace Sys2Proof.Machine

/-- Number of lines of a tier: 63 x 2^21 (R79). -/
def tierLines : Nat := 132120576

/-- The XOR fold of R79 over the low 40 bits of q. -/
def hashFold (q : Nat) : Nat := (upTo 8).foldl (fun f i => Nat.xor f ((q >>> (5 * i)) % 32)) 0

/-- The stack of the (s + 1)-th set bit of a mask, counted from bit 0. -/
def nthStack (mask s : Nat) : Nat := (setBits 32 mask).getD s 0

/-- Stack and stack-local line of line l of a region: R79, or R497 in compatibility mode. -/
def lineLoc (compat : Bool) (mode mask extentBase l : Nat) : Nat × Nat :=
  let n := popcount 32 mask
  if mode = 1 then
    if compat then
      let b := l / 16
      (nthStack mask (b % n), extentBase * 8192 + b / n * 16 + l % 16)
    else
      let q := l / n
      (nthStack mask ((l % n + hashFold q) % n), extentBase * 8192 + q)
  else (nthStack mask 0, extentBase * 8192 + l)

/-- The lane scramble of R79. -/
def laneFold (w : Nat) : Nat :=
  Nat.xor (Nat.xor (w % 64) ((w >>> 6) % 64)) (Nat.xor ((w >>> 12) % 64) ((w >>> 18) % 8))

/-- Element of the rank-unit map that a stack-local line goes through, and its rank-unit line w (R79). -/
def lamLane (lam : Nat) : Nat × Nat :=
  let t := lam / tierLines
  let mu := lam % tierLines
  let w := mu / 63
  (t * 63 + (mu % 63 + laneFold w) % 63, w)

/-- Bank of rank-unit line w: bank group x 4 + bank within the group (R79). -/
def bankOf (w : Nat) : Nat :=
  Nat.xor (w % 4) ((w >>> 8) % 4) * 4 + Nat.xor ((w >>> 2) % 4) ((w >>> 10) % 4)

/-- First sector of rank-unit line w of a rank unit (PC x 4 + SID) of a stack (R79). -/
def unitLinePlace (stack unit w : Nat) : Nat :=
  mkPlace stack (unit / 4) (unit % 4) (bankOf w) (w / 64) ((w >>> 4) % 4 * 4)

/-- The rank-unit line of a place: the inverse of `unitLinePlace`. -/
def placeLineNo (p : Nat) : Nat :=
  let row := plRow p
  row * 64 + plSector p / 4 * 16 + Nat.xor (plBank p % 4) ((row >>> 4) % 4) * 4 + Nat.xor (plBank p / 4) ((row >>> 2) % 4)

/-- Place of a stack-local line under a rank-unit map (R79). -/
def lamPlace (rmap : Nat → Nat) (stack lam : Nat) : Nat :=
  let kw := lamLane lam
  unitLinePlace stack (rmap kw.1) kw.2

/-- The entry a region is known by: its current one, or, once it is released, the old one that drains (R92). -/
def RegionSlot.known (sl : RegionSlot) : RegionEntry := if sl.now.live then sl.now else sl.old.getD sl.now

/-- Home place of a sector of a region: bring-up map, stack set and extent base at creation (R405). -/
def State.homePlace (s : State) (region off : Nat) : Nat :=
  let sl := s.slot region
  let sl' := lineLoc s.compat sl.known.mode sl.homeMask sl.homeBase (off / 256)
  lamPlace rankMapDefault sl'.1 sl'.2 + off / 64 % 4 * 4294967296

/-- The rank-unit map in force on a stack. -/
def State.rankMap (s : State) (stack el : Nat) : Nat := s.stObj stack 0x2010 1 el

/-- Place after a running migration: lines below the watermark or pulled ahead lie in the destination (R388, R390). -/
def State.migrated (s : State) (p : Nat) : Nat :=
  match (s.stack (plStack p)).mig with
  | none => p
  | some m =>
    let w := placeLineNo p
    if m.src == plUnit p && (decide (w < m.wm) || m.pulled.contains w) then
      mkPlace (plStack p) (m.dst / 4) (m.dst % 4) (plBank p) (plRow p) (plSector p)
    else p

/-- The splice entry of a row of a stack, by SID quarter (R379). -/
def State.spliceEntry (s : State) (stack pc sid bank row : Nat) : Option Nat :=
  ((upTo 64).map (· + 64 * sid)).find? fun i =>
    let w := s.obj 0x6020 1 (stack * 256 + i)
    spState w != 0 && spPc w == pc && spBank w == bank && spRow w == row

/-- Place after the splice table (R381): a moved line lies at its substitute in the splice host. -/
def State.spliced (s : State) (p : Nat) : Nat :=
  let host := s.obj 0x6020 2 (plStack p)
  if host = 0xFFFF then p
  else
    match s.spliceEntry (plStack p) (plPc p) (plSid p) (plBank p) (plRow p) with
    | none => p
    | some i =>
      let w := s.obj 0x6020 1 (plStack p * 256 + i)
      if spState w == 1 && bit (spMoved w) (plSector p / 4) then
        mkPlace (plStack p) (host / 4) (host % 4) (spSubBank w) (spSubRow w) (plSector p)
      else
        -- a row that is spliced again is served from its former substitute until its line has moved
        match ((s.stack (plStack p)).copies.find? (fun c => c.entry == i)).bind fun c => c.homes.getD (plSector p / 4) none with
        | some (b, r) => mkPlace (plStack p) (host / 4) (host % 4) b r (plSector p)
        | _ => p

/-- The physical place of a mapped place when its destination is fixed (R104). -/
def State.physical (s : State) (p : Nat) : Nat := s.spliced (s.migrated p)

/-- The entry under which a request of a version is placed (R92), with the rebuild watermark (R395). -/
def State.entryFor (s : State) (region version off : Nat) : RegionEntry :=
  let sl := s.slot region
  match sl.rebuildWm, sl.old with
  | some wm, some o => if off / 256 < wm ∨ off / 256 ∈ sl.pulled then sl.now else o
  | _, some o => if sl.now.version = version then sl.now else o
  | _, none => sl.now

/-- Mapped place, before migration and splice, of a sector of a region under an entry. -/
def State.mappedPlace (s : State) (e : RegionEntry) (off : Nat) : Nat :=
  let loc := lineLoc s.compat e.mode e.stackMask e.extentBase (off / 256)
  lamPlace (s.rankMap loc.1) loc.1 loc.2 + off / 64 % 4 * 4294967296

/-- Stack of a sector of a region under an entry. -/
def State.stackOf (s : State) (e : RegionEntry) (off : Nat) : Nat :=
  (lineLoc s.compat e.mode e.stackMask e.extentBase (off / 256)).1

/-- Physical place of a sector of a region for a request of a version. -/
def State.sectorPlace (s : State) (region version off : Nat) : Nat :=
  s.physical (s.mappedPlace (s.entryFor region version off) off)

/-- The stack-local line that a mapped place stands for: lane of the map that names its rank unit, and its line. -/
def State.lamOf (s : State) (stack unit w : Nat) : Option Nat :=
  (firstIdx (fun el => s.rankMap stack el == unit) (upTo 252)).map fun el =>
    el / 63 * tierLines + w * 63 + (el % 63 + 63 - laneFold w % 63) % 63

/-- Region and byte offset of the sector at a stack-local line, under the current entries of the live stack-backed
regions: the extents a region takes on the stack (R76). -/
def State.regionAt (s : State) (stack lam sector : Nat) : Option (Nat × Nat) :=
  s.regions.slots.findSome? fun (id, sl) =>
    let e := sl.now
    if e.live && e.loft != 2 && bit e.stackMask stack then
      let n := popcount 32 e.stackMask
      let lines := if e.mode = 1 then e.size * 8192 / n else e.size * 8192
      let base := e.extentBase * 8192
      if base ≤ lam ∧ lam < base + lines then
        let q := lam - base
        let l :=
          if e.mode = 1 then
            let pos := (firstIdx (· == stack) (setBits 32 e.stackMask)).getD 0
            if s.compat then (q / 16 * n + pos) * 16 + q % 16
            else q * n + (pos + n - hashFold q % n) % n
          else q
        some (id, l * 256 + sector % 4 * 64)
      else none
    else none

/-- Region and offset of the sector that a mapped place holds, when a live region does (R366, R384). -/
def State.placeRegion (s : State) (p : Nat) : Option (Nat × Nat) :=
  match s.lamOf (plStack p) (plUnit p) (placeLineNo p) with
  | none => none
  | some lam => s.regionAt (plStack p) lam (plSector p)

/-- The mapped place whose sector is physically at a place: undoes a splice and a running migration. -/
def State.unphysical (s : State) (p : Nat) : Nat :=
  let host := s.obj 0x6020 2 (plStack p)
  let p1 :=
    if host = plUnit p then
      match (upTo 256).find? (fun i =>
          let w := s.obj 0x6020 1 (plStack p * 256 + i)
          let former := (s.stack (plStack p)).copies.any fun c => c.entry == i && c.homes.getD (plSector p / 4) none == some (plBank p, plRow p)
          spState w == 1 && (if bit (spMoved w) (plSector p / 4)
            then spSubBank w == plBank p && spSubRow w == plRow p else former)) with
      | none => p
      | some i =>
        let w := s.obj 0x6020 1 (plStack p * 256 + i)
        mkPlace (plStack p) (spPc w) (i / 64) (spBank w) (spRow w) (plSector p)
    else p
  match (s.stack (plStack p)).mig with
  | none => p1
  | some m =>
    if m.dst == plUnit p1 && (decide (placeLineNo p1 < m.wm) || m.pulled.contains (placeLineNo p1)) then
      mkPlace (plStack p1) (m.src / 4) (m.src % 4) (plBank p1) (plRow p1) (plSector p1)
    else p1

/-- The chunk index of an offset of a region (R82). -/
def chunkOf (e : RegionEntry) (off : Nat) : Nat := e.chunkBase + off / 2097152

/-- Whether a chunk is WRITTEN, and whether it is FILLING (R82, R83). -/
def State.written (s : State) (c : Nat) : Bool := Map.look false c s.regions.written
def State.fill? (s : State) (c : Nat) : Option Fill := s.regions.fills.find? fun f => f.chunk == c
def State.blank (s : State) (c : Nat) : Bool := !s.written c && (s.fill? c).isNone

/-- Mark a chunk WRITTEN or not. -/
def State.setWritten (s : State) (c : Nat) (w : Bool) : State :=
  s.modRegions fun g => { g with written := Map.put false w c g.written }

/-- The live region that holds a whole extent of block addresses, with its offset (R72). -/
def State.lookup (s : State) (addr bytes : Nat) : Option (Nat × Nat) :=
  s.regions.slots.findSome? fun (id, sl) =>
    if sl.now.live && decide (sl.now.base ≤ addr) && decide (addr + bytes ≤ sl.now.base + sl.now.size * 2097152) then
      some (id, addr - sl.now.base)
    else none

end Sys2Proof.Machine
end

