-- ==== Sys2Proof/Machine/Events.lean ====
section
/-! DEFINITION. Events.lean: the event ring (R442, R443, R512), the answers to management requests (R434, R437) and the
units' generations (R396). -/
namespace Sys2Proof.Machine

/-- Move a session's read index when the ring has overtaken it (R443). -/
def State.overtake (s : State) (n : Nat) : State :=
  let wi := s.obj 0x1300 2 0
  let ri := s.obj 0x1301 1 n
  if (s.session n).isOpen && decide (ri + 4096 < wi) then
    (s.setObj 0x1301 1 n (wi - 4096)).bump 0x1301 3 n (wi - 4096 - ri)
  else s

/-- Log one event (R442): class, code, body, tenant, the session that caused it (255 the block), quiet. -/
def State.logEvent (s : State) (cls code body : Nat) (tenant : Option Nat := none) (session : Nat := 255)
    (quiet : Bool := false) : State :=
  let wi := s.obj 0x1300 2 0
  let r : EventRec :=
    { code, cls, quiet, tenant, session, frame := s.time.frame, time := s.stamp, body }
  let s1 := (s.modMgmt fun m => { m with events := Map.put {} r (wi % 4096) m.events }).setObj 0x1300 2 0 (wi + 1)
  s1.each (upTo 4) State.overtake

/-- The key under which the session that asked for a change is kept until the event of the change is logged (R442, R512): class,
code and item. -/
def askKey (cls code item : Nat) : Nat := cls * 2 ^ 40 + code * 2 ^ 32 + item

/-- The key of the session whose commit is being applied (R448). -/
def commitKey : Nat := 0

/-- Session `n` asks for a change (R442); 0xFF for the block. -/
def State.asks (s : State) (key n : Nat) : State := s.modMgmt fun m => { m with asked := Map.put 255 n key m.asked }

/-- The session that asked for a change (R442). -/
def State.asker (s : State) (key : Nat) : Nat := Map.look 255 key s.mgmt.asked

/-- Log the event of a change with the session that asked for it (R442, R512), which is then forgotten. -/
def State.logAsked (s : State) (cls code item body : Nat) : State :=
  (s.logEvent cls code body none (s.asker (askKey cls code item))).asks (askKey cls code item) 255

/-- An event record in the layout of R442. -/
def EventRec.pack (r : EventRec) : Nat :=
  r.code % 256 + r.cls % 256 * 2 ^ 8 + b2n r.quiet * 2 ^ 16 + b2n r.tenant.isSome * 2 ^ 17 +
    r.tenant.getD 0 % 1024 * 2 ^ 18 + r.session % 256 * 2 ^ 28 + r.frame % 2 ^ 64 * 2 ^ 64 +
    r.time % 2 ^ 80 * 2 ^ 128 + r.body % 2 ^ 256 * 2 ^ 256

/-- Whether a session sees a record (R443): a Tenant session sees its tenant's records only. -/
def Session.sees (x : Session) (r : EventRec) : Bool :=
  if bit x.roles 2 && x.roles % 4 == 0 && !bit x.roles 3 then r.tenant == some x.tenant else true

/-- kv_irq of a session (R66, R443): an unread record that it sees, not quiet, of a class its mask admits. -/
def State.irq (s : State) (n : Nat) : Bool :=
  let x := s.session n
  x.isOpen && s.mgmt.events.any fun (pos, r) =>
    let wi := s.obj 0x1300 2 0
    let ri := s.obj 0x1301 1 n
    -- the write index at which the record at this position of the ring was written
    let ix := if pos < wi % 4096 then wi / 4096 * 4096 + pos else wi / 4096 * 4096 + pos - 4096
    decide (ri ≤ ix) && decide (ix < wi) && !r.quiet && bit (s.obj 0x1301 2 n) r.cls && x.sees r

/-- A response through the mailbox is complete: kv_mb_db_out pulses and the window is free again (R60). -/
def State.mailboxDone (s : State) (rq : Rq) : State :=
  if rq.transport = 1 then (s.emit .doorbell).modMgmt fun m => { m with mbBusy := false } else s

/-- A response on the I3C sideband is pending: an in-band interrupt, where the controller has enabled them (R59). -/
def State.signalPending (s : State) (rq : Rq) : State :=
  if rq.transport = 0 ∧ s.mgmt.i3cAddr.isSome ∧ bit s.mgmt.i3cEvents 0 then s.emit .inBand else s

/-- Answer a Rykin request (R434). -/
def State.answer (s : State) (rq : Rq) (op code : Nat) (data : List (BitVec 8)) : State :=
  let s1 := ((s.signalPending rq).emit (.rykin rq op code data)).mailboxDone rq
  if rq.transport = 1 then s1.modMgmt fun m => { m with mbResponse := some (code, data) } else s1

/-- Refuse a Rykin request that names an object; a class 0x04 refusal is logged and counted (R437). -/
def State.refuse (s : State) (rq : Rq) (op code : Nat) (ix sub el : Nat) : State :=
  let s1 := s.answer rq op code []
  if code / 0x1000000 = 4 then
    let n := match rq.session with | some n => n.val | none => 255
    let x := s.session n
    let t := if bit x.roles 2 && x.roles % 4 == 0 then some x.tenant else none
    (s1.count 0x1311 1).logEvent 0 1 (code + ix * 2 ^ 32 + sub * 2 ^ 48 + el * 2 ^ 64) t n
  else s1

/-- Abort codes (R435). -/
def abRoleRead : Nat := 0x01000001
def abRoleWrite : Nat := 0x01000002
def abTenant : Nat := 0x01000003
def abNoObject : Nat := 0x02000001
def abLength : Nat := 0x02000002
def abElement : Nat := 0x02000003
def abTooLong : Nat := 0x02000004
def abReservedOp : Nat := 0x02000005
def abRange : Nat := 0x03000001
def abInconsistent : Nat := 0x03000002
def abBlockState : Nat := 0x04000001
def abObjState : Nat := 0x04000002
def abTwoVersions : Nat := 0x04000003
def abInUse : Nat := 0x04000004
def abHeld : Nat := 0x05000001
def abNoLock : Nat := 0x05000002
def abBroken : Nat := 0x05000003
def abNoRoom : Nat := 0x06000001
def abLedger : Nat := 0x06000002
def abNotReady : Nat := 0x06000003
def abStaging : Nat := 0x06000004
def abKeyGen : Nat := 0x06000005
def abOutstanding : Nat := 0x06000006
def abSignature : Nat := 0x07000001
def abVersion : Nat := 0x07000002
def abSession : Nat := 0x07000003

/-- Readiness of a domain (R441): 0 testing, 1 ready, 2 quarantined, 3 gated, 4 waking. -/
def State.readiness (s : State) (d : Nat) : Nat := Map.look 0 d s.block.ready
def State.isReady (s : State) (d : Nat) : Bool := s.readiness d == 1

/-- Change a readiness; each change logs an event of class 10 (R441). -/
def State.setReady (s : State) (d v : Nat) : State :=
  let old := s.readiness d
  if old = v then s
  else
    (s.modBlock fun b => { b with ready := Map.put 0 v d b.ready }).logAsked 10 2 d (d + old * 256 + v * 65536)

/-- Unit numbers (R396). -/
def unitPc (st pc : Nat) : Nat := 32 + pcNo st pc
def unitLane (st pc lane : Nat) : Nat := 2080 + pcNo st pc * 38 + lane
def unitRank (st ru : Nat) : Nat := 79904 + st * 256 + ru
def unitRedLane (n : Nat) : Nat := 88096 + n
def unitArray (n : Nat) : Nat := 88160 + n
def unitGather (n : Nat) : Nat := 88164 + n
def unitSelect (n : Nat) : Nat := 88196 + n
def unitFilter (n : Nat) : Nat := 88212 + n
def unitSlice (n : Nat) : Nat := 88228 + n
def unitPort (n : Nat) : Nat := 88292 + n

/-- State of a unit (0x6040.05): 0 in service, 1 fenced, 2 testing, 3 standby. -/
def State.unitState (s : State) (u : Nat) : Nat := s.obj 0x6040 5 u

/-- Raise a unit's generation (R397). -/
def State.raiseGen (s : State) (u : Nat) : State := s.setObj 0x6040 1 u ((s.obj 0x6040 1 u + 1) % 65536)

/-- Fence a unit (R397): its generation rises and it is fenced. -/
def State.fenceUnit (s : State) (u : Nat) : State := (s.raiseGen u).setObj 0x6040 5 u 1

/-- Whether an engine unit is under a self-test slice, which holds its new work (R480). -/
def State.underTest (s : State) (u : Nat) : Bool := s.test.slices.any fun x => x.kind == 2 && x.unit == u

/-- The tenant of a region that is live. -/
def State.regionTenant (s : State) (r : Nat) : Option Nat :=
  if (s.slot r).now.live then some (s.slot r).now.tenant else none

/-- Thermal level in force at a stack's arbiter (R207). -/
def State.level (s : State) (st : Nat) : Nat := (s.stack st).levelArb

end Sys2Proof.Machine
end

