-- ==== Sys2Proof/Machine/Counting.lean ====
section
/-! DEFINITION. Counting.lean: the programmable counters (R485 to R491): an event is counted by every counter whose
configuration in force names it and whose filters match the transaction, and a crossing takes a sample. -/
namespace Sys2Proof.Machine

/-- What the filters and a sample see of a transaction (R485, R492). -/
structure Txn where
  /-- Class code. -/
  cls : Nat := 0
  /-- Master ID. -/
  master : Nat := 0
  /-- The port whose miss a Loft fetch serves (R12). -/
  also : Option Nat := none
  /-- 0 port, 1 Operator session, 2 Tenant session, 3 the block itself. -/
  role : Nat := 3
  /-- Regions named. -/
  regions : List Nat := []
  /-- First and last 2 MiB chunk of block address space of each extent named. -/
  spans : List (Nat × Nat) := []
  /-- Operation code. -/
  op : Nat := 0
  /-- Block address. -/
  addr : Nat := 0
  /-- Stack, pseudo-channel and port tag. -/
  stack : Nat := 0
  pc : Nat := 0
  tag : Nat := 0
deriving DecidableEq, Repr

/-- Whether a configuration counts an event of a transaction (R485). -/
def cfgMatches (w code : Nat) (t : Txn) : Bool :=
  bits w 7 0 == code && code != 0 && (bits w 11 8 == 0 || bit (bits w 11 8) t.cls) &&
    (bits w 15 12 == 0 || bit (bits w 15 12) t.role) && (!bit w 22 || bits w 21 16 == t.master || t.also == some (bits w 21 16)) &&
    (if bits w 24 23 = 1 then t.regions.contains (bits w 36 25)
     else if bits w 24 23 = 2 then
       t.spans.any fun x => decide (bits w 63 37 ≤ x.1) && decide (x.2 < bits w 63 37 + bits w 90 64)
     else true)

/-- A sample record in the layout of R492, its sequence number still zero. -/
def sampleWord (counter skid frame value : Nat) (t : Txn) : Nat :=
  counter + skid * 2 ^ 11 + t.cls % 4 * 2 ^ 18 + t.master % 64 * 2 ^ 20 + t.op % 16 * 2 ^ 26 +
    t.regions.headD 0 % 4096 * 2 ^ 30 + t.addr % 2 ^ 48 * 2 ^ 48 + t.stack % 32 * 2 ^ 96 + t.pc % 64 * 2 ^ 101 +
    t.tag % 2 ^ 14 * 2 ^ 107 + frame % 2 ^ 64 * 2 ^ 128 + value % 2 ^ 48 * 2 ^ 192

/-- The capture register of a counter after a matching transaction (R491): whether it crossed, its value after, and
whether the counter may still sample in this frame; and whether a sample was taken. -/
def capture (c : CapReg) (counter frame v : Nat) (crossed may : Bool) (t : Txn) : CapReg × Bool :=
  if crossed && may then
    match c.held with
    | none => ({ held := some (sampleWord counter 0 frame v t), cross := none }, true)
    | some _ => ({ c with cross := some (v, 0) }, false)
  else
    match c.cross with
    | none => (c, false)
    | some (cv, n) =>
      match c.held with
      | none => if may then ({ held := some (sampleWord counter n frame cv t), cross := none }, true) else ({ c with cross := none }, false)
      | some _ => (if n + 1 < 64 then { c with cross := some (cv, n + 1) } else { c with cross := none }, false)

/-- Add to the value of a counter (R466): saturating at 48 bits, or wrapping at 32 bits with a sticky overflow in
compatibility mode (R496). -/
def counterAdd (compat : Bool) (w n : Nat) : Nat :=
  if compat then
    let v := w % 2 ^ 32 + n
    v % 2 ^ 32 + (if decide (2 ^ 32 ≤ v) || bit w 63 then 2 ^ 63 else 0)
  else min (2 ^ 48 - 1) (w + n)

/-- Count an event on one counter: the objects' index, element, the counter's number (R494). -/
def State.countOn (s : State) (ix el no code n : Nat) (t : Txn) : State :=
  let w := s.live' ix 2 el
  if cfgMatches w code t then
    let old := s.obj ix 1 el
    let v := counterAdd s.compat old n
    let s1 := s.setObj ix 1 el v
    let period := bits w 127 96
    if period = 0 then s1
    else
      let a := old % 2 ^ 48
      let crossed := decide (a / period < (a + n) / period)
      let may := Map.look 0 no s.test.sampledAt != s.time.frame + 1
      let r := capture (Map.look {} no s.test.capture) no s.time.frame (v % 2 ^ 48) crossed may t
      s1.modTest fun x =>
        { x with capture := Map.put {} r.1 no x.capture
                 sampledAt := if r.2 then Map.put 0 (s.time.frame + 1) no x.sampledAt else x.sampledAt }
  else s

/-- Count a stack event (R489). -/
def State.tallyStack (s : State) (st code n : Nat) (t : Txn) : State :=
  s.each (upTo 32) fun s i => s.countOn 0x9000 (st * 32 + i) (st * 32 + i) code n { t with stack := st }

/-- Count a block event (R490). -/
def State.tallyBlock (s : State) (code n : Nat) (t : Txn) : State :=
  s.each (upTo 64) fun s i => s.countOn 0x9002 i (1024 + i) code n t

/-- The transaction of a request. -/
def Req.txn (r : Req) : Txn :=
  { cls := clsCode r.cls, master := r.master, also := r.forPort, role := if r.master < 36 ∨ r.forPort.isSome then 0 else r.role, regions := [r.region]
    spans := [(r.addr / 2097152, r.addr / 2097152)], op := r.op.code, addr := r.addr
    tag := if r.master < 36 then r.tag else 0 }

/-- The transaction of a queue entry. -/
def QEntry.txn (e : QEntry) : Txn :=
  { cls := clsCode e.cls, master := e.master, also := e.forPort, role := e.role, regions := [e.region]
    spans := [(e.addr / 2097152, e.addr / 2097152)], op := e.op.code, addr := e.addr, pc := plPc e.place, tag := e.tag }

/-- The role that work posted by an origin counts under (R485). -/
def Origin.role : Origin → Nat
  | .port _ => 0
  | .session _ operator => if operator then 1 else 2
  | .block => 3

end Sys2Proof.Machine
end

