-- ==== Sys2Proof/Machine/Faults.lean ====
section
/-! DEFINITION. Faults.lean: what the findings of the code lead to: the retirement list (R384, R385), row faults and
strikes (R375 to R383), queued migrations (R386), leaky buckets (R364) and integrity events (R368). -/
namespace Sys2Proof.Machine

/-- Put a page on the retirement list (R384, R385). -/
def State.retirePage (s : State) (region off cause : Nat) : State :=
  let wi := s.obj 0x6050 2 0
  let ri := s.obj 0x6050 3 0
  let page := off / 4096
  let listed := (upTo (wi - ri)).any fun i =>
    let w := s.obj 0x6050 1 ((ri + i) % 4096)
    bits w 11 0 == region && bits w 51 16 == page
  if listed then s
  else if 4096 ≤ wi - ri then
    (s.count 0x6050 4).logEvent 3 5 (region + page * 2 ^ 16 + cause * 2 ^ 52) (s.regionTenant region)
  else
    (s.setObj 0x6050 1 (wi % 4096) (region + cause * 2 ^ 12 + page * 2 ^ 16 + s.time.frame * 2 ^ 64)).setObj 0x6050 2 0 (wi + 1)

/-- Retire the page of a mapped place when it lies in a WRITTEN chunk of a live region. -/
def State.retirePlace (s : State) (mapped cause : Nat) : State :=
  match s.placeRegion mapped with
  | none => s
  | some (r, off) => if s.written (chunkOf (s.slot r).now off) then s.retirePage r off cause else s

/-- State of a rank unit (0x6030.03). -/
def State.rankState (s : State) (st ru : Nat) : Nat := s.obj 0x6030 3 (st * 256 + ru)
def State.setRank (s : State) (st ru v : Nat) : State := s.setObj 0x6030 3 (st * 256 + ru) v

/-- Queue a migration of a rank unit (R386): urgent ones before planned ones, the oldest first; one that is already
queued or running adds nothing, but a planned one that becomes urgent moves up. -/
def State.queueMigration (s : State) (st ru : Nat) (urgent blind : Bool) : State :=
  let k := s.stack st
  let running := match k.mig with | some m => m.src == ru | none => false
  if running then
    if urgent then s.modStack st fun k => { k with mig := k.mig.map fun m => { m with urgent := true, blind := m.blind || blind } } else s
  else
    match k.migQ.find? (·.1 == ru) with
    | some q =>
      if urgent && !q.2.1 then
        let rest := k.migQ.filter (·.1 != ru)
        s.modStack st fun k => { k with migQ := rest.filter (·.2.1) ++ [(ru, true, blind)] ++ rest.filter (!·.2.1) }
      else s.modStack st fun k => { k with migQ := k.migQ.map fun x => if x.1 == ru then (x.1, x.2.1, x.2.2 || blind) else x }
    | none =>
      s.modStack st fun k =>
        { k with migQ := if urgent then k.migQ.filter (·.2.1) ++ [(ru, true, blind)] ++ k.migQ.filter (!·.2.1)
                         else k.migQ ++ [(ru, false, false)] }

/-- A rank unit leaves service for an uncorrectable finding or the command path (R362, R152): an urgent migration,
unless it is DEGRADED; a free spare becomes FAILED (log 20). -/
def State.loseUnit (s : State) (st ru : Nat) (blind : Bool) : State :=
  let v := s.rankState st ru
  let dest := match (s.stack st).mig with | some m => m.dst == ru | none => false
  -- the destination of the running migration: a planned migration behind it (R392)
  if dest then s.queueMigration st ru false blind
  else if v = 0 ∨ v = 1 then s.queueMigration st ru true blind
  else if v = 3 then s.setRank st ru 4
  else s

/-- A free spare (R80, R387): not the destination of the migration that runs. -/
def State.isSpare (s : State) (st ru : Nat) : Bool :=
  s.rankState st ru == 3 && (match (s.stack st).mig with | some m => m.dst != ru | none => true)

/-- The free spare of a stack with the highest number PC x 4 + SID (R380). -/
def State.highSpare (s : State) (st : Nat) : Option Nat :=
  ((upTo 256).filter fun u => s.isSpare st u).getLast?

/-- The free spare with the lowest number, other than the splice host (R387). -/
def State.lowSpare (s : State) (st : Nat) : Option Nat :=
  (upTo 256).find? fun u => s.isSpare st u

/-- Entries of a quarter that are not FREE (R383). -/
def State.quarterUsed (s : State) (st sid : Nat) : List Nat :=
  ((upTo 64).map (· + 64 * sid)).filter fun i => spState (s.obj 0x6020 1 (st * 256 + i)) != 0

/-- Open the splice host when none is open and take the next substitute: bank and row (R380); none after the host is
lost (R393). -/
def State.takeSubstitute (s : State) (st : Nat) : Option (Nat × Nat) × State :=
  let n := s.obj 0x6020 3 st
  let take (s : State) : Option (Nat × Nat) × State := (some (n % 16, n / 16), s.setObj 0x6020 3 st (n + 1))
  if s.obj 0x6020 2 st != 0xFFFF then (if s.rankState st (s.obj 0x6020 2 st) = 5 then take s else (none, s))
  else
    match s.highSpare st with
    | none => (none, s)
    | some u => take ((s.setRank st u 5).setObj 0x6020 2 st u)

/-- Retire the pages of a row's four lines (R382). -/
def State.retireRow (s : State) (st pc sid bank row cause : Nat) : State :=
  s.each (upTo 4) fun s c => s.retirePlace (mkPlace st pc sid bank row (4 * c)) cause

/-- Queue a planned migration of the rank unit of a SID that holds most entries when more than 48 of its quarter are
in use (R383). -/
def State.checkQuarter (s : State) (st sid : Nat) : State :=
  let used := s.quarterUsed st sid
  let k := s.stack st
  let busy := k.migQ.any (·.1 % 4 == sid) || (match k.mig with | some m => m.src % 4 == sid | none => false)
  if used.length > 48 && !busy then
    let held (pc : Nat) := (used.filter fun i => spPc (s.obj 0x6020 1 (st * 256 + i)) == pc).length
    match leastBy (fun pc => 64 - held pc) (upTo 64) with
    | some pc => s.queueMigration st (pc * 4 + sid) false false
    | none => s
  else s

/-- Splice a row again or for the first time: entry i, strikes after, what serves its lines until they move (R382). -/
def State.spliceRow (s : State) (st sid pc bank row i strikes : Nat) (homes : List (Option (Nat × Nat))) : State :=
  match s.takeSubstitute st with
  | (none, s) => s
  | (some (b, r), s) =>
    let s1 := (s.setObj 0x6020 1 (st * 256 + i) (packSplice 1 strikes pc bank row b r 0)).bump 0x6020 4 strikes 1
    (s1.modStack st fun k =>
      { k with copies := (k.copies.filter (·.entry != i)) ++ [{ entry := i, line := 0, homes }] }).checkQuarter st sid

/-- A hard row fault at a place of a stack, as the stack addresses it (R376, R382). -/
def State.rowFault (s : State) (st pc sid bank row : Nat) : State :=
  let ru := pc * 4 + sid
  if s.isSpare st ru then s.setRank st ru 4
  else
    -- the faulty row is a substitute in the host, or a row with or without an entry of its own
    let asSub := (upTo 256).find? fun i =>
      let w := s.obj 0x6020 1 (st * 256 + i)
      s.obj 0x6020 2 st == ru && spState w == 1 && spSubBank w == bank && spSubRow w == row
    match asSub.orElse fun _ => s.spliceEntry st pc sid bank row with
    | some i =>
      let w := s.obj 0x6020 1 (st * 256 + i)
      let sid := i / 64
      let strikes := min 3 (spStrikes w + 1)
      let before := ((s.stack st).copies.find? fun c => c.entry == i).map (·.homes)
      let homes := (upTo 4).map fun l =>
        if spState w == 1 && bit (spMoved w) l then some (spSubBank w, spSubRow w) else (before.getD []).getD l none
      let s1 := s.spliceRow st sid (spPc w) (spBank w) (spRow w) i strikes homes
      if spStrikes w = 1 then s1.retireRow st (spPc w) sid (spBank w) (spRow w) 2
      else if spStrikes w = 2 then s1.queueMigration st (spPc w * 4 + sid) false false
      else s1
    | none =>
      let free := ((upTo 64).map (· + 64 * sid)).find? fun i => spState (s.obj 0x6020 1 (st * 256 + i)) == 0
      let host := if s.obj 0x6020 2 st != 0xFFFF then s.rankState st (s.obj 0x6020 2 st) == 5 else (s.highSpare st).isSome
      match free, host with
      | some i, true => s.spliceRow st sid pc bank row i 1 []
      | _, _ =>
        ((s.retireRow st pc sid bank row 3).queueMigration st ru false false).logEvent 3 4
          (st + pc * 256 + sid * 2 ^ 16 + bank * 2 ^ 20 + row * 2 ^ 24)

/-- What a finding's event needs to know (R368). -/
structure FindInfo where
  /-- 0 demand, 1 patrol, 2 engine or read-modify-write. -/
  source : Nat
  /-- Physical place of the sector. -/
  place : Nat
  /-- Master of the read. -/
  master : Nat
  /-- Positions located or erased. -/
  positions : List Nat
  /-- Symbols located or erased. -/
  symbols : Nat
deriving DecidableEq, Repr

/-- Lanes of some positions as a 38-bit mask. -/
def laneMask (ps : List Nat) : Nat :=
  ((ps.filter (· < 72)).map laneOf).eraseDups.foldl (fun m l => m + 2 ^ l) 0

/-- The body of an integrity event (R368). -/
def State.findBody (s : State) (finding : Nat) (i : FindInfo) : Nat :=
  let reg := s.placeRegion (s.unphysical i.place)
  let (m, r, o) := match reg with | some (r, o) => (1, r, o) | none => (0, 0, 0)
  finding + i.source * 2 ^ 3 + plStack i.place * 2 ^ 5 + plPc i.place * 2 ^ 10 + plSid i.place * 2 ^ 16 +
    plBank i.place * 2 ^ 18 + plRow i.place * 2 ^ 22 + plSector i.place * 2 ^ 37 + m * 2 ^ 41 + i.master * 2 ^ 42 +
    r * 2 ^ 48 + min 7 i.symbols * 2 ^ 60 + o * 2 ^ 64 + laneMask i.positions * 2 ^ 112 + s.time.frame * 2 ^ 192

/-- Log an integrity event (R368, R512). -/
def State.integrityEvent (s : State) (finding : Nat) (i : FindInfo) (quiet : Bool) : State :=
  let t := (s.placeRegion (s.unphysical i.place)).bind fun x => s.regionTenant x.1
  s.logEvent 2 finding (s.findBody finding i) t 255 quiet

/-- One addition to a pseudo-channel's leaky bucket (R364). -/
def State.bucketAdd (s : State) (i : FindInfo) : State :=
  let p := plPcNo i.place
  let v := s.obj 0x6002 1 p
  if v + 1 > s.live' 0x6002 2 0 then
    ((s.setObj 0x6002 1 p 0).bump 0x6002 4 p 1).integrityEvent 6 i false
  else s.setObj 0x6002 1 p (v + 1)

/-- Report the located positions of a finding by lane (R363, R189). -/
def State.reportLanes (s : State) (p : Nat) (located : List Nat) : State :=
  s.each ((located.filter (· < 72)).map laneOf) fun s lane =>
    s.modPc p fun c => { c with lanes := Map.upd {} lane (fun l => { l with located := l.located + 1 }) c.lanes }

/-- Lanes of a pseudo-channel marked suspect or marked for repair (R187, R193). -/
def State.watchedLanes (s : State) (p : Nat) : List Nat :=
  ((s.pc p).lanes.filter fun (_, l) => l.marked || l.suspect).map (·.1)

/-- Lanes marked for repair (R359). -/
def State.markedLanes (s : State) (p : Nat) : List Nat :=
  ((s.pc p).lanes.filter fun (_, l) => l.marked).map (·.1)

/-- Frames of the patrol interval in hours (R365). -/
def hoursFrames (h : Nat) : Nat := h * 3600 * 1000000

/-- Remember a correctable finding and raise a row fault when an earlier finding of the same sector, rewritten since
and within the same patrol interval, shares a located position (R375). -/
def State.noteFinding (s : State) (place : Nat) (located : List Nat) : State :=
  let st := plStack place
  let p := plPcNo place
  let watched := s.watchedLanes p
  if located.all fun q => 72 ≤ q || watched.contains (laneOf q) then s
  else
    let k := s.stack st
    let limit := hoursFrames k.patrolFor
    let hit := k.recents.any fun f =>
      f.place == place && f.rewritten && decide (s.time.frame < f.frame + limit) && f.symbols.any fun q => located.contains q
    let s1 := s.modStack st fun k =>
      let f : RecentFinding := { place, symbols := located, rewritten := false, frame := s.time.frame }
      { k with recents := (k.recents ++ [f]).drop (k.recents.length + 1 - 64) }
    if hit then s1.rowFault st (plPc place) (plSid place) (plBank place) (plRow place) else s1

/-- Mark the remembered findings of a sector as rewritten (R375). -/
def State.noteRewrite (s : State) (place : Nat) : State :=
  s.modStack (plStack place) fun k =>
    { k with recents := k.recents.map fun f => if f.place == place then { f with rewritten := true } else f }

/-- A parity event of a pseudo-channel (R151, R361): counted, and true when the events of this reel now exceed their
limit (R152). -/
def State.parityEvent (s : State) (p : Nat) : State × Bool :=
  let st := p / 64
  let s1 := (s.stBump st 0x2003 1 (p % 64) 1).modPc p fun c => { c with parityReel := c.parityReel + 1 }
  (s1, decide ((s1.pc p).parityReel > s1.stLive st 0x2003 5 0))

/-- Quarantine a pseudo-channel at the next frame boundary (R152, R180, R184). -/
def State.quarantine (s : State) (p : Nat) : State :=
  s.modStack (p / 64) fun k => if k.fenceNext.contains (p % 64) then k else { k with fenceNext := k.fenceNext ++ [p % 64] }

/-- A lane FAILED (R180, R393): the pseudo-channel's data stays readable, so it is evacuated, each of its rank units in
service migrated as urgent, in SID order. -/
def State.evacuatePc (s : State) (p : Nat) : State :=
  let st := p / 64
  if s.obj 0x6031 1 p != 0 then s
  else
    let s1 := (s.setObj 0x6031 1 p 1).modStack st fun k => { k with evacuate := k.evacuate ++ [p % 64] }
    s1.each (upTo 4) fun s sid =>
      let ru := p % 64 * 4 + sid
      if s.rankState st ru = 0 ∨ s.rankState st ru = 1 then s.queueMigration st ru true false else s

/-- Take the entries of SIDs out of a queue (R104): reads are arbitrated anew; the writes that are visible and not yet in the
stack are the answer. -/
def State.takeOut (s : State) (p : Nat) (sids : Nat → Bool) : List QEntry × State :=
  let l := (s.pc p).queue.filter fun e => sids (plSid e.place)
  let owed := l.filter fun e => e.kind != .read && (match e.stage with | .writing _ => false | _ => true)
  let reads := (l.filter fun e => e.kind == .read).map (·.req)
  let s1 := s.modPc p fun x =>
    { x with
      queue := x.queue.filter fun e => !sids (plSid e.place)
      inflight := x.inflight.filter fun f => !sids (plSid f.place) }
  (owed.map fun e => { e with stage := .waiting }, s1.each reads.eraseDups fun s id => s.modReq id fun r => { r with phase := .arb })

/-- Entries of a rank unit that left service for its command path (R152, R390): the visible writes are held for the
destination, and reads are arbitrated anew. -/
def State.holdUnit (s : State) (p sid : Nat) : State :=
  let x := s.takeOut p fun n => n == sid
  x.2.modStack (p / 64) fun k => { k with heldWrites := k.heldWrites ++ x.1 }

/-- An unrecoverable command-path error (R152): the rank unit leaves service when every faulty command addressed one
SID; otherwise, and on a DEGRADED rank unit (R387), the pseudo-channel is quarantined. -/
def State.unrecoverable (s : State) (p : Nat) (sids : List Nat) : State :=
  let s1 := s.stBump (p / 64) 0x2003 3 (p % 64) 1
  match sids.eraseDups with
  | [sid] =>
    let ru := p % 64 * 4 + sid
    let v := s1.rankState (p / 64) ru
    if v = 6 then s1.quarantine p
    else if v = 0 ∨ v = 1 then (s1.loseUnit (p / 64) ru true).holdUnit p sid
    else s1.loseUnit (p / 64) ru true
  | _ => s1.quarantine p

end Sys2Proof.Machine
end

