-- ==== Sys2Proof/Machine/Memory.lean ====
section
/-! DEFINITION. Memory.lean: the stored sectors (R355 to R357, R403 to R406), what a read of one finds and settles (R359
to R364), and what a write leaves (R102, R145, R362). -/
namespace Sys2Proof.Machine

/-- What a place that nothing has written reads as: zeros of the bring-up fill under the fill key (R407, R472). -/
def fillSector (p : Nat) : StoredSector := { tweak := p }

/-- The sector stored at a place. -/
def State.dramAt (s : State) (p : Nat) : StoredSector := Map.look (fillSector p) p s.dram

/-- Store a sector at a place: the one operation that changes the stacks. -/
def State.dramPut (s : State) (p : Nat) (v : StoredSector) : State := { s with dram := Map.put (fillSector p) v p s.dram }

/-- The canonical form of the stacks' contents. -/
def Memory.wf (m : Map StoredSector) : Bool := Map.wf fillSector m

/-- Encipher a sector of a region under its current key, tweaked by its home place (R404 to R406). -/
def State.seal (s : State) (region home : Nat) (plain : Sector) (poison : Bool) : StoredSector :=
  let k := (s.slot region).cur.getD {}
  { key := k.handle, tweak := home, plain, epoch := k.epoch, poison }

/-- What a sector deciphers to under a key and tweak (R403). -/
def openWith (k : KeyRec) (home : Nat) (c : StoredSector) : Sector :=
  if k.handle = c.key ∧ home = c.tweak then c.plain else Config.garbled k.handle home c.key c.tweak c.plain

/-- The key of an epoch that a region still holds (R406). -/
def State.keyOf (s : State) (region epoch : Nat) : Option KeyRec :=
  let sl := s.slot region
  (sl.cur.toList ++ sl.prev.toList).find? fun k => k.epoch == epoch

/-- The plaintext of a stored sector, as a merge or an overlay sees it. -/
def State.plainOf (s : State) (region home : Nat) (c : StoredSector) : Sector :=
  match s.keyOf region c.epoch with
  | some k => openWith k home c
  | none => c.plain

/-- Replace the 16 B blocks whose ciphertext a wrong decode changed by free values (R360, R403). -/
def State.damage (s : State) (d : Sector) (residual : List (Nat × Nat)) : Sector × State :=
  let blocks := (residual.filter fun e => 8 ≤ e.1 && e.1 < 72).map fun e => (e.1 - 8) / 16
  match blocks with
  | [] => (d, s)
  | _ =>
    let v := s.takeFree
    let mask := blocks.eraseDups.foldl (fun m b => m + 65535 * 2 ^ (16 * b)) 0
    (maskMerge d (BitVec.ofNat 512 v.1) mask, v.2)

/-- What a rewrite of the sector as decoded stores (R363, R366): the correction may have left wrong symbols in it. -/
def State.bake (s : State) (c : StoredSector) (residual : List (Nat × Nat)) : StoredSector × State :=
  match residual with
  | [] => (c, s)
  | _ =>
    let x := ((residual.find? (·.1 == 7)).map (·.2)).getD 0
    let d := s.damage c.plain residual
    ({ c with plain := d.1, poison := c.poison != bit x 0, epoch := Nat.xor c.epoch (x / 2 % 16) }, d.2)

/-- The transaction that the integrity counts see (R489). -/
def State.findTxn (s : State) (place master : Nat) : Txn :=
  let base : Txn := { master, cls := 3, role := if master < 36 then 0 else 3, stack := plStack place, pc := plPc place }
  match s.placeRegion (s.unphysical place) with
  | some (r, o) =>
    let a := (s.slot r).known.base + o
    { base with regions := [r], addr := a, spans := [(a / 2097152, a / 2097152)] }
  | none => base

/-- Open a sector whose decode left `residual` wrong symbols (R360, R406): POISON when its poison bit reads as set, or
when its key epoch is neither of the region's; else its plaintext. -/
def State.openSector (s : State) (info : FindInfo) (region home : Nat) (c : StoredSector) (residual : List (Nat × Nat)) :
    SectorRsp × State :=
  let x := ((residual.find? (·.1 == 7)).map (·.2)).getD 0
  let byte := Nat.xor (b2n c.poison + c.epoch * 2) x
  if byte % 2 = 1 then ({ poison := true }, s)
  else
    match s.keyOf region (byte / 2 % 16) with
    | none => ({ poison := true }, (s.count 0x6802 5).integrityEvent 4 info false)
    | some k =>
      let r := s.damage (openWith k home c) residual
      ({ poison := false, data := r.1 }, r.2)

/-- One atomic operation on a 64-bit word (R44): the new word. -/
def atomicNew (op : ReqOp) (old operand cmp : BitVec 64) : BitVec 64 :=
  match op with
  | .add => old + operand
  | .swap => operand
  | .cas => if old = cmp then operand else old
  | _ => old

/-- The 64-bit word of a sector. -/
def wordOf (d : Sector) (i : Nat) : BitVec 64 := BitVec.ofNat 64 (byteField d.toNat (8 * i) 8)

/-- A sector with one 64-bit word replaced. -/
def setWord (d : Sector) (i : Nat) (w : BitVec 64) : Sector := BitVec.ofNat 512 (putBytes d.toNat (8 * i) 8 w.toNat)

/-- A sector after a queue entry's merge or operation (R145): the bytes of a partial write, the word of an atomic. -/
def QEntry.merged (e : QEntry) (old : Sector) : Sector :=
  match e.kind with
  | .partialWrite => maskMerge old e.data e.mask.toNat
  | .atomic => setWord old e.half (atomicNew e.op (wordOf old e.half) (wordOf e.data e.half) e.cmp)
  | .write => e.data
  | .read => old

/-- What a queue entry leaves in its sector (R145, R146). -/
def State.effect (s : State) (e : QEntry) (c : StoredSector) : StoredSector :=
  match e.kind with
  | .read => c
  | .write => s.seal e.region e.tweak e.data e.poison
  | .partialWrite => s.seal e.region e.tweak (e.merged (s.plainOf e.region e.tweak c)) (e.poison || c.poison)
  | .atomic => if c.poison then c else s.seal e.region e.tweak (e.merged (s.plainOf e.region e.tweak c)) false

/-- An entry whose write has not been issued to the stack. -/
def QEntry.isOwed (e : QEntry) : Bool :=
  e.kind != .read && (match e.stage with | .writing _ => false | _ => true)

/-- The writes that a pseudo-channel holds for a place, in queue order (R102). -/
def State.owed (s : State) (place : Nat) : List QEntry :=
  (s.pc (plPcNo place)).queue.filter fun e => e.isOwed && e.place == place

/-- A sector with every write that is visible and not yet issued applied to it (R102). -/
def State.coherent (s : State) (place : Nat) : StoredSector :=
  (s.owed place).foldl (fun c e => s.effect e c) (s.dramAt place)

/-- Whether an engine's write to a sector waits for writes queued before it (R100). -/
def State.sectorBusy (s : State) (place : Nat) : Bool := !(s.owed place).isEmpty

/-- A write to a sector reaches its point of visibility: corrective rewrites of it are dropped (R363). -/
def State.dropRewrites (s : State) (place : Nat) : State :=
  s.modStack (plStack place) fun k => { k with rewrites := k.rewrites.filter fun r => r.place != place }

/-- How a read of one sector came out: readable with the wrong symbols left, or uncorrectable (persistent address
error or not). -/
inductive LookOut where
  | good (residual : List (Nat × Nat))
  | bad (persistent : Bool)
deriving DecidableEq, Repr

/-- The erased positions of a read at a place (R359). -/
def State.erased (s : State) (place : Nat) : List Nat := erasures (s.markedLanes (plPcNo place))

/-- Decode a read of a place that met some error symbols (R359). -/
def State.decode (s : State) (place : Nat) (errs : List (Nat × Nat)) : Decoded := k72Decode errs (s.erased place)

/-- A finding's description for its events (R368). -/
def State.info (s : State) (source master place : Nat) (d : Decoded) : FindInfo :=
  { source, place, master, symbols := d.symbols, positions := d.located ++ s.erased place }

/-- Settle a clean or correctable finding (R360, R363, R364, R375). `patrol`: the rewrite is made in the same step. -/
def State.settleGood (s : State) (source master place : Nat) (d : Decoded) : State :=
  let p := plPcNo place
  let st := plStack place
  let sub := if d.finding = .dataCorrectable then 1 else 2
  if d.finding = .dataCorrectable ∨ d.finding = .checkCorrectable then
    let s0 := s.tallyStack st 0x12 1 (s.findTxn place master)
    let s1 := ((s0.bump 0x6000 sub p 1).bucketAdd (s.info source master place d)).reportLanes p d.located
    let s2 := s1.noteFinding place d.located
    if source = 1 then
      let b := s2.bake (s2.dramAt place) d.residual
      ((b.2.dramPut place b.1).count 0x6000 7).noteRewrite place
    else
      s2.modStack st fun k =>
        if k.rewrites.length < 256 then { k with rewrites := k.rewrites ++ [{ place, residual := d.residual }] } else k
  else s

/-- A first finding that asks for a second look (R361): 1 address error, 2 uncorrectable, 0 none. -/
def Decoded.second (d : Decoded) : Nat :=
  if d.finding = .addressError then 1 else if d.finding = .uncorrectable then 2 else 0

/-- Settle a second look (R361): what it decides, and the counts; a transient address error is a parity event. Either recovery
adds to the bucket (R364; DEDUCED, log 79). -/
def State.settleSecond (s : State) (source master place first : Nat) (d : Decoded) : LookOut × State :=
  let p := plPcNo place
  if d.finding = .addressError then (.bad true, (s.bump 0x6000 3 (p * 2 + 1) 1).bump 0x6000 4 p 1)
  else if d.finding = .uncorrectable then (.bad false, s.bump 0x6000 4 p 1)
  else
    let s1 := s.settleGood source master place d
    let s2 := s1.bucketAdd (s1.info source master place d)
    if first = 1 then
      let r := (s2.bump 0x6000 3 (p * 2) 1).parityEvent p
      (.good d.residual, if r.2 then r.1.unrecoverable p [plSid place] else r.1)
    else (.good d.residual, s2.bump 0x6000 5 p 1)

/-- An engine's or patrol's read of one sector, second look included. -/
def State.lookAt (s : State) (source master place : Nat) (first second : List (Nat × Nat)) : LookOut × State :=
  let d := s.decode place first
  if d.second = 0 then (.good d.residual, s.settleGood source master place d)
  else s.settleSecond source master place d.second (s.decode place second)

/-- Steps 2 to 5 of R362 after a read found a sector uncorrectable: it is rewritten poisoned, logged, its page listed
under a cause, and its rank unit leaves service. -/
def State.settleBad (s : State) (source master place : Nat) (persistent : Bool) (cause : Nat := 0) (quiet : Bool := false) : State :=
  let i : FindInfo := { source, place, master, positions := s.erased place, symbols := (s.erased place).length }
  let s0 := s.tallyStack (plStack place) 0x12 1 (s.findTxn place master)
  let s1 := s0.dramPut place { s0.dramAt place with poison := true }
  let s2 := s1.integrityEvent (if persistent then 3 else 4) i quiet
  (s2.retirePlace (s.unphysical place) cause).loseUnit (plStack place) (plUnit place) false

/-- Error symbols that the n-th read of a step met. -/
def errsOf (l : List (Nat × Nat × Nat)) (n : Nat) : List (Nat × Nat) := (l.filter fun x => x.1 == n).map (·.2)

/-- A live engine read of a place of a region: source 2, with the entries still owed applied to what it finds. -/
def State.engineRead (s : State) (master region home place n : Nat) (e : ReadErrs) : SectorRsp × State :=
  let c := s.coherent place
  let r := s.lookAt 2 master place (errsOf e.first n) (errsOf e.second n)
  let i : FindInfo := { source := 2, place, master, positions := [], symbols := 0 }
  match r.1 with
  | .good residual => r.2.openSector i region home c residual
  | .bad p =>
    -- the sector held queued writes on top: the read answers what follows them
    ({ poison := true }, r.2.settleBad 2 master place p)

/-- A copy of a sector for a splice, migration or rebuild (R381, R389): the stored sector with its ciphertext and
metadata kept, poisoned when it is uncorrectable: none when it was readable, else whether the address error persisted. -/
def State.copyRead (s : State) (master place n : Nat) (e : ReadErrs) : StoredSector × Option Bool × State :=
  let c := s.coherent place
  let r := s.lookAt 2 master place (errsOf e.first n) (errsOf e.second n)
  match r.1 with
  | .good residual => let b := r.2.bake c residual; (b.1, none, b.2)
  | .bad p => ({ c with poison := true }, some p, r.2)

end Sys2Proof.Machine
end

