-- ==== Sys2Proof/Machine/Access.lean ====
section
/-! DEFINITION. Access.lean: where the bytes of a region are found: lost lines (R236, R393 to R395), the Loft's lines,
buffers and scratch places (R217 to R226), and chunk fills (R83 to R87). -/
namespace Sys2Proof.Machine

/-- A cache line number: block address / 256 (R220). -/
def State.lineNo (s : State) (region off : Nat) : Nat := ((s.slot region).known.base + off) / 256

/-- The slice-map entry of a line (R220). -/
def sliceEntry (a : Nat) : Nat := (upTo 7).foldl (fun g i => Nat.xor g ((a >>> (6 * i)) % 64)) 0

/-- The set of a line within its slice (R220). -/
def loftSet (a : Nat) : Nat := Nat.xor (a >>> 6) (a >>> 19) % 8192

/-- The slice a line is placed on (R221). -/
def State.loftSlice (s : State) (a : Nat) : Nat := s.obj 0x3001 1 (sliceEntry a)

/-- Key of a line's storage: slice, set, way. -/
def lineKey (slice set way : Nat) : Nat := (slice * 8192 + set) * 16 + way

/-- The present line of a region's line number, with its key: wherever a slice still holds it (R220, R235). -/
def State.findLine (s : State) (region a : Nat) : Option (Nat × LoftLine) :=
  s.loft.lines.find? fun (_, l) => l.region == region && l.a == a && (l.valid != 0 || l.busy)

/-- The newest write-back buffer that holds a dirty sector of a line (R223). -/
def State.findWb (s : State) (region a sector : Nat) : Option WriteBack :=
  (s.loft.wbs.filter fun w => w.region == region && w.a == a && w.dirty.getLsbD sector).getLast?

def State.modLine (s : State) (key : Nat) (f : LoftLine → LoftLine) : State :=
  s.modLoft fun l => { l with lines := Map.upd {} key f l.lines }

/-- Sector `i` of 256 B. -/
def sectorOf (d : BitVec 2048) (i : Nat) : Sector := BitVec.ofNat 512 (d.toNat >>> (512 * i))

/-- 256 B with a sector replaced. -/
def setSector (d : BitVec 2048) (i : Nat) (v : Sector) : BitVec 2048 :=
  BitVec.ofNat 2048 (d.toNat - d.toNat / 2 ^ (512 * i) % 2 ^ 512 * 2 ^ (512 * i) + v.toNat * 2 ^ (512 * i))

def setBit4 (b : BitVec 4) (i : Nat) (v : Bool) : BitVec 4 :=
  if v then b ||| BitVec.ofNat 4 (2 ^ i) else b &&& ~~~ (BitVec.ofNat 4 (2 ^ i))

/-- Whether a region's policy lets a miss under a version allocate: the version's policy and the one in force are cache, and
some slice is eligible (R221, R225). -/
def State.caches (s : State) (region version : Nat) : Bool :=
  let sl := s.slot region
  let e := match sl.old with | some o => if sl.now.version = version then sl.now else o | none => sl.now
  e.loft == 1 && sl.now.live && sl.now.loft == 1 && (upTo 64).any fun i =>
    s.obj 0x3005 1 i == 0 && decide (partCache (s.obj 0x3000 1 (i / 16)) > 0) && s.isReady (32 + i / 16)

/-- Key of a scratch line: the chunk's place, and its line in the chunk (R226). -/
def State.scratchKey (s : State) (chunk line : Nat) : Option Nat :=
  (s.loft.places.find? fun (_, c) => c == some chunk).map fun x => x.1 * 8192 + line

/-- Slice of a scratch line. -/
def scratchSlice (key : Nat) : Nat := key / 8192 / 256 * 16 + key % 16

/-- A sector of scratch. -/
def State.scratchRead (s : State) (chunk line sector : Nat) : SectorRsp :=
  match s.scratchKey chunk line with
  | none => {}
  | some k =>
    if s.loft.lostLines.contains k then { poison := true }
    else
      let l := Map.look {} k s.loft.scratch
      if l.poison.getLsbD sector then { poison := true } else { data := sectorOf l.data sector }

/-- Write bytes of a scratch sector; a whole-sector write clears its poison (R222, R226). -/
def State.scratchWrite (s : State) (chunk line sector : Nat) (data : Sector) (mask : Nat) (poison : Bool) : State :=
  match s.scratchKey chunk line with
  | none => s
  | some k =>
    if s.loft.lostLines.contains k then s
    else
      s.modLoft fun l => { l with scratch := Map.upd {} k (fun x =>
        { poison := setBit4 x.poison sector (poison || (x.poison.getLsbD sector && mask != 2 ^ 64 - 1))
          data := setSector x.data sector (maskMerge (sectorOf x.data sector) data mask) }) l.scratch }

/-- Element of the rank-unit map and rank-unit line of a region's line (R79). -/
def State.elLine (s : State) (e : RegionEntry) (off : Nat) : Nat × Nat × Nat :=
  let loc := lineLoc s.compat e.mode e.stackMask e.extentBase (off / 256)
  let kw := lamLane loc.2
  (loc.1, kw.1, kw.2)

/-- Whether line `w` of a map element is lost with this unit, and not rewritten (R393). -/
def LostUnit.holds (u : LostUnit) (el w : Nat) : Bool :=
  u.el == el && (u.dst.isNone || (decide (u.next ≤ w) && decide (w < u.last) && !u.done.contains w))

/-- The lost rank unit that a line lies in, while it is not rewritten (R393). -/
def State.lostUnit? (s : State) (e : RegionEntry) (off : Nat) : Option LostUnit :=
  let (st, el, w) := s.elLine e off
  (s.stack st).lostUnits.find? fun u => u.holds el w

/-- A line whose cached copy was lost with a slice's tags (R236). -/
def State.lostCached (s : State) (region off : Nat) : Bool :=
  let a := s.lineNo region off
  (s.slot region).lostG.any fun g =>
    g.entries.contains (sliceEntry a) && decide (g.next ≤ off / 256) && !g.done.contains (off / 256)

/-- During a rebuild: a line not below the watermark whose old place was on a stack out of service (R395). -/
def State.lostRebuild (s : State) (region off : Nat) : Bool :=
  let sl := s.slot region
  match sl.rebuildWm, sl.old with
  | some wm, some o => decide (wm ≤ off / 256) && !sl.pulled.contains (off / 256) && s.obj 0x6031 2 (s.stackOf o off) != 0
  | _, _ => false

/-- Whether reads of a sector answer POISON because its data is lost (R236, R393 to R395). -/
def State.lostRead (s : State) (region version off : Nat) : Bool :=
  (s.slot region).lost || (s.lostUnit? (s.entryFor region version off) off).isSome || s.lostCached region off ||
    s.lostRebuild region off

/-- Whether writes to a sector are refused with STATE for lost data without a destination (R393, R394). -/
def State.lostWrite (s : State) (region version off : Nat) : Bool :=
  (s.slot region).lost ||
    (match s.lostUnit? (s.entryFor region version off) off with | some u => u.dst.isNone | none => false)

/-- Rewrite the four sectors of a region's line poisoned at their place. -/
def State.poisonLine (s : State) (region version off : Nat) : State :=
  s.each (upTo 4) fun s i =>
    let o := off / 256 * 256 + i * 64
    s.dramPut (s.sectorPlace region version o) (s.seal region (s.homePlace region o) 0 true)

/-- Before a write reaches a lost line that has a place: the line is rewritten poisoned there and is lost no longer
(R236, R390, R393). -/
def State.claimLine (s : State) (region version off : Nat) : State :=
  let e := s.entryFor region version off
  let s1 :=
    match s.lostUnit? e off with
    | some u =>
      if u.dst.isSome then
        let (st, _, w) := s.elLine e off
        (s.poisonLine region version off).modStack st fun k =>
          { k with lostUnits := k.lostUnits.map fun x => if x == u then { x with done := x.done ++ [w] } else x }
      else s
    | none => s
  if s1.lostCached region off then
    (s1.poisonLine region version off).modSlot region fun sl =>
      { sl with lostG := sl.lostG.map fun g => { g with done := g.done ++ [off / 256] } }
  else s1

/-- Allowance in flight on a stack (R86). -/
def State.allowance (s : State) (st : Nat) : Nat :=
  (s.regions.fills.filter fun f => f.taken && bit f.stackMask st).foldl (fun n f => n + f.share) 0

/-- Bytes of allowance a fill of a chunk of an entry takes on each stack (R86). -/
def fillShare (e : RegionEntry) : Nat :=
  if e.loft = 2 then 0 else if e.mode = 1 then 2097152 / popcount 32 e.stackMask else 2097152

/-- The stacks a fill of an entry's chunk spans. -/
def fillStacks (e : RegionEntry) : Nat := if e.loft = 2 then 0 else e.stackMask

/-- Whether every stack has room for a fill's allowance (R86). -/
def State.fillRoom (s : State) (e : RegionEntry) : Bool :=
  (setBits 32 (fillStacks e)).all fun st => decide (s.allowance st + fillShare e ≤ 2097152)

/-- Whether a priority fill may start: a table entry not held for the background fill, room of allowance, and no stack
at T3 or T4 or not ready (R83, R86, R475). -/
def State.canFill (s : State) (e : RegionEntry) : Bool :=
  decide ((s.regions.fills.filter (·.prio)).length < 96) && decide (s.regions.fills.length < 128) && s.fillRoom e &&
    (setBits 32 (fillStacks e)).all fun st => decide (s.level st < 3) && s.isReady st

/-- Start a priority fill of a BLANK chunk (R85). -/
def State.startFill (s : State) (region chunk : Nat) (e : RegionEntry) : State :=
  let f : Fill := { chunk, region, prio := true, taken := true, stackMask := fillStacks e, share := fillShare e
                    started := s.time.frame, raised := false, span := fillStacks e }
  (s.count 0x3402 2).modRegions fun g => { g with fills := g.fills ++ [f] }

/-- A request accepted to a chunk under background fill raises that fill (R83). -/
def State.raiseFill (s : State) (chunk : Nat) : State :=
  s.modRegions fun g => { g with fills := g.fills.map fun f =>
    if f.chunk == chunk && !f.prio then { f with raised := true } else f }

/-- Write every sector of a chunk with encrypted zeros under the region's key (R85), or zero its scratch place (R226). -/
def State.fillChunk (s : State) (region chunk : Nat) : State :=
  let sl := s.slot region
  -- a region that is being released is filled under its old version (R92)
  let e := if sl.now.live then sl.now else sl.old.getD sl.now
  let first := (chunk - e.chunkBase) * 2097152
  if e.loft = 2 then
    s.modLoft fun l => { l with scratch := l.scratch.filter fun (k, _) => s.loft.places.all fun (p, c) => c != some chunk || k / 8192 != p }
  else
    s.each (upTo 32768) fun s i =>
      let off := first + i * 64
      s.dramPut (s.sectorPlace region e.version off) (s.seal region (s.homePlace region off) 0 false)

/-- A fill ends: its chunk becomes WRITTEN and its entry is freed (R85). -/
def State.endFill (s : State) (f : Fill) : State :=
  let s1 := (s.fillChunk f.region f.chunk).setWritten f.chunk true
  s1.modRegions fun g => { g with fills := g.fills.filter fun x => x.chunk != f.chunk }

/-- Whether a stack can serve an engine's access of a class now; where a port would be answered NOT_READY, or the class
is halted, an engine waits (R206, R514). -/
def State.stackServes (s : State) (st : Nat) (c : Cls) : Bool :=
  let v := s.level st
  s.isReady st && (s.stack st).power == .service && decide (v < 4) && (decide (v < 3) || c == .critical) &&
    (decide (v < 2) || c != .bulk)

/-- A mapped place whose rank unit left service for its command path, before its line is in the destination (R390). -/
def State.blindAt (s : State) (p : Nat) : Bool :=
  let w := placeLineNo p
  ((s.stack (plStack p)).migQ.any fun x => x.1 == plUnit p && x.2.2) ||
    (match (s.stack (plStack p)).mig with
     | some m => m.blind && m.src == plUnit p && decide (m.wm ≤ w) && !m.pulled.contains w
     | none => false)

end Sys2Proof.Machine
end

