-- ==== Sys2Proof/Machine/Formats.lean ====
section
/-! DEFINITION. Formats.lean: the number formats (R256, R257), exact values, rounding and overflow (R258 to R260), and
binary32 and paired arithmetic (R272 to R274, R308). -/
namespace Sys2Proof.Machine

/-- An exact value: NaN, an infinity, or a signed magnitude num / den with den > 0 (a zero keeps its sign). -/
inductive Val where
  | nan
  | inf (neg : Bool)
  | fin (neg : Bool) (num den : Nat)
deriving DecidableEq, Repr

/-- A floating-point element format: mantissa bits, least normal exponent, largest finite code, infinity and NaN codes,
element bits. -/
structure Fmt where
  man : Nat
  emin : Int
  maxCode : Nat
  infCode : Option Nat
  nanCode : Option Nat
  width : Nat
deriving DecidableEq, Repr

def fp32 : Fmt := ⟨23, -126, 0x7F7FFFFF, some 0x7F800000, some 0x7FC00000, 32⟩
def fp16 : Fmt := ⟨10, -14, 0x7BFF, some 0x7C00, some 0x7E00, 16⟩
def bf16 : Fmt := ⟨7, -126, 0x7F7F, some 0x7F80, some 0x7FC0, 16⟩
def e4m3 : Fmt := ⟨3, -6, 0x7E, none, some 0x7F, 8⟩
def e5m2 : Fmt := ⟨2, -14, 0x7B, some 0x7C, some 0x7E, 8⟩
def e3m2 : Fmt := ⟨2, -2, 0x1F, none, none, 6⟩
def e2m3 : Fmt := ⟨3, 0, 0x1F, none, none, 6⟩
def e2m1 : Fmt := ⟨1, 0, 0x7, none, none, 4⟩

/-- The element format of a format code (R256), none for RAW, integers and PAIR. -/
def fmtOf (code : Nat) : Option Fmt :=
  match code with
  | 1 => some fp32 | 2 => some fp16 | 3 => some bf16 | 4 => some e4m3 | 5 => some e5m2
  | 6 => some e4m3 | 7 => some e5m2 | 8 => some e3m2 | 9 => some e2m3 | 10 => some e2m1
  | _ => none

/-- The MX formats (R256). -/
def isMx (code : Nat) : Bool := decide (6 ≤ code) && decide (code ≤ 11)

/-- Element bits of a format (R256). -/
def elemBits (code : Nat) : Nat :=
  match code with
  | 1 => 32 | 2 => 16 | 3 => 16 | 8 => 6 | 9 => 6 | 10 => 4 | 13 => 32 | 14 => 64 | _ => 8

/-- Bytes of d elements (R256, R257). -/
def byteLen (code d : Nat) : Nat := d * elemBits code / 8 + (if isMx code then d / 32 else 0)

/-- 2^i as a fraction. -/
def pow2 (i : Int) : Nat × Nat := if 0 ≤ i then (2 ^ i.toNat, 1) else (1, 2 ^ (-i).toNat)

/-- floor(log2(num / den)) of a non-zero magnitude. -/
def ilog2 (num den : Nat) : Int :=
  let e : Int := (Nat.log2 num : Int) - (Nat.log2 den : Int)
  let p := pow2 e
  if num * p.2 < den * p.1 then e - 1 else e

/-- A magnitude in units of 2^q, rounded to nearest with ties to even, and with ties away. -/
def roundUnits (num den : Nat) (q : Int) : Nat × Nat :=
  let p := pow2 q
  let n := num * p.2
  let d := den * p.1
  let k := n / d
  let r := n % d
  let up := if 2 * r ≥ d then k + 1 else k
  (if 2 * r > d ∨ (2 * r = d ∧ k % 2 = 1) then k + 1 else k, up)

/-- The magnitude code of a finite value in a format, or none when it rounds above the largest finite (R258, R259). -/
def Fmt.encodeMag (f : Fmt) (num den : Nat) : Option Nat :=
  if num = 0 then some 0
  else
    let e := max (ilog2 num den) f.emin
    let k := roundUnits num den (e - f.man)
    let base := (e - f.emin).toNat * 2 ^ f.man
    if base + k.2 > f.maxCode then none else some (base + k.1)

/-- The value of a magnitude code. -/
def Fmt.magOf (f : Fmt) (code : Nat) : Nat × Nat :=
  let e := code / 2 ^ f.man
  let m := code % 2 ^ f.man
  let k := if e = 0 then m else 2 ^ f.man + m
  let p := pow2 (f.emin + ((if e = 0 then 0 else e - 1 : Nat) : Int) - f.man)
  (k * p.1, p.2)

/-- Read an element. -/
def Fmt.decode (f : Fmt) (code : Nat) : Val :=
  let neg := bit code (f.width - 1)
  let mag := code % 2 ^ (f.width - 1)
  if f.infCode == some mag then .inf neg
  else if f.maxCode < mag && f.nanCode.isSome then .nan
  else let x := f.magOf mag; .fin neg x.1 x.2

/-- An element written, with the counts of saturations and NaN replacements it makes (R259). -/
structure Out where
  code : Nat := 0
  sat : Nat := 0
  nan : Nat := 0
deriving DecidableEq, Repr

/-- Sign bit of a format. -/
def Fmt.sign (f : Fmt) (neg : Bool) : Nat := if neg then 2 ^ (f.width - 1) else 0

/-- Write a value in a plain floating-point format (R258, R259). -/
def Fmt.encode (f : Fmt) (sat : Bool) (v : Val) : Out :=
  let beyond (neg : Bool) : Out :=
    if sat then { code := f.sign neg + f.maxCode, sat := 1 }
    else match f.infCode with
      | some c => { code := f.sign neg + c }
      | none => { code := f.sign neg + f.nanCode.getD 0, nan := 1 }
  match v with
  | .nan => { code := f.nanCode.getD 0 }
  | .inf neg => beyond neg
  | .fin neg num den =>
    match f.encodeMag num den with
    | some c => { code := f.sign neg + c }
    | none => beyond neg

/-- Nearest integer of a magnitude, ties to even. -/
def roundNat (num den : Nat) : Nat := (roundUnits num den 0).1

/-- Write a value in a two's-complement integer of w bits (R258, R259). -/
def encodeInt (w : Nat) (v : Val) : Out :=
  let clamp (neg : Bool) : Out := { code := if neg then 2 ^ (w - 1) else 2 ^ (w - 1) - 1, sat := 1 }
  match v with
  | .nan => { nan := 1 }
  | .inf neg => clamp neg
  | .fin neg num den =>
    let k := roundNat num den
    if neg then (if k > 2 ^ (w - 1) then clamp true else { code := ofInt w (-(k : Int)) })
    else if k ≥ 2 ^ (w - 1) then clamp false
    else { code := k }

/-- Negate a value. -/
def Val.neg : Val → Val
  | .nan => .nan
  | .inf n => .inf (!n)
  | .fin n a b => .fin (!n) a b

/-- Exact sum. -/
def Val.add : Val → Val → Val
  | .nan, _ | _, .nan => .nan
  | .inf a, .inf b => if a = b then .inf a else .nan
  | .inf a, _ => .inf a
  | _, .inf b => .inf b
  | .fin n a b, .fin m c d =>
    let x := a * d
    let y := c * b
    if n = m then .fin n (x + y) (b * d)
    else if x = y then .fin false 0 1
    else if x > y then .fin n (x - y) (b * d)
    else .fin m (y - x) (b * d)

/-- Exact product. -/
def Val.mul : Val → Val → Val
  | .nan, _ | _, .nan => .nan
  | .inf a, .inf b => .inf (a != b)
  | .inf a, .fin m c _ => if c = 0 then .nan else .inf (a != m)
  | .fin n a _, .inf b => if a = 0 then .nan else .inf (n != b)
  | .fin n a b, .fin m c d => .fin (n != m) (a * c) (b * d)

/-- Exact quotient by a positive integer. -/
def Val.divNat (v : Val) (n : Nat) : Val :=
  match v with
  | .fin s a b => if n = 0 then .nan else .fin s a (b * n)
  | v => v

/-- An integer as a value. -/
def Val.ofInt (i : Int) : Val := .fin (decide (i < 0)) i.natAbs 1

/-- A value times 2^e. -/
def Val.scale2 (v : Val) (e : Int) : Val :=
  match v with
  | .fin s a b => let p := pow2 e; .fin s (a * p.1) (b * p.2)
  | v => v

/-- A binary32 read and written (IEEE 754, ties to even). -/
def f32 (x : BitVec 32) : Val := fp32.decode x.toNat
def toF32 (v : Val) : BitVec 32 := BitVec.ofNat 32 (fp32.encode false v).code

/-- Binary32 sum and difference. -/
def addF (a b : BitVec 32) : BitVec 32 := toF32 ((f32 a).add (f32 b))
def subF (a b : BitVec 32) : BitVec 32 := toF32 ((f32 a).add (f32 b).neg)

/-- Whether a binary32 is infinite or NaN. -/
def notFinite (x : BitVec 32) : Bool := match f32 x with | .fin .. => false | _ => true

/-- Add a term to a paired accumulator (R273). -/
def Pair.addTerm (p : Pair) (x : BitVec 32) : Pair :=
  let s := addF p.hi x
  let bp := subF s p.hi
  let e := addF (subF p.hi (subF s bp)) (subF x bp)
  let t := addF p.lo e
  let hi := addF s t
  let lo := subF t (subF hi s)
  if notFinite hi || notFinite s then { hi := if notFinite s then s else hi, lo := 0 } else { hi, lo }

/-- The exact value of a pair. -/
def Pair.val (p : Pair) : Val :=
  if notFinite p.hi then f32 p.hi
  else match (f32 p.hi).add (f32 p.lo) with
    | .fin _ 0 _ => f32 p.hi
    | v => v

/-- The nearest pair of a value (R258, R275). -/
def pairOf (v : Val) : Pair :=
  let hi := toF32 v
  if notFinite hi then { hi, lo := 0 } else { hi, lo := toF32 (v.add (f32 hi).neg) }

/-- Write a value as a PAIR (R256, R259). -/
def encodePair (sat : Bool) (v : Val) : Out :=
  let o := fp32.encode sat v
  if o.sat = 1 ∨ notFinite (BitVec.ofNat 32 o.code) then o
  else let p := pairOf v; { code := p.hi.toNat + p.lo.toNat * 2 ^ 32 }

/-- Greater of two binary32 values in the order of R274: negative zero below positive zero; NaN prevails. -/
def maxF (a b : BitVec 32) (least : Bool) : BitVec 32 :=
  match f32 a, f32 b with
  | .nan, _ | _, .nan => 0x7FC00000
  | _, _ =>
    let key (x : BitVec 32) : Int := if x.toNat < 2 ^ 31 then x.toNat else (2 ^ 31 : Nat) - 1 - (x.toNat : Int)
    if least then (if key b < key a then b else a) else (if key a < key b then b else a)

/-- The n-th element code of some bytes. -/
def elemCode (code : Nat) (w i : Nat) : Nat := (w >>> (i * elemBits code)) % 2 ^ elemBits code

/-- The exact value of an element: format, code, block scale byte (R256, R257). -/
def elemVal (code c scale : Nat) : Val :=
  let s : Int := (scale : Int) - 127
  if isMx code then
    if scale = 255 then .nan
    else if code = 11 then (Val.ofInt (toInt 8 c)).scale2 (s - 6)
    else match fmtOf code with | some f => (f.decode c).scale2 s | none => .nan
  else if code = 12 then Val.ofInt (toInt 8 c)
  else if code = 13 then Val.ofInt (toInt 32 c)
  else if code = 14 then Pair.val { hi := BitVec.ofNat 32 c, lo := BitVec.ofNat 32 (c / 2 ^ 32) }
  else match fmtOf code with | some f => f.decode c | none => .fin false c 1

/-- Read d elements from bytes (R256, R257). -/
def readElems (code d : Nat) (bytes : List (BitVec 8)) : List Val :=
  let w := ofLe (bytes.take (d * elemBits code / 8))
  let scales := bytes.drop (d * elemBits code / 8)
  (upTo d).map fun i => elemVal code (elemCode code w i) ((scales.getD (i / 32) 127).toNat)

/-- emax of an MX format (R260). -/
def mxEmax (code : Nat) : Int :=
  match code with | 6 => 8 | 7 => 15 | 8 => 4 | 9 => 2 | 10 => 2 | _ => 0

/-- The larger of two magnitudes. -/
def maxMag (a b : Nat × Nat) : Nat × Nat := if a.1 * b.2 < b.1 * a.2 then b else a

/-- The shared exponent of a block (R260). -/
def mxExp (code : Nat) (vs : List Val) : Int :=
  let m := vs.foldl (fun m v => match v with | .fin _ a b => maxMag m (a, b) | _ => m) (0, 1)
  if m.1 = 0 then -127 else max (-127) (min 127 (ilog2 m.1 m.2 - mxEmax code))

/-- One element of an MX block (R259, R260): saturated to its largest magnitude whatever sat says. -/
def mxElem (code : Nat) (e : Int) (v : Val) : Out :=
  if code = 11 then
    match v with
    | .nan => { nan := 1 }
    | .inf neg => { code := ofInt 8 (if neg then -127 else 127), sat := 1 }
    | .fin neg a b =>
      let p := pow2 (6 - e)
      let k := roundNat (a * p.1) (b * p.2)
      if k > 127 then { code := ofInt 8 (if neg then -127 else 127), sat := 1 }
      else { code := ofInt 8 (if neg then -(k : Int) else k) }
  else
    match fmtOf code with
    | none => {}
    | some f =>
      match v with
      | .nan => if code = 6 ∨ code = 7 then { code := f.nanCode.getD 0 } else { nan := 1 }
      | .inf neg => { code := f.sign neg + f.maxCode, sat := 1 }
      | .fin neg a b =>
        let p := pow2 (-e)
        match f.encodeMag (a * p.1) (b * p.2) with
        | some c => { code := f.sign neg + c }
        | none => { code := f.sign neg + f.maxCode, sat := 1 }

/-- Write one element in a format without blocks (R258, R259). -/
def plainElem (code : Nat) (sat : Bool) (v : Val) : Out :=
  if code = 12 then encodeInt 8 v
  else if code = 13 then encodeInt 32 v
  else if code = 14 then encodePair sat v
  else match fmtOf code with | some f => f.encode sat v | none => {}

/-- Cut a list into blocks of 32, from its length. -/
def blocks32 {A : Type} (l : List A) : List (List A) := (upTo (ceilDiv l.length 32)).map fun i => (l.drop (32 * i)).take 32

/-- Write values in a format: bytes, saturations, NaN replacements (R256 to R260). -/
def writeElems (code : Nat) (sat : Bool) (vs : List Val) : List (BitVec 8) × Nat × Nat :=
  let outs : List Out :=
    if isMx code then (blocks32 vs).flatMap fun b => b.map (mxElem code (mxExp code b)) else vs.map (plainElem code sat)
  let w := (upTo outs.length).foldl (fun n i => n + (outs.getD i {}).code * 2 ^ (i * elemBits code)) 0
  let body := leBytes (outs.length * elemBits code / 8) w
  let scales := if isMx code then (blocks32 vs).map fun b => BitVec.ofNat 8 (mxExp code b + 127).toNat else []
  (body ++ scales, outs.foldl (fun n o => n + o.sat) 0, outs.foldl (fun n o => n + o.nan) 0)

/-- The rank order of score entries (R316): whether A ranks above B. -/
def ranksAbove (ascending : Bool) (a b : BitVec 32 × Nat) : Bool :=
  match f32 a.1, f32 b.1 with
  | .nan, .nan => decide (a.2 < b.2)
  | .nan, _ => false
  | _, .nan => true
  | x, y =>
    let lt (x y : Val) : Bool :=
      match x, y with
      | .inf n, .inf m => n && !m
      | .inf n, _ => n
      | _, .inf m => !m
      | .fin n p q, .fin m r t =>
        let u : Int := (if n then -1 else 1) * (p * t : Nat)
        let v : Int := (if m then -1 else 1) * (r * q : Nat)
        decide (u < v)
      | _, _ => false
    if lt x y then ascending
    else if lt y x then !ascending
    else decide (a.2 < b.2)

/-- Insert an entry into a list kept highest rank first, after equals. -/
def rankInsert (ascending : Bool) (x : BitVec 32 × Nat) : List (BitVec 32 × Nat) → List (BitVec 32 × Nat)
  | [] => [x]
  | y :: l => if ranksAbove ascending x y then x :: y :: l else y :: rankInsert ascending x l

/-- The k highest-ranked entries, without repeats of an item when dedup is set (R319): the list and entries removed by
dedup. -/
def topK (ascending dedup : Bool) (k : Nat) (l : List (BitVec 32 × Nat)) : List (BitVec 32 × Nat) × Nat :=
  let r := l.foldl (fun (acc : List (BitVec 32 × Nat) × Nat) x =>
    let same := acc.1.find? fun y => y.2 == x.2
    match dedup, same with
    | true, some y =>
      if ranksAbove ascending x y then (rankInsert ascending x (acc.1.filter fun z => z != y), acc.2 + 1) else (acc.1, acc.2 + 1)
    | _, _ => (rankInsert ascending x acc.1, acc.2)) ([], 0)
  (r.1.take k, r.2)

end Sys2Proof.Machine
end

