-- ==== Sys2Proof/Machine/Slates.lean ====
section
/-! DEFINITION. Slates.lean: the slate (R239), its kinds (R240), the bodies of shot-table entries (R262, R287, R301,
R322), and per kind what its chapter asks of the fields (R265, R290, R305, R318, R329, R332 to R334, R370), the extents it
touches (R241) and the bytes it puts out. -/
namespace Sys2Proof.Machine

/-- Common fields of a slate (R239). -/
def slShot (w : Nat) : Nat := bits w 15 0
def slEpoch (w : Nat) : Nat := bits w 23 16
def slKind (w : Nat) : Nat := bits w 31 24
def slTenant (w : Nat) : Nat := bits w 41 32
def slClass (w : Nat) : Nat := bits w 43 42
def slProgress (w : Nat) : Bool := bit w 44
def slSat (w : Nat) : Bool := bit w 45
def slOut (w : Nat) : Nat := bits w 47 46
def slBudget (w : Nat) : Nat := bits w 63 48
def slSlack (w : Nat) : Nat := bits w 79 64
def slGroup (w : Nat) : Nat := bits w 103 80
def slIn (w : Nat) : Nat := bits w 111 104
def slOutFmt (w : Nat) : Nat := bits w 119 112
def slJob (w : Nat) : Nat := bits w 127 120
def slSrc (w : Nat) : Nat := bits w 139 128
def slDst (w : Nat) : Nat := bits w 151 140
def slDesc (w : Nat) : Nat := bits w 163 152
def slReply (w : Nat) : Nat := bits w 177 164
def slCount (w : Nat) : Nat := bits w 239 192
def slSize (w : Nat) : Nat := bits w 255 240
def slSrcOff (w : Nat) : Nat := bits w 303 256
def slDstOff (w : Nat) : Nat := bits w 351 304
def slParams (w : Nat) : Nat := bits w 511 352

/-- Kind codes (R240). -/
def kReduce : Nat := 1
def kGather : Nat := 2
def kScore : Nat := 3
def kProject : Nat := 4
def kSelect : Nat := 5
def kFilter : Nat := 6
def kConvert : Nat := 7
def kCopy : Nat := 8
def kScan : Nat := 9
def kFill : Nat := 10

/-- Greatest count, least and greatest size of a kind (R240). -/
def kindRange (k : Nat) : Nat × Nat × Nat :=
  match k with
  | 1 => (4294967296, 1, 4096) | 2 => (65536, 64, 4096) | 3 => (4294967296, 64, 4096) | 4 => (4294967296, 64, 4096)
  | 5 => (512, 1, 4096) | 6 => (4294967296, 8, 8) | 7 => (2 ^ 40, 0, 0) | _ => (2 ^ 48 - 1, 0, 0)

/-- REDUCE parameters (R264). -/
def rdOp (w : Nat) : Nat := bits w 355 352
def rdWindow (w : Nat) : Nat := bits w 383 368
def rdScale (w : Nat) : Nat := bits w 415 384
/-- GATHER parameters (R289). -/
def gaPool (w : Nat) : Nat := bits w 354 352
def gaBags (w : Nat) : Nat := bits w 372 356
def gaConcat (w : Nat) : Nat := bits w 400 384
/-- SCORE and PROJECT parameters (R304). -/
def scQ (w : Nat) : Nat := bits w 359 352
def scPaired (w : Nat) : Bool := bit w 360
def scK (w : Nat) : Nat := bits w 380 368
def scFirst (w : Nat) : Nat := bits w 415 384
/-- SELECT parameters (R317). -/
def seK (w : Nat) : Nat := bits w 364 352
def seAscending (w : Nat) : Bool := bit w 365
def seDedup (w : Nat) : Bool := bit w 366
/-- FILTER parameters (R328). -/
def flOp (w : Nat) : Nat := bits w 353 352
def flResult (w : Nat) : Nat := bits w 355 354
/-- FILL parameters (R334). -/
def fiPattern (w : Nat) : Bool := bit w 352
def fiWord (w : Nat) : Nat := bits w 447 384
/-- SCAN parameters (R370). -/
def snConfig (w : Nat) : Nat := bits w 355 352
def snSeq (w : Nat) : Nat := bits w 447 384

/-- Shot-table entry (R248). -/
def teType (e : Nat) : Nat := bits e 3 0
def teVersion (e : Nat) : Nat := bits e 11 4
def teTenant (e : Nat) : Nat := bits e 21 12

/-- Membership body (R262). -/
def mbRanges (e : Nat) : Nat := bits e 35 32
def mbExcl (e : Nat) : Nat := bits e 39 36
def mbLeaves (e : Nat) : Nat := bits e 68 48
def mbStart (e i : Nat) : Nat := bits e (80 + 19 * i + 8) (80 + 19 * i)
def mbLen (e i : Nat) : Nat := bits e (80 + 19 * i + 18) (80 + 19 * i + 9)
def mbOut (e j : Nat) : Nat := bits e (232 + 9 * j + 8) (232 + 9 * j)

/-- Whether a contributor is a member (R262). -/
def isMember (e c : Nat) : Bool :=
  ((upTo (mbRanges e)).any fun i => decide (mbStart e i ≤ c) && decide (c < mbStart e i + mbLen e i)) &&
    !(upTo (mbExcl e)).any fun j => mbOut e j == c

/-- M, the number of members (R262). -/
def memberCount (e : Nat) : Nat := ((upTo 512).filter (isMember e)).length

/-- Gather-table and candidate-table bodies (R287, R301). -/
def tbRegion (e : Nat) : Nat := bits e 43 32
def tbOffset (e : Nat) : Nat := bits e 95 48
def tbRows (e : Nat) : Nat := bits e 127 96
def tbElems (e : Nat) : Nat := bits e 140 128
def tbDim (e : Nat) : Nat := bits e 138 128
def tbFormat (e : Nat) : Nat := bits e 151 144
def tbScale (e : Nat) : Nat := bits e 153 152
def tbRowScale (e : Nat) : Bool := bit e 152
def tbRowBytes (e : Nat) : Nat := bits e 175 160
def tbIdBase (e : Nat) : Nat := bits e 207 176

/-- Filter-set body (R322). -/
def fsKind (e : Nat) : Nat := bits e 33 32
def fsLog (e : Nat) : Nat := bits e 39 34
def fsHashes (e : Nat) : Nat := bits e 44 40
def fsSeed (e : Nat) : Nat := bits e 111 48
/-- Loft engine units of a set (R322). -/
def fsUnits (e : Nat) : Nat := if fsKind e = 0 then 2 ^ fsLog e / 1024 + 1 else 2 ^ fsLog e / 524288

/-- Round up to a multiple of 64 bytes. -/
def pad64 (n : Nat) : Nat := ceilDiv n 64 * 64

/-- Elements of a REDUCE chunk, none when the size holds no whole number of them (R265). -/
def chunkElems (fmt size : Nat) : Option Nat :=
  if isMx fmt then
    let unit := 4 * elemBits fmt + 1
    if size % unit = 0 then some (size / unit * 32) else none
  else if size * 8 % elemBits fmt = 0 then some (size * 8 / elemBits fmt) else none

/-- Floating-point formats without block scales: FP32, FP16, BF16, E4M3, E5M2. -/
def isFloat (f : Nat) : Bool := decide (1 ≤ f) && decide (f ≤ 5)

/-- The combinations of R266. -/
def reduceCombo (op inF outF : Nat) : Bool :=
  if inF = 12 ∨ inF = 13 then decide (op ≤ 2) && (outF == 12 || outF == 13)
  else if op = 0 then (isFloat inF || isMx inF || inF == 14) && (isFloat outF || isMx outF || outF == 14)
  else if op = 3 then (isFloat inF || (isMx inF && inF != 11) || inF == 14) && (isFloat outF || isMx outF || outF == 14)
  else if op = 1 ∨ op = 2 then (isFloat inF || isMx inF) && (isFloat outF || isMx outF)
  else false

/-- Bags of a GATHER slate (R290). -/
def gaBagCount (w : Nat) : Nat := if gaPool w = 4 then slCount w / max 1 (gaConcat w) else gaBags w
/-- Output elements of a bag (R290). -/
def gaElemsOut (w e : Nat) : Nat := if gaPool w = 4 then gaConcat w * tbElems e else tbElems e
/-- Output stride of a bag (R290). -/
def gaStride (w e : Nat) : Nat := pad64 (byteLen (slOutFmt w) (gaElemsOut w e))

/-- Query stride (R303). -/
def scStride (w e : Nat) : Nat := pad64 (byteLen (slIn w) (tbDim e))
/-- Query operand format of a candidate format (R303), none for a format that is not one. -/
def queryFmt (cand : Nat) : Option Nat :=
  match cand with
  | 3 => some 3 | 2 => some 2 | 12 => some 12 | 11 => some 11
  | 4 | 5 | 6 | 7 | 8 | 9 | 10 => some 6
  | _ => none
/-- Input formats a candidate format accepts (R303). -/
def queryAccepts (cand inF : Nat) : Bool :=
  match cand with
  | 3 | 2 => decide (1 ≤ inF) && decide (inF ≤ 3)
  | 12 => inF == 12
  | 11 => (decide (1 ≤ inF) && decide (inF ≤ 3)) || inF == 11
  | 4 | 5 | 6 | 7 | 8 | 9 | 10 => decide (1 ≤ inF) && decide (inF ≤ 7)
  | _ => false

/-- Stride of a top-k list of k entries (R305, R318). -/
def listStride (k : Nat) : Nat := pad64 (8 * k)

/-- Bytes a kind puts out, checked under R241 for out 1 and out 3, with the table entry its desc names. -/
def outBytes (w e : Nat) : Nat :=
  let k := slKind w
  let n := slCount w
  if k = 2 then gaBagCount w * gaStride w e
  else if k = 3 then (if scK w = 0 then pad64 (n * scQ w * 4) else scQ w * listStride (scK w))
  else if k = 4 then n * pad64 (byteLen (slOutFmt w) (scQ w))
  else if k = 5 then listStride (seK w)
  else if k = 6 then (if flResult w = 0 then ceilDiv n 512 * 64 else 64 + pad64 (8 * n))
  else if k = 7 then byteLen (slOutFmt w) n
  else if k = 8 ∨ k = 10 then n
  else 64

/-- Bytes a kind reads at src_offset. -/
def srcBytes (w e : Nat) : Nat :=
  let k := slKind w
  let n := slCount w
  if k = 2 then n * 8 + gaBags w * 4
  else if k = 3 ∨ k = 4 then scQ w * scStride w e
  else if k = 5 then n * listStride (slSize w)
  else if k = 6 then n * 8
  else if k = 7 then byteLen (slIn w) n
  else if k = 8 ∨ k = 9 then n
  else 0

/-- Whether a kind reads a source region, and whether a slate writes a destination region. -/
def usesSrc (w : Nat) : Bool := decide (2 ≤ slKind w) && decide (slKind w ≤ 9)
def usesDst (w : Nat) : Bool :=
  let k := slKind w
  k == 7 || k == 8 || k == 10 || (slOut w == 1 && decide (2 ≤ k) && decide (k ≤ 6))

/-- The type of entry a kind's desc names, none when the kind has no desc. -/
def descType (k : Nat) : Option Nat :=
  match k with
  | 1 => some 1 | 2 => some 2 | 3 => some 4 | 4 => some 4 | 6 => some 3 | _ => none

/-- The entry that a slate's desc names now. -/
def State.descOf (s : State) (w : Nat) : Nat := (s.tslot (slDesc w)).now.toNat

/-- Extents of a slate in the regions it names: region, offset, bytes (R241). -/
def slExtents (w e : Nat) : List (Nat × Nat × Nat) :=
  (if usesSrc w then [(slSrc w, slSrcOff w, srcBytes w e)] else []) ++
    (if usesDst w then [(slDst w, slDstOff w, outBytes w e)] else [])

/-- The extent of a table that desc names (R290, R305). -/
def tableExtent (e : Nat) : Nat × Nat × Nat := (tbRegion e, tbOffset e, tbRows e * tbRowBytes e)

/-- Regions a slate names (R243), and with the region of its desc entry (R313). -/
def slRegions (w : Nat) : List Nat :=
  ((if usesSrc w then [slSrc w] else []) ++ (if usesDst w then [slDst w] else [])).eraseDups
def slRegionsAll (w e : Nat) : List Nat :=
  (slRegions w ++ (if slKind w = 2 ∨ slKind w = 3 ∨ slKind w = 4 then [tbRegion e] else [])).eraseDups

/-- Whether a non-live region, or one that holds the whole extent. -/
def State.extentFits (s : State) (x : Nat × Nat × Nat) : Bool :=
  let en := (s.slot x.1).now
  !en.live || decide (x.2.1 + x.2.2 ≤ en.size * 2097152)

/-- Two extents overlap. -/
def overlaps (a la b lb : Nat) : Bool := decide (a < b + lb) && decide (b < a + la) && decide (0 < la) && decide (0 < lb)

/-- What a kind's chapter asks of the fields that stand in the slate alone (check 4 of R243). -/
def kindFields (w scanCfg : Nat) : Bool :=
  let k := slKind w
  let noFmt := slIn w == 0 && slOutFmt w == 0
  let p := slParams w
  let al (n : Nat) (x : Nat) : Bool := decide (x % n = 0)
  match k with
  | 1 =>
    let d := chunkElems (slIn w) (slSize w)
    d.isSome && (!isMx (slOutFmt w) || al 32 (d.getD 0)) && reduceCombo (rdOp w) (slIn w) (slOutFmt w) && slOut w == 2 &&
      slGroup w != 0 && slProgress w && slClass w == 0 && slSrc w == 0 && slSrcOff w == 0 &&
      decide (1 ≤ rdWindow w) && decide (rdWindow w ≤ 4096) && (rdOp w == 3 || rdScale w == 0)
  | 2 =>
    decide (gaPool w ≤ 4) && slClass w == 0 && (slOut w == 1 || slOut w == 3) && al 8 (slSrcOff w) && al 64 (slDstOff w) &&
      (if gaPool w = 4 then gaBags w == 0 && decide (1 ≤ gaConcat w) && decide (gaConcat w ≤ 65536) && al (max 1 (gaConcat w)) (slCount w)
       else gaConcat w == 0 && decide (1 ≤ gaBags w) && decide (gaBags w ≤ 65536)) &&
      (isFloat (slOutFmt w) || slOutFmt w == 14 || isMx (slOutFmt w) || (slOutFmt w == 12 && gaPool w == 4))
  | 3 =>
    slOutFmt w == 1 && (slOut w == 1 || slOut w == 3 || (slOut w == 2 && decide (1 ≤ scK w))) && decide (1 ≤ scQ w) &&
      decide (scQ w ≤ 128) && decide (scK w ≤ 4096) && al 64 (slSrcOff w) && al 64 (slDstOff w)
  | 4 =>
    (isFloat (slOutFmt w) || slOutFmt w == 14 || (isMx (slOutFmt w) && al 32 (scQ w))) && (slOut w == 1 || slOut w == 3) &&
      decide (1 ≤ scQ w) && decide (scQ w ≤ 128) && scK w == 0 && al 64 (slSrcOff w) && al 64 (slDstOff w)
  | 5 =>
    slIn w == 1 && slOutFmt w == 1 && slOut w != 0 && decide (1 ≤ seK w) && decide (seK w ≤ 4096) && al 64 (slSrcOff w) &&
      al 64 (slDstOff w) && slDesc w == 0
  | 6 =>
    noFmt && (slOut w == 1 || slOut w == 3 || (slOut w == 0 && flOp w != 0)) && decide (flOp w ≤ 2) && decide (flResult w ≤ 2) &&
      al 8 (slSrcOff w) && al 64 (slDstOff w)
  | 7 =>
    decide (1 ≤ slIn w) && decide (slIn w ≤ 14) && decide (1 ≤ slOutFmt w) && decide (slOutFmt w ≤ 14) &&
      (!(isMx (slIn w) || isMx (slOutFmt w)) || al 32 (slCount w)) && al 64 (slSrcOff w) && al 64 (slDstOff w) && p == 0 &&
      slDesc w == 0 && decide (slOut w ≤ 1) &&
      !(slSrc w == slDst w && overlaps (slSrcOff w) (srcBytes w 0) (slDstOff w) (outBytes w 0))
  | 8 => noFmt && slClass w == 3 && p == 0 && slDesc w == 0 && decide (slOut w ≤ 1)
  | 9 =>
    noFmt && slClass w == 3 && slDesc w == 0 && (slOut w == 0 || slOut w == 3) && bits scanCfg 198 192 != 0 &&
      (bits scanCfg 202 201 == 0 || (al 64 (slSrcOff w) && al 64 (slCount w))) && (bits scanCfg 202 201 == 2 || snSeq w == 0)
  | 10 =>
    noFmt && slClass w == 3 && slDesc w == 0 && decide (slOut w ≤ 1) && slSrc w == 0 && slSrcOff w == 0 &&
      bits w 383 353 == 0 && bits w 511 448 == 0 && (fiPattern w || fiWord w == 0)
  | _ => false

/-- What depends on the desc entry among a slate's output formats (R290): checked at 4 when the entry is of the kind's
type. -/
def descFields (w e : Nat) : Bool :=
  match slKind w with
  | 2 => (!isMx (slOutFmt w) || decide (gaElemsOut w e % 32 = 0)) && (slOutFmt w != 12 || (tbFormat e == 12 && tbScale e == 0))
  | _ => true

/-- Check 4 of R243 (R241): count and size first, then the fields, then the extents. -/
def State.check4 (s : State) (w : Nat) (fromPort : Bool) : Bool :=
  let k := slKind w
  let (mc, lo, hi) := kindRange k
  let e := s.descOf w
  let typed := match descType k with | some t => teType e == t | none => true
  -- an extent that the desc entry has no part in is checked whatever that entry is (R290, R305, R329)
  let srcFits := !usesSrc w || (!typed && (k == 3 || k == 4)) || s.extentFits (slSrc w, slSrcOff w, srcBytes w e)
  let dstFits := !usesDst w || (!typed && k == 2) || s.extentFits (slDst w, slDstOff w, outBytes w e)
  let replyFits := slOut w != 3 || k == 9 || (!typed && k == 2) || decide (outBytes w e ≤ (if k = 5 then 32768 else 65536))
  decide (slCount w ≤ mc) && decide (lo ≤ slSize w) && decide (slSize w ≤ hi) && decide (1 ≤ slBudget w) &&
    kindFields w (s.obj 0x6010 1 (snConfig w)) && (slOut w != 3 || fromPort) && (slOut w != 2 || slGroup w != 0) &&
    (slOut w == 3 || slReply w == 0) && (usesDst w || (slDst w == 0 && slDstOff w == 0)) &&
    (slSat w == false || k == 1 || k == 2 || k == 3 || k == 4 || k == 5 || k == 7) && (!typed || descFields w e) && srcFits && dstFits && replyFits

/-- Check 7 of R243: the desc entry is in use, of the kind's type, and agrees with the slate. -/
def State.check7 (s : State) (w : Nat) : Bool :=
  let k := slKind w
  let e := s.descOf w
  match descType k with
  | none => true
  | some t =>
    teType e == t &&
      (match k with
        | 2 => slSize w == tbRowBytes e && slIn w == tbFormat e && (s.slot (tbRegion e)).now.live && s.extentFits (tableExtent e)
        | 3 | 4 =>
          slSize w == tbRowBytes e && queryAccepts (tbFormat e) (slIn w) && decide (scFirst w + slCount w ≤ tbRows e) &&
            (s.slot (tbRegion e)).now.live && s.extentFits (tableExtent e)
        | 6 => !(Map.look {} (slDesc w) s.shot.sets).damaged
        | _ => true)

/-- Positions of the largest reply a slate allows, with the table entry its desc names (R246). -/
def replyPositions (w e : Nat) : Nat := if slCount w = 0 ∨ slKind w = 9 then 1 else outBytes w e / 64

end Sys2Proof.Machine
end

