-- ==== Sys2Proof/Machine/Ports.lean ====
section
/-! DEFINITION. Ports.lean: the requester ports (03, 05): acceptance and its checks (R44 to R47, R513), write data (R48,
R49), the hold buffers and caps (R109, R498), age (R107), the watchdog (R118) and the release of responses (R96, R103). -/
namespace Sys2Proof.Machine

/-- Requests of a port, in issue order. -/
def State.portReqs (s : State) (p : Nat) : List Req := s.reqs.filter fun r => r.master == p && r.dest == .port

/-- Requests of a class that a port's hold buffer holds (R46). -/
def State.holds (s : State) (p : Nat) (c : Cls) : Nat :=
  ((s.portReqs p).filter fun r => r.cls == c && r.phase == .held && !r.reserved).length

/-- Slots that a port has accepted in the engine cycle in progress; the ninth slot opens a new cycle (R43, log 141). -/
def PortState.cycleSlots (q : PortState) : Map Nat := if 8 ≤ q.slots.foldl (fun n x => n + x.2) 0 then [] else q.slots

/-- Whether a class's ready is high at a port (R46, R468): at the start of the cycle 8 of the 64 entries of its hold buffer
were free. -/
def State.portReady (s : State) (p : Nat) (c : Cls) : Bool :=
  s.block.boot == .up && decide (s.holds p c - Map.look 0 (clsCode c) (s.port p).cycleSlots ≤ 56) && decide (s.holds p c < 64)

/-- Bytes of a request's extent: the size field of a READ or WRITE, 8 for an atomic, 64 for a POST (R44). -/
def reqBytes (op : ReqOp) (size : Nat) : Nat :=
  match op with
  | .read | .write => 32 * 2 ^ size
  | .add | .swap | .cas => 8
  | .post => 64
  | _ => 0

/-- Write-data positions a request needs (R48). -/
def dataPositions (op : ReqOp) (bytes : Nat) : Nat := if op == .write then ceilDiv bytes 64 else 1

/-- Sectors a request counts for the caps (R109). -/
def Req.sectors (r : Req) : Nat :=
  if r.op == .fence then 0 else if r.op == .post then max 1 r.rsp.length else if r.op == .read || r.op == .write then ceilDiv r.bytes 64 else 1

/-- Whether a tag is outstanding on a port (R47, R243): a request's, or the reply tag of a posted shot. -/
def State.tagOut (s : State) (p tag : Nat) : Bool :=
  ((s.portReqs p).any fun r => r.tag == tag) ||
    (s.shot.shots.any fun x => x.origin == .port p && slOut x.slate.toNat == 3 && slReply x.slate.toNat == tag) ||
    s.shot.lists.any fun (_, l) => l.any fun x =>
      x.origin == .port p && slOut x.slate.toNat == 3 && slReply x.slate.toNat == tag

/-- The record of a slot at acceptance. -/
def State.newReq (s : State) (op : ReqOp) (r : PortReq) : Req :=
  let p := r.port.val
  { id := s.nextReq, master := p, op, bytes := reqBytes op r.size.toNat, addr := r.addr.toNat, cls := r.cls
    stream := r.stream.toNat, ordered := bit (s.live' 0x4002 1 (p * 128 + r.stream.toNat / 32)) (r.stream.toNat % 32)
    tag := r.tag.toNat, tenant := r.tenant.toNat, bornNs := s.frameNs, waitSince := s.time.frame }

/-- Take a request into the tracker (R101), and note the slot it takes of its cycle (R46) and the write data it waits for
(R48). -/
def State.pushReq (s : State) (r : Req) : State :=
  let s1 := { s with reqs := s.reqs ++ [r], nextReq := s.nextReq + 1 }
  s1.modPort r.master fun q =>
    { q with
      slots := if r.reserved then q.cycleSlots else Map.upd 0 (clsCode r.cls) (· + 1) q.cycleSlots
      due := if r.op.needsData then q.due ++ [{ req := r.id, n := dataPositions r.op r.bytes }] else q.due }

/-- A request goes on to its next place, where it waits from now on; the wait of one that lacks its write data goes on
(R118). -/
def Req.moves (r : Req) (frame : Nat) (ph : Phase) : Req :=
  { r with phase := ph, waitSince := if r.op.needsData && r.data.isNone then r.waitSince else frame }

/-- A sector leaves its write-back buffer; with the last one the buffer is free, and the write-back is counted (R223,
R238). -/
def State.wbSector (s : State) (slice region a i : Nat) : State :=
  match s.loft.wbs.find? fun w => w.slice == slice && w.region == region && w.a == a && w.dirty.getLsbD i with
  | none => s
  | some w =>
    let d := setBit4 w.dirty i false
    if d = 0 then
      ((s.modLoft fun x => { x with wbs := x.wbs.erase w }).count 0x3001 4).tallyBlock 0x0A 1
        { master := 0x2B, also := w.forPort, cls := if w.raised then clsCode .critical else clsCode .bulk, role := if w.forPort.isSome then 0 else 3, regions := [region]
          spans := [(a / 8192, a / 8192)], addr := a * 256 }
    else s.modLoft fun x => { x with wbs := x.wbs.map fun b => if b == w then { w with dirty := d } else b }

/-- The capture ring descriptor (R350): place, policy, region, offset and records. -/
def State.capRing (s : State) : Nat := s.obj 0x5900 1 0
def crPlace (w : Nat) : Nat := bits w 1 0
def crStop (w : Nat) : Bool := bit w 2
def crRegion (w : Nat) : Nat := bits w 27 16
def crOffset (w : Nat) : Nat := bits w 79 32
def crRecords (w : Nat) : Nat := bits w 104 80

/-- Writes of the ring's records that are not visible yet; those of a ring that was replaced carry stream 1. -/
def State.capWrites (s : State) : List Req := s.reqs.filter fun r => r.master == 0x2A && r.dest == .sink && r.stream == 0

/-- A record of the ring is visible: the write index advances (R351), and under overwrite it may replace one (R352). -/
def State.capStep (s : State) : State :=
  let w := s.capRing
  let wi := s.obj 0x5900 3 0
  let s1 := (s.setObj 0x5900 3 0 (wi + 1)).count 0x5901 1
  if !crStop w && decide (crRecords w ≤ wi) then s1.count 0x5901 2 else s1

/-- The write index follows the records that are visible, in their order (R351). -/
def State.capAdvance (s : State) : State :=
  let next := s.capWrites.foldl (fun n r => min n r.tag) s.packet.capNext
  s.each (upTo (next - s.obj 0x5900 3 0)) fun s _ => s.capStep

/-- A whole answer to a request: its port is told; an engine's write simply ends (R51, R514), and a sector written back leaves
its buffer. -/
def State.settle (s : State) (id : Nat) (c : RspCode) (d : Detail) : State :=
  match s.req? id with
  | none => s
  | some r =>
    let gone : State := { s with reqs := s.reqs.filter fun q => q.id != id }
    match r.dest with
    | .sink => if r.master = 0x2A ∧ r.stream = 0 ∧ c = .done then gone.capAdvance else gone
    | .back slice => gone.wbSector slice r.region (r.addr / 256) (r.addr % 256 / 64)
    | _ => s.modReq id fun r => { r with whole := some (c, d), phase := .done, chunk := none }

/-- A write is visible (R102): its port is answered DONE; an engine's write ends. -/
def State.answerWrite (s : State) (id : Nat) : State :=
  (s.modReq id fun r => { r with visible := true }).settle id .done .none

/-- A refused request: it has no effect and its answer takes its place in order (R51, R97). -/
def State.refuseReq (s : State) (r : Req) (d : Detail) : State :=
  s.pushReq { r with whole := some (.refused, d), phase := .done }

/-- Answer every sector of a read at once. -/
def State.answerRead (s : State) (id : Nat) (f : Nat → SectorRsp) : State :=
  { s.modReq id fun r => { r with rsp := (upTo r.sectors).map fun i => (i, f i), phase := .done, chunk := none, landed := s.seqNo } with
    seqNo := s.seqNo + 1 }

/-- What check 6 of R513 finds for an access of a region: it goes on, the unit is not ready, or a fill is refused. -/
inductive Ready where
  | ok | notReady | noFill
deriving DecidableEq, Repr

/-- The entry that places a request at acceptance: during a rebuild, a write to a line of the lost stack goes to its new
place (R395). -/
def State.acceptEntry (s : State) (op : ReqOp) (region version off : Nat) : RegionEntry :=
  if op.writes && s.lostRebuild region off then (s.slot region).now else s.entryFor region version off

/-- Check 6 of R513 (R83, R86, R90, R173, R210, R475). A scratch chunk's quadrant is ready, whatever the chunk holds; a read
of a BLANK chunk of a stack is answered; a write that would start a fill that cannot start is a fill refusal. A gated or
waking stack takes the request, which waits for its wake, unless the Gaffer gated it after 100 reels at T4. -/
def State.readyFor (s : State) (op : ReqOp) (region version off : Nat) : Ready :=
  let e := s.entryFor region version off
  let c := chunkOf e off
  let fillRefused := op.writes && s.blank c && !s.canFill e
  if e.loft = 2 then
    let q := ((s.scratchKey c 0).getD 0) / 8192 / 256
    if !s.isReady (32 + q) then .notReady
    else if fillRefused then .noFill
    else .ok
  else if op == .read && s.blank c then .ok
  else if fillRefused then .noFill
  else
    let st := s.stackOf (s.acceptEntry op region version off) off
    let waking := (s.readiness st == 3 || s.readiness st == 4) && !(s.stack st).byGaffer
    if decide (4 ≤ s.level st) || !(s.isReady st || waking) then .notReady else .ok

/-- A request bound for a gated stack starts the stack's wake at the next boundary (R173). -/
def State.callStack (s : State) (st : Nat) : State :=
  if s.readiness st = 3 && !(s.stack st).byGaffer then s.modStack st fun k => { k with wakeReq := true } else s

/-- A request that meets a gated function starts its wake (R173, R199); a read of a BLANK chunk of a stack goes to none
(R22). -/
def State.startWake (s : State) (op : ReqOp) (region version off : Nat) : State :=
  let e := s.entryFor region version off
  if op == .read && s.blank (chunkOf e off) && e.loft != 2 then s
  else if e.loft = 2 then
    let d := 32 + ((s.scratchKey (chunkOf e off) 0).getD 0) / 8192 / 256
    if s.readiness d = 3 then s.setReady d 4 else s
  else s.callStack (s.stackOf e off)

/-- Effects of taking an accepted access on its chunk (R22, R83 to R85): whether a read finds it BLANK, the FILLING
chunk that holds it, and a priority fill started or raised. -/
def State.takeChunk (s : State) (r : Req) (region off : Nat) : Req × State :=
  let e := s.entryFor region r.version off
  let c := chunkOf e off
  if s.written c then (r, s)
  else
    match s.fill? c with
    | some f =>
      -- the writes of the run that covers the chunk go on (R334)
      if f.run.isSome && f.run == r.shot && r.dest == .sink then (r, s)
      else ({ r with chunk := some c }, if f.prio then s else s.raiseFill c)
    | none =>
      if r.op == .read then ({ r with blank := true }, s)
      else ({ r with chunk := some c }, (s.startFill region c e).tallyBlock 0x17 1 r.txn)

/-- Acceptance of a READ, WRITE or atomic (R44 to R47) with the checks of R513 in their order. -/
def State.acceptAccess (s : State) (op : ReqOp) (slot : PortReq) : State :=
  let p := slot.port.val
  if !s.portReady p slot.cls then s
  else
    let r0 := s.newReq op slot
    let t := s.tallyBlock 1 r0.sectors r0.txn
    if r0.addr % r0.bytes ≠ 0 then t.refuseReq r0 .range
    else if s.tagOut p r0.tag then (t.count 0x1311 2).refuseReq r0 .state
    else
      match s.lookup r0.addr r0.bytes with
      | none => t.refuseReq r0 .range
      | some (region, off) =>
        let e := (s.slot region).now
        let r1 := { r0 with region, version := e.version }
        if r1.tenant ≠ e.tenant then (t.count 0x3403 1).refuseReq r1 .denied
        else if s.block.state == .safe || s.block.scanEn || (s.slot region).erasing ||
            (op.writes && s.lostWrite region e.version off) ||
            (op.writes && e.loft == 2 &&
              s.loft.lostLines.contains ((s.scratchKey (chunkOf e off) (off % 2097152 / 256)).getD (2 ^ 40))) then
          t.refuseReq r1 .state
        else if op == .read && !s.blank (chunkOf e off) && ((s.slot region).lost || s.lostRebuild region off) then
          -- lost data answers POISON (R394, R395)
          (t.pushReq r1).answerRead r1.id fun _ => { poison := true }
        else
          match s.readyFor op region e.version off with
          | .ok =>
            let x := (t.startWake op region e.version off).takeChunk r1 region off
            x.2.pushReq x.1
          | w =>
            let s1 := t.startWake op region e.version off
            if s.compat then s1.pushReq { r1 with notReady := true }
            else (if w = .noFill then s1.count 0x3402 3 else s1).refuseReq r1 .notReady

/-- READ (R44). -/
def execRead (r : PortReq) (s : State) : Host.Outcome State Fault Refusal := .next (s.acceptAccess .read r)

/-- WRITE (R44). -/
def execWrite (r : PortReq) (s : State) : Host.Outcome State Fault Refusal := .next (s.acceptAccess .write r)

/-- ADD (R44). -/
def execAdd (r : PortReq) (s : State) : Host.Outcome State Fault Refusal := .next (s.acceptAccess .add r)

/-- SWAP (R44). -/
def execSwap (r : PortReq) (s : State) : Host.Outcome State Fault Refusal := .next (s.acceptAccess .swap r)

/-- CAS (R44). -/
def execCas (r : PortReq) (s : State) : Host.Outcome State Fault Refusal := .next (s.acceptAccess .cas r)

/-- FENCE (R44, R96): its DONE waits, at release, for every earlier request of its port. -/
def execFence (r : PortReq) (s : State) : Host.Outcome State Fault Refusal :=
  let p := r.port.val
  if !s.portReady p r.cls then .next s
  else
    let q := s.newReq .fence r
    let t := s.tallyBlock 1 0 q.txn
    if s.tagOut p q.tag then .next ((t.count 0x1311 2).refuseReq q .state)
    else if s.block.state == .safe || s.block.scanEn then .next (t.refuseReq q .state)
    else .next (t.pushReq { q with whole := some (.done, .none), phase := .done })

/-- The operation of a code (R44). -/
def opOf (n : Nat) : ReqOp :=
  match n with
  | 0 => .read | 1 => .write | 2 => .add | 3 => .swap | 4 => .cas | 5 => .fence | 6 => .post | n => .reserved n

/-- RESERVED_OPERATION (R44, R46): answered REFUSED with RANGE; a slot with a reserved class is accepted whatever the
readies are. -/
def execReservedOperation (r : PortReq) (op cls : BitVec 4) (s : State) : Host.Outcome State Fault Refusal :=
  let reserved := decide (4 ≤ cls.toNat)
  let c := clsOf cls.toNat
  if s.block.boot != .up || (!reserved && !s.portReady r.port.val c) then .next s
  else
    let q := s.newReq (opOf op.toNat) { r with cls := c }
    .next (s.refuseReq { q with reserved } .range)

/-- Bytes of write data a port's buffer holds (R48): of requests not yet granted, written or taken. -/
def State.writeBuffer (s : State) (p : Nat) : Nat :=
  ((s.portReqs p).foldl (fun n r =>
    if r.data.isSome && (r.phase == .held || r.phase == .wait || r.phase == .chunk || r.phase == .loft || r.phase == .line || r.phase == .arb)
    then n + dataPositions r.op r.bytes * 64 else n) 0) + (s.port p).gathered.length * 64

/-- The first due request of a port has met one more of its positions: it waits for the rest, or is due no more. -/
def PortState.advance (q : PortState) (x : Due) (rest : List Due) (got : List (BitVec 512)) (lost : Nat) : PortState :=
  if got.length + lost < x.n then { q with gathered := got, due := { x with lost } :: rest }
  else { q with gathered := [], due := rest }

/-- Give one position of write data to the port: the requests it completes take their data in issue order (R48); one that
has lost a position stays without, and data that comes late is discarded and counted (R49, R397). -/
def State.giveData (s : State) (p : Nat) (d : Sector) : State :=
  let q := s.port p
  match q.due with
  | [] => s
  | x :: rest =>
    let got := q.gathered ++ [d]
    let s1 := s.modPort p fun q => q.advance x rest got x.lost
    if x.late then (s1.count 0x1311 3).bump 0x6040 3 (unitPort p) 1
    else if got.length < x.n then s1
    else
      let w := (upTo got.length).foldl (fun n i => n + (got.getD i 0).toNat * 2 ^ (512 * i)) 0
      s1.modReq x.req fun r => { r with data := some (BitVec.ofNat 2048 w), waitSince := s.time.frame }

/-- One position discarded while the write data was not ready: the first due request lacks it (R48). -/
def State.loseData (s : State) (p : Nat) : State :=
  let q := s.port p
  match q.due with
  | [] => s
  | x :: rest => s.modPort p fun q => q.advance x rest q.gathered (x.lost + 1)

/-- Whether a request counts against its master's caps (R12, R109): a line fill or write-back counts with the request that
missed, and an engine has its data as soon as it is complete. -/
def Req.counts (r : Req) : Bool :=
  r.routed && (match r.dest with | .line _ | .back _ => false | .port => true | _ => r.phase != .done)

/-- Outstanding sectors of a master, of one class or of all (R109), with the reply positions of its admitted shots
(R246). -/
def State.outstanding (s : State) (m : Nat) (c : Option Cls) : Nat :=
  (s.reqs.filter fun r => r.master == m && r.counts && (match c with | some c => r.cls == c | none => true)).foldl
    (fun n r => n + (r.sectors - (if r.op == .read || r.op == .post then r.released else 0))) 0

/-- Reply positions held against a port's total cap by its admitted shots (R246). -/
def State.replyHeld (s : State) (p : Nat) : Nat :=
  (s.shot.shots.filter fun x => x.origin == .port p && slOut x.slate.toNat == 3).foldl
    (fun n x => n + replyPositions x.slate.toNat x.work.table.toNat) 0

/-- Whether a request has room under its caps (R109, R246). -/
def State.capRoom (s : State) (r : Req) : Bool :=
  decide (s.outstanding r.master none + s.replyHeld r.master + r.sectors ≤ s.live' 0x4001 1 r.master) &&
    decide (s.outstanding r.master (some r.cls) + r.sectors ≤ s.live' 0x4001 2 (r.master * 4 + clsCode r.cls))

/-- Byte offset of a request in its region. -/
def State.reqOff (s : State) (r : Req) : Nat := r.addr - (s.slot r.region).known.base

/-- The slice a request waits at (R220, R226). -/
def State.reqSlice (s : State) (r : Req) : Nat :=
  let off := s.reqOff r
  let e := s.entryFor r.region r.version off
  if e.loft = 2 then ((s.scratchKey (chunkOf e off) (off % 2097152 / 256)).map scratchSlice).getD 64
  else
    match s.findLine r.region (r.addr / 256) with
    | some (k, _) => k / 131072
    | none => s.loftSlice (r.addr / 256)

/-- Neighbour duty of a domain, in percent (R211): that of the highest level among the stacks mapped to it. -/
def State.neighbourDuty (s : State) (d : Nat) : Nat :=
  let mapped := (upTo 32).filter fun st => bit (s.live' 0x7012 1 st) (d - 32)
  let level := mapped.foldl (fun n st => max n (s.level st)) 0
  if mapped.isEmpty then 100 else s.live' 0x7012 2 level

/-- A frame that affects a shot moves its budget end, never past its final end (R213). -/
def Shot.slips (x : Shot) (frame : Nat) : Shot :=
  let more := decide (x.budgetEnd < x.finalEnd)
  { x with
    affected := true
    runSince := if x.affected then x.runSince else some (x.runSince.getD frame)
    budgetEnd := x.budgetEnd + b2n more
    slipped := x.slipped + b2n more }

/-- A shot has work issued to a domain: a frame in which that runs below full duty affects it, a REDUCE apart (R213). -/
def State.slipOn (s : State) (id d : Nat) : State :=
  if s.neighbourDuty d = 100 then s
  else s.modShot id fun x =>
    if slKind x.slate.toNat == 1 then x
    else { (if x.affected then x else x.slips s.time.frame) with slow := if x.slow.contains d then x.slow else x.slow ++ [d] }

/-- A request reaches its Loft slice (R213, R230). -/
def State.reach (s : State) (id : Nat) : State :=
  let s1 : State := { s.modReq id fun r => { r.moves s.time.frame .loft with chunk := none, reached := s.seqNo } with seqNo := s.seqNo + 1 }
  match s1.req? id with
  | some r => (match r.shot with | some x => s1.slipOn x (32 + s1.reqSlice r / 16) | none => s1)
  | none => s1

/-- A request goes to its stack arbiter, and wakes a gated stack (R114, R173). -/
def State.goArb (s : State) (id : Nat) (e : RegionEntry) (off : Nat) : State :=
  (s.modReq id fun r => { r.moves s.time.frame .arb with chunk := none }).callStack (s.stackOf e off)

/-- Where a request goes once its chunk is not FILLING: data lost, scratch or cache at its slice, or its stack arbiter
(R103, R220, R226, R393). -/
def State.route (s : State) (id : Nat) : State :=
  match s.req? id with
  | none => s
  | some r =>
    let off := r.addr - (s.slot r.region).known.base
    let e := s.entryFor r.region r.version off
    if e.loft = 2 then s.reach id
    else if r.op == .read && s.lostRead r.region r.version off then s.answerRead id fun _ => { poison := true }
    else if r.op.writes && s.lostWrite r.region r.version off then s.settle id .refused .state
    else if s.caches r.region r.version || (s.findLine r.region (s.lineNo r.region off)).isSome ||
        (s.loft.wbs.any fun w => w.region == r.region && w.a == s.lineNo r.region off) then s.reach id
    else s.goArb id e off

/-- What an access of a request that leaves its hold buffer does next (R22, R84, R109). -/
def State.leaveHold (s : State) (r : Req) : State :=
  let s1 := s.modReq r.id fun r => { r.moves s.time.frame .chunk with routed := true, notReady := false }
  if r.blank then
    ((s1.answerRead r.id fun _ => {}).count 0x3402 1).tallyBlock 0x16 1 r.txn
  else
    match r.chunk with
    | some c => if (s1.fill? c).isSome then s1 else s1.route r.id
    | none => s1.route r.id

/-- Whether an earlier request of its port to its line is still in a hold buffer: the later one stays in its own, so that it
holds no port credit that the earlier one needs (R96, R129). -/
def State.behindHeld (s : State) (r : Req) : Bool :=
  (s.portReqs r.master).any fun q =>
    decide (q.id < r.id) && q.phase == .held && q.op != .post && q.op != .fence && q.addr / 256 == r.addr / 256

/-- A request held for a NOT_READY cause (R498, R499): answered STATE, kept, or taken as at acceptance. -/
def State.retryHeld (s : State) (r : Req) : State × Option Req :=
  let off := r.addr - (s.slot r.region).known.base
  let e := (s.slot r.region).now
  let st := s.stackOf e off
  let d := if e.loft = 2 then 32 + ((s.scratchKey (chunkOf e off) 0).getD 0) / 8192 / 256 else st
  let dead := s.readiness d == 2 || (s.readiness d == 3 && (d ≥ 32 || (s.stack st).byGaffer)) || (e.loft != 2 && (s.stack st).byGaffer) ||
    s.block.state == .safe || !e.live
  if dead then (s.modReq r.id fun r => { r with whole := some (.refused, .state), phase := .done }, none)
  else
    match s.readyFor r.op r.region r.version off with
    | .ok =>
      let x := s.takeChunk r r.region off
      let r1 := { x.1 with notReady := false }
      (x.2.modReq r.id fun _ => r1, some r1)
    | _ => (s, none)

/-- Whether an earlier request keeps a later one's response back (R96): same ordered stream, same line, or a fence. -/
def Req.holdsBack (q r : Req) : Bool :=
  r.op == .fence && r.whole == some (.done, .none) || (r.ordered && q.ordered && q.stream == r.stream) ||
    (r.op != .fence && r.op != .post && q.op != .fence && q.op != .post && q.addr / 256 == r.addr / 256)

/-- A response position on the channel, with the counts it makes (R50, R490). -/
def State.position (s : State) (r : Req) (code : RspCode) (d : Detail) (seq : Nat) (last : Bool) (data : Sector) : State :=
  let s1 := s.emit (.rsp r.master r.tag code d seq last r.oor data)
  let s2 := (if code = .poison then s1.count 0x6000 6 else s1).tallyBlock (2 + code.code) 1 r.txn
  if last then s2.tallyBlock 7 (s.frameNs - r.bornNs) r.txn else s2

/-- The data of a position (R44): a 32 B read lies in the low half. -/
def Req.shaped (r : Req) (d : Sector) : Sector :=
  if r.op == .read && r.bytes == 32 then BitVec.ofNat 512 ((d.toNat >>> (r.addr % 64 * 8)) % 2 ^ 256) else d

/-- Deliver what a request has ready, in seq order, at most `n` positions: the positions left and the state. -/
def State.deliver (s : State) (r : Req) : Nat → Nat × State
  | 0 => (0, s)
  | n + 1 =>
    match r.whole with
    | some (c, d) => (n, { s.position r c d 0 true 0 with reqs := s.reqs.filter fun x => x.id != r.id })
    | none =>
      match r.rsp.find? fun x => x.1 == r.released with
      | none => (n + 1, s)
      | some (i, x) =>
        let total := r.sectors
        let last := r.released + 1 == total
        let s1 := s.position r (if x.poison then .poison else .done) .none (i % 4) last (r.shaped x.data)
        if last then (n, { s1 with reqs := s1.reqs.filter fun y => y.id != r.id })
        else
          let r1 := { r with released := r.released + 1 }
          (s1.modReq r.id fun _ => r1).deliver r1 n

/-- RESPONSE_RELEASE (R103): one engine cycle of a port's response channel: up to eight positions, earlier responses
first, each as soon as the promises of R96 allow. -/
def execResponseRelease (port : Fin 36) (s : State) : Host.Outcome State Fault Refusal :=
  let p := port.val
  let s0 := s.each [Cls.critical, .assured, .bulk, .upkeep] fun s c =>
    if s.portReady p c then s else s.tallyBlock 6 1 { master := p, cls := clsCode c, role := 0 }
  -- a new engine cycle of the port (log 141)
  let s1 := s0.modPort p fun q => { q with slots := [] }
  let r := (s1.portReqs p).foldl (fun (acc : Nat × State) r0 =>
    match acc.2.req? r0.id with
    | none => acc
    | some r =>
      let earlier := (acc.2.portReqs p).takeWhile fun q => q.id != r.id
      if earlier.any fun q => q.holdsBack r then acc else acc.2.deliver r acc.1) (8, s1)
  .next r.2

/-- Stack a request is bound for. -/
def State.reqStack (s : State) (r : Req) : Nat := s.stackOf (s.entryFor r.region r.version (s.reqOff r)) (s.reqOff r)

/-- AGE_PROMOTION (R107). -/
def execAgePromotion (req : Nat) (s : State) : Host.Outcome State Fault Refusal :=
  match s.req? req with
  | none => .next s
  | some r =>
    if r.promoted || r.phase == .done || decide (s.frameNs < r.bornNs + s.live' 0x4000 2 0) then .next s
    else
      let s1 := ((s.modReq req fun r => { r with promoted := true }).count 0x4030 1).tallyStack (s.reqStack r) 9 1 r.txn
      .next (s1.eachPc fun c =>
        { c with queue := c.queue.map fun e => if e.req == req then { e with critical := true, rank := 1 } else e })

/-- Whether a stack's arbiter runs (R171, R173, R210). -/
def State.arbiterRuns (s : State) (st : Nat) : Bool :=
  s.readiness st == 1 && ((s.stack st).power == .service || (s.stack st).power == .entering) && decide (s.level st < 4)

/-- Whether a request's wait does not count towards the watchdog (R118): it is held for a NOT_READY cause (R499), or an
engine's request or line fill waits for a stack that does not serve (R514). -/
def State.exempt (s : State) (r : Req) : Bool :=
  r.notReady || (r.dest != .port && r.phase == .arb && !s.arbiterRuns (s.reqStack r))

/-- The resource class at which a request waits (R118, R128): 0 on its master, 1 to 4 as R128 numbers them; none while it
holds what it needs, or waits for a chunk to fill (log 142). A request whose line is fetched waits where the fetch does. -/
def State.waitClass (s : State) (r : Req) : Option Nat :=
  if r.op.needsData && r.data.isNone && r.phase != .done then some 0
  else match r.phase with
    | .held | .wait => some 1
    | .loft => some 2
    | .arb => some 3
    | .line =>
      if s.reqs.any fun q => q.phase == .arb && q.region == r.region && q.addr / 256 == r.addr / 256 &&
        (match q.dest with | .line _ => true | _ => false) then some 3 else none
    | .chunk | .queued | .done => none

/-- A boundary moves the start of every wait that does not count (R118, R499, R514). -/
def State.pauseWaits (s : State) : State :=
  { s with reqs := s.reqs.map fun r => if s.exempt r then { r with waitSince := r.waitSince + 1 } else r }

/-- The event of a watchdog bite (R118, R512). -/
def State.biteEvent (s : State) (r : Req) (cls gen : Nat) : State :=
  let st := if r.phase == .arb || r.phase == .queued then s.reqStack r else 255
  (s.count 0x4030 3).logEvent 3 2 (r.master + st * 2 ^ 8 + cls * 2 ^ 16 + gen * 2 ^ 24)

/-- Reset a port's path (R49): its outstanding requests are answered ABORTED with GENERATION, those not visible leave
every queue, its generation rises and its write data still due is late. -/
def State.resetPort (s : State) (p : Nat) : State :=
  let ids := ((s.portReqs p).filter fun r => !r.visible && r.phase != .done).map (·.id)
  let s1 : State := { s with reqs := s.reqs.map fun r =>
    if r.master == p && r.dest == .port then { r with whole := some (.aborted, .generation), rsp := [], released := 0, phase := .done, chunk := none, notReady := false } else r }
  let s2 := s1.eachPc fun c => { c with queue := c.queue.filter fun e => !ids.contains e.req }
  (s2.raiseGen (unitPort p)).modPort p fun q => { q with gathered := [], due := q.due.map fun d => { d with late := true } }

/-- The unit of an engine master whose wait the watchdog ends (R118, R396): the gather unit of a row, the matrix array that
served the shot last, or none that R396 numbers. -/
def State.engUnit (s : State) (r : Req) : Option Nat :=
  if r.master = 0x25 then
    some (unitArray (((upTo 4).find? fun a => Map.look 0 a s.shot.turns == r.shot.getD (2 ^ 20) + 1).getD 0))
  else if r.master = 0x24 then
    some (unitGather (match r.dest with
      | .row u _ _ _ => u
      | _ => (((r.shot.bind s.shot?).map fun x => x.work.lanesL).getD []).headD 0))
  else none

/-- Shots that have work on a unit of an engine master (R118). -/
def State.shotsOf (s : State) (r : Req) (unit : Option Nat) : List Shot :=
  s.shot.shots.filter fun x =>
    r.shot == some x.id ||
      (match unit with
       | none => false
       | some u =>
         if r.master = 0x25 then (slKind x.slate.toNat == 3 || slKind x.slate.toNat == 4) && x.stores &&
           Map.look 0 (u - unitArray 0) s.shot.turns == x.id + 1
         else slKind x.slate.toNat == 2 && x.work.lanesL.contains (u - unitGather 0))

/-- WATCHDOG_BITE (R118): a request that has waited longer than the period resets its port's path, or, for an engine
master, raises its unit's generation and aborts the unit's shots. -/
def execWatchdogBite (req : Nat) (s : State) : Host.Outcome State Fault Refusal :=
  match s.req? req with
  | none => .next s
  | some r =>
    match s.waitClass r with
    | none => .next s
    | some cls =>
      if s.exempt r || decide (s.time.frame ≤ r.waitSince + s.live' 0x4000 4 0) then .next s
      else
        match r.dest with
        | .port =>
          let s1 := s.resetPort r.master
          .next (s1.biteEvent r cls (s1.obj 0x6040 1 (unitPort r.master)))
        | .line key =>
          let u := unitSlice (key / 131072)
          let l := Map.look {} key s.loft.lines
          -- requests that wait for the line look it up anew
          let s1 : State := { s.raiseGen u with reqs := (s.reqs.filter fun x => x.id != req).map fun x =>
            if x.phase == .line && x.region == l.region && x.addr / 256 == l.a then { x with phase := .loft } else x }
          .next ((s1.modLine key fun l => { l with busy := false }).biteEvent r cls (s1.obj 0x6040 1 u))
        | .back slice =>
          -- the write-back stays in its buffer, and is asked for anew
          let u := unitSlice slice
          let s1 := s.raiseGen u
          .next ((s1.modReq req fun r => { r with waitSince := s.time.frame }).biteEvent r cls (s1.obj 0x6040 1 u))
        | _ =>
          let unit := s.engUnit r
          let s1 := match unit with | some u => s.raiseGen u | none => s
          let s2 := s1.each (s1.shotsOf r unit) fun s x => s.askAbort x.id 5 r.master
          .next ((s2.modReq req fun r => { r with waitSince := s.time.frame }).biteEvent r cls
            (match unit with | some u => s1.obj 0x6040 1 u | none => 0))

end Sys2Proof.Machine
end

