-- ==== Sys2Proof/Machine/Engines.lean ====
section
/-! DEFINITION. Engines.lean: the reads and writes that engines make for shots, for the Stockroom and for the capture ring
(R10, R100, R109, R514): each is a request of its master, and stands where a port's would. -/
namespace Sys2Proof.Machine

/-! ### Requests -/

/-- An earlier request of its master to its line that has not left its engine (R100). -/
def State.ownBefore (s : State) (r : Req) : Option Req :=
  s.reqs.find? fun q =>
    decide (q.id < r.id) && q.master == r.master && q.phase == .wait && q.region == r.region && q.addr / 256 == r.addr / 256

/-- A request stays with its engine: `why` says whether for a cause of R514. -/
def State.stay (s : State) (id : Nat) (why : Bool) : State := s.modReq id fun r => { r with phase := .wait, notReady := why }

/-- A request leaves its engine: it is held while a fill holds its chunk (R84), else it goes to its Loft slice or stack. -/
def State.leaveEngine (s : State) (r : Req) : State :=
  let s1 := s.modReq r.id fun q => { q.moves s.time.frame .chunk with routed := true, notReady := false, chunk := r.chunk }
  match r.chunk with
  | some c => if (s1.fill? c).isSome then s1 else s1.route r.id
  | none => s1.route r.id

/-- A request of an engine goes on, in its master's order to its line (R100). It waits where a port's would be answered
NOT_READY (R514) and while its caps have no room (R109). A read of a BLANK chunk returns zeros (R22), a write to one starts its
fill (R85), and lost data answers as it does to a port (R393, R394). -/
def State.engGo (s : State) (id : Nat) : State :=
  match s.req? id with
  | none => s
  | some r =>
    let off := s.reqOff r
    let e := s.entryFor r.region r.version off
    let blankRead := r.op == .read && s.blank (chunkOf e off)
    if !e.live || (r.op.writes && s.lostWrite r.region r.version off) then s.settle id .refused .state
    else
      match s.ownBefore r with
      | some q => s.stay id q.notReady
      | none =>
        if r.op == .read && !blankRead && s.lostRead r.region r.version off then s.answerRead id fun _ => { poison := true }
        else
          match s.readyFor r.op r.region r.version off with
          | .ok =>
            let x := (s.startWake r.op r.region r.version off).takeChunk r r.region off
            if x.1.blank then ((x.2.answerRead id fun _ => {}).count 0x3402 1).tallyBlock 0x16 1 r.txn
            else if x.2.capRoom r then x.2.leaveEngine x.1
            else x.2.stay id false
          | _ => (s.startWake r.op r.region r.version off).stay id true

/-- An engine issues a request. -/
def State.engIssue (s : State) (q : Req) : State :=
  let r := { q with id := s.nextReq, bornNs := s.frameNs, waitSince := s.time.frame, phase := .wait }
  ({ s with reqs := s.reqs ++ [r], nextReq := s.nextReq + 1 } : State).engGo r.id

/-- The first request that waits with its engine and whose wait has ended (R514). -/
def State.waitEnds (s : State) : Option Req :=
  s.reqs.find? fun r =>
    r.phase == .wait && r.dest != .port &&
      (let off := s.reqOff r
       let e := s.entryFor r.region r.version off
       let lost := !e.live || (r.op.writes && s.lostWrite r.region r.version off) ||
         (r.op == .read && !s.blank (chunkOf e off) && s.lostRead r.region r.version off)
       lost || ((s.ownBefore r).isNone && s.readyFor r.op r.region r.version off == .ok &&
         ((r.op == .read && s.blank (chunkOf e off)) || s.capRoom r)))

/-! ### Reads -/

/-- The fewest aligned reads that cover some sectors of a region, in rising order: region offset and bytes, one read in each
256 B line (R293). -/
def coverReads (secs : List Nat) : List (Nat × Nat) :=
  (secs.map (· / 4)).eraseDups.map fun ln =>
    let mine := (secs.filter fun k => k / 4 == ln).map (· % 4)
    let lo := mine.headD 0
    let hi := mine.getLastD lo
    let n := if lo = hi then 1 else if lo / 2 = hi / 2 then 2 else 4
    (ln * 256 + lo / n * n * 64, n * 64)

/-- The sectors that hold bytes of a region. -/
def sectorsOf (off len : Nat) : List Nat :=
  if len = 0 then [] else (upTo ((off + len - 1) / 64 + 1 - off / 64)).map (off / 64 + ·)

/-- What an engine needs of one region: the reads that cover it. -/
structure EngPart where
  /-- Region and the version it is read under. -/
  region : Nat := 0
  version : Nat := 0
  /-- Region offset and bytes of each read. -/
  reads : List (Nat × Nat) := []
deriving DecidableEq, Repr

/-- The bytes of a region that an engine needs. -/
def engPart (region version off len : Nat) : EngPart := { region, version, reads := coverReads (sectorsOf off len) }

/-- The read that an engine has made of a line of a region. -/
def State.engRead? (s : State) (who region off : Nat) : Option Req :=
  s.reqs.find? fun r => r.dest == .eng who && r.region == region && s.reqOff r == off

/-- An engine asks for what it needs and has not asked for. -/
def State.engAsk (s : State) (q : Req) (who : Nat) (l : List EngPart) : State :=
  s.each l fun s p => s.each p.reads fun s x =>
    if (s.engRead? who p.region x.1).isSome then s
    else s.engIssue
      { q with op := .read, dest := .eng who, region := p.region, version := p.version
               addr := (s.slot p.region).known.base + x.1, bytes := x.2 }

/-- Whether everything an engine needs has come. -/
def State.engHas (s : State) (who : Nat) (l : List EngPart) : Bool :=
  l.all fun p => p.reads.all fun x => match s.engRead? who p.region x.1 with | some r => r.phase == .done | none => false

/-- One sector as an engine's read has answered it. -/
def State.engSector (s : State) (who region off : Nat) : SectorRsp :=
  match s.reqs.find? fun r =>
      r.dest == .eng who && r.region == region && decide (s.reqOff r ≤ off) && decide (off < s.reqOff r + r.bytes) with
  | none => { poison := true }
  | some r =>
    if r.whole.isSome then { poison := true }
    else ((r.rsp.find? fun a => a.1 == (off - s.reqOff r) / 64).map (·.2)).getD { poison := true }

/-- Bytes of a region that an engine has read, each with whether its sector answered POISON. -/
def State.engBytesP (s : State) (who region off len : Nat) : List (BitVec 8 × Bool) :=
  let all := (sectorsOf off len).flatMap fun k =>
    let x := s.engSector who region (64 * k)
    (leBytes 64 x.data.toNat).map fun b => (if x.poison then 0 else b, x.poison)
  (all.drop (off % 64)).take len

/-- Bytes of a region that an engine has read; none when a sector answered POISON. -/
def State.engBytes? (s : State) (who region off len : Nat) : Option (List (BitVec 8)) :=
  let l := s.engBytesP who region off len
  if l.any (·.2) then none else some (l.map (·.1))

/-- An engine is done with what it has read. -/
def State.engDone (s : State) (who : Nat) : State := { s with reqs := s.reqs.filter fun r => r.dest != .eng who }

/-! ### Writes -/

/-- An engine writes bytes of a region: one request for each line, a sector poisoned when it takes a byte that is (R332,
R333). -/
def State.engWriteP (s : State) (q : Req) (off : Nat) (l : List (BitVec 8 × Bool)) : State :=
  let fin := off + l.length
  if l.isEmpty then s
  else s.each (upTo ((fin - 1) / 256 + 1 - off / 256)) fun s i =>
    let ln := (off / 256 + i) * 256
    let a := max off ln
    let b := min fin (ln + 256)
    let part := (l.drop (a - off)).take (b - a)
    let first := a / 64 * 64
    let n := ceilDiv (b - first) 64
    s.engIssue
      { q with
        op := .write, dest := .sink, addr := (s.slot q.region).known.base + first, bytes := 64 * n
        data := some (BitVec.ofNat 2048 (ofLe (part.map (·.1)) * 2 ^ (8 * (a - first))))
        mask := BitVec.ofNat 256 ((2 ^ (b - a) - 1) * 2 ^ (a - first))
        bad := (upTo n).foldl (fun m k =>
          if (upTo 64).any fun j => decide (a - first ≤ 64 * k + j) && (part.getD (64 * k + j - (a - first)) (0, false)).2
          then m ||| BitVec.ofNat 4 (2 ^ k) else m) 0 }

/-- An engine writes bytes of a region. -/
def State.engWrite (s : State) (q : Req) (off : Nat) (l : List (BitVec 8)) : State := s.engWriteP q off (l.map fun b => (b, false))

end Sys2Proof.Machine
end

