-- ==== Sys2Proof/Machine/Arbiter.lean ====
section
/-! DEFINITION. Arbiter.lean: one controller cycle of a stack arbiter (R106 to R117): who may be granted, in which order,
and what a grant does (R102, R112, R125, R132, R168, R169). -/
namespace Sys2Proof.Machine

/-- Whether a thermal step halts a class on a stack (R108, R206). -/
def State.halted (s : State) (st : Nat) (c : Cls) : Bool :=
  (decide (2 ≤ s.level st) && c == .bulk) || (decide (3 ≤ s.level st) && c != .critical) || decide (4 ≤ s.level st)

/-- Physical place of the first sector of a request. -/
def State.reqPlace (s : State) (r : Req) : Nat := s.sectorPlace r.region r.version (s.reqOff r)

/-- Mapped place, before a migration moves it. -/
def State.reqMapped (s : State) (r : Req) : Nat :=
  s.mappedPlace (s.entryFor r.region r.version (s.reqOff r)) (s.reqOff r)

/-- The reservation of a master for a region (R124). -/
def State.reservation (s : State) (master region : Nat) : Option Nat :=
  (upTo 1024).find? fun i =>
    let w := s.live' 0x4003 1 i
    resActive w && resMaster w == master && resRegion w == region

/-- The master for which a request is made: the port, of a Loft fetch that serves its miss (R12). -/
def Req.payer (r : Req) : Nat := r.forPort.getD r.master

/-- Credit of a request's reservation on a stack (R125). -/
def State.creditOf (s : State) (st : Nat) (r : Req) : Nat :=
  match s.reservation r.payer r.region with
  | some i => Map.look 0 i (s.stack st).credit
  | none => 0

/-- Rank of a request at a stack (R106, R107, R120); rank 2 is the oldest Upkeep request while Upkeep is below its floor.
DESIGN CHOICE: a Critical request is within its master's cap when all its sectors are (log 144), and an Assured one holds
credit while any is left (log 143). -/
def State.rankOf (s : State) (st : Nat) (oldestUpkeep : Option Nat) (r : Req) : Nat :=
  let k := s.stack st
  if r.promoted || r.raised then 1
  else match r.cls with
    | .critical => if Map.look 0 r.master k.critUsed + r.sectors ≤ s.live' 0x4001 6 r.master then 1 else 4
    | .assured => if 0 < s.creditOf st r then 3 else 4
    | .bulk => 4
    | .upkeep => if oldestUpkeep = some r.id ∧ k.upkeepUsed * 200 < k.dNow then 2 else 5

/-- Bulk sectors a stack may still grant in this frame, when a power trim caps them (R202, R204). -/
def State.bulkRoom (s : State) (st : Nat) : Option Nat :=
  let k := s.stack st
  match k.bulkCap, k.trimCap with
  | some a, some b => some (min a b - k.bulkUsed)
  | some a, none => some (a - k.bulkUsed)
  | none, some b => some (b - k.bulkUsed)
  | none, none => none

/-- Whether a domain's allotment for the frame is spent: its governor issues no new work of the trimmed kinds (R201). -/
def State.spentOut (s : State) (d : Nat) : Bool := Map.look none d s.test.unspent == some 0

/-- Whether a domain's governor issues no new work of a kind of R202 (1 to 5) in this frame: its allotment is spent, and the
kind is being trimmed, by the block or on its stack alone (R201, R202, R204). -/
def State.withheld (s : State) (d kind : Nat) : Bool :=
  s.spentOut d && (decide (kind ≤ s.test.trimStep) || (decide (d < 32) && decide (kind ≤ (s.stack d).trim)))

/-- A domain's governor charges `n` events against its allotment (R201). -/
def State.charge (s : State) (d n : Nat) : State :=
  s.modTest fun t =>
    { t with unspent := Map.upd none d (fun a => a.map (· - n * Config.eventEnergy d (s.obj 0x7001 1 d))) t.unspent }

/-- Duty in sixteenths under which the Gaffer lets a kind of work of R202 issue; a kind that is never trimmed is 6. -/
def State.kindDuty (s : State) (kind : Nat) : Nat :=
  if kind = 1 then s.test.upDuty else if kind = 3 then s.test.duty else if kind = 4 then s.test.laneDuty else 16

/-- Whether an engine domain may issue work of a kind now (R201, R202, R211): its allotment and its duties leave it a cycle of
this frame. Lanes are under no neighbour duty (R212). DESIGN CHOICE: duties are reckoned on 2,000 engine cycles of every frame,
spread or not (log 152). -/
def State.issueRoom (s : State) (d kind : Nat) : Bool :=
  !s.withheld d kind &&
    decide (Map.look 0 d s.test.issued * 1600 < 2000 * (if kind = 4 then 100 else s.neighbourDuty d) * s.kindDuty kind)

/-- An engine domain issues for some cycles, and its governor charges them (R201). -/
def State.issue (s : State) (d cycles : Nat) : State :=
  (s.modTest fun t => { t with issued := Map.upd 0 d (· + cycles) t.issued }).charge d cycles

/-- Entries free in a request's pseudo-channel queue. -/
def State.queueFree (s : State) (r : Req) : Nat := 64 - (s.pc (plPcNo (s.reqPlace r))).queue.length

/-- Entries free in a stack's staging pool (R128): it holds what its pseudo-channels' queues hold beyond their 64. -/
def State.stagingFree (s : State) (st : Nat) : Nat :=
  256 - (upTo 64).foldl (fun n i => n + ((s.pc (pcNo st i)).queue.length - 64)) 0

/-- Whether a request holds a Loft allotment (R128): a buffer for the line it fetches or writes back. -/
def Req.inLoft (r : Req) : Bool := match r.dest with | .line _ | .back _ => true | _ => false

/-- Whether the versions that two requests to a line carry place it differently (R104). -/
def State.placedApart (s : State) (q r : Req) : Bool :=
  q.version != r.version &&
    (((s.entryFor q.region q.version (s.reqOff r)).loft == 2) != ((s.entryFor r.region r.version (s.reqOff r)).loft == 2) ||
      s.mappedPlace (s.entryFor q.region q.version (s.reqOff r)) (s.reqOff r) != s.reqMapped r)

/-- Whether an earlier request to the line under a version that places it differently is still outstanding (R104). -/
def State.versionWait (s : State) (r : Req) : Bool :=
  s.reqs.any fun q =>
    decide (q.id < r.id) && q.region == r.region && q.addr / 256 == r.addr / 256 && q.op != .fence && q.op != .post &&
      s.placedApart q r

/-- Whether a request must wait for an earlier one (R100, R104, R134): an earlier request of its master to the line that
still waits for its grant, or one under a version that places the line differently. -/
def State.mustWait (s : State) (r : Req) : Bool :=
  s.versionWait r || s.reqs.any fun q =>
    decide (q.id < r.id) && q.region == r.region && q.addr / 256 == r.addr / 256 && q.phase != .done && q.phase != .queued &&
      q.master == r.master && q.op != .fence && q.op != .post

/-- Lines of a blind migration that are not yet in the destination (R390): the rank-unit line a request waits for. -/
def State.blindLine (s : State) (r : Req) : Option Nat :=
  if s.blindAt (s.reqMapped r) then some (placeLineNo (s.reqMapped r)) else none

/-- A rebuild line whose old place was on the lost stack: a write to it waits until it is pulled ahead (R395). -/
def State.rebuildWait (s : State) (r : Req) : Bool := r.op.writes && s.lostRebuild r.region (s.reqOff r)

/-- Whether a pseudo-channel takes requests: in service or being evacuated, and not in training after a wake (R195,
R393). -/
def State.pcTakes (s : State) (p : Nat) : Bool :=
  s.obj 0x6031 1 p != 2 && (s.unitState (32 + p) == 0 || s.unitState (32 + p) == 3) && !(s.pc p).retraining

/-- Requests bound for a stack that wait at its arbiter with all they need but a grant. -/
def State.atArbiter (s : State) (st : Nat) : List Req :=
  s.reqs.filter fun r =>
    r.phase == .arb && s.reqStack r == st && (!r.op.needsData || r.data.isSome) && !s.mustWait r && (s.blindLine r).isNone &&
      !s.rebuildWait r

/-- Whether a request may be granted now at a rank (R108, R114, R132, R201, R202, R206). -/
def State.grantable (s : State) (st rank : Nat) (r : Req) : Bool :=
  let n := r.sectors
  !s.halted st r.cls && s.pcTakes (plPcNo (s.reqPlace r)) &&
    (decide (n + (if rank = 1 then 0 else 4) ≤ s.queueFree r) || (r.inLoft && decide (n ≤ s.stagingFree st))) &&
    (s.level st != 3 || decide ((s.stack st).critFrame + n ≤ 9600)) &&
    (r.cls != .bulk || (match s.bulkRoom st with | some m => decide (n ≤ m) | none => true)) &&
    (rank != 5 || (s.test.trimStep == 0 && (s.stack st).trim == 0)) &&
    (match r.cls with
     | .critical => true
     | .assured => r.master == 0x29 || !s.withheld st 5
     | .bulk => !s.withheld st 2
     | .upkeep => rank == 2 || !s.withheld st 1)

/-- Tokens of a regulator that are left (R112). -/
def State.tokensLeft (s : State) (i : Nat) : Nat := s.live' 0x4001 5 i - Map.look 0 i s.tokens

/-- Key of a request within a rank under the QoS mode (R111): smaller goes first. -/
def State.qosKey (s : State) (r : Req) : Nat :=
  let i := r.master * 4 + clsCode r.cls
  if s.live' 0x4000 1 0 = 1 then 7 - s.live' 0x4001 3 r.master
  else if s.live' 0x4001 4 i = 0 ∨ 0 < s.tokensLeft i then 0 else 1

/-- Order of two ranked requests (R106, R111): rank, QoS, oldest first. -/
def State.goesFirst (s : State) (a b : Nat × Req) : Bool :=
  let x := (a.1, s.qosKey a.2, a.2.bornNs, a.2.id)
  let y := (b.1, s.qosKey b.2, b.2.bornNs, b.2.id)
  decide (x.1 < y.1) || (x.1 == y.1 && (decide (x.2.1 < y.2.1) || (x.2.1 == y.2.1 &&
    (decide (x.2.2.1 < y.2.2.1) || (x.2.2.1 == y.2.2.1 && decide (x.2.2.2 < y.2.2.2))))))

/-- Sectors of its line that a request names. -/
def Req.secs (r : Req) : List Nat := (upTo r.sectors).map (r.addr % 256 / 64 + ·)

/-- The bytes that a request's write changes in its i-th sector: a half for 32 B (R44). -/
def Req.sectorMask (r : Req) (i : Nat) : Nat :=
  if r.bytes = 32 then (if r.addr % 64 < 32 then 2 ^ 32 - 1 else (2 ^ 32 - 1) * 2 ^ 32) else r.mask.toNat >>> (64 * i) % 2 ^ 64

/-- The data of a request's write in its i-th sector, in sector position (R44, R132). -/
def Req.sectorData (r : Req) (i : Nat) : Sector :=
  let d := (r.data.getD 0).toNat
  BitVec.ofNat 512 (if r.bytes = 32 then d % 2 ^ 256 * (if r.addr % 64 < 32 then 1 else 2 ^ 256) else d >>> (512 * i))

/-- The queue entries of a granted request: one per sector, its data in its sector position (R132, R133). -/
def State.entriesOf (s : State) (r : Req) (rank cyc : Nat) : List QEntry :=
  let off := s.reqOff r
  (upTo r.sectors).map fun i =>
    let o := off / 64 * 64 + i * 64
    let d := (r.data.getD 0).toNat
    let word := off / 8 % 8
    let m := r.sectorMask i
    let kind : QKind := match r.op with
      | .write => if m = 2 ^ 64 - 1 then .write else .partialWrite
      | .add | .swap | .cas => .atomic
      | _ => .read
    { req := r.id, seq := i, place := s.sectorPlace r.region r.version o, tweak := s.homePlace r.region o, region := r.region
      kind, op := r.op, cls := r.cls, master := r.master, forPort := r.forPort, role := r.txn.role, addr := r.txn.addr
      tag := r.txn.tag, critical := rank == 1
      data := match kind with
        | .atomic => BitVec.ofNat 512 ((if r.op == .cas then bits d 127 64 else bits d 63 0) * 2 ^ (64 * word))
        | .read => 0
        | _ => r.sectorData i
      mask := if kind == .partialWrite then BitVec.ofNat 64 m else 0, poison := r.op == .write && r.bad.getLsbD i
      half := word, cmp := if r.op == .cas then BitVec.ofNat 64 (bits d 63 0) else 0
      cyc, bornNs := r.bornNs, rank }

/-- A grant meets self-refresh (R168, R169): before the commit the entry is abandoned, after it the request is held. -/
def State.meetSelfRefresh (s : State) (p c : Nat) : State :=
  match (s.pc p).sr with
  | .awake | .returning _ => s
  | .preparing _ => (s.modPc p fun x => { x with sr := .returning (c + 20), idle := 0 }).stBump (p / 64) 0x2008 4 (p % 64) 1
  | _ => s.stBump (p / 64) 0x2008 5 (p % 64) 1

/-- Counts of a grant (R489). -/
def State.grantCounts (s : State) (st rank n before : Nat) (r : Req) : State :=
  let t := r.txn
  let s1 :=
    if r.op.isAtomic then s.tallyStack st 3 1 t
    else if r.op == .write then s.tallyStack st 2 n t
    else s.tallyStack st 1 n t
  let reserved := (before + n - 60) - (before - 60)
  if rank = 1 ∧ 0 < reserved then s1.tallyStack st 0x0B reserved t else s1

/-- What a grant takes from caps, credits and regulators (R106, R112, R125, R202, R206). -/
def State.grantTakes (s : State) (st n : Nat) (r : Req) : State :=
  let i := r.master * 4 + clsCode r.cls
  let s1 : State :=
    if s.live' 0x4000 1 0 = 0 then
      { s with tokens := Map.put 0 (Map.look 0 i s.tokens + min n (s.tokensLeft i)) i s.tokens }
    else s
  let res := s.reservation r.payer r.region
  s1.modStack st fun k =>
    { k with
      critUsed := if r.cls == .critical then Map.put 0 (Map.look 0 r.master k.critUsed + n) r.master k.critUsed else k.critUsed
      credit := match r.cls, res with
        | .assured, some j => Map.put 0 (Map.look 0 j k.credit - n) j k.credit
        | _, _ => k.credit
      upkeepUsed := if r.cls == .upkeep then k.upkeepUsed + n else k.upkeepUsed
      bulkUsed := if r.cls == .bulk then k.bulkUsed + n else k.bulkUsed
      critFrame := if s.level st = 3 then k.critFrame + n else k.critFrame }

/-- Whether a stack grants the block's own Upkeep work now (R106, R108, R173, R202, R206): above its floor, none under Gaffer
step 1. -/
def State.upkeepOn (s : State) (st : Nat) : Bool :=
  let k := s.stack st
  s.arbiterRuns st && !s.halted st .upkeep && ((s.test.trimStep == 0 && k.trim == 0) || decide (k.upkeepUsed * 200 < k.dNow))

/-- The block's own work at a place, granted and done in one step (log 149): it takes of its stack what a grant of its sectors
takes, counts as one, and its reads are sampled (R106, R112, R185, R201, R206, R489). -/
def State.ownWork (s : State) (place rd wr master : Nat) (c : Cls) : State :=
  let st := plStack place
  let t := { s.findTxn place master with cls := clsCode c }
  let s1 := s.grantTakes st (rd + wr) { master, cls := c }
  let s2 := if rd = 0 then s1 else
    (s1.tallyStack st 1 rd t).modPc (plPcNo place) fun x => { x with probeBursts := x.probeBursts + 2 * rd }
  (if wr = 0 then s2 else s2.tallyStack st 2 wr t).charge st (rd + wr)

/-- A grant (R102, R114): the request enters the queue of its pseudo-channel, or the staging pool behind it (R128), and a
write is visible from now on and answered DONE. -/
def State.grant (s : State) (st rank c : Nat) (r : Req) : State :=
  let s0 := if r.op.writes then s.claimLine r.region r.version (s.reqOff r) else s
  let p := plPcNo (s0.reqPlace r)
  let es := s0.entriesOf r rank c
  let before := (s0.pc p).queue.length
  let s1 := (s0.meetSelfRefresh p c).modPc p fun x => { x with queue := x.queue ++ es, used := true }
  let s2 := if r.op.writes then s1.each es fun s e => s.dropRewrites e.place else s1
  let s3 := s2.modReq r.id fun r => { r with phase := .queued, waitSince := s.time.frame, grantCyc := c, visible := r.op.writes }
  let s3 := if r.op == .write then s3.answerWrite r.id else s3
  ((s3.grantTakes st r.sectors r).grantCounts st rank r.sectors before r).charge st r.sectors

/-- A write to a line that lost its data and has no destination is answered STATE; a read of lost data answers POISON
(R393, R394). -/
def State.settleLost (s : State) (st : Nat) : State :=
  s.each (s.reqs.filter fun r => r.phase == .arb && s.reqStack r == st) fun s r =>
    let off := s.reqOff r
    if r.op.writes && s.lostWrite r.region r.version off then s.settle r.id .refused .state
    else if r.op == .read && s.lostRead r.region r.version off then s.answerRead r.id fun _ => { poison := true }
    else s

/-- Requests that wait for a line of a blind migration ask for it to be pulled ahead, 1,024 lines at most (R390). -/
def State.askPulls (s : State) (st : Nat) : State :=
  s.each (s.reqs.filter fun r => r.phase == .arb && s.reqStack r == st) fun s r =>
    match s.blindLine r with
    | none => s
    | some w =>
      let pull (m : Migration) : Migration :=
        if m.wanted.contains w || decide (1024 ≤ m.wanted.length + m.pulled.length) then m
        else { m with wanted := m.wanted ++ [w] }
      s.modStack st fun k => { k with mig := k.mig.map pull }

/-- Oldest Upkeep request at a stack (R106). -/
def oldestUpkeep (l : List Req) : Option Nat := (leastBy (·.bornNs) (l.filter fun r => r.cls == .upkeep)).map (·.id)

/-- Grants left in a cycle: how many and how many bytes (R114). -/
structure Width where
  grants : Nat := 32
  room : Nat := 2048
deriving DecidableEq, Repr

/-- Bytes a request takes of the width. -/
def Req.width (r : Req) : Nat := if r.op.isAtomic then 8 else r.bytes

/-- The requests that may be granted within a width, ranked. -/
def State.candidates (s : State) (st : Nat) (w : Width) : List (Nat × Req) :=
  let l := s.atArbiter st
  let up := oldestUpkeep l
  (l.map fun r => (s.rankOf st up r, r)).filter fun x => s.grantable st x.1 x.2 && decide (x.2.width ≤ w.room)

/-- Step 1 of R115: the owner's requests. -/
def State.ownerGrants (s : State) (st c owner : Nat) : Nat → Width → Width × State
  | 0, w => (w, s)
  | n + 1, w =>
    match firstBy s.goesFirst ((s.candidates st w).filter fun x => x.2.master == owner || x.2.forPort == some owner) with
    | none => (w, s)
    | some (rank, r) => (s.grant st rank c r).ownerGrants st c owner n { grants := w.grants - 1, room := w.room - r.width }

/-- Step 3 of R115: the oldest eligible request of the master whose oldest has waited longest; ties to the lower master. -/
def longestWaiter (l : List (Nat × Req)) : Option (Nat × Req) :=
  firstBy (fun a b => decide (a.2.bornNs < b.2.bornNs) ||
    (a.2.bornNs == b.2.bornNs && (decide (a.2.master < b.2.master) || (a.2.master == b.2.master && decide (a.2.id < b.2.id))))) l

/-- Steps 2 and 3 of R115. -/
def State.rankGrants (s : State) (st c : Nat) : Nat → Width → State
  | 0, _ => s
  | n + 1, w =>
    let l := s.candidates st w
    let nth := decide (s.live' 0x4000 3 0 ≤ (s.stack st).longest + 1)
    match if nth then longestWaiter l else firstBy s.goesFirst l with
    | none => s
    | some (rank, r) =>
      let s1 := s.grant st rank c r
      let s2 := s1.modStack st fun k => { k with longest := if nth then 0 else k.longest + 1 }
      let s3 := if nth then (s2.count 0x4030 2).tallyStack st 0x0A 1 r.txn else s2
      s3.rankGrants st c n { grants := w.grants - 1, room := w.room - r.width }

/-- Owner of a controller cycle on a stack (R116); 0xFF none. -/
def State.ownerAt (s : State) (st k : Nat) : Nat := s.live2' 0x4004 1 (st * 1000 + k)

/-- ARBITER_CYCLE (R114, R115): controller cycle k of a stack arbiter. -/
def execArbiterCycle (stack : Fin 32) (k : Fin 1000) (s : State) : Host.Outcome State Fault Refusal :=
  let st := stack.val
  if !s.arbiterRuns st then .next s
  else
    let c := s.cycle k.val
    let s0 := (s.settleLost st).askPulls st
    let owner := s0.ownerAt st k.val
    let x := if owner = 0xFF then ({}, s0) else s0.ownerGrants st c owner 32 {}
    let own : Txn := { master := owner }
    let s1 :=
      if owner = 0xFF then x.2
      else if x.1.grants < 32 then x.2.tallyStack st 0x0F 1 own
      else x.2.tallyStack st 0x10 1 own
    let s2 := s1.rankGrants st c x.1.grants x.1
    -- cycles in which a halted-class request waits, once for each counter that admits one of them
    let waiting := s2.reqs.filter fun r => r.phase == .arb && s2.reqStack r == st && s2.halted st r.cls
    .next (s2.each (upTo 32) fun s i =>
      match waiting.find? fun r => cfgMatches (s.live' 0x9000 2 (st * 32 + i)) 0x11 r.txn with
      | some r => s.countOn 0x9000 (st * 32 + i) (st * 32 + i) 0x11 1 { r.txn with stack := st }
      | none => s)

end Sys2Proof.Machine
end

