-- ==== Sys2Proof/Machine/Flags.lean ====
section
/-! DEFINITION. Flags.lean: the completion flags, records and descriptors that shots send (R214, R253, R254, R279, R310), and the
packets they travel in (R54). -/
namespace Sys2Proof.Machine

/-- Saturate a count at a width. -/
def satTo (n v : Nat) : Nat := min (2 ^ n - 1) v

/-- Completion flags (R253): out-of-range input, saturated, NaN replaced, extended, poison carried. -/
def Shot.flags (x : Shot) : Nat :=
  b2n (decide (0 < x.oor)) + 2 * b2n (decide (0 < x.sat)) + 4 * b2n (decide (0 < x.nan)) + 8 * b2n x.extended + 16 * b2n x.poison

/-- The completion record (R253). -/
def Shot.completion (x : Shot) (frame : Nat) : Nat :=
  3 + x.flags * 2 ^ 8 + frame % 2 ^ 64 * 2 ^ 16 + satTo 16 x.slipped * 2 ^ 80 + x.done % 2 ^ 48 * 2 ^ 96 +
    satTo 32 x.oor * 2 ^ 144 + satTo 32 x.sat * 2 ^ 176 + satTo 32 x.nan * 2 ^ 208

/-- The abort notice (R254). -/
def noticeWord (cause detail frame done slipped : Nat) : Nat :=
  cause % 256 + detail % 256 * 2 ^ 8 + frame % 2 ^ 64 * 2 ^ 16 + done % 2 ^ 48 * 2 ^ 80 + satTo 16 slipped * 2 ^ 128

/-- An admitted or extended record (R253). -/
def progressWord (record frame : Nat) : Nat := record + frame % 2 ^ 64 * 2 ^ 16

/-- A thermal-slip record (R214). -/
def slipWord (stack level frame slipped budgetEnd : Nat) : Nat :=
  0x10 + stack % 32 * 2 ^ 8 + level % 8 * 2 ^ 13 + frame % 2 ^ 64 * 2 ^ 16 + satTo 16 slipped * 2 ^ 80 +
    budgetEnd % 2 ^ 32 * 2 ^ 96

/-- A result descriptor (R279). -/
def resultWord (leaves part parts members sat nan : Nat) : Nat :=
  leaves % 2 ^ 21 + part % 16 * 2 ^ 21 + parts % 16 * 2 ^ 25 + members % 1024 * 2 ^ 32 + satTo 16 sat * 2 ^ 42 + satTo 16 nan * 2 ^ 58

/-- A list descriptor of shot output (R310). -/
def listWord (query part parts entries : Nat) : Nat :=
  query % 256 + part % 16 * 2 ^ 8 + parts % 16 * 2 ^ 12 + entries % 2 ^ 13 * 2 ^ 16

/-- Put a packet in the line for the result output (R54). -/
def State.send (s : State) (p : RsPacket) : State := s.modEntry fun e => { e with results := e.results ++ [p] }

/-- A 32 B record for a slate's group: type 0x02 a notice, 0x03 progress (R54). -/
def State.sendRecord (s : State) (w ty payload : Nat) : State :=
  s.send { ty, shot := slShot w, epoch := slEpoch w, group := slGroup w, format := 0, payload := leBytes 32 payload }

/-- Header of a result packet (R54). -/
def RsPacket.header (p : RsPacket) : Nat :=
  p.ty % 256 + p.shot % 65536 * 2 ^ 8 + p.epoch % 256 * 2 ^ 24 + p.chunk % 2 ^ 32 * 2 ^ 32 + p.group % 2 ^ 24 * 2 ^ 64 +
    p.format % 256 * 2 ^ 88 + p.payload.length % 65536 * 2 ^ 96

end Sys2Proof.Machine
end

