-- ==== Sys2Proof/Machine/Shots.lean ====
section
/-! DEFINITION. Shots.lean: the life of a shot: Loft engine units (R227, R228), lanes and stores (R267, R307), admission
(R246, R247), commit (R251), abort (R252), and the abort of listed slates. -/
namespace Sys2Proof.Machine

/-- Whether a slice is in service (R235) and its quadrant ready. -/
def State.sliceOk (s : State) (i : Nat) : Bool := s.obj 0x3005 1 i == 0 && s.isReady (32 + i / 16)

/-- Loft engine units of a slice (R227): 32 of each engine way, less the area of backed contexts in Q0 (R228). -/
def State.unitsTotal (s : State) (i : Nat) : Nat :=
  let w := s.obj 0x3000 1 (i / 16)
  -- a pending change of the partition already keeps its hands off the ways it takes (R219)
  let e := min (partEngine w) (partEngine ((Map.look none (i / 16) s.loft.partNext).getD w))
  if !s.sliceOk i || e = 0 then 0 else e * 32 - (if i < 16 then 12 else 0)

/-- Units of a slice in a list of grants. -/
def unitsIn (l : List (Nat × Nat)) (i : Nat) : Nat := l.foldl (fun n x => if x.1 = i then n + x.2 else n) 0

/-- Units of a slice that are granted or still to be zeroed (R227). -/
def State.unitsUsed (s : State) (i : Nat) : Nat :=
  s.shot.shots.foldl (fun n x => n + unitsIn x.units i) 0 +
    s.shot.table.foldl (fun n x => n + unitsIn x.2.units i + unitsIn x.2.unitsOld i) 0 +
    unitsIn s.packet.units i + unitsIn s.packet.capUnits i +
    s.loft.zeroing.foldl (fun n x => if x.1 = i then n + ceilDiv x.2 256 else n) 0

/-- Free units of a slice. -/
def State.unitsFree (s : State) (i : Nat) : Nat := s.unitsTotal i - s.unitsUsed i

/-- One round of a rotation: slices with their free and granted units, and the units still wanted. -/
def dealRound (l : List (Nat × Nat × Nat)) (n : Nat) : List (Nat × Nat × Nat) × Nat :=
  l.foldl (fun acc x =>
    if 0 < acc.2 ∧ 0 < x.2.1 then (acc.1 ++ [(x.1, x.2.1 - 1, x.2.2 + 1)], acc.2 - 1) else (acc.1 ++ [x], acc.2)) ([], n)

/-- Rounds of the rotation until nothing is wanted. -/
def dealRounds : Nat → List (Nat × Nat × Nat) → Nat → List (Nat × Nat × Nat) × Nat
  | 0, l, n => (l, n)
  | k + 1, l, n => if n = 0 then (l, 0) else let r := dealRound l n; dealRounds k r.1 r.2

/-- Place units in rotation over the slices that have free ones, in ascending slice order (R323); none when too few are
free. -/
def State.placeUnits (s : State) (n : Nat) : Option (List (Nat × Nat)) :=
  let l := (upTo 64).map fun i => (i, s.unitsFree i, 0)
  let most := l.foldl (fun m x => max m x.2.1) 0
  let r := dealRounds most l n
  if r.2 = 0 then some ((r.1.filter fun x => 0 < x.2.2).map fun x => (x.1, x.2.2)) else none

/-- Freed units wait to be zeroed, 256 lines each (R227). -/
def State.freeUnits (s : State) (l : List (Nat × Nat)) : State :=
  s.modLoft fun x => { x with zeroing := x.zeroing ++ l.map fun u => (u.1, 256 * u.2) }

/-- Slices that back contexts (R228, R474): the Q0 slices in service. -/
def State.backedRoom (s : State) : Option Nat :=
  (upTo 16).find? fun i => s.sliceOk i && decide ((s.shot.shots.filter fun x => x.backed == some i).length < 3072)

/-- The lowest place for a context that is free on a slice (R228, log 154). -/
def State.backedPlace (s : State) (i : Nat) : Nat :=
  ((upTo 3072).find? fun n => !s.shot.shots.any fun x => x.backed == some i && x.backedAt == n).getD 0

/-- The list L of R267: lanes in service on slices in service whose quadrant has engine ways. -/
def State.laneList (s : State) : List Nat :=
  (upTo 64).filter fun i =>
    s.isReady 40 && s.unitState (unitRedLane i) == 0 && s.sliceOk i && decide (0 < partEngine (s.obj 0x3000 1 (i / 16)))

/-- Slots of a REDUCE shot on each lane of a list (R267). -/
def slotsOn (shot window : Nat) (l : List Nat) : List (Nat × Nat) :=
  let n := l.length
  (upTo n).map fun j => (l.getD j 0, window / n + b2n (decide ((j + n - shot % n) % n < window % n)))

/-- Units a lane's slots need: 65,536 B hold floor(65,536 / 8d) of them (R267). -/
def slotUnits (d slots : Nat) : Nat := ceilDiv slots (65536 / (8 * max 1 d))

/-- Slot headers of a lane in use (R267). -/
def State.headersUsed (s : State) (lane : Nat) : Nat :=
  s.shot.shots.foldl (fun n x =>
    if slKind x.slate.toNat = 1 ∧ slCount x.slate.toNat ≠ 0 then
      n + unitsIn (slotsOn x.id (rdWindow x.slate.toNat) x.work.lanesL) lane
    else n) 0

/-- Matrix arrays in service (R312, R315): not fenced and their domain ready. -/
def State.arraysIn (s : State) : List Nat := (upTo 4).filter fun i => s.unitState (unitArray i) == 0 && s.isReady (36 + i)

/-- Gather units in service (R294, R312). -/
def State.gatherUnits (s : State) : List Nat := (upTo 32).filter fun i => s.isReady 41 && s.unitState (unitGather i) == 0

/-- What a shot's kind takes at admission (R246, R267, R307, R309, R320): its units, lane list and query store; none when
it cannot be had now. -/
def State.kindNeeds (s : State) (w : Nat) : Option (List (Nat × Nat) × List Nat × Bool) :=
  let k := slKind w
  if slCount w = 0 then some ([], [], false)
  else if k = 1 then
    let l := s.laneList
    let d := (chunkElems (slIn w) (slSize w)).getD 1
    if l.isEmpty then none
    else
      let on := (slotsOn (slShot w) (rdWindow w) l).filter fun x => 0 < x.2
      if on.all fun x => decide (s.headersUsed x.1 + x.2 ≤ 256) && decide (slotUnits d x.2 ≤ s.unitsFree x.1) then
        some (on.map fun x => (x.1, slotUnits d x.2), l, false)
      else none
  else if k = 2 then
    let u := s.gatherUnits
    if u.isEmpty then none else some ([], u, false)
  else if k = 3 ∨ k = 4 then
    if s.arraysIn.isEmpty || decide (4 ≤ (s.shot.shots.filter (·.stores)).length) then none
    else if k = 3 ∧ 0 < scK w then
      (s.placeUnits (ceilDiv (16 * scQ w * scK w) 8192)).map fun u => (u, [], true)
    else some ([], [], true)
  else if k = 5 then (s.placeUnits (ceilDiv (16 * seK w) 8192)).map fun u => (u, [], false)
  else some ([], [], false)

/-- The transaction of a shot (R490): its address filter sees the regions its slate names. -/
def State.shotTxn (s : State) (w : Nat) (o : Origin) : Txn :=
  { role := o.role, cls := slClass w, regions := slRegions w, stack := 0
    spans := (slRegions w).map fun r => let e := (s.slot r).now; (e.base / 2097152, e.base / 2097152 + e.size - 1) }

/-- The session that asked for an abort (R255, R442, R512): the one the detail of a job abort names, or the Operator session of a
job abort of every job, or the one that asked for SAFE. -/
def State.abortAsker (s : State) (cause detail : Nat) : Nat :=
  if cause = 2 ∧ detail < 4 then detail else s.asker (askKey 5 1 cause)

/-- The event of an abort (R252, R512). -/
def State.abortEvent (s : State) (w cause detail : Nat) : State :=
  s.logEvent 5 1 (slShot w + slEpoch w * 2 ^ 16 + slKind w * 2 ^ 24 + cause * 2 ^ 32 + detail * 2 ^ 40 + slJob w * 2 ^ 48)
    (some (slTenant w)) (s.abortAsker cause detail)

/-- A reply on the posting port: positions, or one ABORTED with EPOCH (R251, R252). -/
def State.sendReply (s : State) (w : Nat) (o : Origin) (whole : Option (RspCode × Detail)) (l : List SectorRsp) (oor : Bool) : State :=
  match o with
  | .port p =>
    if slOut w = 3 then
      let r : Req :=
        { id := s.nextReq, master := p, op := .post, tag := slReply w, tenant := slTenant w, cls := clsOf (slClass w), routed := true
          bornNs := s.frameNs, waitSince := s.time.frame, phase := .done, whole, oor
          rsp := (upTo l.length).map fun i => (i, l.getD i {}) }
      { s with reqs := s.reqs ++ [r], nextReq := s.nextReq + 1 }
    else s
  | _ => s

/-- Steps 1, 3, 4 and 5 of R252 for a slate, listed or admitted. -/
def State.abortTell (s : State) (w : Nat) (o : Origin) (cause detail done slipped : Nat) : State :=
  let s1 := s.modCtx (slShot w) fun c => { c with state := 5, cause, frame := s.time.frame }
  let s2 := s1.sendReply w o (some (.aborted, .epoch)) [] false
  let s3 := if slGroup w = 0 then s2 else s2.sendRecord w 2 (noticeWord cause detail s.time.frame done slipped)
  ((s3.abortEvent w cause detail).bump 0x5000 3 cause 1).tallyBlock 0x15 1 (s.shotTxn w o)

/-- A port request held on a chunk whose fill is given up is answered (R87): where lost data governs the region, as its rules say
(R393, R394); in compatibility mode it goes back to its hold buffer (R498); else NOT_READY. -/
def State.answerHeldOn (s : State) (lost : Bool) (r : Req) : State :=
  let off := s.reqOff r
  if lost && r.op.writes && s.lostWrite r.region r.version off then s.settle r.id .refused .state
  else if lost && r.op == .read && s.lostRead r.region r.version off then s.answerRead r.id fun _ => { poison := true }
  else if s.compat then s.modReq r.id fun r => { r with phase := .held, chunk := none, notReady := true, routed := false }
  else s.settle r.id .refused .notReady

/-- A fill is given up: its chunk is BLANK again. Port requests held on it are answered in issue order, and those of engines
wait (R87, R514). -/
def State.dropFill (s : State) (f : Fill) (lost : Bool) : State :=
  let s1 := s.modRegions fun g => { g with fills := g.fills.filter fun x => x.chunk != f.chunk }
  s1.each (s1.reqs.filter fun r => r.phase == .chunk && r.chunk == some f.chunk) fun s r =>
    if r.dest == .port then s.answerHeldOn lost r
    else s.modReq r.id fun r => { r with phase := .wait, chunk := none, notReady := true }

/-- Requests that a shot's engines have made, and what it has waiting, go with it (R252): entries whose RD is not issued leave
their queues, and data that returns later is discarded. Writes already issued complete, but those that wait end (R514), and a chunk
that a run of its writes was to cover whole is BLANK again (log 155). -/
def State.dropShotWork (s : State) (id : Nat) : State :=
  let mine (r : Req) : Bool := r.shot == some id && r.dest != .port && (r.dest != .sink || r.phase == .wait)
  let ids := (s.reqs.filter mine).map (·.id)
  let s1 := s.when (!ids.isEmpty) fun s => s.eachPc fun c =>
    { c with queue := c.queue.filter fun e => !ids.contains e.req || e.stage != .waiting }
  let s2 : State :=
    { s1 with
      reqs := s.reqs.filter fun r => !mine r
      entry := { s.entry with results := s.entry.results.filter fun p => p.shot != id || (p.ty != 1 && p.ty != 4) } }
  s2.each (s2.regions.fills.filter fun f => f.run == some id) fun s f => s.dropFill f false

/-- A shot leaves the admitted ones; one in a run of affected frames leaves its last thermal-slip record due (R214). -/
def ShotState.leaves (y : ShotState) (x : Shot) : ShotState :=
  { y with
    shots := y.shots.filter fun z => z.id != x.id
    tails := if x.runSince.isSome then y.tails ++ [x] else y.tails }

/-- Abort an admitted shot at this boundary (R252). -/
def State.abortShot (s : State) (x : Shot) (cause detail : Nat) : State :=
  let s1 := (s.dropShotWork x.id).modShotS fun y => y.leaves x
  (s1.freeUnits x.units).abortTell x.slate.toNat x.origin cause detail x.done x.slipped

/-- Whether a shot's work has ended (R250): nothing left to do, every write visible, no result in line. -/
def State.workEnded (s : State) (x : Shot) : Bool :=
  x.ended && !(s.reqs.any fun r => r.shot == some x.id && r.dest == .sink) && !(s.regions.fills.any fun f => f.run == some x.id) &&
    !(s.entry.results.any fun p => p.shot == x.id && (p.ty == 1 || p.ty == 4))

/-- Commit a shot (R242, R251, R372). -/
def State.commitShot (s : State) (x : Shot) : State :=
  let w := x.slate.toNat
  let f := s.time.frame
  let s1 := s.sendReply w x.origin none (if x.reply.isEmpty then [{}] else x.reply) (decide (0 < x.oor))
  let s2 := if slGroup w = 0 then s1 else s1.sendRecord w 3 (x.completion f)
  let s3 := ((s2.engDone x.id).modShotS fun y => y.leaves x).freeUnits x.units
  let s4 := s3.modCtx x.id fun c => { c with state := 4, flags := x.flags, cause := 0, frame := f }
  let s5 := if slKind w = 9 then s4.setObj 0x6011 1 x.id x.work.reg else s4
  (s5.count 0x5000 2).tallyBlock 0x14 1 (s.shotTxn w x.origin)

/-- An empty input's check value (R371, R372): init, reflected when refout says so, and the final XOR. -/
def reflectBits (n w : Nat) : Nat := (upTo n).foldl (fun r i => r + (w >>> i) % 2 * 2 ^ (n - 1 - i)) 0

/-- The value of a check-value register at the end (R371). -/
def checkFinal (cfg reg : Nat) : Nat :=
  let width := bits cfg 198 192
  Nat.xor (if bit cfg 200 then reflectBits width reg else reg) (bits cfg 191 128)

/-- What becomes of the slate at the head of a list (R246). -/
inductive Admit where
  | wait
  | fails
  | take (s : State)

/-- Try to admit a slate (R246, R247): context, units, reply room; then the re-check of its extents. -/
def State.tryAdmit (s : State) (list : Nat) (l : Listed) : Admit :=
  let w := l.slate.toNat
  let e := s.descOf w
  let resident := decide ((s.shot.shots.filter fun x => x.backed.isNone).length < 16384)
  let room := match l.origin with
    | .port p => slOut w != 3 || decide (s.outstanding p none + s.replyHeld p + replyPositions w e ≤ s.live' 0x4001 1 p)
    | _ => true
  match s.kindNeeds w with
  | none => .wait
  | some (units, lanes, stores) =>
    if !room || (!resident && s.backedRoom.isNone) then .wait
    else if !((slRegions w).all fun r => (s.slot r).now.live) || !((slExtents w e).all s.extentFits) || !s.check7 w then .fails
    else
      let a := s.time.frame
      let cfg := if slKind w = 9 then s.obj 0x6010 1 (snConfig w) else 0
      let empty := decide (slCount w = 0)
      let x : Shot :=
        { id := slShot w, slate := l.slate, origin := l.origin, list, admitted := a, budgetEnd := a + slBudget w
          finalEnd := a + slBudget w + slSlack w, versions := (slRegionsAll w e).map fun r => (r, (s.slot r).now.version)
          units, backed := if resident then none else s.backedRoom
          backedAt := if resident then 0 else s.backedPlace (s.backedRoom.getD 0), stores, descVer := teVersion e, ended := empty
          reply := if slOut w = 3 ∧ !empty then List.replicate (replyPositions w e) {} else []
          work := { table := BitVec.ofNat 512 e, lanesL := lanes, config := cfg
                    reg := if empty then checkFinal cfg (bits cfg 127 64) else bits cfg 127 64 } }
      let s1 := (s.modShotS fun y => { y with shots := y.shots ++ [x] }).modCtx x.id fun c => { c with state := 2, frame := a }
      let s2 := (s1.count 0x5000 1).tallyBlock 0x13 1 (s.shotTxn w l.origin)
      -- a count of zero commits at this same boundary (R242)
      if empty then .take (s2.commitShot x)
      else .take (if slProgress w && slGroup w != 0 then s2.sendRecord w 3 (progressWord 1 a) else s2)

/-- Slates listed in a list. -/
def State.list (s : State) (i : Nat) : List Listed := Map.look [] i s.shot.lists

def State.setList (s : State) (i : Nat) (l : List Listed) : State :=
  s.modShotS fun x => { x with lists := Map.put [] l i x.lists }

/-- The new head of a list waits from now on. -/
def State.stampHead (s : State) (i : Nat) : State :=
  match s.list i with
  | [] => s
  | h :: t => if h.headSince.isSome then s else s.setList i ({ h with headSince := some s.time.frame } :: t)

/-- Admit slates of one list in order, at most `k` of them: how many, and the state (R246). A slate whose re-check fails is
aborted and not one of them; `fuel` bounds the slates looked at. -/
def State.admitList (s : State) (i k : Nat) : Nat → Nat × State
  | 0 => (0, s)
  | fuel + 1 =>
    if k = 0 then (0, s)
    else
      match s.list i with
      | [] => (0, s)
      | h :: t =>
        match s.tryAdmit i h with
        | .wait => (0, s.stampHead i)
        | .fails =>
          let s1 := (s.setList i t).abortTell h.slate.toNat h.origin 9 2 0 0
          (s1.stampHead i).admitList i k fuel
        | .take s1 =>
          let r := ((s1.setList i t).stampHead i).admitList i (k - 1) fuel
          (r.1 + 1, r.2)

/-- Admission at a boundary (R246): the lists in rotation, 8 of a list and 256 in all. -/
def State.admitAll (s : State) : State :=
  let first := s.shot.rotor
  let r := (upTo 64).foldl (fun (acc : Nat × State) j =>
    let i := (first + j) % 64
    let x := acc.2.admitList i (min 8 (256 - acc.1)) (acc.2.list i).length
    (acc.1 + x.1, x.2)) (0, s)
  r.2.modShotS fun x => { x with rotor := (first + 1) % 64 }

/-- Abort listed slates that an abort was asked for (R252, R255). -/
def State.abortListed (s : State) : State :=
  s.each (upTo 64) fun s i =>
    let l := s.list i
    let gone := l.filter fun x => x.abort.isSome
    if gone.isEmpty then s
    else
      let s1 := s.setList i (l.filter fun x => x.abort.isNone)
      (s1.each gone fun s x =>
        let a := x.abort.getD (0, 0)
        s.abortTell x.slate.toNat x.origin a.1 a.2 0 0).stampHead i

/-- The decisions of R250 at a boundary, 1 and 2: commit or abort each admitted shot. -/
def State.decideShots (s : State) : State :=
  s.each s.shot.shots fun s x =>
    if s.workEnded x then s.commitShot x
    else
      match x.abort with
      | some (c, d) => s.abortShot x c d
      | none => s

/-- Ask for the abort of every admitted and listed shot that a test picks. -/
def State.askAborts (s : State) (p : Nat → Bool) (cause detail : Nat) : State :=
  s.modShotS fun y =>
    { y with
      shots := y.shots.map fun x => if p x.slate.toNat then { x with abort := x.abort.orElse fun _ => some (cause, detail) } else x
      lists := y.lists.map fun (i, l) =>
        (i, l.map fun x => if p x.slate.toNat then { x with abort := x.abort.orElse fun _ => some (cause, detail) } else x) }

/-- The entry a shot works with: the one captured, or the current one while it is listed. -/
def Shot.entry (x : Shot) : Nat := x.work.table.toNat

/-- Regions an admitted shot names, its desc entry's included (R313). -/
def Shot.regions (x : Shot) : List Nat := slRegionsAll x.slate.toNat x.entry

end Sys2Proof.Machine
end

