-- ==== Sys2Proof/Machine/Reduce.lean ====
section
/-! DEFINITION. Reduce.lean: collective reduction (12): the checks of a contribution (R270), the accumulation on its lane
(R271 to R274), the result of a chunk (R275, R278, R279), the credits (R52) and the result output (R54, R280). -/
namespace Sys2Proof.Machine

/-- Put credits of freed beats in line (R52). -/
def State.oweCredits (s : State) (pipe beats : Nat) : State :=
  s.modEntry fun e => { e with owed := e.owed ++ List.replicate beats pipe }

/-- Drop a contribution (R270): its beats are freed and it is counted once. -/
def State.dropContribution (s : State) (pipe beats sub : Nat) : State :=
  ((s.oweCredits pipe beats).count 0x5201 sub).tallyBlock 0x0E 1 {}

/-- The admitted REDUCE shot of an ID and epoch (check 3 of R270). -/
def State.reduceShot (s : State) (shot epoch : Nat) : Option Shot :=
  (s.shot? shot).filter fun x => slKind x.slate.toNat == 1 && slEpoch x.slate.toNat == epoch

/-- Elements per chunk of a REDUCE slate (R265). -/
def rdElems (w : Nat) : Nat := (chunkElems (slIn w) (slSize w)).getD 0

/-- Lane of a slot (R267). -/
def Shot.laneOf (x : Shot) (slot : Nat) : Nat :=
  let l := x.work.lanesL
  l.getD ((x.id + slot) % max 1 l.length) 0

/-- The slot's state of a shot. -/
def Shot.rslot (x : Shot) (i : Nat) : RSlot := Map.look {} i x.work.slots

/-- Change one slot of a shot. -/
def State.modRslot (s : State) (id i : Nat) (f : RSlot → RSlot) : State :=
  s.modShot id fun x => { x with work := { x.work with slots := Map.upd {} i f x.work.slots } }

/-- CONTRIBUTION (R52, R53, R270): checks 1 to 6 at the entry, then its lane's input queue. -/
def execContribution (pipe : Fin 32) (h : ContribHdr) (beats : Nat) (payload : List Byte) (s : State) :
    Host.Outcome State Fault Refusal :=
  if s.block.boot != .up then .next s
  else
    let p := pipe.val
    let spent := Map.look 0 p s.entry.credits
    let have' := min beats (128 - spent)
    let s0 := s.modEntry fun e => { e with credits := Map.put 0 (spent + have') p e.credits }
    if have' < beats then
      .next (((s0.oweCredits p have').bump 0x5201 4 0 (beats - have')).tallyBlock 0x0E 1 {})
    else if h.kind.toNat ≠ 1 ∨ h.leaves.toNat = 0 ∨ 1048576 < h.leaves.toNat then .next (s0.dropContribution p beats 8)
    else
      match s.reduceShot h.shot.toNat h.epoch.toNat with
      | none => .next (s0.dropContribution p beats 1)
      | some x =>
        let w := x.slate.toNat
        let c := h.chunk.toNat
        if slCount w ≤ c then .next (s0.dropContribution p beats 7)
        else if h.length.toNat ≠ slSize w ∨ beats ≠ ceilDiv (64 + h.length.toNat) 512 then .next (s0.dropContribution p beats 5)
        else if !isMember x.entry h.contributor.toNat then .next (s0.dropContribution p beats 2)
        else
          let slot := c % max 1 (rdWindow w)
          let it : LaneItem :=
            { shot := x.id, epoch := h.epoch.toNat, slot, chunk := c, contributor := h.contributor.toNat
              leaves := h.leaves.toNat, payload, pipe := p, beats }
          .next (s0.modShotS fun y => { y with lanes := Map.upd [] (x.laneOf slot) (· ++ [it]) y.lanes })

/-- The terms of an input element in binary32: one, or the two parts of a PAIR (R272). -/
def termsOf (fmt c scale : Nat) : List (BitVec 32) :=
  if fmt = 14 then [BitVec.ofNat 32 c, BitVec.ofNat 32 (c / 2 ^ 32)] else [toF32 (elemVal fmt c scale)]

/-- One element of an accumulator after a contribution (R272 to R274). -/
def accStep (op fmt : Nat) (first : Bool) (a : Acc) (c scale : Nat) : Acc :=
  if fmt = 12 ∨ fmt = 13 then
    let v := toInt (elemBits fmt) c
    { a with int := if first then v else if op = 0 then a.int + v else if op = 1 then max a.int v else min a.int v }
  else
    let t := termsOf fmt c scale
    let x := t.headD 0
    if op = 1 ∨ op = 2 then { a with pair := { hi := if first then maxF x x false else maxF a.pair.hi x (op == 2), lo := 0 } }
    else if first then { a with pair := { hi := x, lo := if notFinite x then 0 else t.getD 1 0 } }
    else { a with pair := t.foldl Pair.addTerm a.pair }

/-- The accumulators of a chunk after a contribution's payload. -/
def accumulate (op fmt d : Nat) (first : Bool) (acc : List Acc) (payload : List Byte) : List Acc :=
  let n := d * elemBits fmt / 8
  let w := ofLe (payload.take n)
  let scales := payload.drop n
  (upTo d).map fun i => accStep op fmt first (acc.getD i {}) (elemCode fmt w i) (scales.getD (i / 32) 127).toNat

/-- The exact value a chunk's element delivers (R275). -/
def formValue (w leaves : Nat) (a : Acc) : Val :=
  if slIn w = 12 ∨ slIn w = 13 then Val.ofInt a.int
  else if rdOp w = 1 ∨ rdOp w = 2 then f32 a.pair.hi
  else if rdOp w = 3 then
    (if rdScale w = 0 then a.pair.val.divNat leaves else (f32 (BitVec.ofNat 32 (rdScale w))).mul a.pair.val)
  else a.pair.val

/-- Elements of a SUM delivered as PAIR, each with the exact value it stands for: a finite pair leaves as it stands, any other is
delivered as R259 states (R275, R296): the bytes, saturations and NaN replacements. -/
def pairElems (sat : Bool) (l : List (Pair × Val)) : List (BitVec 8) × Nat × Nat :=
  l.foldl (fun acc x =>
    let r := if notFinite x.1.hi then writeElems 14 sat [x.2] else (leBytes 4 x.1.hi.toNat ++ leBytes 4 x.1.lo.toNat, 0, 0)
    (acc.1 ++ r.1, acc.2.1 + r.2.1, acc.2.2 + r.2.2)) ([], 0, 0)

/-- The result of a chunk: bytes, saturations, NaN replacements, and elements NaN or replaced (R275, R279). -/
def chunkResult (w leaves : Nat) (acc : List Acc) : List (BitVec 8) × Nat × Nat × Nat :=
  let vs := acc.map (formValue w leaves)
  let pairs := rdOp w == 0 && slIn w != 12 && slIn w != 13 && slOutFmt w == 14
  let write (vs : List Val) : List (BitVec 8) × Nat × Nat :=
    if pairs then pairElems (slSat w) ((acc.map (·.pair)).zip vs) else writeElems (slOutFmt w) (slSat w) vs
  let r := write vs
  let nans := (vs.filter (· == .nan)).length
  let rest := writeElems (slOutFmt w) (slSat w) (vs.map fun v => if v == .nan then .fin false 0 1 else v)
  (r.1, r.2.1, r.2.2, nans + rest.2.2)

/-- The packets of a chunk's result (R279). -/
def resultPackets (x : Shot) (slot chunk leaves : Nat) (r : List (BitVec 8) × Nat × Nat × Nat) : List RsPacket :=
  let w := x.slate.toNat
  let parts := max 1 (ceilDiv r.1.length 4096)
  (upTo parts).map fun i =>
    { ty := 1, shot := x.id, epoch := slEpoch w, chunk, group := slGroup w, format := slOutFmt w
      payload := leBytes 32 (resultWord leaves i parts (memberCount x.entry) r.2.1 r.2.2.2) ++ (r.1.drop (4096 * i)).take 4096
      last := decide (i + 1 = parts), slot }

/-- A chunk completes (R278, R279): its leaf sum is checked, then its result is formed and put in line. -/
def State.completeChunk (s : State) (x : Shot) (slot chunk : Nat) (r : RSlot) : State :=
  let w := x.slate.toNat
  let total := mbLeaves x.entry
  let bad := if 1048576 < r.leaves then 1 else if total ≠ 0 ∧ r.leaves ≠ total then 2 else 0
  if bad ≠ 0 then
    (s.modShot x.id fun x => { x with work := { x.work with withheld := true } }).askAbort x.id 0x0A bad
  else
    let res := chunkResult w r.leaves r.acc
    let s1 := s.modShot x.id fun x => { x with sat := x.sat + res.2.1, nan := x.nan + res.2.2.1 }
    ((resultPackets x slot chunk r.leaves res).foldl State.send s1).modRslot x.id slot fun r => { r with sent := true }

/-- Read-port and write-port cycles of its slice that a lane needs for a contribution (R17, R273): 64 accumulators to a cycle; the
first contribution reads nothing, and the result is one read more. -/
def Shot.lanePorts (x : Shot) (r : RSlot) : Nat × Nat :=
  let n := ceilDiv (rdElems x.slate.toNat) 64
  ((if r.done = 0 then 0 else n) + (if r.arrived + 1 < memberCount x.entry then 0 else n), n)

/-- A lane uses port cycles that its slice has given it. -/
def State.lanePorts (s : State) (lane : Nat) (n : Nat × Nat) : State :=
  s.modLoft fun l => { l with laneUsed := Map.upd 0 (2 * lane + 1) (· + n.2) (Map.upd 0 (2 * lane) (· + n.1) l.laneUsed) }

/-- Whether a lane may accumulate now (R17, R201, R202, R271): duty and allotment leave it a cycle, and its slice has given it the
port cycles in this frame. -/
def State.laneRoom (s : State) (lane : Nat) (n : Nat × Nat) : Bool :=
  let l := s.loft
  s.issueRoom 40 4 && decide (Map.look 0 (2 * lane) l.laneUsed + n.1 ≤ Map.look 0 lane l.rdLane) &&
    decide (Map.look 0 (2 * lane + 1) l.laneUsed + n.2 ≤ Map.look 0 lane l.wrLane)

/-- LANE_ACCUMULATE (R270, R271, R273): checks 7 to 10 and the accumulation of the head of a lane's queue, as one step.
A contribution whose shot has gone meanwhile fails check 3 (R282), and one that is not dropped waits for its lane's share of the
port cycles. -/
def execLaneAccumulate (lane : Fin 64) (s : State) : Host.Outcome State Fault Refusal :=
  match Map.look [] lane.val s.shot.lanes with
  | [] => .next s
  | it :: rest =>
    if s.underTest (unitRedLane lane.val) then .next s else
    let s0 := s.modShotS fun y => { y with lanes := Map.put [] rest lane.val y.lanes }
    match s.reduceShot it.shot it.epoch with
    | none => .next (s0.dropContribution it.pipe it.beats 1)
    | some x =>
      let w := x.slate.toNat
      let r := x.rslot it.slot
      let next := it.slot + rdWindow w * r.next
      if it.chunk < next then .next (s0.dropContribution it.pipe it.beats 3)
      else if next < it.chunk then .next (s0.dropContribution it.pipe it.beats 6)
      else if r.bitmap.getLsbD it.contributor then .next (s0.dropContribution it.pipe it.beats 3)
      else if !s.laneRoom lane.val (x.lanePorts r) then .next s
      else
        let r1 : RSlot :=
          { r with
            isOpen := true
            bitmap := r.bitmap ||| BitVec.ofNat 512 (2 ^ it.contributor)
            arrived := r.arrived + 1
            done := r.done + 1
            leaves := (r.leaves + it.leaves) % 2 ^ 30
            acc := accumulate (rdOp w) (slIn w) (rdElems w) (r.done == 0) r.acc it.payload }
        let s1 := (((((s0.oweCredits it.pipe it.beats).modRslot x.id it.slot fun _ => r1).count 0x5200 4).tallyBlock 0x0D 1 {}).issue 40
          (ceilDiv (rdElems w) 48)).lanePorts lane.val (x.lanePorts r)
        if r1.arrived < memberCount x.entry then .next s1
        else .next (s1.completeChunk x it.slot it.chunk r1)

/-- CREDIT_RETURN (R52): one cycle of a pipeline's entry; a credit owed to the pipeline goes back. The cycle counts as one with
credits withheld while beats of its entry wait for their lanes (R271, R490; log 135). -/
def execCreditReturn (pipe : Fin 32) (s : State) : Host.Outcome State Fault Refusal :=
  let p := pipe.val
  let s1 := if s.entry.owed.count p < Map.look 0 p s.entry.credits then s.tallyBlock 0x1A 1 {} else s
  if s.entry.owed.contains p then
    .next ((s1.modEntry fun e =>
      { e with owed := e.owed.erase p, credits := Map.put 0 (Map.look 0 p e.credits - 1) p e.credits }).emit (.credit p))
  else .next s1

/-- RESULT_SEND (R54, R268, R279, R280): the head packet leaves; with a chunk result's last part its slot advances. -/
def execResultSend (s : State) : Host.Outcome State Fault Refusal :=
  match s.entry.results with
  | [] => .next s
  | p :: rest =>
    let s1 := (s.modEntry fun e => { e with results := rest }).emit (.result p)
    if p.ty ≠ 1 ∨ !p.last then .next s1
    else
      let s2 := (s1.modRslot p.shot p.slot fun r => { next := r.next + 1 }).count 0x5200 3
      .next (s2.modShot p.shot fun x =>
        let n := x.work.sentChunks + 1
        { x with
          work := { x.work with sentChunks := n }
          done := n
          ended := decide (slCount x.slate.toNat ≤ n) && !x.work.withheld })

end Sys2Proof.Machine
end

