-- ==== Sys2Proof/Machine/Gather.lean ====
section
/-! DEFINITION. Gather.lean: what engines write out (R251, R300, R514), GATHER on the gather units (R291 to R300), and SCORE and
PROJECT on the matrix arrays (R303 to R312). -/
namespace Sys2Proof.Machine

/-! ### Inputs and outputs of shots -/

/-- Version of a region that a shot captured at its admission (R92). -/
def Shot.ver (x : Shot) (r : Nat) : Nat := ((x.versions.find? fun v => v.1 == r).map (·.2)).getD 0

/-- An admitted shot of some kinds that works: not ended and not to be aborted. -/
def State.working (s : State) (id : Nat) (kinds : List Nat) : Option Shot :=
  (s.shot? id).filter fun x => kinds.contains (slKind x.slate.toNat) && !x.ended && x.abort.isNone

/-- Put bytes into the positions of a reply. -/
def putReply (l : List SectorRsp) (off : Nat) (bytes : List (BitVec 8)) (poison : Bool) : List SectorRsp :=
  (upTo l.length).map fun p =>
    let x := l.getD p {}
    let part := (upTo 64).filterMap fun b =>
      if off ≤ p * 64 + b ∧ p * 64 + b < off + bytes.length then some (b, bytes.getD (p * 64 + b - off) 0) else none
    if part.isEmpty then x
    else
      { poison := x.poison || poison
        data := BitVec.ofNat 512 (part.foldl (fun d y => putBytes d y.1 1 y.2.toNat) x.data.toNat) }

/-- What a request of an engine that works for a shot carries. -/
def Shot.req (x : Shot) (master : Nat) (cls : Cls) (region : Nat) : Req :=
  { master, cls, region, version := x.ver region, tenant := slTenant x.slate.toNat, shot := some x.id
    role := x.origin.role }

/-- What a read of an engine that works for a shot carries, its region and place apart. -/
def Shot.reader (x : Shot) (master : Nat) (cls : Cls) : Req := x.req master cls 0

/-- The bytes of a region that a shot needs, under the version it captured. -/
def Shot.part (x : Shot) (region off len : Nat) : EngPart := engPart region (x.ver region) off len

/-- Write a shot's output bytes at a byte offset of its output (R300, R305): into its destination for out 1, into its reply
for out 3. -/
def State.shotOut (s : State) (x : Shot) (master : Nat) (cls : Cls) (off : Nat) (bytes : List (BitVec 8)) : State :=
  let w := x.slate.toNat
  if slOut w = 3 then s.modShot x.id fun x => { x with reply := putReply x.reply off bytes false }
  else if usesDst w then s.engWrite (x.req master cls (slDst w)) (slDstOff w + off) bytes
  else s

/-- Write whole output sectors poisoned (R299). -/
def State.shotPoison (s : State) (x : Shot) (master : Nat) (cls : Cls) (off n : Nat) : State :=
  let w := x.slate.toNat
  if slOut w = 3 then s.modShot x.id fun x => { x with reply := putReply x.reply off (List.replicate n 0) true }
  else s.engWriteP (x.req master cls (slDst w)) (slDstOff w + off) (List.replicate n (0, true))

/-- A POISON sector in what a shot reads aborts it (R254). -/
def State.poisonAbort (s : State) (x : Shot) : State := s.askAbort x.id 6 0

/-- Counts of values saturated and replaced (R253). -/
def State.countVals (s : State) (id sat nan : Nat) : State := s.modShot id fun x => { x with sat := x.sat + sat, nan := x.nan + nan }

def State.modWork (s : State) (id : Nat) (f : ShotWork → ShotWork) : State := s.modShot id fun x => { x with work := f x.work }

/-! ### Bags -/

/-- Bytes of a row's elements, and of its trailer (R288). -/
def tbBody (e : Nat) : Nat := byteLen (tbFormat e) (tbElems e)
def tbTrailer (e : Nat) : Nat := tbScale e * 4

/-- Whether the sector at a byte of a row holds elements or trailer (R288). -/
def rowHolds (body trailer stride o : Nat) : Bool :=
  decide (o < body) || (decide (0 < trailer) && decide (stride < o + 64 + trailer) && decide (o < stride))

/-- The fewest aligned reads that cover the bytes of a row that hold elements and trailer (R293): region offset and bytes, one
in each 256 B line. -/
def rowReads (body trailer stride at_ : Nat) : List (Nat × Nat) :=
  coverReads (((upTo (stride / 64)).filter fun i => rowHolds body trailer stride (64 * i)).map fun i => at_ / 64 + i)

/-- Bags a unit holds (R294). -/
def State.unitBags (s : State) (unit : Nat) : Nat :=
  s.shot.shots.foldl (fun n x =>
    if slKind x.slate.toNat = 2 then n + (x.work.bags.filter fun b => x.work.lanesL.getD (b.bag % max 1 x.work.lanesL.length) 64 == unit).length else n) 0

/-- Unit that a bag of a shot is dealt to (R294). -/
def Shot.bagUnit (x : Shot) (b : Nat) : Nat := x.work.lanesL.getD (b % max 1 x.work.lanesL.length) 64

/-- First index entry and length of a bag (R291). -/
def Shot.bagSpan (x : Shot) (b : Nat) : Nat × Nat :=
  let w := x.slate.toNat
  if gaPool w = 4 then (b * gaConcat w, gaConcat w)
  else let l := x.work.lens.getD []; ((l.take b).foldl (· + ·) 0, l.getD b 0)

/-- Whether a bag was started. -/
def Shot.bagStarted (x : Shot) (b : Nat) : Bool := x.work.bags.any (fun g => g.bag == b) || x.work.closed.contains b

/-- The next bag of a shot for a unit (R294). -/
def Shot.nextBagFor (x : Shot) (unit : Nat) : Option Nat :=
  let n := gaBagCount x.slate.toNat
  let u := max 1 x.work.lanesL.length
  match firstIdx (· == unit) x.work.lanesL with
  | none => none
  | some j => ((upTo (n / u + 1)).map fun i => i * u + j).find? fun b => decide (b < n) && !x.bagStarted b

/-- The value of one row's elements in binary32 (R295). -/
def rowValues (e : Nat) (row : List (BitVec 8)) : List (BitVec 32) :=
  let word (at_ : Nat) : Val := f32 (BitVec.ofNat 32 (ofLe ((row.drop at_).take 4)))
  let rb := tbRowBytes e
  (readElems (tbFormat e) (tbElems e) row).map fun v =>
    if tbScale e = 1 then toF32 (v.mul (word (rb - 4)))
    else if tbScale e = 2 then toF32 ((v.mul (word (rb - 8))).add (word (rb - 4)))
    else toF32 v

/-- Add one row to a bag (R296). -/
def Bag.pool (g : Bag) (pool : Nat) (weight : BitVec 32) (j : Nat) (vs : List (BitVec 32)) : Bag :=
  let n := vs.length
  if pool = 4 then { g with any := true, out := (upTo g.out.length).map fun i => if j * n ≤ i ∧ i < j * n + n then vs.getD (i - j * n) 0 else g.out.getD i 0 }
  else
    let step (a : Acc) (v : BitVec 32) : Acc :=
      if pool = 3 then { a with pair := { hi := if g.any then maxF a.pair.hi v false else maxF v v false, lo := 0 } }
      else
        let t : List (BitVec 32) := if pool = 2 then (let p := pairOf ((f32 weight).mul (f32 v)); [p.hi, p.lo]) else [v]
        if g.any then { a with pair := t.foldl Pair.addTerm a.pair }
        else { a with pair := (t.drop 1).foldl Pair.addTerm { hi := t.headD 0, lo := 0 } }
    { g with any := true, acc := (upTo n).map fun i => step (g.acc.getD i {}) (vs.getD i 0) }

/-- The output bytes of a bag with the counts they make (R296, R300). -/
def bagOutput (w e : Nat) (g : Bag) : List (BitVec 8) × Nat × Nat :=
  let n := gaElemsOut w e
  let zero : Val := .fin false 0 1
  if gaPool w = 0 ∧ slOutFmt w = 14 ∧ g.any then pairElems (slSat w) (g.acc.map fun a => (a.pair, a.pair.val))
  else
    let vs : List Val :=
      if gaPool w = 4 then g.out.map f32
      else if !g.any then List.replicate n zero
      else if gaPool w = 3 then g.acc.map fun a => f32 a.pair.hi
      else if gaPool w = 1 then g.acc.map fun a => a.pair.val.divNat g.len
      else g.acc.map fun a => a.pair.val
    writeElems (slOutFmt w) (slSat w) vs

/-- A bag whose entries are all pooled gives its output (R299, R300); the last bag ends the shot's work. -/
def State.finishBag (s : State) (x : Shot) (g : Bag) : State :=
  let w := x.slate.toNat
  let o := gaStride w x.entry
  let s1 :=
    if g.poison then
      ((s.shotPoison x 0x24 .bulk (g.bag * o) o).modShot x.id fun x => { x with poison := true }).count 0x5300 5
    else
      let r := bagOutput w x.entry g
      (s.shotOut x 0x24 .bulk (g.bag * o) (r.1 ++ List.replicate (o - r.1.length) 0)).countVals x.id r.2.1 r.2.2
  let s2 := (s1.count 0x5300 3).modShot x.id fun x =>
    let k := x.work
    let done := k.doneBags + 1
    { x with
      ended := decide (gaBagCount w ≤ done)
      work := { k with bags := k.bags.filter (fun b => b.bag != g.bag), closed := k.closed ++ [g.bag], doneBags := done } }
  s2

/-- Change a bag in progress. -/
def State.modBag (s : State) (id b : Nat) (f : Bag → Bag) : State :=
  s.modWork id fun k => { k with bags := k.bags.map fun g => if g.bag == b then f g else g }

/-- The reads of an index list or of bag lengths, as 256 B READs where the extent allows (R293): those that bring some bytes of an
extent. -/
def Shot.listPart (x : Shot) (start fin off len : Nat) : EngPart :=
  let lo := max start (off / 256 * 256)
  let hi := min fin ((off + len + 255) / 256 * 256)
  x.part (slSrc x.slate.toNat) lo (hi - lo)

/-- The bag lengths are read and summed before the first row fetch (R291, R292). -/
def State.readLens (s : State) (x : Shot) : State :=
  let w := x.slate.toNat
  let r := slSrc w
  if gaPool w = 4 then s.modWork x.id fun k => { k with lens := some [] }
  else
    let off := slSrcOff w + slCount w * 8
    let need := [x.part r off (gaBags w * 4)]
    if !s.engHas x.id need then s.engAsk (x.reader 0x24 .critical) x.id need
    else
      let s1 := s.engDone x.id
      match s.engBytes? x.id r off (gaBags w * 4) with
      | none => s1.poisonAbort x
      | some l =>
        let lens := (upTo (gaBags w)).map fun i => ofLe ((l.drop (4 * i)).take 4)
        if lens.foldl (· + ·) 0 ≠ slCount w then s1.askAbort x.id 0x0B 0
        else s1.modWork x.id fun k => { k with lens := some lens }

/-- Issue one request of a row (R293). -/
def State.pushRow (s : State) (x : Shot) (unit bag entry off bytes : Nat) : State :=
  let r := tbRegion x.entry
  s.engIssue { x.req 0x24 .critical r with op := .read, bytes, addr := (s.slot r).known.base + off, dest := .row unit x.id bag entry }

/-- Issue the next entry of a bag (R293, R298): its index entry is read, and its row fetched unless it is out of range. -/
def State.issueEntry (s : State) (x : Shot) (unit : Nat) (g : Bag) : State :=
  let w := x.slate.toNat
  let t := x.entry
  let r := slSrc w
  let off := slSrcOff w + (g.first + g.issued) * 8
  let need := [x.listPart (slSrcOff w) (slSrcOff w + slCount w * 8) off 8]
  if !s.engHas x.id need then s.engAsk (x.reader 0x24 .critical) x.id need
  else
    match s.engBytes? x.id r off 8 with
    | none => s.poisonAbort x
    | some l =>
      let i := ofLe (l.take 4)
      if tbRows t ≤ i then
        let zeros : List (BitVec 32) := List.replicate (tbElems t) 0
        let g1 := if gaPool w = 3 then g else g.pool (if gaPool w = 2 then 0 else gaPool w) 0 g.issued zeros
        let s2 := (s.count 0x5300 2).modShot x.id fun x => { x with oor := x.oor + 1, done := x.done + 1 }
        let g2 := { g1 with issued := g.issued + 1, pooled := g.pooled + 1 }
        let s3 := s2.modBag x.id g.bag fun _ => g2
        if g2.pooled = g2.len then s3.finishBag x g2 else s3
      else
        let row := tbOffset t + i * tbRowBytes t
        let reads := rowReads (tbBody t) (tbTrailer t) (tbRowBytes t) row
        let s2 := s.each reads fun s q => s.pushRow x unit g.bag g.issued q.1 q.2
        (s2.modBag x.id g.bag fun g => { g with issued := g.issued + 1, rows := g.rows ++ [(g.issued, i, ofLe (l.drop 4))] }).issue 41
          (ceilDiv reads.length 4)

/-- Start a unit's next bag (R294). -/
def State.startBag (s : State) (x : Shot) (b : Nat) : State :=
  let w := x.slate.toNat
  let span := x.bagSpan b
  let g : Bag :=
    { bag := b, first := span.1, len := span.2
      out := if gaPool w = 4 then List.replicate (gaElemsOut w x.entry) 0 else [] }
  let s1 := s.modWork x.id fun k => { k with bags := k.bags ++ [g] }
  if g.len = 0 then s1.finishBag x g else s1

/-- GATHER_BAG_START (R292, R294): in admission order, a unit issues the next entry of a bag it holds, else starts its next
bag; before a shot's first row its bag lengths are read. -/
def execGatherBagStart (unit : Fin 32) (s : State) : Host.Outcome State Fault Refusal :=
  let u := unit.val
  if s.unitState (unitGather u) ≠ 0 ∨ !s.isReady 41 ∨ s.underTest (unitGather u) ∨ !s.issueRoom 41 3 then .next s
  else
    let able (x : Shot) : Bool := slKind x.slate.toNat == 2 && !x.ended && x.abort.isNone && x.work.lanesL.contains u
    let pick (x : Shot) : Option Bag := x.work.bags.find? fun g => x.bagUnit g.bag == u && decide (g.issued < g.len)
    let free := decide (s.unitBags u < 8)
    match s.shot.shots.find? fun x => able x && (x.work.lens.isNone || (pick x).isSome || (free && (x.nextBagFor u).isSome)) with
    | none => .next s
    | some x =>
      if x.work.lens.isNone then .next (s.readLens x)
      else
        match pick x with
        | some g => .next (s.issueEntry x u g)
        | none =>
          match x.nextBagFor u with
          | some b => .next (s.startBag x b)
          | none => .next s

/-- Requests of one row, and whether all of its data is here. -/
def State.rowReqs (s : State) (unit shot bag entry : Nat) : List Req := s.reqs.filter fun r => r.dest == .row unit shot bag entry

/-- Rows of a unit whose data is all here: shot, bag and entry, with the order in which the last of it returned. -/
def State.rowsHere (s : State) (u : Nat) : List ((Nat × Nat × Nat) × Nat) :=
  s.reqs.filterMap fun r =>
    match r.dest with
    | .row v shot bag entry =>
      let rs := s.rowReqs v shot bag entry
      if v = u ∧ rs.all (fun q => q.phase == .done) then some ((shot, bag, entry), rs.foldl (fun n q => max n q.landed) 0) else none
    | _ => none

/-- GATHER_ROW_DATA (R296, R297, R299): of the rows of a unit whose data has returned, the one that returned first is pooled. -/
def execGatherRowData (unit : Fin 32) (s : State) : Host.Outcome State Fault Refusal :=
  let u := unit.val
  match leastBy (·.2) (s.rowsHere u) with
  | none => .next s
  | some ((id, b, j), _) =>
    let rs := s.rowReqs u id b j
    let s1 : State := { s with reqs := s.reqs.filter fun r => r.dest != .row u id b j }
    match s1.working id [2] with
    | none => .next s1
    | some x =>
      match x.work.bags.find? fun g => g.bag == b with
      | none => .next s1
      | some g =>
        let w := x.slate.toNat
        let t := x.entry
        let row := ((g.rows.find? fun y => y.1 == j).map (·.2)).getD (0, 0)
        -- sector answers by byte offset in the row
        let first := (s.slot (tbRegion t)).known.base + tbOffset t + row.1 * tbRowBytes t
        let ans := rs.flatMap fun r => r.rsp.filterMap fun a =>
          if first ≤ r.addr + 64 * a.1 then some (r.addr + 64 * a.1 - first, a.2) else none
        let bytes := (upTo (tbRowBytes t / 64)).flatMap fun i =>
          match ans.find? fun a => a.1 == 64 * i with
          | some a => leBytes 64 a.2.data.toNat
          | none => List.replicate 64 0
        let bad := (ans.any fun a => a.2.poison && rowHolds (tbBody t) (tbTrailer t) (tbRowBytes t) a.1) || rs.any fun r => r.whole.isSome
        let weight : BitVec 32 := BitVec.ofNat 32 row.2
        let g1 := if bad then { g with poison := true } else g.pool (gaPool w) weight j (rowValues t bytes)
        let g2 := { g1 with pooled := g.pooled + 1, rows := g.rows.filter fun y => y.1 != j }
        let s2 := ((s1.count 0x5300 1).modShot id fun x => { x with done := x.done + 1 }).tallyBlock 0x0F 1 (s1.shotTxn w x.origin)
        let s3 := s2.modBag id b fun _ => g2
        .next (if g2.pooled = g2.len then s3.finishBag x g2 else s3)

end Sys2Proof.Machine
end

