-- ==== Sys2Proof/Machine/Dolly.lean ====
section
/-! DEFINITION. Dolly.lean: COPY and CONVERT on Dolly (R332, R333), FILL (R334) and SCAN (R369 to R372). -/
namespace Sys2Proof.Machine

/-- The chunks that a part of a shot's run of writes touches, and that the run covers whole (R334): region offsets of their
first bytes. -/
def runChunks (lo fin off n : Nat) : List Nat :=
  if n = 0 then []
  else ((upTo ((off + n - 1) / 2097152 + 1 - off / 2097152)).map fun i => (off / 2097152 + i) * 2097152).filter fun c =>
    decide (lo ≤ c) && decide (c + 2097152 ≤ fin)

/-- Those of them that are BLANK: they need no priority fill, but an entry of the fill table each (R83, R334). -/
def State.runStarts (s : State) (q : Req) (lo fin off n : Nat) : List Nat :=
  (runChunks lo fin off n).filter fun c => s.blank (chunkOf (s.entryFor q.region q.version c) c)

/-- Whether the fill table has entries for some runs, not held for the background fill (R83, R334). -/
def State.runRoom (s : State) (runs : Nat) : Bool :=
  runs == 0 || (decide ((s.regions.fills.filter (·.prio)).length + runs ≤ 96) && decide (s.regions.fills.length + runs ≤ 128))

/-- A run of a shot covers a whole BLANK chunk: it is FILLING until the last of its writes is visible (R334). -/
def State.startRun (s : State) (x : Shot) (region off : Nat) : State :=
  let e := s.entryFor region (x.ver region) off
  s.modRegions fun g =>
    { g with fills := g.fills ++ [{ chunk := chunkOf e off, region, taken := false, stackMask := fillStacks e, share := 0
                                    started := s.time.frame, span := fillStacks e, run := some x.id }] }

/-- A shot on Dolly, or a FILL, writes a part of its run, which ends at `fin` (R333, R334). -/
def State.runWrite (s : State) (x : Shot) (q : Req) (fin off : Nat) (l : List (BitVec 8 × Bool)) : State :=
  (s.each (s.runStarts q (slDstOff x.slate.toNat) fin off l.length) fun s c => s.startRun x q.region c).engWriteP q off l

/-- Whether a shot has written all of a chunk that its run covers (R334). -/
def State.runPast (s : State) (x : Shot) (f : Fill) : Bool :=
  let w := x.slate.toNat
  let p := x.work.pos
  let fin := (f.chunk - (s.entryFor f.region (x.ver f.region) (slDstOff w)).chunkBase + 1) * 2097152
  if slKind w = 7 then
    let eb := elemBits (slOutFmt w)
    let fin1 := slDstOff w + slCount w * eb / 8
    decide (min fin fin1 ≤ slDstOff w + p * eb / 8) && (decide (fin ≤ fin1) || decide (fin ≤ fin1 + p / 32))
  else decide (fin ≤ slDstOff w + p)

/-- A part of a shot is done. -/
def State.partDone (s : State) (x : Shot) (n : Nat) (poison : Bool) : State :=
  s.modShot x.id fun y =>
    { y with
      done := y.done + n
      poison := y.poison || poison
      ended := decide (slCount y.slate.toNat ≤ y.work.pos + n)
      work := { y.work with pos := y.work.pos + n } }

/-- The next part of a COPY (R333): at most 1,024 B, to the end of a source line or of a destination chunk. Extents that
overlap are read whole before any byte is written. -/
def State.copyPart (s : State) (x : Shot) : State :=
  let w := x.slate.toNat
  let src := slSrcOff w + x.work.pos
  let dst := slDstOff w + x.work.pos
  let fin := slDstOff w + slCount w
  let rest := slCount w - x.work.pos
  let whole := slSrc w == slDst w && overlaps (slSrcOff w) (slCount w) (slDstOff w) (slCount w)
  let n := if whole then rest else min rest (min (1024 - src % 256) (2097152 - dst % 2097152))
  let need := [x.part (slSrc w) src n]
  let q := x.req 0x26 .upkeep (slDst w)
  if (upTo 32).any (fun st => (s.stack st).mig.isSome) || !s.issueRoom 41 1 ||
      !s.runRoom (s.runStarts q (slDstOff w) fin dst n).length then s
  else if !s.engHas x.id need then s.engAsk (x.reader 0x26 .upkeep) x.id need
  else
    let l := s.engBytesP x.id (slSrc w) src n
    let s1 := ((s.engDone x.id).issue 41 (ceilDiv n 1024)).runWrite x q fin dst l
    (s1.bump 0x5100 1 0 n).partDone x n (l.any (·.2))

/-- Elements of a CONVERT part from their bytes: values, and which of them come from a POISON sector, whole blocks for MX
(R332). -/
def convertIn (fmt n : Nat) (body scales : List (BitVec 8 × Bool)) : List Val × List Bool :=
  let vals := readElems fmt n (body.map (·.1) ++ scales.map (·.1))
  let eb := elemBits fmt
  let one (i : Nat) : Bool :=
    (upTo ((i * eb + eb - 1) / 8 + 1 - i * eb / 8)).any (fun k => (body.getD (i * eb / 8 + k) (0, false)).2) ||
      (isMx fmt && (scales.getD (i / 32) (0, false)).2)
  (vals, (upTo n).map one)

/-- Poison of output elements: of whole blocks when either format is MX (R332). -/
def convertPoison (mx : Bool) (l : List Bool) : List Bool :=
  if mx then (blocks32 l).flatMap fun b => List.replicate b.length (b.any id) else l

/-- The next part of a CONVERT (R332): 256 elements. -/
def State.convertPart (s : State) (x : Shot) : State :=
  let w := x.slate.toNat
  let p := x.work.pos
  let n := min 256 (slCount w - p)
  let i := slIn w
  let o := slOutFmt w
  let src := slSrc w
  let c := clsOf (slClass w)
  let at1 := slSrcOff w + p * elemBits i / 8
  let at2 := slSrcOff w + slCount w * elemBits i / 8 + p / 32
  let len1 := n * elemBits i / 8
  let len2 := if isMx i then n / 32 else 0
  -- the scales of an MX array follow its elements: one cover of the sectors of both
  let need : List EngPart :=
    [{ region := src, version := x.ver src, reads := coverReads (sectorsOf at1 len1 ++ sectorsOf at2 len2).eraseDups }]
  let eb := elemBits o
  let dst1 := slDstOff w + p * eb / 8
  let fin1 := slDstOff w + slCount w * eb / 8
  let dst2 := fin1 + p / 32
  let fin2 := fin1 + (if isMx o then slCount w / 32 else 0)
  let q := x.req 0x26 c (slDst w)
  let runs := (s.runStarts q (slDstOff w) fin2 dst1 (n * eb / 8)).length +
    (s.runStarts q (slDstOff w) fin2 dst2 (if isMx o then n / 32 else 0)).length
  if !s.issueRoom 41 (if c == .upkeep then 1 else 6) || !s.runRoom runs then s
  else if !s.engHas x.id need then s.engAsk (x.reader 0x26 c) x.id need
  else
    let x1 := convertIn i n (s.engBytesP x.id src at1 len1) (s.engBytesP x.id src at2 len2)
    let bad := convertPoison (isMx i || isMx o) x1.2
    let vals := (upTo n).map fun k => if bad.getD k false then Val.fin false 0 1 else x1.1.getD k (.fin false 0 1)
    let out := writeElems o (slSat w) vals
    let body := (upTo (n * eb / 8)).map fun b =>
      (out.1.getD b 0, (upTo n).any fun k => bad.getD k false && decide (k * eb / 8 ≤ b) && decide (b ≤ (k * eb + eb - 1) / 8))
    let scales := if isMx o then (upTo (n / 32)).map fun b => (out.1.getD (n * eb / 8 + b) 0, bad.getD (32 * b) false) else []
    let s1 := ((s.engDone x.id).issue 41 1).runWrite x q fin2 dst1 body
    let s2 := s1.runWrite x q fin2 dst2 scales
    ((s2.countVals x.id out.2.1 out.2.2).bump 0x5100 2 0 n).partDone x n (bad.any id)

/-- DOLLY_SHOT_TRANSFER (R332, R333): the next part of a COPY or CONVERT shot. -/
def execDollyShotTransfer (shot : BitVec 16) (s : State) : Host.Outcome State Fault Refusal :=
  match s.working shot.toNat [7, 8] with
  | none => .next s
  | some x =>
    if !s.isReady 41 then .next s
    else if slKind x.slate.toNat = 8 then .next (s.copyPart x)
    else .next (s.convertPart x)

/-- FILL_SHOT_WRITE (R334): the next part of a FILL shot, at most 1,024 B; the byte at region offset o is pattern byte
o mod 8. -/
def execFillShotWrite (shot : BitVec 16) (s : State) : Host.Outcome State Fault Refusal :=
  match s.working shot.toNat [10] with
  | none => .next s
  | some x =>
    let w := x.slate.toNat
    let off := slDstOff w + x.work.pos
    let fin := slDstOff w + slCount w
    let n := min (fin - off) (1024 - off % 256)
    let q := x.req 0x28 .upkeep (slDst w)
    if !s.runRoom (s.runStarts q (slDstOff w) fin off n).length then .next s
    else
      let byte (o : Nat) : BitVec 8 := if fiPattern w then BitVec.ofNat 8 (fiWord w >>> (8 * (o % 8))) else 0
      .next (((s.runWrite x q fin off ((upTo n).map fun i => (byte (off + i), false))).bump 0x5100 3 0 n).partDone x n false)

/-- One byte fed to a check-value register (R371). -/
def feedByte (cfg reg : Nat) (b : BitVec 8) : Nat :=
  let width := bits cfg 198 192
  let mask := 2 ^ width
  let x := if bit cfg 199 then reflectBits 8 b.toNat else b.toNat
  (upTo 8).foldl (fun r _ =>
    if bit r (width - 1) then Nat.xor (r * 2) (bits cfg 63 0) % mask else r * 2 % mask) (Nat.xor reg (x <<< (width - 8)))

/-- Bytes fed to a check-value register. -/
def feedBytes (cfg reg : Nat) (l : List (BitVec 8)) : Nat := l.foldl (feedByte cfg) reg

/-- Reads of an engine that lie before an offset of a region are done with. -/
def State.engPast (s : State) (who region off : Nat) : State :=
  { s with reqs := s.reqs.filter fun r => !(r.dest == .eng who && r.region == region && decide (s.reqOff r + r.bytes ≤ off)) }

/-- CHECK_VALUE_BLOCK (R371, R372): the next 64 B block of a SCAN shot, read in 256 B lines; after the last one the value is
formed. -/
def execCheckValueBlock (shot : BitVec 16) (s : State) : Host.Outcome State Fault Refusal :=
  match s.working shot.toNat [9] with
  | none => .next s
  | some x =>
    let w := x.slate.toNat
    let r := slSrc w
    let p := x.work.pos
    let n := min 64 (slCount w - p)
    let off := slSrcOff w + p
    let lo := max (slSrcOff w) (off / 256 * 256)
    let hi := min (slSrcOff w + slCount w) (((off + n - 1) / 256 + 1) * 256)
    let need := [x.part r lo (hi - lo)]
    if !s.isReady 41 || !s.issueRoom 41 1 then .next s
    else if !s.engHas x.id need then .next (s.engAsk (x.reader 0x27 .upkeep) x.id need)
    else
      match s.engBytes? x.id r off n with
      | none => .next ((s.engDone x.id).poisonAbort x)
      | some l =>
        let s1 := (s.engPast x.id r ((off + n) / 256 * 256)).issue 41 1
        let cfg := x.work.config
        let fold := bits cfg 202 201
        let pre : List (BitVec 8) :=
          if fold = 1 then leBytes 8 ((s.entryFor r (x.ver r) off).base + off)
          else if fold = 2 then leBytes 8 ((snSeq w + p / 64) % 2 ^ 64)
          else []
        let reg := feedBytes cfg (feedBytes cfg x.work.reg pre) l
        let last := decide (slCount w ≤ p + n)
        let value := if last then checkFinal cfg reg else reg
        .next ((s1.bump 0x6011 2 0 n).modShot x.id fun x =>
          { x with
            done := x.done + n
            ended := last
            reply := if last && slOut w == 3 then [{ data := BitVec.ofNat 512 value }] else x.reply
            work := { x.work with pos := p + n, reg := value } })

end Sys2Proof.Machine
end

