-- ==== Sys2Proof/Machine/Extents.lean ====
section
/-! DEFINITION. Extents.lean: the free pools: per-stack extents (R76, R78), chunk indices (R82) and block addresses that
regions take (R77). -/
namespace Sys2Proof.Machine

/-- Whether the committed version is a rebuild's: only the block changes the stacks of a live region (R81). -/
def RegionSlot.rebuilds (sl : RegionSlot) : Bool :=
  match sl.next with
  | some n => sl.now.live && n.live && n.stackMask != sl.now.stackMask
  | none => false

/-- The versions of a region that still take space: current, committed and old (R89, R92). -/
def RegionSlot.versions (sl : RegionSlot) : List RegionEntry :=
  ([sl.now] ++ sl.next.toList ++ sl.old.toList).filter (·.live)

/-- Extents that an entry takes on each stack of its set (R76). -/
def extentsOf (e : RegionEntry) : Nat :=
  if e.loft = 2 then 0 else if e.mode = 1 then ceilDiv e.size (popcount 32 e.stackMask) else e.size

/-- Runs of extents taken on a stack: first and count; a region that is skipped takes none. -/
def State.takenExtents (s : State) (st : Nat) (skip : Option Nat) : List (Nat × Nat) :=
  s.regions.slots.flatMap fun (x : Nat × RegionSlot) =>
    if skip == some x.1 then []
    else (x.2.versions.filter fun e => e.loft != 2 && bit e.stackMask st).map fun e => (e.extentBase, extentsOf e)

/-- Runs of chunk indices taken (R82). -/
def State.takenChunks (s : State) (skip : Option Nat) : List (Nat × Nat) :=
  s.regions.slots.flatMap fun (x : Nat × RegionSlot) =>
    if skip == some x.1 then [] else x.2.versions.map fun e => (e.chunkBase, e.size)

/-- Runs of block addresses taken, in bytes (R77). -/
def State.takenAddrs (s : State) (skip : Option Nat) : List (Nat × Nat) :=
  s.regions.slots.flatMap fun (x : Nat × RegionSlot) =>
    if skip == some x.1 then [] else x.2.versions.map fun e => (e.base, e.size * 2097152)

/-- Whether a run meets none of some others. -/
def runFree (taken : List (Nat × Nat)) (base n : Nat) : Bool :=
  taken.all fun t => decide (t.1 + t.2 ≤ base) || decide (base + n ≤ t.1)

/-- The lowest base at which a run of `n` is free below a limit: it is 0 or the end of a taken run. -/
def lowestRun (taken : List (Nat × Nat)) (n limit : Nat) : Option Nat :=
  leastBy id ((0 :: taken.map fun t => t.1 + t.2).filter fun b => decide (b + n ≤ limit) && runFree taken b n)

/-- The extents free on every stack of a set at a base (R78); none when there is no such run. -/
def State.placeExtents (s : State) (mask n want : Nat) (skip : Option Nat) : Option Nat :=
  let taken := (setBits 32 mask).flatMap fun st => s.takenExtents st skip
  if want = 0xFFFF then lowestRun taken n 64512
  else if want + n ≤ 64512 ∧ runFree taken want n then some want
  else none

/-- Number of units a set of runs covers, overlaps counted once. -/
def covered (taken : List (Nat × Nat)) : Nat :=
  let sorted := taken.mergeSort fun a b => decide (a.1 ≤ b.1)
  (sorted.foldl (fun (acc : Nat × Nat) (t : Nat × Nat) =>
    (acc.1 + (t.1 + t.2 - max acc.2 t.1), max acc.2 (t.1 + t.2))) (0, 0)).1

/-- The longest free run below a limit (0x3401.02). -/
def longestRun (taken : List (Nat × Nat)) (limit : Nat) : Nat :=
  (0 :: taken.map fun t => t.1 + t.2).foldl (fun m b =>
    if runFree (taken.filter fun t => t.2 != 0) b 1 then
      let stop := taken.foldl (fun n t => if b ≤ t.1 then min n t.1 else n) limit
      max m (stop - b)
    else m) 0

end Sys2Proof.Machine
end

