-- ==== Sys2Proof/Machine/Mgmt.lean ====
section
/-! DEFINITION. Mgmt.lean: what every management request passes (R429 to R431, R436, R439): the session and endpoint it
comes from, its roles, and the block state. -/
namespace Sys2Proof.Machine

/-- Roles as a mask: Operator, Keeper, Tenant, Observer. -/
def roleO : Nat := 1
def roleK : Nat := 2
def roleT : Nat := 4
def roleB : Nat := 8
def roleAll : Nat := 15

/-- Whether a session holds a role of a mask. -/
def Session.has (x : Session) (mask : Nat) : Bool := (upTo 4).any fun i => bit x.roles i && bit mask i

/-- A session whose rights are its tenant's only. -/
def Session.tenantOnly (x : Session) : Bool := bit x.roles 2 && !bit x.roles 0 && !bit x.roles 1 && !bit x.roles 3

/-- The tenant that an event caused by a session belongs to. -/
def Session.eventTenant (x : Session) : Option Nat := if x.tenantOnly then some x.tenant else none

/-- What becomes of a management message: dropped without an answer, refused for want of a session, or taken from a
session. -/
inductive Gate where
  | drop (s : State)
  | noSession (s : State)
  | go (n : Nat) (s : State)

/-- A message that gets no answer: a mailbox window is free again. -/
def State.dropMessage (s : State) (rq : Rq) : State :=
  if rq.transport = 1 then s.modMgmt fun m => { m with mbBusy := false } else s

/-- The first check of a message (R429 to R431): the dictionary answers from its boundary on (R468); a message for Hn
from another transport or endpoint is discarded and counted; one of a session that is ending is dropped. -/
def State.gate (s : State) (rq : Rq) : Gate :=
  if s.block.boot != .up && s.block.boot != .held then .drop (s.dropMessage rq)
  else
    match rq.session with
    | none => .noSession s
    | some n =>
      let x := s.session n.val
      if !x.isOpen then .noSession s
      else if x.transport != rq.transport.val || x.endpoint != rq.endpoint.toNat then .drop ((s.dropMessage rq).count 0x1311 6)
      else if x.ending then .drop (s.dropMessage rq)
      else .go n.val (s.modSession n.val fun x => { x with lastMsg := s.time.frame })

/-- Indices that SAFE still serves inside a session (R439). -/
def safeIndex (ix : Nat) : Bool := ix == 0x1000 || ix == 0x1100 || ix == 0x1200 || ix == 0x1300

/-- Whether SAFE refuses a request that names an index (R438, R439); the state request may ask for SAFE again. -/
def State.safeRefuses (s : State) (ix : Nat) : Bool := s.block.state == .safe && !safeIndex ix

/-- A write of one direct element (R436): session, role, value range, block state, object state, readiness, then its
effect and its answer. Each check answers an abort code, zero when it passes. -/
def State.directWrite (s : State) (rq : Rq) (ix sub el roles : Nat)
    (range state resource : State → Nat → Nat) (apply : State → Nat → State) : State :=
  match s.gate rq with
  | .drop s => s
  | .noSession s => s.refuse rq 2 abSession ix sub el
  | .go n s =>
    if !(s.session n).has roles then s.refuse rq 2 abRoleWrite ix sub el
    else if range s n != 0 then s.refuse rq 2 (range s n) ix sub el
    else if s.safeRefuses ix then s.refuse rq 2 abBlockState ix sub el
    else if state s n != 0 then s.refuse rq 2 (state s n) ix sub el
    else if resource s n != 0 then s.refuse rq 2 (resource s n) ix sub el
    else (apply s n).answer rq 2 0 []

/-- A check that always passes. -/
def passes (_ : State) (_ : Nat) : Nat := 0

/-- A check from a condition. -/
def refuseIf (c : Bool) (code : Nat) : Nat := if c then code else 0

/-- A session starts to end: it frees its number at the next boundary (R431). -/
def State.endSession (s : State) (n : Nat) : State :=
  if (s.session n).isOpen then s.modSession n fun x => { x with ending := true } else s

/-- A session's locks are broken and its staged writes discarded (R449): event code 1 for a lease, 2 for a session. -/
def State.breakLocks (s : State) (n code : Nat) : State :=
  let x := s.session n
  let s1 := s.modSession n fun x => { x with scopes := [], staged := [], broken := !x.scopes.isEmpty || x.broken }
  if x.scopes.isEmpty then s1
  else (s1.count 0x1200 8).logAsked 1 code n (n + x.lockNo * 256)

/-- A session that is ending is gone (R431): locks broken, its epoch raised, its number free. -/
def State.dropSession (s : State) (n : Nat) : State :=
  let s1 := ((s.breakLocks n 2).bump 0x1200 5 n 1).asks (askKey 1 2 n) 255
  let s2 := s1.modSession n fun _ => {}
  s2.modMgmt fun m => { m with keyUpdates := Map.put 0 0 n m.keyUpdates }

end Sys2Proof.Machine
end

