-- ==== Sys2Proof/Machine/Posts.lean ====
section
/-! DEFINITION. Posts.lean: posting (R243 to R245), the release of held requests and posts (R109, R498, R499), and the
commands that act on lists, shots and contexts (R246, R249, R250, R255). -/
namespace Sys2Proof.Machine

/-- Domains a slate's kind needs (R197, R199, R243): all of them ready, but of the arrays one is enough (R312). -/
def State.needs (s : State) (w : Nat) : List Nat :=
  let k := slKind w
  if k = 1 ∨ k = 5 ∨ k = 6 then [40]
  else if k = 3 then (if 0 < scK w then [40] else [])
  else if k = 4 then []
  else if k = 10 then
    let e := (s.slot (slDst w)).now
    if e.loft = 2 then
      ((upTo e.size).filterMap fun c => (s.scratchKey (e.chunkBase + c) 0).map fun key => 32 + key / 8192 / 256).eraseDups
    else setBits 32 e.stackMask
  else [41]

/-- Whether a slate's kind takes Loft engine units, which any quadrant may give (R227, R267, R309, R320). -/
def needsUnits (w : Nat) : Bool := slKind w == 1 || slKind w == 5 || (slKind w == 3 && decide (0 < scK w))

/-- Whether the engines that a slate's kind needs are ready (check 11 of R243). -/
def State.enginesReady (s : State) (w : Nat) : Bool :=
  (s.needs w).all s.isReady && ((slKind w != 3 && slKind w != 4) || !s.arraysIn.isEmpty) &&
    (!needsUnits w || (upTo 4).any fun q => s.isReady (32 + q))

/-- A shot refused for a gated domain starts that domain's wake (R199). -/
def State.wakeFor (s : State) (w : Nat) : State :=
  let arrays := if (slKind w == 3 || slKind w == 4) && s.arraysIn.isEmpty then [36, 37, 38, 39] else []
  let quadrants := if needsUnits w && !(upTo 4).any fun q => s.isReady (32 + q) then [32, 33, 34, 35] else []
  s.each (s.needs w ++ arrays ++ quadrants) fun s d =>
    if s.readiness d != 3 then s
    else if d < 32 then (if (s.stack d).byGaffer then s else s.modStack d fun k => { k with wakeReq := true })
    else s.setReady d 4

/-- Whether a stack of a region a slate names is at T4 (R215, R313). -/
def State.hotRegion (s : State) (w : Nat) : Bool :=
  (slRegionsAll w (s.descOf w)).any fun r =>
    let e := (s.slot r).now
    e.loft != 2 && (setBits 32 e.stackMask).any fun st => decide (4 ≤ s.level st)

/-- The first check of R243 that a slate fails, with its detail and abort code; 0 when it passes all. `tenant` is the
poster's; `any` says that an Operator session posts for any tenant. -/
def State.postCheck (s : State) (w list : Nat) (port : Option Nat) (tenant : Nat) (any : Bool) : Nat × Detail × Nat :=
  let le := s.obj 0x5001 1 list
  let c := s.ctx (slShot w)
  let k := slKind w
  let stateOk := match s.block.state with
    | .bringUp | .service => true
    | .test => any && (k == 8 || k == 9 || k == 10)
    | _ => false
  if !bit le 10 then (1, .state, abObjState)
  else if k = 0 ∨ 11 ≤ k then (2, .range, abRange)
  else if (!any && slTenant w != tenant) || slTenant w != bits le 9 0 then (3, .denied, abTenant)
  else if !s.check4 w port.isSome then (4, .range, abRange)
  else if !(slRegions w).all fun r => (s.slot r).now.live then (5, .range, abRange)
  else if (slRegions w).any (fun r => (s.slot r).now.tenant != slTenant w) ||
      ((descType k).isSome && teType (s.descOf w) != 0 && teTenant (s.descOf w) != slTenant w) then (6, .denied, abTenant)
  else if !s.check7 w then (7, .range, abRange)
  else if !stateOk || s.block.scanEn then (8, .state, abBlockState)
  else if c.state != 0 || slEpoch w != (c.epoch + 1) % 256 then (9, .state, abObjState)
  else if (match port with | some p => slOut w == 3 && s.tagOut p (slReply w) | none => false) then (10, .state, abObjState)
  else if !s.enginesReady w || s.hotRegion w then (11, .notReady, abNotReady)
  else if bits le 19 11 ≤ (s.list list).length then (12, .notReady, abNoRoom)
  else (0, .none, 0)

/-- A slate that passes every check enters its list, and its context becomes LISTED (R243). -/
def State.enlist (s : State) (w list : Nat) (o : Origin) : State :=
  let l : Listed := { slate := BitVec.ofNat 512 w, origin := o }
  ((s.setList list (s.list list ++ [l])).stampHead list).modCtx (slShot w) fun c =>
    { state := 1, epoch := slEpoch w, cause := 0, flags := c.flags, tenant := slTenant w, frame := s.time.frame }

/-- A POST that has left its hold buffer and has its slate is checked, and taken into its list (R49, R243); one that waits for
an engine or for room in its list goes back to its hold buffer in compatibility mode (R498). -/
def State.portPost (s : State) (q : Req) : State :=
  let w := (q.data.getD 0).toNat
  let list := q.addr % 64
  let put (s : State) (f : Req → Req) : State := s.modReq q.id f
  let refuse (s : State) (d : Detail) : State := put s fun q => { q with whole := some (.refused, d), phase := .done, notReady := false }
  let c := if 64 ≤ q.addr then (1, Detail.range, abRange) else s.postCheck w list (some q.master) q.tenant false
  if c.1 = 0 then
    put (s.enlist w list (.port q.master)) fun q => { q with whole := some (.done, .none), phase := .done, notReady := false }
  else if 11 ≤ c.1 ∧ s.compat then
    -- R499: a held post whose unit is quarantined or gated, or whose stack is gated, is answered STATE
    let lost := q.notReady && (s.needs w).any fun d => s.readiness d == 2 || s.readiness d == 3
    if lost then refuse (s.bump 0x5000 8 c.1 1) .state
    else put (s.wakeFor w) fun q => { q with notReady := true, phase := .held, routed := false }
  else refuse ((if c.1 = 11 then s.wakeFor w else s).bump 0x5000 8 c.1 1) c.2.1

/-- Posts of a port that wait for their slates, and have them now, are taken (R49). -/
def State.takePosts (s : State) (p : Nat) : State :=
  s.each ((s.portReqs p).filter fun r => r.op == .post && r.phase == .wait && r.data.isSome) fun s r => s.portPost r

/-- WRITE_DATA (R48, R49). -/
def execWriteData (port : Fin 36) (ps : List Sector) (s : State) : Host.Outcome State Fault Refusal :=
  let p := port.val
  if 65536 - s.writeBuffer p < 512 then .next (s.each ps fun s _ => (s.bump 0x1311 7 0 1).loseData p)
  else .next (s.each ps fun s d => (s.giveData p d).takePosts p)

/-- The first held request of a class leaves its hold buffer when both caps have room and nothing holds it (R96, R109, R498);
a POST then goes to the core with its slate, or waits for that (R49). -/
def State.holdRelease (s : State) (p : Nat) (c : Cls) : State :=
  match (s.portReqs p).find? fun r => r.cls == c && r.phase == .held && !r.reserved with
  | none => s
  | some r =>
    if r.op == .post then
      if s.capRoom r then (s.modReq r.id fun q => { q with phase := .wait, routed := true }).takePosts p else s
    else
      let x := if r.notReady then s.retryHeld r else (s, some r)
      match x.2 with
      | none => x.1
      | some r1 => if x.1.capRoom r1 && !x.1.behindHeld r1 then x.1.leaveHold r1 else x.1

/-- A post by a session (R243): Operator and Tenant may post. -/
def State.hostPost (s : State) (rq : Rq) (list w : Nat) : State :=
  match s.gate rq with
  | .drop s => s
  | .noSession s => s.refuse rq 2 abSession 0x5001 3 list
  | .go n s =>
    let x := s.session n
    if 64 ≤ list then s.refuse rq 2 abElement 0x5001 3 list
    else if !x.has (roleO + roleT) then s.refuse rq 2 abRoleWrite 0x5001 3 list
    else if s.safeRefuses 0x5001 then s.refuse rq 2 abBlockState 0x5001 3 list
    else
      let c := s.postCheck w list none x.tenant (bit x.roles 0)
      if c.1 = 0 then (s.enlist w list (.session n (bit x.roles 0))).answer rq 2 0 []
      else ((if c.1 = 11 then s.wakeFor w else s).bump 0x5000 8 c.1 1).refuse rq 2 c.2.2 0x5001 3 list

/-- A post of a slate of a kind (R240, R243): a POST slot, checked at orders 1 and 2 of R513 first, or a session's write. The
slate is the slot's write data (R48); a POST that no other of its class stands before leaves its hold buffer at once. -/
def State.post (s : State) (kind : Nat) (p : Post) : State :=
  let w := p.slate.toNat - slKind p.slate.toNat * 2 ^ 24 + kind * 2 ^ 24
  match p.origin with
  | .host rq list => s.hostPost rq list.toNat w
  | .port r sent =>
    let p := r.port.val
    if !s.portReady p r.cls then s
    else
      let q := s.newReq .post r
      let t := s.tallyBlock 1 1 q.txn
      let give (s : State) : State := if sent then s.giveData p (BitVec.ofNat 512 w) else s
      if s.tagOut p q.tag then give ((t.count 0x1311 2).refuseReq q .state)
      else
        let t1 := give (t.pushReq q)
        match (t1.portReqs p).find? fun x => x.cls == r.cls && x.phase == .held && !x.reserved with
        | some x => if x.id = q.id then t1.holdRelease p r.cls else t1
        | none => t1

/-- HOLD_BUFFER_RELEASE (R109, R498): the oldest held request of a class leaves when both caps have room and no
NOT_READY cause holds it. -/
def execHoldBufferRelease (port : Fin 36) (c : Cls) (s : State) : Host.Outcome State Fault Refusal := .next (s.holdRelease port.val c)

/-- REDUCE (R265). -/
def execReduce (p : Post) (s : State) : Host.Outcome State Fault Refusal := .next (s.post kReduce p)
/-- GATHER (R290). -/
def execGather (p : Post) (s : State) : Host.Outcome State Fault Refusal := .next (s.post kGather p)
/-- SCORE (R305). -/
def execScore (p : Post) (s : State) : Host.Outcome State Fault Refusal := .next (s.post kScore p)
/-- PROJECT (R305). -/
def execProject (p : Post) (s : State) : Host.Outcome State Fault Refusal := .next (s.post kProject p)
/-- SELECT (R318). -/
def execSelect (p : Post) (s : State) : Host.Outcome State Fault Refusal := .next (s.post kSelect p)
/-- FILTER (R329). -/
def execFilter (p : Post) (s : State) : Host.Outcome State Fault Refusal := .next (s.post kFilter p)
/-- CONVERT (R332). -/
def execConvert (p : Post) (s : State) : Host.Outcome State Fault Refusal := .next (s.post kConvert p)
/-- COPY (R333). -/
def execCopy (p : Post) (s : State) : Host.Outcome State Fault Refusal := .next (s.post kCopy p)
/-- SCAN (R370). -/
def execScan (p : Post) (s : State) : Host.Outcome State Fault Refusal := .next (s.post kScan p)
/-- FILL (R334). -/
def execFill (p : Post) (s : State) : Host.Outcome State Fault Refusal := .next (s.post kFill p)

/-- RESERVED_KIND (R243): refused RANGE at check 2; a kind that is not reserved is no such post. -/
def execReservedKind (p : Post) (kind : BitVec 8) (s : State) : Host.Outcome State Fault Refusal :=
  if kind.toNat = 0 ∨ 11 ≤ kind.toNat then .next (s.post kind.toNat p) else .next s

/-- SHOT_EXTEND (R250, step 4): an admitted shot at or beyond its budget end is extended, once in each frame. -/
def execShotExtend (shot : BitVec 16) (s : State) : Host.Outcome State Fault Refusal :=
  match s.shot? shot.toNat with
  | none => .next s
  | some x =>
    let f := s.time.frame
    if f < x.budgetEnd ∨ x.finalEnd ≤ f ∨ x.extFrame = some f then .next s
    else
      let s1 := (s.modShot x.id fun x => { x with extended := true, extFrame := some f }).count 0x5000 5
      if x.extended then .next s1
      else
        let w := x.slate.toNat
        let s2 := s1.modCtx x.id fun c => { c with state := 3, frame := f }
        .next (if slProgress w && slGroup w != 0 then s2.sendRecord w 3 (progressWord 2 f) else s2)

/-- SHOT_TIME_ABORT (R250, step 3): an admitted shot whose final end has come is aborted with cause TIME. -/
def execShotTimeAbort (shot : BitVec 16) (s : State) : Host.Outcome State Fault Refusal :=
  match s.shot? shot.toNat with
  | none => .next s
  | some x => if s.time.frame < x.finalEnd then .next s else .next (s.abortShot x 1 0)

/-- LIST_HEAD_TIMEOUT (R246): the slate at a list's head has waited 0x5000.07 frames. -/
def execListHeadTimeout (list : Fin 64) (s : State) : Host.Outcome State Fault Refusal :=
  match s.list list.val with
  | [] => .next s
  | h :: t =>
    match h.headSince with
    | none => .next s
    | some f =>
      if s.time.frame < f + s.live' 0x5000 7 0 then .next s
      else .next (((s.setList list.val t).abortTell h.slate.toNat h.origin 9 1 0 0).stampHead list.val)

/-- CONTEXT_FREE (R249): a COMPLETE or ABORTED context becomes FREE after its rest; its last epoch and tenant stay. -/
def execContextFree (shot : BitVec 16) (s : State) : Host.Outcome State Fault Refusal :=
  let c := s.ctx shot.toNat
  if (c.state = 4 ∨ c.state = 5) ∧ c.frame + s.live' 0x5000 4 0 ≤ s.time.frame then
    .next (s.modCtx shot.toNat fun c => { c with state := 0, frame := s.time.frame })
  else .next s

/-- The effect of a job abort (R255): every listed and admitted shot of the job is asked to abort. -/
def State.jobAbort (s : State) (n v : Nat) : State :=
  let all := bit v 18
  (s.asks (askKey 5 1 2) n).askAborts (fun w => slTenant w == bits v 9 0 && (all || slJob w == bits v 17 10)) 2
    (if all && bit (s.session n).roles 0 then 4 else n)

/-- JOB_ABORT (R255). -/
def execJobAbort (rq : Rq) (v : BitVec 32) (s : State) : Host.Outcome State Fault Refusal :=
  .next (s.directWrite rq 0x5003 1 0 (roleO + roleT)
    (fun s n => refuseIf (!bit (s.session n).roles 0 && bits v.toNat 9 0 != (s.session n).tenant) abTenant)
    passes passes fun s n => s.jobAbort n v.toNat)

end Sys2Proof.Machine
end

