-- ==== Sys2Proof/Machine/Packets.lean ====
section
/-! DEFINITION. Packets.lean: the Stockroom (R336 to R349), its back-pressure (R56, R344) and header capture (R350 to
R353). -/
namespace Sys2Proof.Machine

/-! ### Pages and records -/

/-- Bytes of records in a page (R338). -/
def pageBytes : Nat := 65472

/-- The lowest free page (log 21). -/
def firstFree (used : List Nat) : Nat := used.foldl (fun n x => if x = n then n + 1 else n) 0

/-- Add a page to the rising list of pages in use. -/
def addPage (q : Nat) : List Nat → List Nat
  | [] => [q]
  | x :: l => if q < x then q :: x :: l else x :: addPage q l

/-- F, the bytes of the free pages (R340). -/
def State.freeBytes (s : State) : Nat := (s.packet.pages - s.packet.usedPages.length) * 65536

/-- Fields of a descriptor (R55). -/
def dsPort (d : Nat) : Nat := bits d 8 0
def dsPrio (d : Nat) : Nat := bits d 11 9
def dsSource (d : Nat) : Nat := bits d 20 12
def dsLen (d : Nat) : Nat := bits d 36 21
def dsBuf (d : Nat) : Nat := bits d 52 37

/-- r, the record bytes of a packet (R339). -/
def recordBytes (len : Nat) : Nat := ceilDiv (32 + len) 64 * 64

/-- End of a queue's records, from the start of its first page. -/
def Egress.fin (q : Egress) : Nat := if q.pages.isEmpty then 0 else (q.pages.length - 1) * pageBytes + q.tail

/-- Offset in the spill region of a position of a queue (R338). -/
def Egress.offset (q : Egress) (pos : Nat) : Nat := q.pages.getD (pos / pageBytes) 0 * 65536 + 64 + pos % pageBytes

/-- The spill region (R336). -/
def State.spillRegion (s : State) : Nat := s.obj 0x5800 1 0

/-- What every request of the Stockroom carries (R336, R337). -/
def State.stockReq (s : State) : Req :=
  let e := (s.slot s.spillRegion).now
  { master := 0x29, cls := .assured, region := s.spillRegion, version := e.version, tenant := e.tenant }

/-- Whole-sector writes of the Stockroom (R337, R339). -/
def State.spillWrite (s : State) (off : Nat) (l : List (BitVec 8)) : State := s.engWrite s.stockReq off l

/-- Add a page at the end of a queue's chain, and write the page headers (R338). -/
def State.chainPage (s : State) (port : Nat) : State :=
  let q := s.egress port
  let n := firstFree s.packet.usedPages
  let s1 :=
    match q.pages.getLast? with
    | some last => s.spillWrite (last * 65536) (leBytes 64 (n + 2 ^ 24))
    | none => s
  ((s1.spillWrite (n * 65536) (leBytes 64 0)).modPacket fun p => { p with usedPages := addPage n p.usedPages }).modEgress port
    fun q => { q with pages := q.pages ++ [n], tail := 0 }

/-- Return pages of a queue whose records have all been read (R340). -/
def State.dropPages (s : State) (port : Nat) : State :=
  let q := s.egress port
  let n := match q.recs with
    | [] => q.pages.length
    | r :: _ => r.pos / pageBytes
  let gone := q.pages.take n
  (s.modPacket fun p => { p with usedPages := p.usedPages.filter fun x => !gone.contains x }).modEgress port fun q =>
    { q with
      pages := q.pages.drop n
      tail := if q.recs.isEmpty then 0 else q.tail
      head := match q.recs with | [] => 0 | r :: _ => r.pos % pageBytes
      recs := q.recs.map fun r => { r with pos := r.pos - n * pageBytes } }

/-- Store a record (R339, R341). -/
def State.storeRecord (s : State) (port desc r : Nat) (bytes : List (BitVec 8)) : State :=
  let q := s.egress port
  let need (q : Egress) : Bool := q.pages.isEmpty || decide (pageBytes < q.tail + r)
  let start := q.fin
  let s1 := if need q then s.chainPage port else s
  let seq := q.seq
  let body := leBytes 32 (desc % 2 ^ 64 + s.time.frame % 2 ^ 64 * 2 ^ 64 + seq * 2 ^ 128) ++ bytes
  let full := body ++ List.replicate (r - body.length) 0
  let q1 := s1.egress port
  -- what does not fit the page goes on in the next one
  let n := min r (pageBytes - start % pageBytes)
  let s2 := s1.spillWrite (q1.offset start) (full.take n)
  let s3 := if n < r then s2.spillWrite (q1.offset (start + n)) (full.drop n) else s2
  s3.modEgress port fun q =>
    { q with
      recs := q.recs ++ [{ desc, frame := s.time.frame, seq, pos := start, bytes := r }]
      tail := start + r - (q.pages.length - 1) * pageBytes
      occ := q.occ + r
      seq := (q.seq + 1) % 2 ^ 32 }

/-! ### Back-pressure -/

/-- Set or clear a back-pressure state: element port x 8 + priority, with the queue that sets it; a message is sent when
the state changes (R56, R342, R344). -/
def State.setBp (s : State) (el : Nat) (q : Option Nat) : State :=
  let old := Map.look none el s.packet.bp
  let s1 := s.modPacket fun p => { p with bp := Map.put none q el p.bp }
  if old.isSome = q.isSome then s1 else s1.emit (.backPressure (el / 8) (el % 8) q.isSome)

/-- The limit alpha x F of a queue in sixty-fourths (R343). -/
def State.limit64 (s : State) (port : Nat) : Nat := 2 ^ s.live' 0x5801 1 port * s.freeBytes

/-- The clearing rule of a boundary (R344). -/
def State.clearBp (s : State) : State :=
  s.each s.packet.bp fun s x =>
    match x.2 with
    | none => s
    | some port =>
      let q := s.egress port
      if q.recs.isEmpty || q.link == 2 || decide (4 * 64 * q.occ ≤ 3 * s.limit64 port) then s.setBp x.1 none else s

/-! ### Ports that go down -/

/-- Discard every packet of a queue, counted in an object of 0x5802. -/
def State.dropQueue (s : State) (port sub : Nat) : State :=
  let n := (s.egress port).recs.length
  ((s.bump 0x5802 sub 0 n).modEgress port fun q => { q with recs := [], occ := 0 }).dropPages port

/-- The end of a hold (R347, R348), when its boundary has come. -/
def State.expireHold (s : State) (port : Nat) : State :=
  let q := s.egress port
  if q.link = 1 ∧ q.holdEnd ≤ s.time.frame then (s.dropQueue port 5).modEgress port fun q => { q with link := 2 } else s

/-- HOLD_EXPIRY (R348). -/
def execHoldExpiry (port : BitVec 9) (s : State) : Host.Outcome State Fault Refusal := .next (s.expireHold port.toNat)

/-- LINK_STATUS (R347, R348). -/
def execLinkStatus (port : BitVec 9) (up : Bool) (s : State) : Host.Outcome State Fault Refusal :=
  let p := port.toNat
  let s := s.expireHold p
  let q := s.egress p
  let hold := s.time.frame + 1 + 1000 * s.live' 0x5800 3 0
  if up then .next (s.modEgress p fun q => { q with link := 0, holdEnd := 0 })
  else if q.link ≠ 0 then .next s
  else if q.recs.isEmpty then .next (s.modEgress p fun q => { q with link := 2 })
  else .next (s.modEgress p fun q => { q with link := 1, holdEnd := hold })

/-- Bytes of the input buffer that packets take until their writes are visible (R341). -/
def State.spillStaged (s : State) : Nat :=
  (s.reqs.filter fun r => r.master == 0x29 && r.dest == .sink).foldl (fun n r => n + 64 * r.sectors) 0

/-- SPILL_PACKET (R341, R342): kv_sp_in_ready, the checks at its sop beat and at its eop, then the store. -/
def execSpillPacket (desc : BitVec 64) (bytes : List Byte) (s : State) : Host.Outcome State Fault Refusal :=
  if !s.packet.enabled || !s.isReady 41 || decide (65536 < s.spillStaged + 16448) then .next s
  else
    let d := desc.toNat
    let port := dsPort d
    let s := s.expireHold port
    let len := dsLen d
    let q := s.egress port
    let r := recordBytes len
    let newPage := q.pages.isEmpty || decide (pageBytes < q.tail + r)
    if len = 0 ∨ 16383 < len ∨ dsBuf d < len then .next (s.count 0x5802 3)
    else if q.link = 2 then .next (s.count 0x5802 6)
    else if s.limit64 port < 64 * (q.occ + r) ∨ (newPage ∧ s.freeBytes = 0) then
      .next (((s.setBp (dsSource d * 8 + dsPrio d) (some port)).count 0x5802 4).tallyBlock 0x19 1 {})
    else if ceilDiv bytes.length 512 ≠ ceilDiv len 512 then .next (s.count 0x5802 3)
    else
      let body := bytes.take len
      .next (((s.storeRecord port d r (body ++ List.replicate (len - body.length) 0)).count 0x5802 1).tallyBlock 0x18 1 {})

/-! ### Returning packets -/

/-- The engine that reads for a pull of a port (R345). -/
def pullReader (port : Nat) : Nat := 65536 + port

/-- Whether a record goes on in the next page after its i-th sector. -/
def Egress.pageEnds (x : SpillRec) (i : Nat) : Bool :=
  decide ((x.pos + 64 * i) % pageBytes + 64 = pageBytes) && decide (64 * (i + 1) < x.bytes)

/-- Offset of the header of the page that holds the i-th sector of a record. -/
def Egress.headerOf (q : Egress) (x : SpillRec) (i : Nat) : Nat := q.pages.getD ((x.pos + 64 * i) / pageBytes) 0 * 65536

/-- What a pull reads of the spill region: the sectors of the record, and the header of a page that it runs out of (R345,
R346). -/
def State.pullPart (s : State) (q : Egress) (x : SpillRec) : EngPart :=
  let r := s.stockReq
  { region := r.region, version := r.version
    reads := coverReads ((upTo (x.bytes / 64)).flatMap fun i =>
      (q.offset (x.pos + 64 * i) / 64) :: (if Egress.pageEnds x i then [q.headerOf x i / 64] else [])) }

/-- What reading a record finds. -/
inductive RecordRead where
  | ok (bytes : List (BitVec 8))
  | lost
  | broken
deriving DecidableEq, Repr

/-- What the reads of a record found (R346): a POISON sector of its own header or of a page header breaks the queue. -/
def State.readRecord (s : State) (port : Nat) (q : Egress) (x : SpillRec) : RecordRead :=
  let r := s.stockReq
  let sector (off : Nat) : SectorRsp := s.engSector (pullReader port) r.region off
  (upTo (x.bytes / 64)).foldl (fun acc i =>
    let a := sector (q.offset (x.pos + 64 * i))
    let got := match acc with
      | .ok l => if a.poison then (if i = 0 then RecordRead.broken else .lost) else .ok (l ++ leBytes 64 a.data.toNat)
      | o => o
    if Egress.pageEnds x i && (sector (q.headerOf x i)).poison then .broken else got) (RecordRead.ok [])

/-- A pull is answered, and what was read for it goes. -/
def State.pullDone (s : State) (port : Nat) (rest : List Nat) (o : Output) : State :=
  ((s.engDone (pullReader port)).modPacket fun p => { p with pulls := rest }).emit o

/-- Take the head record off a queue. -/
def State.popRecord (s : State) (port : Nat) (x : SpillRec) : State :=
  (s.modEgress port fun q => { q with recs := q.recs.drop 1, occ := q.occ - x.bytes }).dropPages port

/-- Serve the pulls in their order (R345, R346): the first one's record is read, and unreadable packets are discarded until
one can be read; `k` bounds the records. -/
def State.servePulls (s : State) : Nat → State
  | 0 => s
  | k + 1 =>
    match s.packet.pulls with
    | [] => s
    | port :: rest =>
      let q := s.egress port
      let told (s : State) (m : Nat) : State := s.logEvent 9 1 (port + m % 2 ^ 32 * 2 ^ 32)
      match s.packet.enabled && q.link == 0, q.recs with
      | true, x :: _ =>
        let part := s.pullPart q x
        let s1 := s.engAsk s.stockReq (pullReader port) [part]
        if !s1.engHas (pullReader port) [part] then s1
        else
          match s1.readRecord port q x with
          | .ok l =>
            (((s1.popRecord port x).count 0x5802 2).pullDone port rest
              (.spill port x.desc ((l.drop 32).take (dsLen x.desc)))).servePulls k
          | .lost => (told (((s1.engDone (pullReader port)).count 0x5802 7).popRecord port x) 1).servePulls k
          | .broken => ((told (s1.dropQueue port 7) q.recs.length).pullDone port rest (.spillEmpty port)).servePulls k
      | _, _ => (s.pullDone port rest (.spillEmpty port)).servePulls k

/-- Serve the pulls as far as their reads have come. -/
def State.pulled (s : State) : State :=
  s.servePulls (s.packet.pulls.foldl (fun n p => n + 1 + (s.egress p).recs.length) 0)

/-- SPILL_PULL (R345, R346): answered at once when there is nothing to read, else when the record has been read. -/
def execSpillPull (port : BitVec 9) (s : State) : Host.Outcome State Fault Refusal :=
  let p := port.toNat
  if s.block.boot != .up then .next s
  else .next (((s.expireHold p).modPacket fun x => { x with pulls := x.pulls ++ [p] }).pulled)

/-- BACK_PRESSURE_REFRESH (R56): all 4,096 states, in port-then-priority order. -/
def execBackPressureRefresh (s : State) : Host.Outcome State Fault Refusal :=
  if s.block.boot != .up then .next s
  else
    .next (s.each (upTo 4096) fun s el => s.emit (.backPressure (el / 8) (el % 8) (Map.look none el s.packet.bp).isSome))

/-! ### Enable and disable -/

/-- Units granted on the slices with free ones in ascending order (R338); none when too few are free. -/
def State.unitsAscending (s : State) (n : Nat) : Option (List (Nat × Nat)) :=
  let r := (upTo 64).foldl (fun (acc : List (Nat × Nat) × Nat) i =>
    let k := min acc.2 (s.unitsFree i)
    if k = 0 then acc else (acc.1 ++ [(i, k)], acc.2 - k)) ([], n)
  if r.2 = 0 then some r.1 else none

/-- Whether a region may be the spill region (R336). -/
def State.spillFits (s : State) : Bool :=
  let r := s.spillRegion
  let e := (s.slot r).now
  decide (r < 4096) && e.live && e.loft == 0 && decide (e.size ≤ 262144) && s.isReady 41

/-- Units of the free-page bitmap of the spill region (R338). -/
def State.bitmapUnits (s : State) : Nat := ceilDiv ((s.slot s.spillRegion).now.size * 32) 524288

/-- STOCKROOM_ENABLE (R336, R338): in force at the next boundary. -/
def execStockroomEnable (rq : Rq) (s : State) : Host.Outcome State Fault Refusal :=
  let on (s : State) : Bool := s.packet.enableReq.getD s.packet.enabled
  .next (s.directWrite rq 0x5800 2 0 roleO passes
    (fun s _ => refuseIf (!on s && !s.spillFits) abObjState)
    (fun s _ => refuseIf (!on s && s.packet.units.isEmpty && (s.unitsAscending s.bitmapUnits).isNone) abNoRoom)
    fun s _ =>
      if on s then s
      else
        (s.setObj 0x5800 2 0 1).modPacket fun p =>
          { p with enableReq := some true, units := if p.units.isEmpty then (s.unitsAscending s.bitmapUnits).getD [] else p.units })

/-- The Stockroom stops (R349): every stored packet is discarded, every back-pressure state cleared. -/
def State.stockroomOff (s : State) (cause : Nat) : State :=
  let s1 := s.each (upTo 512) fun s p => if (s.egress p).recs.isEmpty then s else s.dropQueue p 7
  let s2 := s1.each s1.packet.bp fun s x => s.setBp x.1 none
  let s3 := (s2.freeUnits s2.packet.units).modPacket fun p =>
    { p with enabled := false, enableReq := none, pages := 0, usedPages := [], units := [] }
  -- what it still waits for ends with it (R514)
  let s4 : State := { s3 with reqs := s3.reqs.filter fun r => !(r.master == 0x29 && (r.phase == .wait || r.dest != .sink)) }
  ((s4.setNow 0x5800 2 0 0).logAsked 9 2 cause cause).pulled

/-- Whether a region has lost data (R393, R394). -/
def State.regionLost (s : State) (r : Nat) : Bool :=
  let sl := s.slot r
  sl.lost || (upTo 32).any fun st =>
    bit sl.now.stackMask st && (s.stack st).lostUnits.any fun u => u.dst.isNone

/-- STOCKROOM_DISABLE (R349): a write of 0, or the loss of a bitmap slice or of data of the spill region. -/
def execStockroomDisable (rq : Option Rq) (s : State) : Host.Outcome State Fault Refusal :=
  match rq with
  | some q =>
    .next (s.directWrite q 0x5800 2 0 roleO passes passes passes fun s n =>
      if s.packet.enableReq.getD s.packet.enabled then
        ((s.setObj 0x5800 2 0 0).modPacket fun p => { p with enableReq := some false }).asks (askKey 9 2 3) n
      else s)
  | none =>
    if !s.packet.enabled then .next s
    else if s.packet.units.any fun u => s.obj 0x3005 1 u.1 != 0 then .next (s.stockroomOff 1)
    else if s.regionLost s.spillRegion then .next (s.stockroomOff 2)
    else .next s

/-! ### Header capture -/

/-- A record with its number (R351). -/
def numbered (r : BitVec 2048) (i : Nat) : Nat := r.toNat + i % 2 ^ 48 * 2 ^ 105

/-- Position of a record in the ring (R351). -/
def crPos (w i : Nat) : Nat := i % max 1 (crRecords w)

/-- A record goes to a place-2 ring, as one 256 B WRITE of the capture writer (R351). -/
def State.capIssue (s : State) (r : BitVec 2048) : State :=
  let w := s.capRing
  let i := s.packet.capNext
  let e := (s.slot (crRegion w)).now
  (s.modPacket fun p => { p with capNext := i + 1 }).engWrite
    { master := 0x2A, cls := .bulk, region := crRegion w, version := e.version, tenant := e.tenant, tag := i }
    (crOffset w + 256 * crPos w i) (leBytes 256 (numbered r i))

/-- Slice of a position of a place-1 ring: 256 records lie in each of its units (R350). -/
def capSlice (l : List (Nat × Nat)) (pos : Nat) : Option Nat :=
  (l.flatMap fun x => List.replicate x.2 x.1)[pos / 256]?

/-- Slice that a staged record of a place-1 ring waits for (R229, R351). -/
def State.capWaits (s : State) : Option Nat :=
  if s.packet.capStage.isEmpty || crPlace s.capRing != 1 then none else capSlice s.packet.capUnits (crPos s.capRing s.packet.capNext)

/-- The oldest staged record is written to a place-1 ring. -/
def State.capStore (s : State) : State :=
  match s.packet.capStage with
  | [] => s
  | r :: rest =>
    let i := s.packet.capNext
    ((s.modPacket fun p => { p with capStage := rest, capNext := i + 1 }).setObj 0x5900 5 (crPos s.capRing i) (numbered r i)).capStep

/-- Records that the capture writer has staged: each keeps its place until its write is visible (R353). -/
def State.capStaged (s : State) : Nat := s.packet.capStage.length + s.capWrites.length

/-- CAPTURE_HEADER (R57, R351 to R353). DESIGN CHOICE: a header presented while the ring's place is 0 or domain 41 is not ready
is not taken, and counted nowhere (log 151). -/
def execCaptureHeader (port : BitVec 9) (queue len : BitVec 8) (hdr : BitVec 1792) (s : State) : Host.Outcome State Fault Refusal :=
  let w := s.capRing
  if s.block.boot != .up || crPlace w == 0 || !s.isReady 41 then .next s
  else if 64 ≤ s.capStaged then .next (s.count 0x5901 4)
  else if crStop w && decide (crRecords w ≤ s.packet.capNext + s.packet.capStage.length - s.obj 0x5900 4 0) then .next (s.count 0x5901 3)
  else
    let n := min 224 len.toNat
    let body := s.stamp + port.toNat * 2 ^ 80 + queue.toNat * 2 ^ 89 + len.toNat * 2 ^ 97 + hdr.toNat % 2 ^ (8 * n) * 2 ^ 256
    if crPlace w = 1 then .next (s.modPacket fun p => { p with capStage := p.capStage ++ [BitVec.ofNat 2048 body] })
    else .next (s.capIssue (BitVec.ofNat 2048 body))

/-- CAPTURE_READ_INDEX (R352, R354). -/
def execCaptureReadIndex (rq : Rq) (v : BitVec 64) (s : State) : Host.Outcome State Fault Refusal :=
  .next (s.directWrite rq 0x5900 4 0 (roleO + roleT)
    (fun s n =>
      let x := s.session n
      let own := crPlace s.capRing == 2 && (s.slot (crRegion s.capRing)).now.tenant == x.tenant
      if !bit x.roles 0 && !own then abTenant
      else refuseIf (decide (v.toNat < s.obj 0x5900 4 0) || decide (s.obj 0x5900 3 0 < v.toNat)) abRange)
    passes passes fun s _ => s.setObj 0x5900 4 0 v.toNat)

/-- The ring's records that are not visible yet belong to it no more. -/
def State.capForget (s : State) : State :=
  { s with
    reqs := (s.reqs.filter fun r => !(r.master == 0x2A && r.phase == .wait)).map fun r => if r.master == 0x2A then { r with stream := 1 } else r
    packet := { s.packet with capStage := [], capNext := 0 } }

/-- The capture ring stops (R353): event cause 1 a slice, 2 its region. -/
def State.captureOff (s : State) (cause : Nat) : State :=
  let w := s.capRing
  if crPlace w = 0 then s
  else
    (((s.capForget.setNow 0x5900 1 0 (w - crPlace w)).freeUnits s.packet.capUnits).modPacket fun p =>
      { p with capUnits := [] }).logEvent 9 3 cause

/-- What a boundary does here (R336, R344, R349): an enable or disable takes effect, states are cleared, pulls go on. -/
def State.packetBoundary (s : State) : State :=
  let s1 :=
    match s.packet.enableReq with
    | some true =>
      s.modPacket fun p =>
        { p with
          enabled := true, enableReq := none, usedPages := [], pages := (s.slot s.spillRegion).now.size * 32
          queues := (p.queues.map fun (x : Nat × Egress) =>
            (x.1, { x.2 with recs := [], pages := [], head := 0, tail := 0, occ := 0 })).filter fun x => x.2 != ({} : Egress) }
    | some false => s.stockroomOff 3
    | none => s
  s1.clearBp.pulled

end Sys2Proof.Machine
end

