-- ==== Sys2Proof/Machine/Loft.lean ====
section
/-! DEFINITION. Loft.lean: the Loft's port cycles (R229 to R231), its cache (R220 to R225), scratch (R226), patrol and word
faults (R232 to R234), the loss of a slice (R235, R236) and the partitions and slice map (R219, R221). -/
namespace Sys2Proof.Machine

/-! ### Lines -/

/-- Cache ways that a quadrant may allocate in: those that a pending partition change keeps (R219). -/
def State.cacheWays (s : State) (q : Nat) : Nat :=
  let w := partCache (s.obj 0x3000 1 q)
  match Map.look none q s.loft.partNext with
  | some v => min w (partCache v)
  | none => w

/-- Whether a slice is eligible for the cache (R221); those of a quadrant that is to be gated are not (R237). -/
def State.eligible (s : State) (i : Nat) : Bool :=
  s.sliceOk i && decide (0 < partCache (s.obj 0x3000 1 (i / 16))) && !s.test.gateReq.contains (32 + i / 16)

/-- Buffers of a slice in use: write-backs, and lines being fetched (R224). -/
def State.buffersUsed (s : State) (slice : Nat) : Nat :=
  (s.loft.wbs.filter fun w => w.slice == slice).length +
    (s.loft.lines.filter fun (x : Nat × LoftLine) => x.1 / 131072 == slice && x.2.busy).length

/-- Whether `n` more buffers of a slice may be taken: 32 of the 96 are kept for requests that hold a port credit (R128,
R224). -/
def State.bufferRoom (s : State) (slice n : Nat) (credit : Bool) : Bool :=
  decide (s.buffersUsed slice + n ≤ if credit then 96 else 64)

/-- When fewer than 8 buffers of a slice are free, its write-backs are raised, with what they have asked for at their stacks
(R120, R224). -/
def State.raiseWbs (s : State) (slice : Nat) : State :=
  if s.buffersUsed slice + 8 ≤ 96 then s
  else
    { s with
      loft := { s.loft with wbs := s.loft.wbs.map fun w => if w.slice == slice then { w with raised := true } else w }
      reqs := s.reqs.map fun r => if r.dest == .back slice then { r with raised := true, cls := .critical } else r }

/-- The dirty sectors of a line go to a write-back buffer (R223). -/
def State.pushWb (s : State) (slice : Nat) (l : LoftLine) (forPort : Option Nat) : State :=
  (s.modLoft fun x => { x with wbs := x.wbs ++ [{ slice, region := l.region, a := l.a, dirty := l.dirty, poison := l.poison, data := l.data, forPort }] }).raiseWbs slice

/-- The line just used has its used bit set; when every used bit of the set is set, all others are cleared (R223). -/
def State.touch (s : State) (slice set way : Nat) : State :=
  let s1 := s.modLine (lineKey slice set way) fun l => { l with used := true }
  let ways := upTo (s.cacheWays (slice / 16))
  if ways.all fun w => (Map.look ({} : LoftLine) (lineKey slice set w) s1.loft.lines).used then
    s1.each (ways.filter fun w => w != way) fun s w => s.modLine (lineKey slice set w) fun l => { l with used := false }
  else s1

/-- The victim in a set (R223). -/
def State.victim (s : State) (slice set : Nat) : Option Nat :=
  (upTo (s.cacheWays (slice / 16))).find? fun w =>
    let l := Map.look ({} : LoftLine) (lineKey slice set w) s.loft.lines
    !l.used && !l.busy

/-- Sectors of a line that a request cannot be served without (R222): those it reads, and those it writes in part. -/
def Req.needs (r : Req) : List Nat :=
  if r.op == .write then
    ((upTo r.sectors).filter fun i => r.sectorMask i != 2 ^ 64 - 1).map (r.addr % 256 / 64 + ·)
  else r.secs

/-- The port for whose miss a line is brought or written back (R12). -/
def Req.missPort (r : Req) : Option Nat := if r.master < 36 then some r.master else none

/-- Allocate a line (R222, R223): its key, with the sectors that write-back buffers still hold; none when no way or no
buffers are free. -/
def State.allocLine (s : State) (r : Req) (a : Nat) : Option (Nat × State) :=
  let slice := s.loftSlice a
  let set := loftSet a
  match s.victim slice set with
  | none => none
  | some way =>
    let key := lineKey slice set way
    let old := Map.look ({} : LoftLine) key s.loft.lines
    if !s.bufferRoom slice (b2n (old.dirty != 0) + b2n (!r.needs.isEmpty)) true then none
    else
      let s1 := if old.dirty != 0 then s.pushWb slice old r.missPort else s
      let fresh : LoftLine := { region := r.region, a, used := true }
      let line := (upTo 4).foldl (fun (l : LoftLine) i =>
        match s1.findWb r.region a i with
        | some w =>
          { l with valid := setBit4 l.valid i true, poison := setBit4 l.poison i (w.poison.getLsbD i)
                   data := setSector l.data i (sectorOf w.data i) }
        | none => l) fresh
      some (key, (s1.modLine key fun _ => line).touch slice set way)

/-- The word an atomic leaves (R44). -/
def Req.newWord (r : Req) (old : BitVec 64) : BitVec 64 :=
  let d := (r.data.getD 0).toNat
  if r.op == .cas then atomicNew .cas old (BitVec.ofNat 64 (bits d 127 64)) (BitVec.ofNat 64 (bits d 63 0))
  else atomicNew r.op old (BitVec.ofNat 64 (bits d 63 0)) 0

/-- An atomic is answered with the word it found, or POISON. -/
def State.answerAtomic (s : State) (id : Nat) (a : SectorRsp) : State :=
  s.modReq id fun r => { r with phase := .done, visible := true, rsp := [(0, a)] }

/-- A write reaches words of a slice before their rewrites: those are made no more (R232). -/
def State.wordsWritten (s : State) (slice first : Nat) : State :=
  s.modLoft fun x => { x with rewrites := x.rewrites.filter fun w => !(w.slice == slice && w.word / 8 == first / 8) }

/-- First word of a line of a slice: its way and set (R217). -/
def wordAt (way set : Nat) : Nat := way * 262144 + set * 32

/-- Write into a sector of a line: it is valid and dirty; a whole write clears its poison (R222). -/
def State.lineWrite (s : State) (key region i : Nat) (d : Sector) (mask : Nat) (poison : Bool) : State :=
  let s1 := (s.modLine key fun l =>
    { l with
      valid := setBit4 l.valid i true
      dirty := setBit4 l.dirty i true
      poison := setBit4 l.poison i (poison || (l.poison.getLsbD i && mask != 2 ^ 64 - 1))
      data := setSector l.data i (maskMerge (sectorOf l.data i) d mask) }).modSlot region fun sl =>
    { sl with dirtySlices := sl.dirtySlices ||| 2 ^ (key / 131072) }
  s1.wordsWritten (key / 131072) (wordAt (key % 16) (key / 16 % 8192) + 8 * i)

/-- Serve a request from a line that has what it needs (R222). -/
def State.lineServe (s : State) (key : Nat) (r : Req) : State :=
  let l := Map.look ({} : LoftLine) key s.loft.lines
  let i0 := r.addr % 256 / 64
  let s1 := s.touch (key / 131072) (key / 16 % 8192) (key % 16)
  match r.op with
  | .read =>
    s1.answerRead r.id fun i => if l.poison.getLsbD (i0 + i) then { poison := true } else { data := sectorOf l.data (i0 + i) }
  | .write =>
    (s1.each (upTo r.sectors) fun s i =>
      s.lineWrite key r.region (i0 + i) (r.sectorData i) (r.sectorMask i) (r.bad.getLsbD i)).answerWrite r.id
  | _ =>
    if l.poison.getLsbD i0 then s1.answerAtomic r.id { poison := true }
    else
      let d := sectorOf l.data i0
      let w := r.addr / 8 % 8
      let old := wordOf d w
      (s1.lineWrite key r.region i0 (setWord d w (r.newWord old)) (2 ^ 64 - 1) false).answerAtomic r.id
        { data := BitVec.ofNat 512 old.toNat }

/-- Whether a sector of a line is on its way to it. -/
def State.fetching (s : State) (key i : Nat) : Bool := s.reqs.any fun q => q.dest == .line key && q.addr % 256 / 64 == i

/-- The line that a master's fetches bring, one request for each sector, at the class of the request that missed (R222). -/
def State.fetch (s : State) (key : Nat) (r : Req) (secs : List Nat) : State :=
  let s1 := s.each (secs.filter fun i => !s.fetching key i) fun s i =>
    let q : Req :=
      { id := s.nextReq, master := 0x2B, op := .read, bytes := 64, addr := r.addr / 256 * 256 + 64 * i, region := r.region
        version := r.version, cls := r.cls, tenant := r.tenant, bornNs := s.frameNs, waitSince := s.time.frame
        promoted := r.promoted, forPort := r.missPort, phase := .arb, dest := .line key, routed := true }
    ({ s with reqs := s.reqs ++ [q], nextReq := s.nextReq + 1 } : State).callStack (s.reqStack q)
  (s1.modLine key fun l => { l with busy := true }).raiseWbs (key / 131072)

/-- Counts of hits and misses of a request, by sectors (R238, R490). -/
def State.countHits (s : State) (r : Req) (hits misses : Nat) : State :=
  let s1 := if hits = 0 then s else (s.bump 0x3001 2 0 hits).tallyBlock 8 hits r.txn
  if misses = 0 then s1 else (s1.bump 0x3001 3 0 misses).tallyBlock 9 misses r.txn

/-- A request meets a line that is present (R222): served, or what it lacks is fetched; none when it must wait. A failed slice
fetches nothing more (R235). -/
def State.lineMeets (s : State) (key : Nat) (r : Req) : Option State :=
  let l := Map.look ({} : LoftLine) key s.loft.lines
  let slice := key / 131072
  let misses := (r.secs.filter fun i => !l.valid.getLsbD i).length
  let counted := s.countHits r (r.secs.length - misses) misses
  let missing := r.needs.filter fun i => !l.valid.getLsbD i
  if missing.isEmpty then some (counted.lineServe key r)
  else if !s.caches r.region r.version || s.loft.evac.contains slice || !(l.busy || s.bufferRoom slice 1 true) then none
  else
    let rest := if r.op == .read then (upTo 4).filter fun i => !l.valid.getLsbD i && !missing.contains i else []
    some ((counted.fetch key r (missing ++ rest)).modReq r.id fun r => { r with phase := .line })

/-- A request to a cache region at its slice (R220 to R225, R236); none when it must wait. -/
def State.cacheAct (s : State) (r : Req) : Option State :=
  let off := s.reqOff r
  let a := r.addr / 256
  if r.op == .read && s.lostRead r.region r.version off then some (s.answerRead r.id fun _ => { poison := true })
  else if r.op.writes && s.lostWrite r.region r.version off then some (s.settle r.id .refused .state)
  else
    let s := if r.op.writes then s.claimLine r.region r.version off else s
    match s.findLine r.region a with
    | some (key, _) => s.lineMeets key r
    | none =>
      if s.caches r.region r.version then
        match s.allocLine r a with
        | none => none
        | some (key, s1) => s1.lineMeets key r
      else
        let held := s.loft.wbs.any fun w => w.region == r.region && w.a == a
        if !held then some (s.goArb r.id (s.entryFor r.region r.version off) off)
        else if r.op == .read && r.secs.all fun i => (s.findWb r.region a i).isSome then
          some (s.answerRead r.id fun i =>
            match s.findWb r.region a (r.addr % 256 / 64 + i) with
            | some w => if w.poison.getLsbD (r.addr % 256 / 64 + i) then { poison := true } else { data := sectorOf w.data (r.addr % 256 / 64 + i) }
            | none => {})
        else none

/-- Line of its slice at which a scratch line lies: way and set (R226). -/
def State.scratchAt (s : State) (key : Nat) : Nat × Nat :=
  let n := key / 8192 % 256 * 512 + key % 8192 / 16
  (partCache (s.obj 0x3000 1 (key / 8192 / 256)) + n / 8192, n % 8192)

/-- A request to a scratch region at its slice (R226, R235). It stages in a buffer of the slice (R224). -/
def State.scratchAct (s : State) (r : Req) : Option State :=
  let off := s.reqOff r
  let c := chunkOf (s.entryFor r.region r.version off) off
  let line := off % 2097152 / 256
  let i0 := off % 256 / 64
  match s.scratchKey c line with
  | none => some (if r.op == .read then s.answerRead r.id fun _ => { poison := true } else s.settle r.id .refused .state)
  | some key =>
    let at_ := s.scratchAt key
    let put (s : State) (i : Nat) (d : Sector) (m : Nat) (bad : Bool) : State :=
      (s.scratchWrite c line i d m bad).wordsWritten (scratchSlice key) (wordAt at_.1 at_.2 + 8 * i)
    if !s.bufferRoom (scratchSlice key) 1 true then none
    else if r.op == .read then some (s.answerRead r.id fun i => s.scratchRead c line (i0 + i))
    else if s.loft.lostLines.contains key then some (s.settle r.id .refused .state)
    else if r.op == .write then
      some ((s.each (upTo r.sectors) fun s i => put s (i0 + i) (r.sectorData i) (r.sectorMask i) (r.bad.getLsbD i)).answerWrite r.id)
    else
      let x := s.scratchRead c line i0
      if x.poison then some (s.answerAtomic r.id x)
      else
        let w := off / 8 % 8
        let old := wordOf x.data w
        some ((put s i0 (setWord x.data w (r.newWord old)) (2 ^ 64 - 1) false).answerAtomic r.id { data := BitVec.ofNat 512 old.toNat })

/-! ### Word faults -/

/-- Who holds a unit of a slice: a shot, a filter set's entry, or a shot whose context is backed there. Units are numbered in the
order of their holders (log 40). -/
inductive UnitOwner where
  | nobody | shot (id : Nat) | set (entry : Nat)
deriving DecidableEq, Repr

/-- The owner of a word of the engine ways of a slice, by its place from their first word: 8,192 words to a unit, and 32 to a
context backed in the top 768 KiB of way 15 in Q0 (R227, R228). -/
def State.wordOwner (s : State) (slice n : Nat) : UnitOwner :=
  let top := partEngine (s.obj 0x3000 1 (slice / 16)) * 262144 - 98304
  if slice < 16 ∧ top ≤ n then
    match s.shot.shots.find? fun x => x.backed == some slice && x.backedAt == (n - top) / 32 with
    | some x => .shot x.id
    | none => .nobody
  else
    let shots := s.shot.shots.map fun x => (UnitOwner.shot x.id, unitsIn x.units slice)
    let sets := s.shot.table.map fun (x : Nat × TableSlot) => (UnitOwner.set x.1, unitsIn x.2.units slice + unitsIn x.2.unitsOld slice)
    ((shots ++ sets).foldl (fun (acc : UnitOwner × Nat) x =>
      if acc.1 != .nobody then acc else if acc.2 < x.2 then (x.1, 0) else (.nobody, acc.2 - x.2)) (.nobody, n / 8192)).1

/-- A filter set is damaged: it is marked, and every shot that uses it is aborted (R328). -/
def State.damageSet (s : State) (entry slice : Nat) : State :=
  let mark (m : Map FilterSet) (k : Nat) : Map FilterSet := Map.upd {} k (fun x => { x with damaged := true }) m
  let s1 := s.modShotS fun y => { y with sets := if (s.tslot entry).old.isSome then mark (mark y.sets entry) (entry + 4096) else mark y.sets entry }
  s1.each (s1.shot.shots.filter fun x => slKind x.slate.toNat == 6 && slDesc x.slate.toNat == entry) fun s x => s.askAbort x.id 4 slice

/-- A slice is declared failed from the next frame boundary on (R235). -/
def State.declareFailed (s : State) (slice : Nat) (tags : Bool) : State :=
  if s.obj 0x3005 1 slice == 1 || s.obj 0x3005 1 slice == 2 || s.loft.failNext.any (fun f => f.1 == slice && (f.2 || !tags)) then s
  else s.modLoft fun x => { x with failNext := (x.failNext.filter fun f => f.1 != slice) ++ [(slice, tags)] }

/-- What an uncorrectable data word does where it lies (R234). -/
def State.wordLost (s : State) (slice word : Nat) : State :=
  let way := word / 262144
  let set := word / 32 % 8192
  let i := word % 32 / 8
  let q := slice / 16
  let w := s.obj 0x3000 1 q
  if way < partCache w then
    let key := lineKey slice set way
    let l := Map.look ({} : LoftLine) key s.loft.lines
    if !l.valid.getLsbD i then s
    else if l.dirty.getLsbD i then s.modLine key fun l => { l with poison := setBit4 l.poison i true }
    else
      let s1 := (s.modLine key fun l => { l with valid := setBit4 l.valid i false }).count 0x3003 6
      let e := (s.slot l.region).now
      let r : Req := { region := l.region, version := e.version, addr := l.a * 256, tenant := e.tenant }
      if s.caches l.region r.version && !s.loft.evac.contains slice then s1.fetch key r [i] else s1
  else if way < partCache w + partScratch w then
    let n := (way - partCache w) * 8192 + set
    let key := (q * 256 + n / 512) * 8192 + (n % 512) * 16 + slice % 16
    match Map.look none (q * 256 + n / 512) s.loft.places with
    | none => s
    | some _ => s.modLoft fun x => { x with scratch := Map.upd {} key (fun (l : ScratchLine) => { l with poison := setBit4 l.poison i true }) x.scratch }
  else
    match s.wordOwner slice (word - (partCache w + partScratch w) * 262144) with
    | .shot id => s.askAbort id 4 slice
    | .set e => s.damageSet e slice
    | .nobody => s

/-- A hard fault (R233): the word goes to the remap table; a full table fails the slice (R235). -/
def State.hardWord (s : State) (slice word : Nat) : State :=
  if s.loft.remaps.contains (slice, word) then s
  else if 16 ≤ (s.loft.remaps.filter fun x => x.1 == slice).length then s.declareFailed slice false
  else s.modLoft fun x =>
    { x with remaps := x.remaps ++ [(slice, word)], rewrites := x.rewrites.filter fun w => !(w.slice == slice && w.word == word) }

/-- An uncorrectable word is counted; too many in a reel fail the slice (R234, R235). -/
def State.countLost (s : State) (slice : Nat) : State :=
  let n := Map.look 0 slice s.loft.bad + 1
  let s1 := (s.bump 0x3003 4 slice 1).modLoft fun x => { x with bad := Map.put 0 n slice x.bad }
  if s.live' 0x3003 3 0 < n then s1.declareFailed slice false else s1

/-- Words of a slice's ways; the words of its tags are numbered after them, one for the two copies of a line's tag (R217,
R232). -/
def dataWords : Nat := 4194304

/-- A read meets what the word code found in a word (R232 to R234). A corrected word counts and is to be rewritten; the second
correction in one patrol interval is a hard fault. A tag of which one copy is bad is rewritten from the other. -/
def State.meetWord (s : State) (slice word : Nat) (found : WordFound) : State :=
  match found with
  | .ok => s
  | .corrected again =>
    let c := s.bump 0x3003 2 slice 1
    if s.loft.corrected.contains (slice, word) then c.hardWord slice word
    else c.modLoft fun x =>
      { x with corrected := x.corrected ++ [(slice, word)], rewrites := x.rewrites ++ [{ slice, word, again }] }
  | .uncorrectable => if word < dataWords then (s.countLost slice).wordLost slice word else s.countLost slice
  | .tagOne => s.countLost slice
  | .tagBoth => (s.countLost slice).declareFailed slice true

/-- The rewrite of a corrected word (R232): one that reads back wrong is a hard fault (R233). -/
def State.rewriteWord (s : State) (w : LoftRewrite) : State :=
  let s1 := s.modLoft fun x => { x with rewrites := x.rewrites.erase w }
  if w.again then s1.hardWord w.slice w.word else s1

/-! ### Port cycles -/

/-- Whether a request at its slice may be served now (R100, R104, R230): its data is complete, no request that reached the slice
before it is still there for its line, and no earlier one of its master to the line, or one that another version places
elsewhere, is on its way. -/
def State.loftTurn (s : State) (r : Req) : Bool :=
  (!r.op.needsData || r.data.isSome) && !s.versionWait r &&
    !s.reqs.any fun q =>
      q.region == r.region && q.addr / 256 == r.addr / 256 && q.op != .fence && q.op != .post &&
        (((q.phase == .loft || q.phase == .line) && decide (q.reached < r.reached)) ||
          (decide (q.id < r.id) && q.master == r.master && (q.phase == .chunk || q.phase == .arb || q.phase == .queued)))

/-- The line of its slice that a request is for, as way and set. -/
def State.lineAt (s : State) (r : Req) : Option (Nat × Nat) :=
  let off := s.reqOff r
  let e := s.entryFor r.region r.version off
  if e.loft = 2 then (s.scratchKey (chunkOf e off) (off % 2097152 / 256)).map s.scratchAt
  else (s.findLine r.region (r.addr / 256)).map fun k => (k.1 % 16, k.1 / 16 % 8192)

/-- Whether a request's line lies in the 128 lines of its slice that a self-test slice holds (R477, R480). -/
def State.testedLine (s : State) (slice : Nat) (r : Req) : Bool :=
  match s.lineAt r with
  | some n => s.test.slices.any fun x => x.kind == 1 && x.unit == unitSlice slice && x.index == (n.1 * 8192 + n.2) / 128
  | none => false

/-- The work that a user of a port cycle does in it. -/
inductive PortUse where
  | none | req (id : Nat) | fill (id : Nat) | copy (w : WriteBack) | zero | rewrite (w : LoftRewrite) | clear (chunk : Nat) | record
deriving DecidableEq, Repr

/-- A user of a port cycle, in its Loft rank (R229). -/
structure PortWant where
  rank : Nat := 3
  reads : Bool := true
  writes : Bool := false
  lane : Bool := false
  master : Nat := 0x3F
  use : PortUse := .none
deriving DecidableEq, Repr

/-- Whether a lane of a port is below the reduction floor (R229). DESIGN CHOICE: the floor is reckoned on 1,500 port cycles of
every frame, spread or not (log 152). -/
def State.belowFloor (s : State) (used : Nat) : Bool := decide (used * 100 < s.live' 0x3004 1 0 * 1500)

/-- Loft rank of a request (R229): Critical rank first; the other engines' accesses, the matrix rows among them, at rank 4. -/
def Req.loftRank (r : Req) : Nat := if r.promoted || r.raised || r.cls == .critical then 1 else if r.master < 36 then 3 else 4

/-- Scratch chunks that fill on a slice, by the fills that are not yet through with it (R226). -/
def State.clearing (s : State) (slice : Nat) : List Nat :=
  (s.regions.fills.filter fun f =>
    f.prio && f.span == 0 && decide (Map.look 0 slice f.wrote < 512) &&
      (match s.scratchKey f.chunk 0 with | some k => k / 8192 / 256 == slice / 16 | none => false)).map (·.chunk)

/-- The users that wait for a slice's ports, by Loft rank and age (R229). DESIGN CHOICE: shot contexts, filter and select
accesses and held results carry master 0x3F there, the filling of a scratch chunk 0x28, and the patrol, the rewriting of corrected
words and the zeroing of freed units 0x2B (log 153). -/
def State.portWants (s : State) (slice : Nat) (d : LoftDemand) : List PortWant :=
  let l := s.loft
  let reqs := (s.reqs.filter fun r => r.phase == .loft && s.reqSlice r == slice && s.loftTurn r && !s.testedLine slice r).map fun r =>
    { rank := r.loftRank, reads := !(r.op == .write && r.needs.isEmpty), writes := r.op.writes, master := r.master, use := .req r.id : PortWant }
  let fills := (s.reqs.filter fun r => r.phase == .done && !r.visible && (match r.dest with | .line k => k / 131072 == slice | _ => false)).map fun r =>
    { rank := if r.loftRank = 1 then 1 else 3, reads := false, writes := true, master := 0x2B, use := .fill r.id : PortWant }
  let copies := (l.wbs.filter fun w => w.slice == slice && !w.copied).map fun w =>
    { rank := if w.raised || l.evac.contains slice then 1 else 6, master := 0x2B, use := .copy w : PortWant }
  let one (c : Bool) (w : PortWant) : List PortWant := if c then [w] else []
  let lanes := one d.laneRead { rank := if s.belowFloor (Map.look 0 slice l.rdLane) then 2 else 5, lane := true } ++
    one d.laneWrite { rank := if s.belowFloor (Map.look 0 slice l.wrLane) then 2 else 5, reads := false, writes := true, lane := true }
  let others := one d.contextRead { rank := 1 } ++ one d.contextWrite { rank := 1, reads := false, writes := true } ++
    (s.clearing slice).map (fun c => { rank := 1, reads := false, writes := true, master := 0x28, use := .clear c : PortWant }) ++
    one d.engine { rank := 4 } ++ one d.engineWrite { rank := 4, reads := false, writes := true } ++
    one (s.capWaits == some slice) { rank := 4, reads := false, writes := true, master := 0x2A, use := .record } ++
    one d.upkeep { rank := 6, master := 0x2B } ++
    ((l.rewrites.filter fun w => w.slice == slice).map fun w =>
      { rank := 6, reads := false, writes := true, master := 0x2B, use := .rewrite w : PortWant }) ++
    one (l.zeroing.any fun z => z.1 == slice) { rank := 6, reads := false, writes := true, master := 0x2B, use := .zero }
  let all := reqs ++ fills ++ copies ++ lanes ++ others
  (upTo 7).flatMap fun k => all.filter fun w => w.rank == k

/-- Ports of a slice in one cycle: which are free, and the state. -/
structure PortCycle where
  rd : Bool := true
  wr : Bool := true
  s : State

/-- Whether the duties in force and the quadrant's allotment leave a rank a cycle of a port (R201, R231). DESIGN CHOICE: duties
are reckoned on 1,500 port cycles of every frame, spread or not (log 152). -/
def State.dutyRoom (s : State) (slice rank used lane : Nat) : Bool :=
  let d := 32 + slice / 16
  if rank = 3 ∨ rank = 4 ∨ rank = 6 then decide (used * 1600 < 1500 * s.neighbourDuty d * s.test.duty) && !s.withheld d 3
  else if rank = 2 ∨ rank = 5 then decide (lane * 16 < 1500 * s.test.laneDuty) && !s.withheld d 4
  else true

/-- One port cycle of zeroing freed units: two lines (R217, R227). -/
def zeroStep (slice : Nat) : List (Nat × Nat) → List (Nat × Nat)
  | [] => []
  | (i, n) :: l => if i = slice then (if n ≤ 2 then l else (i, n - 2) :: l) else (i, n) :: zeroStep slice l

/-- What the words of a cycle's read turned out to hold is met before the access: those of a request's line, or of the engine
ways for another user. -/
def State.meetFound (s : State) (slice : Nat) (found : List (Nat × WordFound)) (w : PortWant) : State :=
  let mine (n : Nat) : Bool :=
    match w.use with
    | .req id =>
      match (s.req? id).bind s.lineAt with
      | some l => n / 32 * 32 == wordAt l.1 l.2
      | none => false
    | .none => w.master == 0x3F && decide (n < dataWords) &&
        (let p := s.obj 0x3000 1 (slice / 16); decide (partCache p + partScratch p ≤ n / 262144))
    | _ => false
  s.each (if w.reads then found.filter fun x => mine x.1 else []) fun s x => s.meetWord slice x.1 x.2

/-- What a user of a port cycle does; none when it must wait. -/
def State.portUse (s : State) (slice : Nat) (found : List (Nat × WordFound)) (w : PortWant) : Option State :=
  let s1 := s.meetFound slice found w
  match w.use with
  | .none => some s1
  | .req id =>
    match s1.req? id with
    | none => none
    | some r => if (s1.entryFor r.region r.version (s1.reqOff r)).loft = 2 then s1.scratchAct r else s1.cacheAct r
  | .fill id => some (s1.modReq id fun r => { r with visible := true })
  | .copy b => some (s1.modLoft fun x => { x with wbs := x.wbs.map fun y => if y == b then { y with copied := true } else y })
  | .zero => some (s1.modLoft fun x => { x with zeroing := zeroStep slice x.zeroing })
  | .rewrite b => some (s1.rewriteWord b)
  | .clear c => some (s1.modRegions fun g => { g with fills := g.fills.map fun f =>
      if f.chunk == c then { f with wrote := Map.upd 0 slice (· + 1) f.wrote } else f })
  | .record => some s1.capStore

/-- Offer the ports to one user (R229, R231). -/
def PortCycle.offer (slice : Nat) (found : List (Nat × WordFound)) (p : PortCycle) (w : PortWant) : PortCycle :=
  let l := p.s.loft
  let free := (!w.reads || p.rd) && (!w.writes || p.wr)
  let room := (!w.reads || p.s.dutyRoom slice w.rank (Map.look 0 slice l.rdAll) (Map.look 0 slice l.rdLane)) &&
    (!w.writes || p.s.dutyRoom slice w.rank (Map.look 0 slice l.wrAll) (Map.look 0 slice l.wrLane))
  if !free || !room then p
  else
    match p.s.portUse slice found w with
    | none => p
    | some s1 =>
      let duty := w.rank == 3 || w.rank == 4 || w.rank == 6
      let up (c : Bool) (m : Map Nat) : Map Nat := if c then Map.upd 0 slice (· + 1) m else m
      let s2 := s1.modLoft fun x =>
        { x with
          rdLane := up (w.reads && w.lane) x.rdLane
          wrLane := up (w.writes && w.lane) x.wrLane
          rdAll := up (w.reads && duty) x.rdAll
          wrAll := up (w.writes && duty) x.wrAll }
      let t : Txn := { master := w.master }
      let s3 := if w.reads then s2.tallyBlock 0x0B 1 t else s2
      let s4 := if w.writes then s3.tallyBlock 0x0C 1 t else s3
      { rd := p.rd && !w.reads, wr := p.wr && !w.writes, s := s4 }

/-- LOFT_PORT_CYCLE (R229): one Loft cycle of a slice's ports; the quadrant's governor charges the accesses (R201). -/
def execLoftPortCycle (slice : Fin 64) (d : LoftDemand) (s : State) : Host.Outcome State Fault Refusal :=
  let i := slice.val
  let p := (s.portWants i d).foldl (fun (p : PortCycle) w => p.offer i d.found w) { s := s }
  .next (p.s.charge (32 + i / 16) (b2n (!p.rd) + b2n (!p.wr)))

/-! ### Fetches and write-backs -/

/-- A fetch of a line was refused for its stack's heat (R210): a port's request takes that answer, or in compatibility mode is
held at its port (R51, R498); an engine's looks its line up anew when the stack serves again (R514). -/
def State.fetchRefused (s : State) (r : Req) (c : RspCode) (d : Detail) : State :=
  if r.dest != .port then s.reach r.id
  else if s.compat then s.modReq r.id fun r => { r with phase := .held, notReady := true, routed := false, chunk := none }
  else s.modReq r.id fun r => { r with whole := some (c, d), phase := .done }

/-- Requests that wait for a line and have what they need are served, in order; those that need a sector whose fetch was refused
are told. -/
def State.wakeLine (s : State) (key : Nat) (bad : Option (Nat × RspCode × Detail)) : State :=
  let l := Map.look ({} : LoftLine) key s.loft.lines
  s.each (s.reqs.filter fun r => r.phase == .line && r.region == l.region && r.addr / 256 == l.a) fun s r =>
    match bad with
    | some (i, c, d) => if r.needs.contains i then s.fetchRefused r c d else s
    | none =>
      let l := Map.look ({} : LoftLine) key s.loft.lines
      if r.needs.all fun i => l.valid.getLsbD i then s.lineServe key r else s

/-- Whether a request brings a sector of a line of a slice that is complete and has had its cycle of the write port (R229): the
line's key. -/
def Req.fills (r : Req) (slice : Nat) : Option Nat :=
  match r.dest with
  | .line k => if k / 131072 = slice ∧ r.phase = .done ∧ (r.visible ∨ r.whole.isSome) then some k else none
  | _ => none

/-- LOFT_LINE_FILL (R222): the oldest fetch of a slice whose data has arrived. What comes for a line that is fetched no more is
dropped. -/
def execLoftLineFill (slice : Fin 64) (s : State) : Host.Outcome State Fault Refusal :=
  match s.reqs.find? fun r => (r.fills slice.val).isSome with
  | none => .next s
  | some r =>
    let key := (r.fills slice.val).getD 0
    let i := r.addr % 256 / 64
    let s1 : State := { s with reqs := s.reqs.filter fun q => q.id != r.id }
    let l := Map.look ({} : LoftLine) key s.loft.lines
    if !l.busy || l.region != r.region || l.a != r.addr / 256 then .next s1
    else
      let more := s1.reqs.any fun q => q.dest == .line key
      let x := ((r.rsp.find? fun a => a.1 == 0).map (·.2)).getD {}
      let put (l : LoftLine) : LoftLine :=
        if l.valid.getLsbD i || r.whole.isSome then { l with busy := more }
        else { l with busy := more, valid := setBit4 l.valid i true, poison := setBit4 l.poison i x.poison, data := setSector l.data i x.data }
      .next ((s1.modLine key put).wakeLine key (r.whole.map fun w => (i, w.1, w.2)))

/-- Fetches for some lines are given up, and the requests that wait for them look their lines up anew. -/
def State.unfetch (s : State) (p : Nat → Bool) : State :=
  let ls := s.loft.lines.filter fun (x : Nat × LoftLine) => p x.1 && x.2.busy
  let s1 : State := { s with reqs := s.reqs.filter fun r => match r.dest with | .line k => !p k | _ => true }
  let s2 := s1.each ls fun s x => s.modLine x.1 fun l => { l with busy := false }
  s2.each (s2.reqs.filter fun r => r.phase == .line && ls.any fun (x : Nat × LoftLine) => x.2.region == r.region && x.2.a == r.addr / 256) fun s r =>
    s.modReq r.id fun r => { r with phase := .loft }

/-- Whether a line must be cleaned (R219, R221, R225, R235, R237): its slice failed or is to be gated, its way changes its
use, its entry returns to another slice, or its region is cached no more. -/
def State.mustClean (s : State) (key : Nat) (l : LoftLine) : Bool :=
  let slice := key / 131072
  s.loft.evac.contains slice || decide (s.cacheWays (slice / 16) ≤ key % 16) || s.test.gateReq.contains (32 + slice / 16) ||
    (s.slot l.region).now.loft != 1 || s.loft.moves.any fun (m : Nat × Nat) => m.2 == slice && m.1 == sliceEntry l.a

/-- Whether cleaning a line also takes it out of the Loft. -/
def State.leavesLoft (s : State) (key : Nat) (l : LoftLine) : Bool :=
  s.loft.evac.contains (key / 131072) || s.test.gateReq.contains (32 + key / 2097152) || (s.slot l.region).now.loft != 1

/-- Take a line out of the Loft. -/
def State.dropLine (s : State) (key : Nat) : State :=
  s.modLoft fun x => { x with lines := x.lines.filter fun (p : Nat × LoftLine) => p.1 != key }

/-- The sectors of a write-back buffer are asked for at their stacks (R12, R223, R224); those that no place is left for leave the
buffer. -/
def State.askBack (s : State) (w : WriteBack) : State :=
  let e := (s.slot w.region).now
  let s1 := s.modLoft fun x => { x with wbs := x.wbs.map fun b => if b == w then { b with asked := true } else b }
  s1.each ((upTo 4).filter fun i => w.dirty.getLsbD i) fun s i =>
    let q : Req :=
      { id := s.nextReq, master := 0x2B, op := .write, bytes := 64, addr := w.a * 256 + 64 * i, region := w.region, version := e.version
        cls := if w.raised then .critical else .bulk, raised := w.raised, tenant := e.tenant, bornNs := s.frameNs
        waitSince := s.time.frame, forPort := w.forPort, data := some (BitVec.ofNat 2048 (sectorOf w.data i).toNat)
        bad := if w.poison.getLsbD i then 1 else 0, phase := .arb, dest := .back w.slice, routed := true }
    if !e.live || s.lostWrite w.region e.version (s.reqOff q) then s.wbSector w.slice w.region w.a i
    else ({ s with reqs := s.reqs ++ [q], nextReq := s.nextReq + 1 } : State).callStack (s.reqStack q)

/-- LOFT_WRITE_BACK (R223): the sectors of the oldest write-back of a slice that has been copied are asked for at their stacks; with
none, the first line that must be cleaned goes to a buffer. -/
def execLoftWriteBack (slice : Fin 64) (s : State) : Host.Outcome State Fault Refusal :=
  match s.loft.wbs.find? fun w => w.slice == slice.val && w.copied && !w.asked with
  | some w => .next (s.askBack w)
  | none =>
    match s.loft.lines.find? fun (p : Nat × LoftLine) => p.1 / 131072 == slice.val && p.2.dirty != 0 && !p.2.busy && s.mustClean p.1 p.2 with
    | none => .next s
    | some (key, l) =>
      if !s.bufferRoom slice.val 1 false then .next s
      else
        let s1 := s.pushWb slice.val l none
        .next (if s.leavesLoft key l then s1.dropLine key else s1.modLine key fun l => { l with dirty := 0 })

/-! ### Patrol -/

/-- Words that a pass of the patrol reads: those of the ways, and the tags of 8,192 x 16 lines (R217, R232). -/
def patrolWords : Nat := dataWords + 131072

/-- Whether the patrol's next word is due (R232): a pass is spread evenly over 0x3003.01 reels. -/
def State.patrolDue (s : State) (i : Nat) : Bool :=
  decide (Map.look 0 i s.loft.patrolWord * (1000 * s.live' 0x3003 1 0) ≤ (s.time.frame - Map.look 0 i s.loft.patrolFrom) * patrolWords)

/-- LOFT_PATROL_STEP (R232 to R234): the patrol reads the next word of a slice, no earlier than its pace. -/
def execLoftPatrolStep (slice : Fin 64) (found : WordFound) (s : State) : Host.Outcome State Fault Refusal :=
  let i := slice.val
  if s.obj 0x3005 1 i != 0 || !s.patrolDue i then .next s
  else
    let w := Map.look 0 i s.loft.patrolWord
    let next := (w + 1) % patrolWords
    .next ((s.meetWord i w found).modLoft fun x =>
      { x with
        patrolWord := Map.put 0 next i x.patrolWord
        patrolFrom := if next = 0 then Map.put 0 s.time.frame i x.patrolFrom else x.patrolFrom
        corrected := if next = 0 then x.corrected.filter fun c => c.1 != i else x.corrected })

/-! ### The slice map and the partitions -/

/-- Entries of the slice map that name a slice. -/
def State.entriesOfSlice (s : State) (i : Nat) : List Nat := (upTo 64).filter fun g => s.obj 0x3001 1 g == i

/-- A slice that ceased to be eligible: each entry that names it moves to the eligible slice named by the fewest (R221). -/
def State.moveEntries (s : State) (i : Nat) : State :=
  s.each (s.entriesOfSlice i) fun s g =>
    match leastBy (fun j => (s.entriesOfSlice j).length) ((upTo 64).filter fun j => j != i && s.eligible j) with
    | some j => s.setObj 0x3001 1 g j
    | none => s

/-- Scratch places keep their ways when the first scratch way moves: they are numbered anew (R218, R226). -/
def State.renumber (s : State) (q old new : Nat) : State :=
  let place (k : Nat) : Nat := if k / 256 = q then k + 16 * old - 16 * new else k
  let line (k : Nat) : Nat := place (k / 8192) * 8192 + k % 8192
  if old = new then s
  else s.modLoft fun x =>
    { x with
      places := x.places.map fun (p : Nat × Option Nat) => (place p.1, p.2)
      scratch := x.scratch.map fun (p : Nat × ScratchLine) => (line p.1, p.2)
      lostLines := x.lostLines.map line }

/-- Entries that name a slice which is not eligible move (R221): to be done when some slice becomes eligible, too. -/
def State.settleMap (s : State) : State := s.each ((upTo 64).filter fun i => !s.eligible i) State.moveEntries

/-- Whether a line lies in a way of a quadrant that a new partition word takes from the cache. -/
def wayTaken (q w key : Nat) : Bool := key / 131072 / 16 == q && decide (partCache w ≤ key % 16)

/-- Whether no way that a quadrant's pending change takes holds a line that is dirty or fetched (R219); one whose sectors have
gone to a write-back buffer is clean (R223). -/
def State.waysClean (s : State) (q w : Nat) : Bool :=
  !(s.loft.lines.any fun (p : Nat × LoftLine) => wayTaken q w p.1 && (p.2.dirty != 0 || p.2.busy))

/-- What a boundary does to pending partition changes (R219): those whose ways are clean take effect. -/
def State.partBoundary (s : State) : State :=
  s.modLoft fun x => { x with
    partReady := (upTo 4).filter fun q => match Map.look none q s.loft.partNext with | some w => s.waysClean q w | none => false }

/-- PARTITION_CHANGE_EFFECT (R219): at the first boundary after the cache ways that change their use are clean, they are
invalidated and the new partition takes effect. -/
def execPartitionChangeEffect (q : Fin 4) (s : State) : Host.Outcome State Fault Refusal :=
  match Map.look none q.val s.loft.partNext with
  | none => .next s
  | some w =>
    if !s.loft.partReady.contains q.val || !s.waysClean q.val w then .next s
    else
      let s1 := s.modLoft fun x =>
        { x with
          lines := x.lines.filter fun (p : Nat × LoftLine) => !wayTaken q.val w p.1
          partReady := x.partReady.erase q.val
          partNext := Map.put none none q.val x.partNext }
      let s2 := ((s1.renumber q.val (partCache (s.obj 0x3000 1 q.val)) (partCache w)).setNow 0x3000 1 q.val w).setObj 0x3000 2 q.val 0
      .next s2.settleMap

/-- SLICE_MAP_RETURN (R221): an eligible slice gets its entry back once the interim slice has cleaned that entry's lines. -/
def execSliceMapReturn (slice : Fin 64) (s : State) : Host.Outcome State Fault Refusal :=
  let g := slice.val
  let j := s.obj 0x3001 1 g
  if j = g ∨ !s.eligible g then .next s
  else
    let mine (p : Nat × LoftLine) : Bool := p.1 / 131072 == j && sliceEntry p.2.a == g
    if s.loft.lines.any fun p => mine p && (p.2.dirty != 0 || p.2.busy) then
      .next (s.modLoft fun x => { x with moves := if x.moves.contains (g, j) then x.moves else x.moves ++ [(g, j)] })
    else
      .next ((s.modLoft fun x => { x with moves := x.moves.filter fun m => m.1 != g, lines := x.lines.filter fun p => !mine p }).setObj 0x3001 1 g g)

/-! ### Loss of a slice -/

/-- A shot loses Loft space: it commits when its work has ended, and is aborted with the Loft cause otherwise (R235, R250). -/
def State.loftAbort (s : State) (x : Shot) (slice : Nat) : State :=
  if s.workEnded x then s.commitShot x else s.abortShot x 4 slice

/-- Scratch lines of a slice whose places are allotted. -/
def State.scratchOn (s : State) (slice : Nat) : List Nat :=
  (s.loft.places.filter fun (p : Nat × Option Nat) => p.1 / 256 == slice / 16 && p.2.isSome).flatMap fun (p : Nat × Option Nat) =>
    (upTo 512).map fun i => p.1 * 8192 + i * 16 + slice % 16

/-- Every line that the slice map placed on a slice whose tags cannot be read is lost (R236). -/
def State.tagsGone (s : State) (slice : Nat) : State :=
  let g := s.entriesOfSlice slice
  let s1 := s.each (s.regions.slots.filter fun (x : Nat × RegionSlot) => x.2.now.live && x.2.now.loft == 1 && bit x.2.dirtySlices slice) fun s x =>
    s.modSlot x.1 fun sl => { sl with lostG := sl.lostG ++ [{ entries := g }] }
  (s1.unfetch fun k => k / 131072 == slice).modLoft fun x => { x with lines := x.lines.filter fun (p : Nat × LoftLine) => p.1 / 131072 != slice }

/-- SLICE_FAIL (R235, R236): the declaration of a failed slice takes effect. -/
def execSliceFail (slice : Fin 64) (tagsLost : Bool) (s : State) : Host.Outcome State Fault Refusal :=
  let i := slice.val
  match s.loft.failNext.find? fun f => f.1 == i with
  | none => .next s
  | some f =>
    let s0 := (s.modLoft fun x => { x with failNext := x.failNext.filter fun f => f.1 != i }).setObj 0x3005 1 i 1
    let s1 := s0.each (s0.shot.shots.filter fun x => unitsIn x.units i != 0 || x.backed == some i) fun s x => s.loftAbort x i
    let s2 := s1.each (s1.shot.table.filter fun (x : Nat × TableSlot) => unitsIn x.2.units i + unitsIn x.2.unitsOld i != 0) fun s x =>
      let m := s.damageSet x.1 i
      m.each (m.shot.shots.filter fun y => y.abort == some (4, i)) fun s y => s.loftAbort y i
    let s3 := if f.2 || tagsLost then s2.tagsGone i else s2.unfetch fun k => k / 131072 == i
    let s4 := s3.modLoft fun x =>
      { x with lines := x.lines.filter fun (p : Nat × LoftLine) => !(p.1 / 131072 == i && p.2.dirty == 0), evac := x.evac ++ [i] }
    let lost := s4.scratchOn i
    let s5 := (s4.modLoft fun x => { x with lostLines := x.lostLines ++ lost }).bump 0x3005 2 0 lost.length
    let s6 := s5.moveEntries i
    .next (if unitsIn s6.packet.capUnits i != 0 then s6.captureOff 1 else s6)

/-- SLICE_FENCE (R235): when its last write-back has reached its stack, the slice is fenced. -/
def execSliceFence (slice : Fin 64) (s : State) : Host.Outcome State Fault Refusal :=
  let i := slice.val
  let left := s.loft.wbs.any (fun w => w.slice == i) ||
    s.loft.lines.any fun (p : Nat × LoftLine) => p.1 / 131072 == i && (p.2.dirty != 0 || p.2.busy)
  if !s.loft.evac.contains i || left then .next s
  else
    let s1 := s.modLoft fun x =>
      { x with evac := x.evac.erase i, lines := x.lines.filter fun (p : Nat × LoftLine) => p.1 / 131072 != i
               remaps := x.remaps.filter fun r => r.1 != i, corrected := x.corrected.filter fun r => r.1 != i
               rewrites := x.rewrites.filter fun w => w.slice != i, zeroing := x.zeroing.filter fun z => z.1 != i }
    .next ((s1.setObj 0x3005 1 i 2).fenceUnit (unitSlice i))

end Sys2Proof.Machine
end

