-- ==== Sys2Proof/Machine/Fills.lean ====
section
/-! DEFINITION. Fills.lean: chunk fills (R83 to R88), engine writes that wait (R514), and the dropping of old versions of
regions (R92) and shot-table entries (R248). -/
namespace Sys2Proof.Machine

/-- Requests held on a chunk proceed in issue order (R84). -/
def State.releaseChunk (s : State) (chunk : Nat) : State :=
  s.each (s.reqs.filter fun r => r.phase == .chunk && r.chunk == some chunk) fun s r => s.route r.id

/-- Sectors that each stack of a fill's chunk has to write (R86). -/
def Fill.sectors (f : Fill) : Nat := ceilDiv 32768 (max 1 (popcount 32 f.span))

/-- Sectors of a fill's share that a stack may write now: at Critical rank, under the cap of T3 (R87, R206); a background fill
where Upkeep is granted, within the frame's slots or the Upkeep floor (R88, R106, R202). -/
def State.fillGo (s : State) (f : Fill) (st : Nat) : Nat :=
  let k := s.stack st
  let left := f.sectors - Map.look 0 st f.wrote
  if f.prio then (if !s.arbiterRuns st then 0 else if s.level st = 3 then min left (9600 - k.critFrame) else left)
  else if !s.upkeepOn st then 0
  else min left ((if s.test.trimStep = 0 ∧ k.trim = 0 then k.dNow / 2 else ceilDiv k.dNow 200) - k.upkeepUsed)

/-- A stack writes what it may of its share of a fill now: work of the block's own under master 0x28, Critical for a priority
fill (R85, R88, log 149). -/
def State.fillShareOn (s : State) (f : Fill) (st : Nat) : State :=
  let n := s.fillGo f st
  if n = 0 then s
  else
    let e := (s.slot f.region).known
    let at0 := (f.chunk - e.chunkBase) * 2097152
    let off := ((upTo 8192).find? fun i => s.stackOf e (at0 + 256 * i) == st).getD 0 * 256 + at0
    let g (x : Fill) : Fill :=
      if x.chunk == f.chunk then
        { x with wrote := Map.upd 0 st (· + n) x.wrote
                 stackMask := if f.sectors ≤ Map.look 0 st x.wrote + n then x.stackMask - 2 ^ st else x.stackMask }
      else x
    (s.ownWork (s.mappedPlace e off) 0 n 0x28 (if f.prio then .critical else .upkeep)).modRegions fun r => { r with fills := r.fills.map g }

/-- A fill whose every share is written ends, and what it held proceeds (R84, R85, R88). -/
def State.fillDone (s : State) (chunk : Nat) : State :=
  match s.fill? chunk with
  | none => s
  | some f => if f.stackMask = 0 then (s.endFill f).releaseChunk chunk else s

/-- Whether every slice in service has written its share of a scratch chunk (R226). -/
def State.scratchDone (s : State) (f : Fill) : Bool :=
  match s.scratchKey f.chunk 0 with
  | none => true
  | some k => (upTo 16).all fun i =>
    let slice := k / 8192 / 256 * 16 + i
    s.obj 0x3005 1 slice != 0 || (s.isReady (32 + slice / 16) && decide (512 ≤ Map.look 0 slice f.wrote))

/-- Whether the run of writes of a shot that covers a chunk is over and all of it visible (R334). -/
def State.runDone (s : State) (f : Fill) (shot : Nat) : Bool :=
  match s.shot? shot with
  | none => true
  | some x =>
    let first := (s.entryFor f.region (x.ver f.region) (slDstOff x.slate.toNat)).chunkBase
    s.runPast x f && !s.reqs.any fun r =>
      r.dest == .sink && r.shot == some shot && r.region == f.region && decide (s.reqOff r / 2097152 = f.chunk - first)

/-- CHUNK_FILL_END (R85, R334): what is left of a priority fill is written as far as its stacks grant it, and the fill ends
when all of it is; a run that covers its chunk ends with its last write. -/
def execChunkFillEnd (chunk : BitVec 21) (s : State) : Host.Outcome State Fault Refusal :=
  let c := chunk.toNat
  match s.fill? c with
  | none => .next s
  | some f =>
    if !f.prio then .next s
    else
      match f.run with
      | some shot =>
        if s.runDone f shot then
          let s1 := (s.setWritten c true).modRegions fun g => { g with fills := g.fills.filter fun x => x.chunk != c }
          .next (s1.releaseChunk c)
        else .next s
      | none =>
        if f.span = 0 then (if s.scratchDone f then .next (s.fillDone c) else .next s)
        else .next ((s.each (setBits 32 f.stackMask) fun s st => s.fillShareOn f st).fillDone c)

/-- FILL_ALLOWANCE_TAKEN (R83): a raised background fill becomes a priority fill when every stack has room, and the table an
entry that is not held for the background fill. -/
def execFillAllowanceTaken (chunk : BitVec 21) (s : State) : Host.Outcome State Fault Refusal :=
  match s.fill? chunk.toNat with
  | none => .next s
  | some f =>
    let e := (s.slot f.region).known
    let take (x : Fill) : Fill :=
      if x.chunk == f.chunk then { x with prio := true, taken := true, raised := false, share := fillShare e, started := s.time.frame }
      else x
    if f.prio || !f.raised || !s.fillRoom e || decide (96 ≤ (s.regions.fills.filter (·.prio)).length) then .next s
    else .next ((s.count 0x3402 2).modRegions fun g => { g with fills := g.fills.map take })

/-- The lowest BLANK chunk of a live region that has sectors on a stack, with its region (R88). -/
def State.nextBlank (s : State) (st : Nat) : Option (Nat × Nat) :=
  let l := s.regions.slots.filterMap fun (x : Nat × RegionSlot) =>
    let e := x.2.now
    if e.live && e.loft != 2 && bit e.stackMask st then
      (((upTo e.size).map (e.chunkBase + ·)).find? s.blank).map fun c => (c, x.1)
    else none
  leastBy (·.1) l

/-- BACKGROUND_FILL_WRITE (R83, R88): a stack writes its share of the chunk under background fill that it works on, or of
the next BLANK one, as far as Upkeep is granted. -/
def execBackgroundFillWrite (stack : Fin 32) (s : State) : Host.Outcome State Fault Refusal :=
  let st := stack.val
  if s.live' 0x3402 5 0 != 1 || !s.upkeepOn st then .next s
  else
    match leastBy (·.chunk) (s.regions.fills.filter fun f => !f.prio && bit f.stackMask st) with
    | some f => .next ((s.fillShareOn f st).fillDone f.chunk)
    | none =>
      match s.nextBlank st with
      | none => .next s
      | some (c, r) =>
        if 32 ≤ (s.regions.fills.filter fun f => !f.prio).length ∨ 128 ≤ s.regions.fills.length then .next s
        else
          let e := (s.slot r).now
          let f : Fill :=
            { chunk := c, region := r, prio := false, taken := false, stackMask := fillStacks e, share := 0
              started := s.time.frame, span := fillStacks e }
          .next (((s.modRegions fun g => { g with fills := g.fills ++ [f] }).fillShareOn f st).fillDone c)

/-- An abandoned fill (R87); cause 1 T4, 2 gating, 3 loss. -/
def State.abandonFill (s : State) (f : Fill) (cause st : Nat) : State :=
  ((s.dropFill f (cause == 3)).count 0x3402 6).logEvent 3 1 (f.region + f.chunk * 2 ^ 16 + cause * 2 ^ 40 + st * 2 ^ 48)
    (s.regionTenant f.region)

/-- Abandon every fill whose chunk spans a stack (R87). DESIGN CHOICE: a background fill too, raised or not, though R88 lets it
wait there; a shot's run that covers its chunk waits with its writes (R514), but does not outlive a loss (log 155). -/
def State.abandonOn (s : State) (st cause : Nat) (pick : Fill → Bool) : State :=
  s.each (s.regions.fills.filter fun f => bit f.span st && (cause == 3 || f.run.isNone) && pick f) fun s f => s.abandonFill f cause st

/-- ENGINE_WAIT_END (R514): the oldest waiting request of an engine whose cause of waiting has ended goes on, in its master's
order to its line. -/
def execEngineWaitEnd (s : State) : Host.Outcome State Fault Refusal :=
  match s.waitEnds with
  | none => .next s
  | some r => .next (s.engGo r.id).pulled

/-- Whether work still carries a version of a region (R92). -/
def State.carries (s : State) (region version : Nat) : Bool :=
  (s.reqs.any fun r => r.region == region && r.version == version && r.op != .fence && r.op != .post) ||
    (s.shot.shots.any fun x => x.versions.contains (region, version))

/-- The chunk indices that a drained version had and the current one has not (R89, R91). -/
def goneChunks (o n : RegionEntry) : List Nat :=
  let kept (c : Nat) : Bool := n.live && decide (n.chunkBase ≤ c) && decide (c < n.chunkBase + n.size)
  ((upTo o.size).map (o.chunkBase + ·)).filter fun c => !kept c

/-- Keys that a slot holds. -/
def RegionSlot.keyCount (sl : RegionSlot) : Nat := sl.cur.toList.length + sl.prev.toList.length + sl.keyNext.toList.length

/-- Every key of a slot is destroyed (R415): its sweep ends with them. -/
def State.destroyKeys (s : State) (r : Nat) : State :=
  let n := (s.slot r).keyCount
  (s.bump 0x6801 3 0 n).modSlot r fun sl => { sl with cur := none, prev := none, keyNext := none, sweep := none }

/-- VERSION_DROP (R92): the old version of a region, from the first boundary after nothing carries it (log 156), while no rebuild
or fill runs under it; its
chunks that the region has no more are BLANK (R89), its scratch places free, and the keys of a released region destroyed
(R415). -/
def execVersionDrop (region : BitVec 12) (s : State) : Host.Outcome State Fault Refusal :=
  let r := region.toNat
  let sl := s.slot r
  match sl.old with
  | none => .next s
  | some o =>
    let gone := goneChunks o sl.now
    if !sl.drained || sl.rebuildWm.isSome || gone.any (fun c => (s.fill? c).isSome) then .next s
    else
      let s1 := s.each gone fun s c => s.setWritten c false
      let s2 := s1.modLoft fun l =>
        let left := l.places.filter fun (x : Nat × Option Nat) => !gone.any fun c => x.2 == some c
        { l with
          places := left
          scratch := l.scratch.filter fun (x : Nat × ScratchLine) =>
            !l.places.any fun (p : Nat × Option Nat) => p.1 == x.1 / 8192 && gone.any fun c => p.2 == some c
          lostLines := l.lostLines.filter fun k =>
            !l.places.any fun (p : Nat × Option Nat) => p.1 == k / 8192 && gone.any fun c => p.2 == some c }
      .next ((if sl.now.live then s2 else s2.destroyKeys r).modSlot r fun x => { x with old := none, drained := false })

/-- Whether an admitted shot carries a version of an entry of the shot table (R248). -/
def State.entryHeld (s : State) (t : Nat) (o : BitVec 512) : Bool :=
  s.shot.shots.any fun x =>
    (descType (slKind x.slate.toNat)).isSome && slDesc x.slate.toNat == t && x.descVer == teVersion o.toNat

/-- A boundary notes the old versions that nothing carries any more (R92, R248). -/
def State.noteDrained (s : State) : State :=
  let s1 := s.each ((s.regions.slots.filter fun (x : Nat × RegionSlot) =>
      match x.2.old with | some o => !s.carries x.1 o.version | none => false).map (·.1)) fun s r =>
    s.modSlot r fun x => { x with drained := true }
  s1.each ((s.shot.table.filter fun (x : Nat × TableSlot) =>
      match x.2.old with | some o => !s.entryHeld x.1 o | none => false).map (·.1)) fun s t =>
    s.modTslot t fun x => { x with drained := true }

/-- SHOT_TABLE_VERSION_DROP (R248): the old version of an entry, from the first boundary after no admitted shot carries it
(log 156). -/
def execShotTableVersionDrop (entry : BitVec 12) (s : State) : Host.Outcome State Fault Refusal :=
  let t := entry.toNat
  let sl := s.tslot t
  if sl.old.isNone || !sl.drained then .next s
  else
    let s1 := (s.freeUnits sl.unitsOld).modTslot t fun x => { x with old := none, unitsOld := [], drained := false }
    .next (s1.modShotS fun y => { y with sets := y.sets.filter fun (p : Nat × FilterSet) => p.1 != t + 4096 })

end Sys2Proof.Machine
end

