-- ==== Sys2Proof/Machine/PcControl.lean ====
section
/-! DEFINITION. PcControl.lean: one controller cycle of a pseudo-channel (06): its timing (R135, R136), the column and
row command it chooses (R138 to R144), the page predictor (R141, R142), activate tables (R163 to R166), the call sheet
(R147 to R149), command-path replay (R151, R153) and the slot counters (R483, R484). -/
namespace Sys2Proof.Machine

/-- The timing values of a stack that its controllers use. -/
structure Timing where
  rcd : Nat
  rp : Nat
  ras : Nat
  rc : Nat
  rrdS : Nat
  rrdL : Nat
  faw : Nat
  ccdS : Nat
  ccdL : Nat
  rl : Nat
  wl : Nat
  rtp : Nat
  wr : Nat
  wtrS : Nat
  wtrL : Nat
  rtw : Nat
  par : Nat
  parRec : Nat
  rfc : Nat
  rfc2 : Nat
  rfm : Nat
  rfcab : Nat
  sr : Nat
  xs : Nat
  burst : Nat
deriving DecidableEq, Repr

/-- Timing set of a pseudo-channel: one that has switched in a timing switch under way uses the target set (R176). -/
def State.setOf (s : State) (p : Nat) : Nat :=
  match (s.stack (p / 64)).switch with
  | some (t, _) => if (s.pc p).switched then t else s.timingSet (p / 64)
  | none => s.timingSet (p / 64)

/-- The values of a timing set (R135, R156). -/
def State.timingFor (s : State) (set : Nat) : Timing :=
  let v (n : Nat) : Nat := s.obj 0x2800 1 (set * 32 + n)
  { rcd := v 0, rp := v 1, ras := v 2, rc := v 3, rrdS := v 4, rrdL := v 5, faw := v 6, ccdS := v 7, ccdL := v 8, rl := v 9
    wl := v 10, rtp := v 11, wr := v 12, wtrS := v 13, wtrL := v 14, rtw := v 15, par := v 16, parRec := v 17, rfc := v 18
    rfc2 := v 19, rfm := v 20, rfcab := v 21, sr := v 22, xs := v 23, burst := v 27 }

/-- Timing values in force on a pseudo-channel. -/
def State.timing (s : State) (st pc : Nat) : Timing := s.timingFor (s.setOf (pcNo st pc))

/-- Whether a cycle of a frame carries a burst under a set with so many burst slots (R174). -/
def carriesBurst (burst k : Nat) : Bool :=
  if burst = 800 then k % 5 != 4 else if burst = 500 then k % 2 == 0 else if burst = 250 then k % 4 == 0 else true

/-- First cycle from `t` on that carries a burst. -/
def nextBurst (burst t : Nat) : Nat := t + ((upTo 4).find? fun i => carriesBurst burst ((t + i) % 1000)).getD 0

/-- The two slots of a sector whose data starts at a cycle (R132, R174). -/
def sectorSlots (burst t : Nat) : Nat × Nat :=
  let a := nextBurst burst t
  (a, nextBurst burst (a + 1))

/-- The slots of a column command. -/
def Timing.slots (t : Timing) (c : Nat) (read : Bool) : Nat × Nat := sectorSlots t.burst (c + if read then t.rl else t.wl)

/-- When the data of a RD reaches the controller (R137): 24 cycles after its last burst. -/
def Timing.arrives (t : Timing) (c : Nat) : Nat := (t.slots c true).2 + 25

def PcState.bank (x : PcState) (b : Nat) : Bank := Map.look {} b x.banks
def PcState.modBank (x : PcState) (b : Nat) (f : Bank → Bank) : PcState := { x with banks := Map.upd {} b f x.banks }

/-- Whether two banks (SID x 16 + bank) lie in one bank group, and whether in one bank group of one SID. -/
def sameGroup (a b : Nat) : Bool := a % 16 / 4 == b % 16 / 4
def sameGroupSid (a b : Nat) : Bool := a / 4 == b / 4

/-- The sheet in force in the frame of a cycle, from the frame in progress: this one's, or the next one's if complete. -/
def PcState.sheetAt (x : PcState) (frame t : Nat) : Sheet :=
  if t / 1000 = frame then x.sheet else x.sheetNext.getD {}

/-- Whether a cycle lies in a sheet's cut. -/
def Sheet.inCut (h : Sheet) (k : Nat) : Bool :=
  match h.cut with | some c => decide (c.start ≤ k) && decide (k < c.start + c.len) | none => false

/-- Whether a slot is reserved by the sheet (R37, R138). -/
def PcState.slotReserved (x : PcState) (frame t : Nat) : Bool :=
  let h := x.sheetAt frame t
  decide (t % 1000 < h.band) || h.inCut (t % 1000)

/-- The next cut that starts at or after a cycle, within two frames: its first cycle. -/
def PcState.cutAhead (x : PcState) (frame c : Nat) : Option Nat :=
  let here := match x.sheet.cut with | some q => if c ≤ frame * 1000 + q.start then some (frame * 1000 + q.start) else none | none => none
  let next := (x.sheetNext.bind (·.cut)).map fun q => (frame + 1) * 1000 + q.start
  here.orElse fun _ => next

/-- Whether an ACT-like command may be issued for the intervals between ACTs (R135, R136). -/
def actFits (t : Timing) (acts : List (Nat × Nat)) (c b : Nat) : Bool :=
  let times := c :: acts.map (·.1)
  acts.all (fun a =>
    let need := if sameGroupSid a.2 b then t.rrdL else t.rrdS
    decide (a.1 + need ≤ c) || decide (c + need ≤ a.1)) &&
    times.all fun w => decide ((times.filter fun u => decide (w ≤ u) && decide (u < w + t.faw)).length ≤ 4)

/-- Whether a bank may be activated (R135, R140). -/
def PcState.actReady (x : PcState) (t : Timing) (c b : Nat) : Bool :=
  let k := x.bank b
  k.openRow.isNone && decide (k.busyTo ≤ c) && (match k.preAt with | some a => decide (a + t.rp ≤ c) | none => true) &&
    (match k.actAt with | some a => decide (a + t.rc ≤ c) | none => true) && actFits t x.acts c b

/-- Whether an open bank may be precharged (R135). -/
def Bank.preReady (k : Bank) (t : Timing) (c : Nat) : Bool :=
  k.openRow.isSome && (match k.actAt with | some a => decide (a + t.ras ≤ c) | none => true) &&
    (match k.rdAt with | some a => decide (a + t.rtp ≤ c) | none => true) &&
    (match k.wrEnd with | some a => decide (a + t.wr ≤ c) | none => true)

/-- Banks that are open. -/
def PcState.openBanks (x : PcState) : List Nat := (x.banks.filter fun b => b.2.openRow.isSome).map (·.1)

/-- Whether every open bank may be precharged at once (R136). -/
def PcState.preaReady (x : PcState) (t : Timing) (c : Nat) : Bool := x.openBanks.all fun b => (x.bank b).preReady t c

/-- Close a bank; `kept` says whether its row was left open until the access that closes it. -/
def PcState.closeBank (x : PcState) (c b : Nat) (kept : Bool) : PcState :=
  x.modBank b fun k => { k with openRow := none, preAt := some c, streak := 0, wasOpen := kept }

/-- The replay log holds the commands of the last 16 cycles, and those that a targeted refresh goes on to issue (R150,
R165). -/
def PcState.logAll (x : PcState) (c : Nat) (l : List LogCmd) : PcState :=
  { x with log := (x.log.filter fun y => decide (c < y.cyc + 16)) ++ l }
def PcState.logCmd (x : PcState) (l : LogCmd) : PcState := x.logAll l.cyc [l]

/-- Whether the row command of a cycle has been issued (R140). -/
def PcState.rowSpent (x : PcState) (c : Nat) : Bool := x.log.any fun l => l.cyc == c && l.kind != .rd && l.kind != .wr

/-- The 64 entries of the queue; what stands behind them is in the stack's staging pool (R128, R132). -/
def PcState.active (x : PcState) : List QEntry := x.queue.take 64

/-- Refresh-class commands of the sheets within the next 64 cycles, with those shifted: their cycle and bank (R147, R149). -/
def PcState.coming (x : PcState) (frame k : Nat) : List (Nat × Nat) :=
  let b (d : SheetCmd) : Nat := d.sid * 16 + d.bank
  (x.late.map fun d => (frame * 1000 + k + 1, b d)) ++
    ((x.sheet.cmds.filter fun d => decide (k < d.cyc) && decide (d.cyc ≤ k + 64)).map fun d => (frame * 1000 + d.cyc, b d)) ++
    (match x.sheetNext with
     | some h => (h.cmds.filter fun d => decide (d.cyc + 1000 ≤ k + 64)).map fun d => ((frame + 1) * 1000 + d.cyc, b d)
     | none => [])

/-- PREA (R136). -/
def PcState.issuePrea (x : PcState) (c : Nat) : PcState :=
  (x.openBanks.foldl (fun x b => x.closeBank c b false) x).logCmd { cyc := c, kind := .prea }

/-- Row of an entry, and its bank within the pseudo-channel. -/
def QEntry.row (e : QEntry) : Nat := plRow e.place
def QEntry.bank (e : QEntry) : Nat := plBankNo e.place

/-- Whether an entry's next column command is a read (R145). -/
def QEntry.readsNext (e : QEntry) : Bool := e.stage == .waiting && e.kind != .write

/-- Whether an entry still needs its bank: for a column command, or between its read and its write. -/
def QEntry.needsBank (e : QEntry) : Bool :=
  match e.stage with
  | .waiting | .merge _ => true
  | .reading => e.kind != .read
  | .writing _ => false

/-- Whether an entry waits for a column command. -/
def QEntry.wantsCol (e : QEntry) (c : Nat) : Bool :=
  match e.stage with
  | .waiting => true
  | .merge t => decide (t ≤ c)
  | _ => false

/-- Rank of an entry: as granted, or Critical once it is promoted or has reached the age limit (R106, R107). -/
def QEntry.rankNow (e : QEntry) (limit c : Nat) : Nat := if e.critical || decide (e.bornNs + limit ≤ c) then 1 else e.rank

/-- Whether an earlier entry of the queue blocks an entry (R134): both go to one sector and one of them writes. -/
def blockedBy (earlier : List QEntry) (e : QEntry) : Bool :=
  earlier.any fun q =>
    q.place == e.place && (q.kind != .read || e.kind != .read) && (match q.stage with | .writing _ => false | _ => true)

/-- Entries of a queue with those before them. -/
def withEarlier : List QEntry → List QEntry → List (QEntry × List QEntry)
  | _, [] => []
  | seen, e :: l => (e, seen) :: withEarlier (seen ++ [e]) l

/-- Whether every interval and slot allows an entry's column command now, its row being open (R135, R138, R148), and its bank
can be closed before a refresh of the sheet (R147). DESIGN CHOICE: two banks of one number in different SIDs are of different
bank groups (log 146). -/
def PcState.colFits (x : PcState) (t : Timing) (frame c b : Nat) (read : Bool) : Bool :=
  let sl := t.slots c read
  let k := x.bank b
  let free (n : Nat) : Bool := !x.slotReserved frame n && !x.bursts.contains n
  (match k.actAt with | some a => decide (a + t.rcd ≤ c) | none => true) && decide (k.busyTo ≤ c) && free sl.1 && free sl.2 &&
    (x.cols.all fun q =>
      if q.2.2 == read then decide (q.1 + (if sameGroupSid q.2.1 b then t.ccdL else t.ccdS) ≤ c)
      else if read then decide ((t.slots q.1 false).2 + (if sameGroup q.2.1 b then t.wtrL else t.wtrS) ≤ c)
      else decide ((t.slots q.1 true).2 + t.rtw ≤ sl.1)) &&
    (match x.cutAhead frame c with
      | some z => if read then decide (t.arrives c < z) else decide (sl.2 + t.wr + t.rp ≤ z)
      | none => true) &&
    ((x.coming frame (c % 1000)).all fun d => d.2 != b || decide ((if read then c + t.rtp else sl.2 + t.wr) + t.rp < d.1))

/-- An entry that passes over an older one of its rank and bank for another row (R139). -/
def passesOver (limit c : Nat) (q : List QEntry) (e : QEntry) : Bool :=
  q.any fun o => o.needsBank && o.bank == e.bank && o.row != e.row && decide (o.bornNs < e.bornNs) &&
    o.rankNow limit c == e.rankNow limit c

/-- What a controller knows in a cycle. -/
structure Look where
  st : Nat
  pcn : Nat
  p : Nat
  k : Nat
  c : Nat
  frame : Nat
  t : Timing
  age : Nat
  streak : Nat
deriving DecidableEq, Repr

/-- The view of a cycle. -/
def State.look (s : State) (st pc k : Nat) : Look :=
  { st, pcn := pc, p := pcNo st pc, k, c := s.cycle k, frame := s.time.frame, t := s.timing st pc
    age := s.live' 0x4000 2 0, streak := s.stLive st 0x2001 6 0 }

/-- Whether an open-row choice of an entry is barred by the streak limit (R139). -/
def PcState.barred (x : PcState) (v : Look) (e : QEntry) : Bool :=
  decide (v.streak ≤ (x.bank e.bank).streak) && passesOver v.age v.c x.active e

/-- Owner of the data slot an entry would use (R116, R139). -/
def State.slotOwner (s : State) (v : Look) (e : QEntry) : Nat :=
  s.ownerAt v.st ((v.t.slots v.c e.readsNext).1 % 1000)

/-- Whether an entry is the slot owner's, or a Loft fetch's for it (R12, R139). -/
def State.ownsSlot (s : State) (v : Look) (e : QEntry) : Bool :=
  s.slotOwner v e == e.master || e.forPort == some (s.slotOwner v e)

/-- The frame before ended with a cut, or self-refresh has ended, and an entry of Critical rank waited through it (R104, R148,
R169). -/
def PcState.afterCut (x : PcState) (v : Look) : Bool :=
  x.active.any fun e =>
    e.rankNow v.age v.c == 1 && e.needsBank && ((x.lastCut.isSome && decide (e.cyc < v.frame * 1000)) || decide (e.cyc < x.backAt))

/-- Order of R139 over entries: owner, rank, direction, oldest; after a cut Critical rank goes before the owner (R148). -/
def State.entryFirst (s : State) (v : Look) (draining : Bool) (a b : QEntry) : Bool :=
  let cut := (s.pc v.p).afterCut v
  let key (e : QEntry) : Nat × Nat × Nat :=
    (if cut && e.rankNow v.age v.c == 1 then 0 else if s.ownsSlot v e then 1 else 2, e.rankNow v.age v.c, b2n (e.readsNext == draining))
  let x := key a
  let y := key b
  decide (x.1 < y.1) || (x.1 == y.1 && (decide (x.2.1 < y.2.1) || (x.2.1 == y.2.1 &&
    (decide (x.2.2 < y.2.2) || (x.2.2 == y.2.2 && decide (a.bornNs < b.bornNs))))))

/-- Entries whose row is open and that only the intervals between column commands and the slots of the data bus can hold
back; the streak limit bars none of the slot owner's (R138, R139). -/
def State.colReady (s : State) (v : Look) : List QEntry :=
  let x := s.pc v.p
  ((withEarlier [] x.active).filter fun z =>
    let e := z.1
    e.wantsCol v.c && !blockedBy z.2 e && (x.bank e.bank).openRow == some e.row && (s.ownsSlot v e || !x.barred v e)).map (·.1)

/-- Entries whose column command may be issued in this cycle (R138). -/
def State.colEligible (s : State) (v : Look) : List QEntry :=
  (s.colReady v).filter fun e => (s.pc v.p).colFits v.t v.frame v.c e.bank e.readsNext

/-- Whether an entry is a write entry that has not been written (R133, R143): a WRITE, whole or partial, or an atomic that has
been read. -/
def QEntry.isWrite (e : QEntry) : Bool :=
  match e.stage with
  | .waiting => e.kind == .write || e.kind == .partialWrite
  | .reading => e.kind == .partialWrite
  | .merge _ => true
  | .writing _ => false

/-- The write drain of a controller at the start of its choice (R143): it ends or starts. What is eligible for it is what
the intervals between column commands and the bus turnaround alone may hold back (DEDUCED, log 145); it ends where a
reservation begins (R144). DESIGN CHOICE: the 64 cycles that a Critical read has waited count from its grant (log 147). -/
def State.drainStep (s : State) (v : Look) : State :=
  let x := s.pc v.p
  let live (sub : Nat) := s.stLive v.st 0x2001 sub 0
  let el := s.colReady v
  let writes := (x.active.filter (·.isWrite)).length
  let elWrite := el.any fun e => !e.readsNext
  let elRead := el.any (·.readsNext)
  let critRead := x.active.any fun e => e.readsNext && e.kind == .read && e.rankNow v.age v.c == 1 && decide (e.cyc + 64 ≤ v.c)
  if x.draining then
    if writes ≤ live 2 ∨ live 3 ≤ x.drained ∨ !elWrite ∨ (live 4 ≤ x.drained ∧ critRead) ∨
        x.slotReserved v.frame (v.t.slots v.c false).1 then
      s.modPc v.p fun x => { x with draining := false, drained := 0 }
    else s
  else
    let aged := x.active.any fun e => e.isWrite && (decide (e.bornNs + v.age ≤ v.c) || (e.critical && e.cls != .critical))
    let blocked := (withEarlier [] x.active).any fun z => z.1.readsNext && blockedBy (z.2.filter (·.isWrite)) z.1
    if !x.slotReserved v.frame (v.t.slots v.c false).1 &&
        (decide (live 1 ≤ writes) || (!elRead && elWrite) || (aged && elWrite) || (blocked && elWrite)) then
      (s.modPc v.p fun x => { x with draining := true, drained := 0 }).tallyStack v.st 0x0C 1 {}
    else s

/-- The predictor of a bank (R142): its state, and its next state on reuse or conflict. -/
def State.predictor (s : State) (v : Look) (b : Nat) : Nat := s.stObj v.st 0x2004 1 (v.pcn * 64 + b)
def predictNext (n : Nat) (reuse : Bool) : Nat :=
  if reuse then (if n = 0 then 1 else if n = 1 then 2 else 3) else (if n = 2 then 1 else if n = 3 then 2 else 0)

/-- An access arrives at a bank (R142): reuse or conflict, counted. -/
def State.classAccess (s : State) (v : Look) (b : Nat) (reuse wasOpen : Bool) : State :=
  let s1 := s.stSet v.st 0x2004 1 (v.pcn * 64 + b) (predictNext (s.predictor v b) reuse)
  if reuse then s1.stBump v.st 0x2004 (if wasOpen then 2 else 3) v.pcn 1
  else if wasOpen then s1.stBump v.st 0x2004 4 v.pcn 1
  else s1

/-- An activation in a bank's activate table (R163): the table, the spill count, and whether it triggers or overruns. -/
def Bank.activate (k : Bank) (limit row : Nat) : Bank × Bool × Bool :=
  let held := (upTo 16).find? fun i => let e := Map.look {} i k.table; e.row == row && decide (0 < e.count)
  match held.orElse fun _ => (upTo 16).find? fun i => (Map.look {} i k.table).count == k.spill with
  | some i =>
    let e := Map.look {} i k.table
    let n := e.count + 1
    ({ k with table := Map.put {} { row, count := n } i k.table }, n % limit == 0, false)
  | none => ({ k with spill := k.spill + 1 }, false, (k.spill + 1) % limit == 0)

/-- Enter a neighbour refresh or overrun in the pending queue (R163, R166). -/
def State.noteAct (s : State) (v : Look) (b row : Nat) : State :=
  let r := ((s.pc v.p).bank b).activate (s.stack v.st).nbLimit row
  let s1 := s.modPc v.p fun x => x.modBank b fun _ => r.1
  let add (s : State) (row : Option Nat) : State :=
    s.modPc v.p fun x =>
      if x.triggers.length < 64 then { x with triggers := x.triggers ++ [{ sid := b / 16, bank := b % 16, row, frame := v.frame }] } else x
  if r.2.1 then (add s1 (some row)).stBump v.st 0x2007 3 v.pcn 1
  else if r.2.2 then (add s1 none).stBump v.st 0x2007 4 v.pcn 1
  else s1

/-- Drop what no interval can see any more. -/
def PcState.trim (x : PcState) (c : Nat) : PcState :=
  { x with
    acts := x.acts.filter fun a => decide (c < a.1 + 64)
    cols := x.cols.filter fun a => decide (c < a.1 + 64)
    bursts := x.bursts.filter fun b => decide (c ≤ b)
    judged := x.judged.filter fun j => decide (c < j.1) }

/-- Open a row. -/
def PcState.openRow (x : PcState) (c b row : Nat) : PcState :=
  { x.modBank b fun k => { k with openRow := some row, lastRow := some row, actAt := some c, streak := 0 } with acts := (c, b) :: x.acts }

/-- ACT for an entry (R140, R142, R163). -/
def State.issueAct (s : State) (v : Look) (e : QEntry) : State :=
  let k := (s.pc v.p).bank e.bank
  let reuse := k.lastRow == some e.row
  let t := e.txn
  let s1 := if k.lastRow.isSome then s.classAccess v e.bank reuse (k.wasOpen && !reuse) else s
  let s2 := if k.lastRow.isSome && !reuse && k.wasOpen then s1.tallyStack v.st 6 1 t else s1
  let s3 := s2.modPc v.p fun x => (x.openRow v.c e.bank e.row).logCmd
    { cyc := v.c, kind := .act, sid := e.bank / 16, bank := e.bank % 16, row := e.row, req := e.req, seq := e.seq }
  (s3.noteAct v e.bank e.row).tallyStack v.st 4 1 t

/-- Whether the column command of an entry carries auto-precharge (R141). -/
def State.autoPre (s : State) (v : Look) (e : QEntry) : Bool :=
  let others := (s.pc v.p).active.filter fun o => o.bank == e.bank && o.needsBank && !(o.req == e.req && o.seq == e.seq)
  if others.any fun o => o.row == e.row then false
  else if !others.isEmpty then true
  else
    let pol := s.stLive v.st 0x2001 5 0
    if pol = 1 then false else if pol = 2 then true else decide (s.predictor v e.bank < 2)

/-- What a column command leaves in the controller (R132, R133, R135, R141, R150): its slots, its stage, its bank and its
place in the log. -/
def PcState.column (x : PcState) (v : Look) (e : QEntry) (l : LogCmd) : PcState :=
  let read := l.kind == .rd
  let b := l.sid * 16 + l.bank
  let sl := v.t.slots v.c read
  let y : PcState := { x with
    queue := x.queue.map fun q => if q.req == l.req && q.seq == l.seq then { q with stage := if read then .reading else .writing v.c } else q
    cols := (v.c, b, read) :: x.cols
    bursts := sl.1 :: sl.2 :: x.bursts
    inflight := if read then x.inflight ++ [{ req := e.req, seq := e.seq, place := e.place, cyc := v.c, second := e.look != 0, first := e.look }] else x.inflight }
  let z := y.modBank b fun k =>
    let k1 := { k with rdAt := if read then some v.c else k.rdAt, wrEnd := if read then k.wrEnd else some sl.2, lastCol := v.c }
    if l.ap then
      let base := if read then v.c + v.t.rtp else sl.2 + v.t.wr
      let at' := match k.actAt with | some a => max base (a + v.t.ras) | none => base
      { k1 with openRow := none, preAt := some at', streak := 0, wasOpen := false }
    else { k1 with wasOpen := true }
  z.logCmd { l with cyc := v.c }

/-- A column command for an entry (R139, R141, R142, R145), and what a write leaves in its sector. -/
def State.issueCol (s : State) (v : Look) (e : QEntry) : State :=
  let read := e.readsNext
  let k := (s.pc v.p).bank e.bank
  let fresh := e.stage == .waiting && e.look == 0
  let again := match k.actAt with | some a => decide (a ≤ k.lastCol) | none => true
  let s1 := if fresh && again then (s.classAccess v e.bank true true).tallyStack v.st 5 1 e.txn else s
  let beyond := passesOver v.age v.c (s.pc v.p).active e
  let l : LogCmd :=
    { kind := if read then .rd else .wr, sid := e.bank / 16, bank := e.bank % 16, row := e.row, req := e.req, seq := e.seq
      ap := s1.autoPre v e }
  let s2 := s1.modPc v.p fun x =>
    let y := x.modBank e.bank fun k => { k with streak := if beyond then k.streak + 1 else 0 }
    ({ y with drained := if x.draining && !read then x.drained + 1 else x.drained, used := true } : PcState).column v e l
  if read then s2 else s2.dramPut e.place (s2.effect e (s2.dramAt e.place))

/-- A refresh-class command of the sheet (R157, R158, R160, R165): a REFpb refreshes the next rows of its bank's counter; a
targeted neighbour refresh is an ACT and PRE of each neighbour, tRC apart. -/
def State.issueRefresh (s : State) (v : Look) (d : SheetCmd) : State :=
  let b := d.sid * 16 + d.bank
  let x := s.pc v.p
  let targeted := d.kind == 1 && s.stLive v.st 0x2007 2 0 == 1
  let busy := if d.kind = 0 then (if x.sheet.doubled then v.t.rfc2 else v.t.rfc) else if targeted then 3 * v.t.rc + v.t.rfm else v.t.rfm
  -- the neighbours r - 2, r - 1, r + 1, r + 2 that exist
  let rows := ([d.row + 0, d.row + 1, d.row + 3, d.row + 4].filter fun n => decide (2 ≤ n) && decide (n < 32770)).length
  let acts := if targeted then (upTo rows).map fun i => (v.c + i * v.t.rc, b) else [(v.c, b)]
  let one (c : Nat) : LogCmd :=
    { cyc := c, kind := if d.kind = 0 then CmdKind.refpb else CmdKind.rfm, sid := d.sid, bank := d.bank, row := d.row, ref := d.kind }
  let cmds := if targeted then acts.flatMap fun a => [one a.1, one (a.1 + v.t.ras)] else [one v.c]
  let s1 := s.modPc v.p fun x =>
    let y := x.modBank b fun k =>
      { k with busyTo := v.c + busy
               refRow := if d.kind = 0 then (k.refRow + if x.sheet.doubled then 48 else 24) % 32768 else k.refRow }
    ({ y with acts := acts ++ x.acts } : PcState).logAll v.c cmds
  (if d.kind = 0 then s1.stBump v.st 0x2006 3 v.pcn 1 else s1).tallyStack v.st 0x0D 1 {}

/-- Whether a refresh-class command may be issued now: its bank is closed and free, and the intervals allow it (R136). -/
def PcState.refreshReady (x : PcState) (v : Look) (d : SheetCmd) : Bool :=
  let b := d.sid * 16 + d.bank
  let k := x.bank b
  k.openRow.isNone && decide (k.busyTo ≤ v.c) && (match k.preAt with | some a => decide (a + v.t.rp ≤ v.c) | none => true) &&
    actFits v.t x.acts v.c b

/-- Refresh-class commands whose slots have come. -/
def PcState.due (x : PcState) (k : Nat) : List SheetCmd := x.late ++ x.sheet.cmds.filter fun d => d.cyc == k

/-- Whether the sheet is about to refresh a bank (R141). DESIGN CHOICE: from 64 cycles before the refresh on (log 148). -/
def PcState.refreshSoon (x : PcState) (v : Look) (b : Nat) : Bool :=
  ((x.due v.k).any fun d => d.sid * 16 + d.bank == b) || (x.coming v.frame v.k).any fun d => d.2 == b

/-- Whether an ACT now leaves every refresh of the sheet that comes within 64 cycles its cycle (R136, R147). -/
def PcState.actKeepsBand (x : PcState) (v : Look) (b : Nat) : Bool :=
  (x.coming v.frame v.k).all fun d => actFits v.t ((v.c, b) :: x.acts) d.1 d.2

/-- Whether an open bank must be closed for the entries that wait on it: the first of them goes to another row, and none of
its rank may still use the open one (R139, R140). -/
def State.conflict (s : State) (v : Look) (b : Nat) : Bool :=
  let x := s.pc v.p
  let l := x.active.filter fun e => e.bank == b && e.needsBank
  let row := (x.bank b).openRow
  match leastBy (fun e => e.rankNow v.age v.c) l with
  | none => false
  | some best => !l.any fun e => some e.row == row && e.rankNow v.age v.c == best.rankNow v.age v.c && (s.ownsSlot v e || !x.barred v e)

/-- The row command of a cycle when no refresh is ready (R140, R148): PREA before a cut, else a PRE, first of a bank that the
sheet is about to refresh, else an ACT. -/
def State.rowRest (s : State) (v : Look) : State :=
  let x := s.pc v.p
  let cut := x.cutAhead v.frame v.c
  let near := match cut with | some z => decide (z ≤ v.c + v.t.rp) | none => false
  if near && !x.openBanks.isEmpty then
    if x.preaReady v.t v.c then s.modPc v.p fun x => x.issuePrea v.c else s
  else
    let closable := x.openBanks.filter fun b => (x.bank b).preReady v.t v.c
    match (closable.filter fun b => x.refreshSoon v b) ++ closable.filter fun b => s.conflict v b with
    | b :: _ =>
      s.modPc v.p fun x => (x.closeBank v.c b (!x.refreshSoon v b)).logCmd { cyc := v.c, kind := .pre, sid := b / 16, bank := b % 16 }
    | [] =>
      let room := match cut with | some z => decide (v.c + v.t.ras + v.t.rp ≤ z) | none => true
      let want := ((withEarlier [] x.active).filter fun z =>
        z.1.needsBank && !blockedBy z.2 z.1 && (x.bank z.1.bank).openRow.isNone && !x.refreshSoon v z.1.bank &&
          x.actReady v.t v.c z.1.bank && x.actKeepsBand v z.1.bank).map (·.1)
      match firstBy (s.entryFirst v x.draining) want with
      | none => s
      | some e =>
        if 64 ≤ x.triggers.length then s.stBump v.st 0x2007 6 v.pcn 1
        else if room then s.issueAct v e
        else s

/-- The row command of a cycle outside recovery, when none has been issued in it (R140): a refresh due and ready goes first;
one that is not ready stays due. -/
def State.rowStep (s : State) (v : Look) : State :=
  let x := s.pc v.p
  let due := x.due v.k
  match due.find? fun d => x.refreshReady v d && !x.rowSpent v.c with
  | some d => (s.modPc v.p fun x => { x with late := due.erase d }).issueRefresh v d
  | none =>
    let s1 := s.modPc v.p fun x => { x with late := due }
    if x.rowSpent v.c then s1 else s1.rowRest v

/-- The column command of a cycle outside recovery (R139). -/
def State.colStep (s : State) (v : Look) : State :=
  let s1 := s.drainStep v
  match firstBy (s1.entryFirst v (s1.pc v.p).draining) (s1.colEligible v) with
  | some e => s1.issueCol v e
  | none => s1

/-- Entry of the queue that a logged command serves. -/
def PcState.entryFor (x : PcState) (l : LogCmd) : Option QEntry := x.queue.find? fun e => e.req == l.req && e.seq == l.seq

/-- The row command of a cycle of recovery (R151, R153): the first marked command that needs one. An ACT obeys the full queue
of triggers (R166); REFab, SRE and SRX put their state back. -/
def State.replayRow (s : State) (v : Look) (r : Recovery) : State :=
  let x := s.pc v.p
  let set (s : State) (r : Recovery) : State := s.modPc v.p fun x => { x with recovery := some r }
  let isCol (l : LogCmd) : Bool := l.kind == .rd || l.kind == .wr
  let bankOf' (l : LogCmd) : Nat := l.sid * 16 + l.bank
  let opened (l : LogCmd) : Bool := (x.bank (bankOf' l)).openRow == some l.row
  match r.replay.find? fun l => if isCol l then !opened l else true with
  | none => s
  | some l =>
    let drop (s : State) : State := set s { r with replay := r.replay.filter fun y => y != l }
    let again (sr : SrPhase) : State := drop (s.modPc v.p fun x => ({ x with sr } : PcState).logCmd { l with cyc := v.c })
    match l.kind, x.sr with
    | .refpb, _ | .rfm, _ =>
      let d : SheetCmd := { kind := l.ref, sid := l.sid, bank := l.bank, row := l.row }
      if x.refreshReady v d then drop (s.issueRefresh v d) else s
    | .refab, _ => again (.committed v.c)
    | .sre, .committed t => if v.c < t + v.t.rfcab then s else again (.asleep t)
    | .srx, _ => again (.exiting (v.c + v.t.xs))
    | .pre, _ | .prea, _ | .sre, _ => drop s
    | _, _ =>
      if opened l then drop s
      else if x.actReady v.t v.c (bankOf' l) then
        if 64 ≤ x.triggers.length then s.stBump v.st 0x2007 6 v.pcn 1
        else
          let s2 := (s.modPc v.p fun x => (x.openRow v.c (bankOf' l) l.row).logCmd { l with cyc := v.c, kind := .act, ap := false }).noteAct v (bankOf' l) l.row
          if isCol l then s2 else drop s2
      else if (x.bank (bankOf' l)).preReady v.t v.c && !(r.replay.any fun y => isCol y && bankOf' y == bankOf' l && opened y) then
        s.modPc v.p fun x => (x.closeBank v.c (bankOf' l) false).logCmd { cyc := v.c, kind := .pre, sid := l.sid, bank := l.bank }
      else s

/-- One cycle of command-path recovery (R151, R153): PREA, then the marked commands in their order, re-opening the rows
they need. What a marked WR leaves is in its sector already (R102). -/
def State.replayStep (s : State) (v : Look) (r : Recovery) : State :=
  let x := s.pc v.p
  let set (s : State) (r : Recovery) : State := s.modPc v.p fun x => { x with recovery := some r }
  if v.c < r.resume then s
  else if !r.prea then
    if x.preaReady v.t v.c && !x.rowSpent v.c then set (s.modPc v.p fun x => x.issuePrea v.c) { r with prea := true } else s
  else
    let s1 := if x.rowSpent v.c then s else s.replayRow v r
    -- column command: the first marked one
    let y := s1.pc v.p
    match y.recovery with
    | none => s1
    | some r1 =>
      match r1.replay.find? fun l => l.kind == .rd || l.kind == .wr with
      | none => s1
      | some l =>
        let b := l.sid * 16 + l.bank
        let left := { r1 with replay := r1.replay.filter fun z => z != l }
        match y.entryFor l with
        | none => set s1 left
        | some e =>
          if (y.bank b).openRow == some l.row && y.colFits v.t v.frame v.c b (l.kind == .rd) then
            s1.modPc v.p fun x =>
              ({ x with recovery := some { left with out := r1.out ++ [{ l with cyc := v.c }] } } : PcState).column v e l
          else s1

/-- During recovery the sheet's commands are shifted and a cut that should start waits, or is deferred (R149). -/
def State.shiftSheet (s : State) (v : Look) : State :=
  let x := s.pc v.p
  let d := x.sheet.cmds.filter fun d => d.cyc == v.k
  let s1 := if d.isEmpty then s else
    (s.modPc v.p fun x => { x with late := x.late ++ d }).stBump v.st 0x2005 1 v.pcn d.length
  match x.sheet.cut with
  | some q =>
    if q.start = v.k then
      if v.k + 1 + q.len ≤ 1000 then
        s1.modPc v.p fun x => { x with sheet := { x.sheet with cut := some { q with start := v.k + 1 } } }
      else
        let kind := match q.kind with | .retrain _ => CutKind.retrain 1 | k => k
        (s1.modPc v.p fun x => { x with sheet := { x.sheet with cut := none }, cutDue := kind :: x.cutDue }).count 0x7802 4
    else s1
  | none => s1

/-- Write entries whose command has completed without an error leave the queue (R133). -/
def State.retireWrites (s : State) (v : Look) : State :=
  s.modPc v.p fun x =>
    { x with queue := x.queue.filter fun e =>
        match e.stage with
        | .writing t => decide (v.c < t + max (v.t.par + 1) (v.t.wl + 2)) || x.recovery.isSome
        | _ => true }

/-- What an empty slot that this cycle could have filled would count as (R483): 1 overhead, 2 starved-front, 3
starved-back; with the slot. -/
def State.judge (s : State) (v : Look) : Nat × Nat :=
  let x := s.pc v.p
  let lastRead := match x.cols with | q :: _ => q.2.2 | [] => true
  let slot := v.c + if lastRead then v.t.rl else v.t.wl
  let l := x.active.filter (·.needsBank)
  let kind :=
    if x.recovery.isSome then 1
    else if l.isEmpty then 2
    else if x.sr != .awake then 1
    else
      match firstBy (s.entryFirst v x.draining) l with
      | none => 2
      | some e =>
        let turn := match x.cols with
          | q :: _ =>
            let last := (v.t.slots q.1 q.2.2).2
            if q.2.2 && !e.readsNext then decide (slot ≤ last + v.t.rtw)
            else if !q.2.2 && e.readsNext then
              decide (slot ≤ last + (if sameGroup q.2.1 e.bank then v.t.wtrL else v.t.wtrS) + v.t.rl)
            else false
          | [] => false
        let k := x.bank e.bank
        let pending := (k.openRow == some e.row && (match k.actAt with | some a => decide (v.c < a + v.t.rcd) | none => false)) ||
          (k.openRow.isNone && (match k.preAt with | some a => decide (a ≤ v.c) && decide (v.c < a + v.t.rp) | none => false))
        if turn || pending then 1 else 3
  (slot, kind)

/-- Count the slot of this cycle, and remember what this cycle says of the slot it could have filled (R483, R484). -/
def State.countSlot (s : State) (v : Look) : State :=
  let x := s.pc v.p
  let kind :=
    if x.bursts.contains v.c then 0
    else if x.slotReserved v.frame v.c || !carriesBurst v.t.burst v.k then 1
    else match x.judged.find? fun j => j.1 == v.c with
      | some j => j.2
      | none => if (x.active.filter (·.needsBank)).isEmpty then 2 else 1
  let el := v.p * 4 + kind
  let j := s.judge v
  (s.setObj 0x9001 1 el (counterAdd s.compat (s.obj 0x9001 1 el) 1)).modPc v.p fun x =>
    { x with judged := if x.judged.any fun y => y.1 == j.1 then x.judged else j :: x.judged }

/-- Counts of a cycle (R489): queue occupancy, and a cycle of a cut. -/
def State.cycleCounts (s : State) (v : Look) : State :=
  let x := s.pc v.p
  let s1 := s.each x.active fun s e => s.tallyStack v.st 8 1 e.txn
  if x.sheet.inCut v.k then s1.tallyStack v.st 0x0E 1 {} else s1

/-- Whether a pseudo-channel's controller runs: its stack's clocks run and it is neither lost nor fenced. -/
def State.pcRuns (s : State) (st pc : Nat) : Bool :=
  let p := pcNo st pc
  ((s.stack st).power == .service || (s.stack st).power == .entering) && s.obj 0x6031 1 p != 2 && s.unitState (32 + p) != 1

/-- A pseudo-channel is back from self-refresh (R168, R169). -/
def PcState.wakes (x : PcState) (c : Nat) : PcState := { x with sr := .awake, idle := 0, backAt := c }

/-- The governor of a stack charges the commands of a cycle, and the two bursts of a column command (R201). -/
def State.chargeCycle (s : State) (v : Look) : State :=
  let l := (s.pc v.p).log.filter fun l => l.cyc == v.c
  if l.isEmpty then s else s.charge v.st (l.length + 2 * (l.filter fun l => l.kind == .rd || l.kind == .wr).length)

/-- PC_CONTROLLER_CYCLE (R139, R140): at most one row and one column command in controller cycle k. -/
def execPcControllerCycle (stack : Fin 32) (pc : Fin 64) (k : Fin 1000) (s : State) : Host.Outcome State Fault Refusal :=
  if !s.pcRuns stack.val pc.val then .next s
  else
    let v := s.look stack.val pc.val k.val
    let s1 := (((s.modPc v.p fun x => x.trim v.c).retireWrites v).cycleCounts v).countSlot v
    let s2 := match (s1.pc v.p).sr with
      | .returning t | .exiting t => if t ≤ v.c then s1.modPc v.p fun x => x.wakes v.c else s1
      | _ => s1
    let x := s2.pc v.p
    match x.recovery with
    | some r => .next (((s2.shiftSheet v).replayStep v r).chargeCycle v)
    | none => if x.sr != .awake || x.sheet.inCut v.k then .next s2 else .next (((s2.rowStep v).colStep v).chargeCycle v)

/-- ROW_IDLE_CLOSE (R141): PRE of a row left open with no column command for 200 cycles, as the row command of its cycle when
no refresh takes that (R140). -/
def execRowIdleClose (stack : Fin 32) (pc : Fin 64) (sid : Fin 4) (bank : Fin 16) (k : Fin 1000) (s : State) :
    Host.Outcome State Fault Refusal :=
  if !s.pcRuns stack.val pc.val then .next s
  else
    let v := s.look stack.val pc.val k.val
    let b := sid.val * 16 + bank.val
    let x := s.pc v.p
    let kb := x.bank b
    let since := match kb.actAt with | some a => max a kb.lastCol | none => kb.lastCol
    let taken := x.rowSpent v.c || (x.due v.k).any (x.refreshReady v)
    if x.sr == .awake && x.recovery.isNone && !taken && !x.sheet.inCut v.k && kb.preReady v.t v.c && decide (since + 200 ≤ v.c) then
      .next (s.modPc v.p fun x => (x.closeBank v.c b false).logCmd { cyc := v.c, kind := .pre, sid := sid.val, bank := bank.val })
    else .next s

end Sys2Proof.Machine
end

