-- ==== Sys2Proof/Machine/Integrity.lean ====
section
/-! DEFINITION. Integrity.lean: read data and second looks (R145, R146, R359 to R362), corrective rewrites (R363), leaks
(R364), patrol (R365 to R367), and command-path errors and takes (R150 to R153). -/
namespace Sys2Proof.Machine

/-- Give one sector's answer to its request (R50); with its last one its data is complete (R297). -/
def State.addAnswer (s : State) (req seq : Nat) (a : SectorRsp) : State :=
  { s.modReq req fun r =>
      let l := r.rsp ++ [(seq, a)]
      { r with rsp := l, landed := s.seqNo, phase := if (upTo r.sectors).all fun i => l.any fun x => x.1 == i then .done else r.phase } with
    seqNo := s.seqNo + 1 }

/-- Give one sector's answer to its request: held while its command is part of a take (R151). -/
def State.giveAnswer (s : State) (p req seq : Nat) (a : SectorRsp) : State :=
  let held := match (s.pc p).recovery with | some r => r.out.any fun l => l.req == req && l.seq == seq | none => false
  if held then s.modPc p fun x => { x with recovery := x.recovery.map fun r => { r with held := r.held ++ [(req, seq, a)] } }
  else s.addAnswer req seq a

/-- Remove a queue entry. -/
def State.dropEntry (s : State) (p req seq : Nat) : State :=
  s.modPc p fun x => { x with queue := x.queue.filter fun e => !(e.req == req && e.seq == seq) }

def State.modEntry' (s : State) (p req seq : Nat) (f : QEntry → QEntry) : State :=
  s.modPc p fun x => { x with queue := x.queue.map fun e => if e.req == req && e.seq == seq then f e else e }

/-- Source of a finding on a queue entry's read (R368). -/
def State.entrySource (s : State) (e : QEntry) : Nat :=
  if e.kind != .read then 2
  else match s.req? e.req with
    | some r => if r.dest == .port then 0 else 2
    | none => 2

/-- A read of a queue entry is readable (R145, R360): the read answers, a partial write goes on to its write no earlier than
40 cycles after the data, an atomic answers the old word and goes on unless the sector is poisoned. -/
def State.entryGood (s : State) (p : Nat) (e : QEntry) (at_ : Nat) (residual : List (Nat × Nat)) : State :=
  let c := s.dramAt e.place
  let i : FindInfo := { source := s.entrySource e, place := e.place, master := e.master, positions := [], symbols := 0 }
  match e.kind with
  | .read =>
    let o := s.openSector i e.region e.tweak c residual
    (o.2.dropEntry p e.req e.seq).giveAnswer p e.req e.seq o.1
  | .atomic =>
    -- what the decode left in the sector is both answered and operated on
    let b := s.bake c residual
    let o := b.2.openSector i e.region e.tweak b.1 []
    if o.1.poison then (o.2.dropEntry p e.req e.seq).giveAnswer p e.req e.seq { poison := true }
    else
      let old := wordOf o.1.data e.half
      ((o.2.dramPut e.place b.1).modEntry' p e.req e.seq fun e => { e with stage := .merge (at_ + 40) }).giveAnswer p e.req e.seq
        { data := BitVec.ofNat 512 old.toNat }
  | _ =>
    let b := s.bake c residual
    (b.2.dramPut e.place b.1).modEntry' p e.req e.seq fun e => { e with stage := .merge (at_ + 40) }

/-- A read of a queue entry ends uncorrectable (R146, R362). -/
def State.entryBad (s : State) (p : Nat) (e : QEntry) (at_ : Nat) (persistent : Bool) : State :=
  let s1 := s.settleBad (s.entrySource e) e.master e.place persistent
  match e.kind with
  | .read | .atomic => (s1.dropEntry p e.req e.seq).giveAnswer p e.req e.seq { poison := true }
  | _ => s1.modEntry' p e.req e.seq fun e => { e with stage := .merge (at_ + 40) }

/-- Take a read's data off the list of those under way. -/
def State.arrive (s : State) (p : Nat) (f : InFlight) : State :=
  s.modPc p fun x => { x with inflight := x.inflight.filter fun g => g != f, probeBursts := x.probeBursts + 2 }

/-- Read data of a pseudo-channel that is fenced is dropped and counted (R397). -/
def State.fencedData (s : State) (p : Nat) : Bool := s.unitState (32 + p) == 1

/-- READ_DATA_RETURN (R359 to R363): the oldest first read's data arrives (R137). -/
def execReadDataReturn (stack : Fin 32) (pc : Fin 64) (errs : List (Nat × Nat)) (s : State) : Host.Outcome State Fault Refusal :=
  let p := pcNo stack.val pc.val
  match (s.pc p).inflight.find? fun f => !f.second with
  | none => .next s
  | some f =>
    let s1 := s.arrive p f
    if s.fencedData p then .next (s1.bump 0x6040 3 (32 + p) 1)
    else
      match (s1.pc p).queue.find? fun e => e.req == f.req && e.seq == f.seq with
      | none => .next s1
      | some e =>
        let at_ := (s1.timing stack.val pc.val).arrives f.cyc
        let s2 := s1.tallyStack stack.val 7 (at_ - e.cyc) (e.txn)
        let d := s2.decode f.place errs
        if d.second ≠ 0 then .next (s2.modEntry' p e.req e.seq fun e => { e with stage := .waiting, look := d.second })
        else .next ((s2.settleGood (s2.entrySource e) e.master f.place d).entryGood p e at_ d.residual).pulled

/-- SECOND_LOOK_RESULT (R361, R362). -/
def execSecondLookResult (stack : Fin 32) (pc : Fin 64) (errs : List (Nat × Nat)) (s : State) : Host.Outcome State Fault Refusal :=
  let p := pcNo stack.val pc.val
  match (s.pc p).inflight.find? fun f => f.second with
  | none => .next s
  | some f =>
    let s1 := s.arrive p f
    if s.fencedData p then .next (s1.bump 0x6040 3 (32 + p) 1)
    else
      match (s1.pc p).queue.find? fun e => e.req == f.req && e.seq == f.seq with
      | none => .next s1
      | some e =>
        let r := s1.settleSecond (s1.entrySource e) e.master f.place f.first (s1.decode f.place errs)
        let at_ := (s1.timing stack.val pc.val).arrives f.cyc
        -- a transient address error may itself have taken the rank unit out of service
        match r.1, ((r.2.pc p).queue.any fun q => q.req == e.req && q.seq == e.seq) with
        | _, false => .next r.2
        | .good residual, true => .next ((r.2.modEntry' p e.req e.seq fun e => { e with look := 0 }).entryGood p e at_ residual).pulled
        | .bad persistent, true => .next ((r.2.modEntry' p e.req e.seq fun e => { e with look := 0 }).entryBad p e at_ persistent).pulled

/-- CORRECTIVE_REWRITE (R363): the oldest rewrite that waits on a stack. -/
def execCorrectiveRewrite (stack : Fin 32) (s : State) : Host.Outcome State Fault Refusal :=
  let st := stack.val
  match (s.stack st).rewrites with
  | [] => .next s
  | w :: rest =>
    if !s.upkeepOn st then .next s
    else
      let s1 := (s.modStack st fun k => { k with rewrites := rest }).ownWork w.place 0 1 0x28 .upkeep
      let b := s1.bake (s1.dramAt w.place) w.residual
      .next (((b.2.dramPut w.place b.1).count 0x6000 7).noteRewrite w.place)

/-- BUCKET_LEAK (R364): at a boundary whose frame count is a multiple of 1,000 x 0x6002.03, every bucket that is not
empty loses one. -/
def execBucketLeak (s : State) : Host.Outcome State Fault Refusal :=
  if !s.test.boundaryLeak then .next s
  else
    .next ((s.each (upTo 2048) fun s p =>
      let v := s.obj 0x6002 1 p
      if v = 0 then s else s.setObj 0x6002 1 p (v - 1)).modTest fun x => { x with boundaryLeak := false })

/-- The row of a patrol step (R365): pseudo-channel, SID, bank, row. -/
def patrolRow (i : Nat) : Nat × Nat × Nat × Nat := (i % 64, i / 64 % 4, i / 256 % 16, i / 4096)

/-- Frames between patrol steps (R365). -/
def patrolGap (hours : Nat) : Nat := hoursFrames hours / 134217728

/-- One sector of a patrol step (R366). -/
def State.patrolSector (s : State) (place n : Nat) (e : ReadErrs) : State :=
  let r := s.lookAt 1 0x28 place (errsOf e.first n) (errsOf e.second n)
  match r.1 with
  | .good _ => r.2
  | .bad persistent =>
    let s1 := r.2
    let quiet := s1.live' 0x6001 5 0 == 0
    let held := match s1.placeRegion (s1.unphysical place) with
      | some (rg, o) => s1.written (chunkOf (s1.slot rg).now o)
      | none => false
    if held then s1.settleBad 1 0x28 place persistent 1 quiet
    else
      let i : FindInfo := { source := 1, place, master := 0x28, positions := s1.erased place, symbols := (s1.erased place).length }
      let s2 := (s1.tallyStack (plStack place) 0x12 1 (s1.findTxn place 0x28)).dramPut place (fillSector place)
      (s2.integrityEvent (if persistent then 3 else 4) i quiet).loseUnit (plStack place) (plUnit place) false

/-- PATROL_STEP (R365 to R367): the 16 sectors of one row, a spliced one at its substitute, no earlier than its frame; at most one step in a frame, and at
the schedule's pace under Gaffer step 1. -/
def execPatrolStep (stack : Fin 32) (e : ReadErrs) (s : State) : Host.Outcome State Fault Refusal :=
  let st := stack.val
  let k := s.stack st
  let i := s.obj 0x6001 3 st
  let gap := patrolGap k.patrolFor
  let f := s.time.frame
  let paced := k.patrolLast ≤ f && (s.test.trimStep == 0 && k.trim == 0 || decide (k.patrolLast + gap ≤ f + 1))
  if s.live' 0x6001 2 0 != 1 || !s.upkeepOn st || decide (f < k.patrolStart + i * gap) || !paced then .next s
  else
    let (pcn, sid, bank, row) := patrolRow i
    let ru := pcn * 4 + sid
    let skipped := s.rankState st ru == 1 || (match k.mig with | some m => m.src == ru || m.dst == ru | none => false) ||
      s.obj 0x6031 1 (pcNo st pcn) == 2 || s.unitState (32 + pcNo st pcn) == 1
    let s1 := if skipped then s else
      (s.each (upTo 16) fun s n => s.patrolSector (s.spliced (mkPlace st pcn sid bank row n)) n e).ownWork (mkPlace st pcn sid bank row 0) 16 0 0x28 .upkeep
    let s2 := s1.modStack st fun k => { k with patrolLast := f + 1 }
    if i + 1 < 134217728 then .next (s2.setObj 0x6001 3 st (i + 1))
    else
      .next (((s2.setObj 0x6001 3 st 0).bump 0x6001 4 st 1).modStack st fun k =>
        { k with patrolStart := f, patrolFor := s2.live' 0x6001 1 0 })

/-- Commands of the replay log that the stack did not execute: those from the faulty one on, which was issued tPAR
cycles before the signal (R150). DESIGN CHOICE: where a row and a column command were issued in one cycle, both are the
faulty one, and the row command's SID counts (log 150). -/
def PcState.notExecuted (x : PcState) (t : Timing) (c : Nat) : List LogCmd :=
  if x.log.any fun l => l.cyc + t.par == c then x.log.filter fun l => decide (c ≤ l.cyc + t.par) else []

/-- The SIDs that a command addresses: all of them, for a command to the whole pseudo-channel (R136, R152). -/
def LogCmd.sids (l : LogCmd) : List Nat :=
  match l.kind with
  | .prea | .refab | .sre | .srx => upTo 4
  | _ => [l.sid]

/-- Undo what a bank keeps of a command that was not executed (R151): an ACT has opened no row, a precharge has closed none, and a
refresh has refreshed none. -/
def Bank.unissue (k : Bank) (doubled : Bool) (c : Nat) (l : LogCmd) : Bank :=
  let closed := k.preAt.map (min c)
  match l.kind with
  | .act => { k with openRow := none, preAt := closed }
  | .pre => { k with openRow := k.lastRow }
  | .rd | .wr => if l.ap then { k with openRow := k.lastRow } else k
  | .refpb => { k with busyTo := 0, refRow := (k.refRow + 32768 - if doubled then 48 else 24) % 32768 }
  | .rfm => { k with busyTo := 0 }
  | _ => k

/-- Undo what the controller keeps of commands that were not executed (R151), the latest first. -/
def PcState.unissue (x : PcState) (t : Timing) (c : Nat) (marked : List LogCmd) : PcState :=
  let cols := marked.filter fun l => l.kind == .rd || l.kind == .wr
  let gone := cols.flatMap fun l => let sl := t.slots l.cyc (l.kind == .rd); [sl.1, sl.2]
  let x1 : PcState := { x with
    inflight := x.inflight.filter fun f => !cols.any fun l => l.kind == .rd && l.req == f.req && l.seq == f.seq
    bursts := x.bursts.filter fun b => !gone.contains b
    cols := x.cols.filter fun q => !cols.any fun l => l.cyc == q.1
    acts := x.acts.filter fun a => !marked.any fun l => l.kind != .rd && l.kind != .wr && l.cyc == a.1
    sr := marked.foldr (fun l sr => match l.kind, sr with
      | .refab, _ => .preparing c
      | .sre, .asleep z => .committed z
      | .srx, _ => .asleep 0
      | _, sr => sr) x.sr }
  let x2 := marked.foldr (fun l x =>
    if l.kind == .prea then (upTo 64).foldl (fun x b => x.modBank b fun k => if k.preAt == some l.cyc then { k with openRow := k.lastRow } else k) x
    else x.modBank (l.sid * 16 + l.bank) fun k => k.unissue x.sheet.doubled c l) x1
  -- the times of what was executed
  ((marked.map fun l => l.sid * 16 + l.bank).eraseDups).foldl (fun x b =>
    x.modBank b fun k =>
      { k with
        actAt := (x.acts.find? fun a => a.2 == b).map (·.1)
        rdAt := (x.cols.find? fun q => q.2.1 == b && q.2.2).map (·.1)
        wrEnd := (x.cols.find? fun q => q.2.1 == b && !q.2.2).map fun q => (t.slots q.1 false).2 }) x2

/-- The marked commands that a take replays (R151, R165): no precharge, and a targeted refresh once. -/
def replayOf (marked : List LogCmd) : List LogCmd :=
  (marked.filter fun l => l.kind != .pre && l.kind != .prea).foldl (fun acc l =>
    if l.kind == .rfm && acc.any fun m => m.kind == .rfm && m.sid == l.sid && m.bank == l.bank && m.row == l.row then acc else acc ++ [l]) []

/-- PARITY_ERROR (R151, R152): the signal reaches the controller in cycle k. -/
def execParityError (stack : Fin 32) (pc : Fin 64) (k : Fin 1000) (s : State) : Host.Outcome State Fault Refusal :=
  let v := s.look stack.val pc.val k.val
  let x := s.pc v.p
  let marked := x.notExecuted v.t v.c
  match marked, s.pcRuns stack.val pc.val with
  | first :: _, true =>
    let old := x.recovery
    -- a parity error during a take belongs to the event in progress; any other is a new event
    let e := match old with | some _ => (s, false) | none => s.parityEvent v.p
    let s0 := match old with
      | some r => if r.prea then (e.1.stBump v.st 0x2003 2 v.pcn 1).tallyStack v.st 0x13 1 {} else e.1
      | none => e.1
    let rest := match old with | some r => r.replay | none => []
    let takes := match old with | some r => r.takes + 1 | none => 1
    let sids := (match old with | some r => r.sids | none => []) ++ first.sids
    let s1 := s0.modPc v.p fun x =>
      { x.unissue v.t v.c marked with
        log := []
        recovery := some
          { resume := v.c + v.t.parRec, takes, sids, replay := replayOf marked ++ rest
            out := match old with | some r => r.out.filter fun l => !marked.contains l | none => []
            held := match old with | some r => r.held | none => [] } }
    if e.2 || decide (s.stLive v.st 0x2003 4 0 < takes) then
      -- unrecoverable: nothing more is replayed, and what was not executed waits again
      let s2 := s1.modPc v.p fun x =>
        { x with
          recovery := none
          banks := x.banks.map fun b => (b.1, { b.2 with openRow := none, preAt := some v.c })
          late := x.late ++ ((x.recovery.map (·.replay)).getD []).filterMap fun l =>
            if l.kind == .refpb || l.kind == .rfm then some { kind := l.ref, sid := l.sid, bank := l.bank, row := l.row } else none
          queue := x.queue.map fun q =>
            if q.stage == .reading && !x.inflight.any fun f => f.req == q.req && f.seq == q.seq then { q with stage := .waiting } else q }
      let s3 := s2.each ((s1.pc v.p).recovery.map (·.held) |>.getD []) fun s h => s.giveAnswer v.p h.1 h.2.1 h.2.2
      .next (s3.unrecoverable v.p sids)
    else .next s1
  | _, _ => .next s

/-- REPLAY_TAKE_END (R151): every replayed read's data has arrived and every replayed write's bursts are sent. -/
def execReplayTakeEnd (stack : Fin 32) (pc : Fin 64) (s : State) : Host.Outcome State Fault Refusal :=
  let p := pcNo stack.val pc.val
  let x := s.pc p
  match x.recovery with
  | none => .next s
  | some r =>
    let waiting := r.out.any fun l =>
      (l.kind == .rd && x.inflight.any fun f => f.req == l.req && f.seq == l.seq) ||
        (l.kind == .wr && x.bursts.contains ((s.timing stack.val pc.val).slots l.cyc false).2)
    if !r.prea || !r.replay.isEmpty || waiting then .next s
    else
      let s1 := ((s.modPc p fun x => { x with recovery := none }).stBump stack.val 0x2003 2 pc.val 1).tallyStack stack.val 0x13 1 {}
      .next (s1.each r.held fun s h => s.giveAnswer p h.1 h.2.1 h.2.2).pulled

end Sys2Proof.Machine
end

