-- ==== Sys2Proof/Machine/Training.lean ====
section
/-! DEFINITION. Training.lean: lane settings (R179 to R184), margin histograms (R185 to R187), the application of a
retraining cut (R191, R192), failed confirmations and lane repair (R193 to R195). -/
namespace Sys2Proof.Machine

/-! ### Settings -/

/-- Element of a lane's setting word (R181, R196). -/
def laneEl (p set lane : Nat) : Nat := (p * 4 + set) * 38 + lane

/-- A lane's setting word. -/
def State.laneWord (s : State) (p set lane : Nat) : Nat := s.obj 0x8001 1 (laneEl p set lane)
def lwRead (w : Nat) : Nat := bits w 6 0
def lwWrite (w : Nat) : Nat := bits w 14 8
def lwRef (w : Nat) : Nat := bits w 22 16
def lwState (w : Nat) : Nat := bits w 25 24
def lwReplaces (w : Nat) : Nat := bits w 31 26

/-- A setting word (R181). -/
def packLane (rd wr ref state replaces : Nat) : Nat := rd + wr * 2 ^ 8 + ref * 2 ^ 16 + state * 2 ^ 24 + replaces * 2 ^ 26

/-- A code moved by some steps, within its seven bits. -/
def stepCode (c : Nat) (d : Int) : Nat := (max 0 (min 127 ((c : Int) + d))).toNat

/-- The redundant lane that may replace a lane (R179); none covers lanes 36 and 37. -/
def redundantOf (lane : Nat) : Nat := if lane < 16 ∨ lane = 32 ∨ lane = 33 then 36 else 37

/-- State of a lane (R180): the same in every set. -/
def State.laneState (s : State) (p lane : Nat) : Nat := lwState (s.laneWord p 0 lane)

/-- Change a lane's state and the lane it replaces in every set. -/
def State.setLaneState (s : State) (p lane st replaces : Nat) : State :=
  s.each (upTo 4) fun s set =>
    let w := s.laneWord p set lane
    s.setObj 0x8001 1 (laneEl p set lane) (packLane (lwRead w) (lwWrite w) (lwRef w) st replaces)

/-- The histogram of a pseudo-channel is cleared (R185). -/
def State.clearHistogram (s : State) (p : Nat) : State :=
  let lo := oKey 0x8002 1 (p * 38 * 64)
  let hi := oKey 0x8002 1 ((p + 1) * 38 * 64)
  { s with objs := s.objs.filter fun x => decide (x.1 < lo) || decide (hi ≤ x.1) }

/-- A calibration comes into force (R192): counted, its time kept, histograms cleared. -/
def State.noteCal (s : State) (p : Nat) : State :=
  let t := timeWord (s.time.frameStart / nsUnit)
  let s1 := ((s.bump 0x8000 1 p 1).setObj 0x8000 2 p t).clearHistogram p
  s1.modPc p fun x =>
    { x with
      probeLost := x.probeBursts
      calFrame := s.time.frame
      calTemp := toInt 32 (s.obj 0x7011 1 (p / 64))
      lanes := (x.lanes.map fun (l : Nat × LaneCal) => (l.1, { l.2 with located := 0 })).filter fun l => l.2 != ({} : LaneCal) }

def State.modLane (s : State) (p lane : Nat) (f : LaneCal → LaneCal) : State :=
  s.modPc p fun x => { x with lanes := Map.upd {} lane f x.lanes }

/-! ### Repair of lanes -/

/-- Whether a SPARE lane covers a lane (R179, R180). -/
def State.laneSpare (s : State) (p lane : Nat) : Bool := decide (lane < 36) && s.laneState p (redundantOf lane) == 2

/-- The event of a lane repaired or FAILED (R194, R512). R512 gives one cause, failed takes; any other is free (log 4). -/
def State.laneEvent (s : State) (p lane res : Nat) (other : Bool) : State :=
  let c := if other then s.takeFree else (1, s)
  c.2.logEvent 3 3 (p / 64 + p % 64 * 2 ^ 8 + lane * 2 ^ 16 + c.1 % 256 * 2 ^ 24 + res * 2 ^ 32)

/-- A lane that a SPARE lane covers becomes REPLACED, and any other FAILED (R180, R194). -/
def State.replaceLane (s : State) (p lane : Nat) (other : Bool) : State :=
  let clean (s : State) : State := s.modLane p lane fun _ => {}
  if s.laneSpare p lane then
    let s1 := ((s.setLaneState p lane 1 0).setLaneState p (redundantOf lane) 0 lane).bump 0x8005 2 p 1
    (clean s1).laneEvent p lane 0 other
  else (clean (s.setLaneState p lane 3 0)).laneEvent p lane 1 other

/-- A lane in service is repaired, or FAILED, and its pseudo-channel is then evacuated (R180, R194, R393); says which. -/
def State.repairLane (s : State) (p lane : Nat) (other : Bool) : Bool × State :=
  if s.laneSpare p lane then (true, s.replaceLane p lane other) else (false, (s.replaceLane p lane other).evacuatePc p)

/-! ### Histograms -/

/-- HISTOGRAM_BIN_ADVANCE (R185): 128 bursts of 8 bits a lane on the bin, less those sampled before the histogram was last
cleared; the sampler moves on. DESIGN CHOICE: the counts of a dwell enter its bin at its end (log 157). -/
def execHistogramBinAdvance (stack : Fin 32) (pc : Fin 64) (dis : List Nat) (s : State) : Host.Outcome State Fault Refusal :=
  let p := pcNo stack.val pc.val
  let x := s.pc p
  let n := (128 - x.probeLost) * 8
  if x.probeBursts < 128 then .next s
  else
    let s1 := s.each ((upTo 38).filter fun l => s.laneState p l == 0) fun s l =>
      let el := (p * 38 + l) * 64 + x.probeBin
      let w := s.obj 0x8002 1 el
      s.setObj 0x8002 1 el (satTo32 (w / 2 ^ 32 + n) * 2 ^ 32 + satTo32 (w % 2 ^ 32 + min n (dis.getD l 0)))
    .next (s1.modPc p fun x => { x with probeBin := (x.probeBin + 1) % 64, probeBursts := x.probeBursts - 128, probeLost := x.probeLost - 128 })
where
  satTo32 (n : Nat) : Nat := min n (2 ^ 32 - 1)

/-- The failing bin nearest zero among bins listed outward (R186): none when a bin needed is not filled; else its place in
the list, if any fails. -/
def scanSide (bins : List (Nat × Nat)) : Option (Option Nat) :=
  match bins with
  | [] => some none
  | (n, d) :: l => if n < 65536 then none else if n ≤ d * 2 ^ 20 then some (some 0) else (scanSide l).map fun r => r.map (· + 1)

/-- Change of a setting from its two sides, clamped, and the width of its eye (R186). -/
def sidePlan (left right : Option Nat) (lo hi limit : Int) : Int × Int :=
  let a : Int := match left with | some i => -(i : Int) | none => lo
  let b : Int := match right with | some i => (i : Int) | none => hi
  (max (-limit) (min limit ((a + b) / 2)), b - a + 1)

/-- The histogram bins of a lane frozen at the last boundary (R187). -/
def State.frozenBin (s : State) (p lane bin : Nat) : Nat × Nat :=
  let w := s.live' 0x8002 1 ((p * 38 + lane) * 64 + bin)
  (w / 2 ^ 32, w % 2 ^ 32)

/-- A lane's proposal, and whether its eye is below the pass limits (R186, R187). -/
def State.planLane (s : State) (p lane : Nat) : LanePlan × Bool :=
  let side (l : List Nat) := scanSide (l.map (s.frozenBin p lane))
  match side ((upTo 24).map (23 - ·)), side ((upTo 23).map (25 + ·)), side ((upTo 8).map (55 - ·)), side ((upTo 7).map (57 + ·)) with
  | some a, some b, some c, some d =>
    let x := sidePlan a b (-24) 23 4
    let y := sidePlan c d (-8) 7 2
    ({ lane, rd := x.1, ref := y.1, filled := true },
      decide (x.2 < s.live' 0x8003 3 0) || decide (y.2 < s.live' 0x8003 4 0))
  | _, _, _, _ => ({ lane }, false)

/-- The proposals of a cut, as its sheet is built (R186, R187): lanes below the limits are suspect. -/
def State.planCal (s : State) (p : Nat) : List LanePlan × State :=
  let l := ((upTo 38).filter fun i => s.laneState p i == 0).map (s.planLane p)
  (l.map (·.1), s.each l fun s x => s.modLane p x.1.lane fun c => { c with suspect := x.2 })

/-! ### The application of a cut -/

/-- Whether a lane's confirmation passes (R191); `ref` says whether a neighbour of the write reference passes on every lane that
takes part: where both fail, so does the confirmation of each lane that failed at one. -/
def calPasses (ref : Bool) (r : CalResult) : Bool :=
  r.readOk && r.points.getLsbD 1 && r.points.getLsbD 2 && r.points.getLsbD 3 && (ref || (r.refDown && r.refUp))

/-- The change of a lane's write delay (R191). -/
def calWriteStep (r : CalResult) : Int :=
  if r.points.getLsbD 0 = r.points.getLsbD 4 then 0 else if r.points.getLsbD 0 then -1 else 1

/-- What a cut found for a lane; a lane that it does not report passes and keeps its settings. -/
def calOf (res : List CalResult) (lane : Nat) : CalResult :=
  (res.find? fun r => r.lane.val == lane).getD
    { lane := ⟨min lane 37, by omega⟩, readOk := true, points := 31, refDown := true, refUp := true }

/-- A lane fails confirmation (R193): a take, and after enough in a row a mark for repair. -/
def State.failTake (s : State) (p lane : Nat) : State :=
  let n := (Map.look {} lane (s.pc p).lanes).takes + 1
  (s.bump 0x8005 1 p 1).modLane p lane fun c => { c with takes := n, marked := decide (s.live' 0x8003 8 0 ≤ n) || c.marked }

/-- One lane at the boundary that ends a cut (R191 to R194): whether it failed, whether it was repaired. A SPARE lane fails and is
marked like one in use (DEDUCED, log 158). -/
def State.applyLane (s : State) (p set : Nat) (ref : Bool) (plan : List LanePlan) (res : List CalResult) (lane : Nat) : Bool × Bool × State :=
  let v := s.laneState p lane
  let r := calOf res lane
  let marked := (Map.look {} lane (s.pc p).lanes).marked
  if v = 1 ∨ v = 3 then (false, false, s)
  else if marked then
    -- the cut confirmed the redundant lane in its place
    if s.laneSpare p lane ∧ !calPasses ref (calOf res (redundantOf lane)) then (true, false, s)
    else let x := s.repairLane p lane false; (false, x.1, x.2)
  else if calPasses ref r then
    let w := s.laneWord p set lane
    let d : LanePlan := (plan.find? fun (q : LanePlan) => q.lane == lane).getD {}
    let s1 := s.setObj 0x8001 1 (laneEl p set lane)
      (packLane (stepCode (lwRead w) d.rd) (stepCode (lwWrite w) (calWriteStep r)) (stepCode (lwRef w) d.ref) v (lwReplaces w))
    (false, false, s1.modLane p lane fun c => { c with takes := 0 })
  else (true, false, s.failTake p lane)

/-- Apply a cut's results in one step (R192). The write reference follows the lanes that take part, IN USE or SPARE (R191). -/
def State.applyCal (s : State) (p : Nat) (plan : List LanePlan) (res : List CalResult) : State :=
  let set := s.setOf p
  let part := res.filter fun r => let v := s.laneState p r.lane.val; v == 0 || v == 2
  let down := part.all (·.refDown)
  let up := part.all (·.refUp)
  let r := (upTo 38).foldl (fun (acc : Bool × Bool × State) lane =>
    let x := acc.2.2.applyLane p set (down || up) plan res lane
    (acc.1 || x.1, acc.2.1 || x.2.1, x.2.2)) (false, false, s)
  let el := p * 4 + set
  let c := s.obj 0x8001 2 el
  let c1 := if down = up then c else if down then stepCode c (-1) else stepCode c 1
  let unfilled := (plan.filter fun x => !x.filled).length
  let s1 := r.2.2.setObj 0x8001 2 el c1
  let s2 := if unfilled = 0 then s1 else s1.bump 0x8005 3 p unfilled
  (s2.setObj 0x8000 3 p (if r.2.1 then 3 else if r.1 then 1 else if unfilled = 0 then 0 else 2)).noteCal p

/-- RETRAINING_APPLY (R192): the boundary that ends a retraining cut of a pseudo-channel. -/
def execRetrainingApply (stack : Fin 32) (pc : Fin 64) (res : List CalResult) (s : State) : Host.Outcome State Fault Refusal :=
  let p := pcNo stack.val pc.val
  match (s.pc p).pendingCal with
  | none => .next s
  | some plan => .next ((s.modPc p fun x => { x with pendingCal := none }).applyCal p plan res)

/-! ### Training -/

/-- Whether a trained lane meets the limits of R183. -/
def State.eyePasses (s : State) (e : LaneEye) : Bool :=
  let wide (lo hi : BitVec 7) (n : Nat) : Bool := decide (lo.toNat ≤ hi.toNat) && decide (n ≤ hi.toNat - lo.toNat + 1)
  wide e.rdLo e.rdHi (s.live' 0x8003 3 0) && wide e.refLo e.refHi (s.live' 0x8003 4 0) && wide e.wrLo e.wrHi (s.live' 0x8003 5 0)

/-- The lower middle of a passing range (R183). -/
def midpoint (lo hi : BitVec 7) : Nat := (lo.toNat + hi.toNat) / 2

/-- Train one lane (R182, R183): each trained value is the midpoint of its range; a lane below the limits moves to its
redundant lane. -/
def State.trainLane (s : State) (st : Nat) (e : LaneEye) : State :=
  let p := pcNo st e.pc.val
  let lane := e.lane.val
  if !s.eyePasses e then
    if s.laneState p lane = 0 then (s.repairLane p lane true).2 else s
  else
    let w := s.laneWord p e.set.val lane
    (s.setObj 0x8001 1 (laneEl p e.set.val lane)
      (packLane (midpoint e.rdLo e.rdHi) (midpoint e.wrLo e.wrHi) (midpoint e.refLo e.refHi) (lwState w) (lwReplaces w))).setObj
      0x8001 2 (p * 4 + e.set.val) (midpoint e.wrefLo e.wrefHi)

/-- PC_RETRAIN_COMPLETE (R195): steps 3 to 7 of R182 for the set in force; the pseudo-channel enters service at the next
boundary. -/
def execPcRetrainComplete (stack : Fin 32) (pc : Fin 64) (eyes : List LaneEye) (s : State) : Host.Outcome State Fault Refusal :=
  let p := pcNo stack.val pc.val
  if !(s.pc p).retraining then .next s
  else
    let mine := eyes.filter fun e => e.pc == pc && e.set.val == s.setOf p
    .next ((s.each mine fun s e => s.trainLane stack.val e).modPc p fun x => { x with retrained := true })

/-- A pseudo-channel whose training after a wake is done enters service at a boundary (R195). -/
def State.retrainBoundary (s : State) : State :=
  s.each ((s.pcs.filter fun (x : Nat × PcState) => x.2.retrained).map (·.1)) fun s p =>
    (s.noteCal p).modPc p fun x => { x with retraining := false, retrained := false, lanes := [] }

end Sys2Proof.Machine
end

