-- ==== Sys2Proof/Machine/Sheet.lean ====
section
/-! DEFINITION. Sheet.lean: the call sheets (R36 to R39, R147, R158 to R162, R166, R170, R175, R188 to R190) and the frame
ledger (R119 to R127). -/
namespace Sys2Proof.Machine

/-! ### The frame ledger -/

/-- Burst slots per frame that D_plan uses: during a timing switch the lower count of the two sets (R123, R177). -/
def State.burstPlan (s : State) (st : Nat) : Nat :=
  let b (set : Nat) : Nat := s.obj 0x2800 1 (set * 32 + 27)
  match (s.stack st).switch with
  | some (t, _) => min (b t) (b (s.timingSet st))
  | none => b (s.timingSet st)

/-- Pseudo-channels of a stack in service (R123, R393). -/
def State.pcsIn (s : State) (st : Nat) : Nat :=
  ((upTo 64).filter fun pc => s.obj 0x6031 1 (pcNo st pc) != 2 && s.unitState (32 + pcNo st pc) != 1).length

/-- Whether the ledger reports D and P of a stack as 0 (R172, R206, R394), as it is before a
stack is in service. -/
def State.ledgerOff (s : State) (st : Nat) : Bool :=
  (s.stack st).power == .gated || (s.stack st).power == .off || (s.stack st).power == .bringUp || decide (4 ≤ s.level st) || s.obj 0x6031 2 st != 0

/-- The largest refresh reservation of a frame at the doubled rate (R123, R159). -/
def State.refreshMax (s : State) (st : Nat) : Nat := s.pcsIn st * 3 * s.obj 0x2800 1 (s.timingSet st * 32 + 25)

/-- D_plan (R123) with a given count of burst slots. -/
def State.planWith (s : State) (st burst : Nat) : Nat :=
  burst * s.pcsIn st - s.refreshMax st - s.obj 0x4000 6 0 - 3520

/-- D_plan (R123). -/
def State.planOf (s : State) (st : Nat) : Nat := s.planWith st (s.burstPlan st)

/-- Share of a reservation on a stack (R124), in sectors. -/
def State.shareOf (s : State) (w st : Nat) : Nat :=
  let sl := s.slot (resRegion w)
  let e := (sl.next).getD sl.now
  if !resActive w || e.loft = 2 || !bit e.stackMask st then 0
  else if e.mode = 1 then ceilDiv (resSectors w) (popcount 32 e.stackMask) else resSectors w

/-- Reservations that are active. -/
def State.activeRes (s : State) : List Nat := ((upTo 1024).map fun i => s.obj 0x4003 1 i).filter resActive

/-- The Assured term A of a stack in quarter slots (R121, R122). -/
def State.assured4 (s : State) (st : Nat) : Nat :=
  s.activeRes.foldl (fun n w => n + s.shareOf w st * patternCost4 (resPattern w)) 0

/-- The Critical term C in quarter slots (R121): every master's rate cap at 6 slots. -/
def State.critical4 (s : State) : Nat := (upTo 64).foldl (fun n m => n + s.obj 0x4001 6 m * 24) 0

/-- Cycles that a stack's slot table owns (R116). -/
def State.ownedCycles (s : State) (st : Nat) : Nat := ((upTo 1000).filter fun k => s.obj 0x4004 1 (st * 1000 + k) != 0xFF).length

/-- The promised slots P in quarter slots (R121). -/
def State.promised4 (s : State) (st : Nat) : Nat := s.ownedCycles st * 256 + s.assured4 st + s.critical4

/-- Whether P of a stack is within a share of a planning deliverable (R123). -/
def State.admits (s : State) (st dplan : Nat) : Bool := decide (s.promised4 st ≤ 4 * (s.obj 0x4000 5 0 * dplan / 100))

/-- The ledger's Assured scale in 1/256 units when a frame has D slots (R126). -/
def State.ledgerScale (s : State) (st d : Nat) : Nat :=
  let u := d / 100
  let a := s.assured4 st
  if a = 0 then 256 else min 256 (256 * (4 * d - 4 * u - s.critical4) / a)

/-- Sectors of write-backs raised under R224 that are granted and not served, or wait at a stack's arbiter (R120). -/
def State.raisedBacks (s : State) (st : Nat) : Nat :=
  (s.reqs.filter fun r => r.raised && r.phase == .arb && s.reqStack r == st).foldl (fun n r => n + r.sectors) 0 +
    (upTo 64).foldl (fun n pc => n + ((s.pc (pcNo st pc)).queue.filter fun e => e.critical && e.master == 0x2B && e.isWrite).length) 0

/-- The most sectors that each other piece of work the block raised may have waiting on a stack (R120): the share of a
priority fill, and the line that a splice copies, read and written, in each pseudo-channel that copies. -/
def State.raisedMost (s : State) (st : Nat) : List Nat :=
  ((s.regions.fills.filter fun f => f.prio && bit f.stackMask st).map fun f => f.share / 64) ++
    ((upTo 64).filter fun pc => (s.stack st).copies.any fun c => spPc (s.obj 0x6020 1 (st * 256 + c.entry)) == pc).map fun _ => 8

/-- Sectors of work that the block raised itself and that are granted and not served, or wait at the stack's arbiter
(R120). How far each piece has come is not stated: it is free within its bound (log 4). -/
def State.raisedWork (s : State) (st : Nat) : Nat × State :=
  (s.raisedMost st).foldl (fun (acc : Nat × State) most =>
    let x := acc.2.takeFree
    (acc.1 + x.1 % (most + 1), x.2)) (s.raisedBacks st, s)

/-! ### The band -/

/-- REFpb commands that a frame places: the first index of the window and how many (R159). -/
def refreshPlan (doubled : Bool) (frame : Nat) : Nat × Nat :=
  let w := if doubled then 16000 else 32000
  let f := if doubled then 15984 else 31968
  let n := if doubled then 43712 else 87424
  let j := frame % w
  if j < f then (j * n / f, (j + 1) * n / f - j * n / f) else (0, 0)

/-- SID and bank of the k-th REFpb of a window (R160). -/
def refreshBank (k : Nat) : Nat × Nat :=
  let i := k % 64
  (i / 16, i % 4 * 4 + i / 4 % 4)

/-- A band under construction: its commands with the cycles their banks are busy to, and where the next may start. -/
structure Band where
  cmds : List SheetCmd := []
  busy : List (Nat × Nat) := []
  acts : List (Nat × Nat) := []
  stop : Nat := 0
deriving DecidableEq, Repr

/-- Place one refresh-class command (R158): at the first cycle at or after the end of the last reservation that keeps the
intervals and has fewer than four banks busy. -/
def Band.place (b : Band) (t : Timing) (d : SheetCmd) (len busyFor : Nat) : Band :=
  let bank := d.sid * 16 + d.bank
  let ok (c : Nat) : Bool :=
    actFits t b.acts c bank && decide ((b.busy.filter fun x => decide (c < x.2)).length < 4) &&
      !b.busy.any fun x => x.1 == bank && decide (c < x.2)
  let c := b.stop + ((upTo 1000).find? fun i => ok (b.stop + i)).getD 0
  { cmds := b.cmds ++ [{ d with cyc := c, len }], busy := (bank, c + busyFor) :: b.busy, acts := (c, bank) :: b.acts, stop := c + len }

/-- Timing set of a pseudo-channel in the next frame: the target one after its timing-switch cut (R176). -/
def State.setNext (s : State) (p : Nat) : Nat :=
  match (s.stack (p / 64)).switch, (s.pc p).sheet.cut with
  | some (t, _), some c => if c.kind == .switch then t else s.setOf p
  | _, _ => s.setOf p

/-- The band of a pseudo-channel for the next frame (R147, R159, R166): the refreshes, then at most 16 neighbour refreshes; and
the triggers it places. -/
def State.bandOf (s : State) (st pc frame : Nat) (doubled : Bool) : Band × Nat :=
  let set := s.setNext (pcNo st pc)
  let t := s.timingFor set
  let r := refreshPlan doubled frame
  let b0 := (upTo r.2).foldl (fun (b : Band) i =>
    let a := refreshBank (r.1 + i)
    b.place t { kind := 0, sid := a.1, bank := a.2 } (s.obj 0x2800 1 (set * 32 + if doubled then 25 else 24)) (if doubled then t.rfc2 else t.rfc)) {}
  let ready := ((s.pc (pcNo st pc)).triggers.filter fun x => decide (x.frame < s.time.frame)).take 16
  let targeted := s.stLive st 0x2007 2 0 == 1
  let b1 := ready.foldl (fun (b : Band) x =>
    match x.row with
    | some row => b.place t { kind := 1, sid := x.sid, bank := x.bank, row } (s.obj 0x2800 1 (set * 32 + 26)) (if targeted then 3 * t.rc + t.rfm else t.rfm)
    | none => b.place t { kind := 2, sid := x.sid, bank := x.bank } (s.obj 0x2800 1 (set * 32 + 26)) t.rfm) b0
  (b1, ready.length)

/-! ### Cuts -/

/-- Whether a scheduled retraining cut of a pseudo-channel falls in a frame (R188). -/
def State.cutScheduled (s : State) (st pc frame : Nat) : Bool :=
  let i := s.live' 0x8003 1 0
  let m := 1000 * i
  decide (frame % m = (i * 1000 / 32 * (pc / 2) + 97 * st) % m)

/-- Whether a retraining cut of a pseudo-channel is on a sheet, or its results are not yet applied (R192). -/
def PcState.retraining? (x : PcState) : Bool :=
  let on (h : Sheet) : Bool := match h.cut with | some c => (match c.kind with | .retrain _ => true | _ => false) | none => false
  on x.sheet || (match x.sheetNext with | some h => on h | none => false) || x.pendingCal.isSome

/-- Why a pseudo-channel's cut is brought forward (R189), as its group of R190: 2 lane repair, 3 failed confirmation, 4
any other cause. A cut that is under way already meets the cause. -/
def State.broughtForward (s : State) (st pc frame : Nat) : Option Nat :=
  let x := s.pc (pcNo st pc)
  let temp := toInt 32 (s.obj 0x7011 1 st)
  let moved := decide (8 * (s.live' 0x8003 7 0 : Int) < (if x.calTemp ≤ temp then temp - x.calTemp else x.calTemp - temp))
  if x.retraining? || x.retraining then none
  else if x.lanes.any fun l => l.2.marked then some 2
  else if x.lanes.any fun l => decide (0 < l.2.takes) then some 3
  else if (x.lanes.any fun l => l.2.suspect || decide (s.live' 0x8003 6 0 ≤ l.2.located)) || moved ||
      decide (x.calFrame + 1000 * s.live' 0x8003 1 0 < frame) then some 4
  else none

/-- The group of the retraining cut already due on a pseudo-channel. -/
def PcState.retrainDue (x : PcState) : Option Nat := x.cutDue.findSome? fun k => match k with | .retrain g => some g | _ => none

/-- Set or clear the retraining cut that is due. -/
def PcState.setRetrain (x : PcState) (g : Option Nat) : PcState :=
  { x with cutDue := (match g with | some g => [CutKind.retrain g] | none => []) ++
      x.cutDue.filter fun k => match k with | .retrain _ => false | _ => true }

/-- The lesser of two groups. -/
def minGroup : Option Nat → Option Nat → Option Nat
  | some a, some b => some (min a b)
  | some a, none => some a
  | none, b => b

/-- A cut of the next frame is deferred to a later one: the frame is not idle (R38, R167). -/
def PcState.defers (x : PcState) : PcState := { x with sheetNext := x.sheetNext.map fun h => { h with deferred := true } }

/-- Retraining cuts due on a stack for a frame: what was due, what falls due now (R188 to R190). What is due at the
boundary that opens a frame reaches the sheet of the next (R36). -/
def State.noteCuts (s : State) (st frame : Nat) : State :=
  s.each (upTo 64) fun s pc =>
    let g := minGroup (s.broughtForward st pc frame) (if s.cutScheduled st pc frame then some 5 else none)
    match g with
    | none => s
    | some _ => s.modPc (pcNo st pc) fun x => x.setRetrain (minGroup x.retrainDue g)

/-- Put a cut on the sheet under construction. -/
def PcState.putCut (x : PcState) (kind : CutKind) (start len : Nat) : PcState :=
  { x with
    sheetNext := x.sheetNext.map fun h => { h with cut := some { kind, start, len } }
    cutDue := match kind with
      | .retrain _ => (x.setRetrain none).cutDue
      | k => x.cutDue.filter fun y => y != k }

/-- Band and cut of the sheet under construction. -/
def PcState.nextBand (x : PcState) : Nat := match x.sheetNext with | some h => h.band | none => 0
def PcState.nextCut (x : PcState) : Bool := match x.sheetNext with | some h => h.cut.isSome | none => false

/-- Retraining cuts of a stack (R38, R190): in the order of R190, at most two; one that no window takes is deferred. -/
def State.placeRetrain (s : State) (st : Nat) (able : Nat → Bool) : State :=
  let due := (upTo 64).filterMap fun pc => if able pc && !(s.pc (pcNo st pc)).retraining then ((s.pc (pcNo st pc)).retrainDue).map fun g => (g, pc) else none
  let sorted := (upTo 6).flatMap fun g => due.filter fun x => x.1 == g
  (sorted.foldl (fun (acc : Nat × State) x =>
    let p := pcNo st x.2
    if acc.1 = 0 then (0, (acc.2.modPc p PcState.defers).count 0x8005 4)
    else if (acc.2.pc p).nextBand ≤ 840 then
      let q := acc.2.planCal p
      (acc.1 - 1, q.2.modPc p fun y =>
        let z := y.putCut (.retrain x.1) 840 160
        { z with sheetNext := z.sheetNext.map fun h => { h with cal := q.1 } })
    else (acc.1, (acc.2.modPc p fun y => (y.setRetrain (some 1)).defers).count 0x7802 4)) (2, s)).2

/-- Self-test slices of a stack (R38, R206): 800 cycles from cycle 200. -/
def State.placeSlices (s : State) (st : Nat) (able : Nat → Bool) : State :=
  if 2 ≤ s.level st then s
  else
    s.each ((upTo 64).filter fun pc => able pc && (s.pc (pcNo st pc)).cutDue.contains .slice) fun s pc =>
      let p := pcNo st pc
      if !(s.pc p).nextCut && decide ((s.pc p).nextBand ≤ 200) then s.modPc p fun y => y.putCut .slice 200 800
      else (s.modPc p PcState.defers).count 0x7802 4

/-- Whether a pseudo-channel has sheets: it is neither lost nor fenced (R162). -/
def State.pcSheets (s : State) (st pc : Nat) : Bool :=
  s.obj 0x6031 1 (pcNo st pc) != 2 && s.unitState (32 + pcNo st pc) != 1

/-- The timing-switch cuts of the next channel, of both its pseudo-channels or of neither (R175), or those that command-path
recovery has deferred (R149); a pseudo-channel that is lost takes none. -/
def State.placeSwitch (s : State) (st : Nat) (able : Nat → Bool) : State :=
  match (s.stack st).switchNext with
  | none => s
  | some c =>
    let again := (upTo 64).filter fun pc => s.pcSheets st pc && (s.pc (pcNo st pc)).cutDue.contains .switch
    let both := if again.isEmpty then [2 * c, 2 * c + 1].filter fun pc => s.pcSheets st pc else again
    if (32 ≤ c ∧ again.isEmpty) ∨ !both.all able then s
    else if both.all fun pc => decide ((s.pc (pcNo st pc)).nextBand ≤ 200) then
      let s1 := s.each both fun s pc => s.modPc (pcNo st pc) fun y => y.putCut .switch 200 800
      if again.isEmpty then s1.modStack st fun k => { k with switchNext := some (c + 1) } else s1
    else (s.each both fun s pc => s.modPc (pcNo st pc) PcState.defers).bump 0x7802 4 0 both.length

/-- Burst slots that a sheet leaves (R39, R170, R206). -/
def State.deliverOf (s : State) (st pc : Nat) (h : Sheet) : Nat :=
  let burst := (s.timingFor (s.setNext (pcNo st pc))).burst
  let n := ((upTo 1000).filter fun k => carriesBurst burst k && decide (h.band ≤ k) && !h.inCut k).length
  if s.level st = 3 then min 300 n else n

/-- Slots of the owners that a sheet's reservations take (R116). -/
def State.ownersLose (s : State) (st : Nat) (h : Sheet) : Nat :=
  ((upTo 1000).filter fun k => (decide (k < h.band) || h.inCut k) && s.live' 0x4004 1 (st * 1000 + k) != 0xFF).length

/-- Whether a pseudo-channel is committed to self-refresh or in it (R170). -/
def PcState.sleeping (x : PcState) : Bool :=
  match x.sr with
  | .committed _ | .asleep _ => true
  | _ => false

/-- The ledger's part of a completed set of sheets (R119, R126). -/
def State.ledger (s : State) (st : Nat) : State :=
  let sum := (upTo 64).foldl (fun n pc => match (s.pc (pcNo st pc)).sheetNext with | some h => n + h.deliver | none => n) 0
  if s.ledgerOff st then
    (s.setObj 0x4020 1 st 0).modStack st fun k => { k with dPlan := 0, deficitNext := false, scaleNext := 256 }
  else
    let w := s.raisedWork st
    let d := sum - 2 * w.1
    let short := decide (4 * d < s.promised4 st)
    (w.2.setObj 0x4020 1 st d).modStack st fun k =>
      { k with dPlan := d, deficitNext := short, scaleNext := if short then s.ledgerScale st d else 256 }

/-- Whether a stack's controllers build sheets: it serves, is entering self-refresh, is in the last frames of a
wake, or is in bring-up after its own test (R36, R173, R471). -/
def State.sheetsRun (s : State) (st : Nat) : Bool :=
  match (s.stack st).power with
  | .service | .entering => true
  | .bringUp => decide (4 ≤ (s.stack st).bring)
  | .waking n => decide (1 ≤ n)
  | _ => false

/-- CALL_SHEET_COMPLETE (R36, R37): the 64 sheets of a stack for the next frame, and its ledger. -/
def execCallSheetComplete (stack : Fin 32) (s : State) : Host.Outcome State Fault Refusal :=
  let st := stack.val
  if !s.sheetsRun st then .next (s.ledger st)
  else
    let frame := s.time.frame + 1
    let doubled := decide (1 ≤ s.level st)
    let s2 := s.each (upTo 64) fun s pc =>
      let p := pcNo st pc
      if !s.pcSheets st pc then s.modPc p fun x => { x with sheetNext := some { deliver := 0 } }
      else if (s.pc p).sleeping then
        let cut : Option Cut := if (s.stack st).power == .waking 1 then some { kind := .confirm, start := 400, len := 160 } else none
        let burst := (s.timing st pc).burst
        -- a wake's confirming cut is a reservation that its sheet places (R170, R173)
        let free := burst - 400 - if cut.isSome then ((upTo 160).filter fun i => carriesBurst burst (400 + i)).length else 0
        s.modPc p fun x => { x with sheetNext := some { deliver := if s.level st = 3 then min 300 free else free, doubled, cut } }
      else
        let b := s.bandOf st pc frame doubled
        let placed := ((s.pc p).triggers.filter fun x => decide (x.frame < s.time.frame)).take 16
        s.modPc p fun x =>
          { x with
            sheetNext := some { cmds := b.1.cmds, band := b.1.stop, doubled }
            triggers := x.triggers.filter fun t => !placed.contains t }
    let able (pc : Nat) : Bool := s2.pcSheets st pc && !(s2.pc (pcNo st pc)).sleeping && decide (s2.level st < 4)
    let switching := (s2.stack st).switch.isSome && (s2.stack st).switchNext.isSome
    let s3 := if switching then s2.placeSwitch st able else (s2.placeRetrain st able).placeSlices st able
    let s4 := s3.each ((upTo 64).filter able) fun s pc =>
      s.modPc (pcNo st pc) fun x => { x with sheetNext := x.sheetNext.map fun h => { h with deliver := s.deliverOf st pc h } }
    let lost := (upTo 64).foldl (fun n pc =>
      match (s4.pc (pcNo st pc)).sheetNext with | some h => n + s4.ownersLose st h | none => n) 0
    .next ((s4.bump 0x4030 5 0 lost).ledger st)

end Sys2Proof.Machine
end

