-- ==== Sys2Proof/Machine/LowPower.lean ====
section
/-! DEFINITION. LowPower.lean: refresh windows (R159, R163), self-refresh of a pseudo-channel (R167 to R169) and of a stack
(R171 to R173, R195), and timing switches (R175 to R177). -/
namespace Sys2Proof.Machine

/-- Frames of a refresh window (R159). -/
def State.windowFrames (s : State) (st : Nat) : Nat := if s.stObj st 0x2006 1 0 = 1 then 16000 else 32000

/-- REFRESH_WINDOW_START (R159, R163): activate tables and spill counts are cleared, and a change of threshold takes
effect. -/
def execRefreshWindowStart (stack : Fin 32) (s : State) : Host.Outcome State Fault Refusal :=
  let st := stack.val
  if s.time.frame % s.windowFrames st ≠ 0 then .next s
  else
    let clear (k : Bank) : Bank := { k with table := [], spill := 0 }
    let s1 := s.each (upTo 64) fun s pc => s.modPc (pcNo st pc) fun x =>
      { x with banks := (x.banks.map fun (b : Nat × Bank) => (b.1, clear b.2)).filter fun b => b.2 != ({} : Bank) }
    .next (s1.modStack st fun k => { k with nbLimit := s.stLive st 0x2007 1 0 })

/-! ### Self-refresh of a pseudo-channel -/

/-- Whether a pseudo-channel may start to enter self-refresh in cycle k (R167, R171): idle long enough, or its stack is
entering; after the band of a sheet that places no neighbour refresh and no cut. -/
def State.mayEnter (s : State) (st pc k : Nat) : Bool :=
  let x := s.pc (pcNo st pc)
  let limit := s.stLive st 0x2008 1 0
  let wanted := (s.stack st).power == .entering || (limit != 0 && decide (limit ≤ x.idle))
  wanted && x.queue.isEmpty && x.recovery.isNone && x.late.isEmpty && x.openBanks.isEmpty && x.sheet.cut.isNone &&
    (x.sheet.cmds.all fun d => d.kind == 0) && decide (x.sheet.band ≤ k)

/-- A command of self-refresh is issued (R150, R153, R201): logged, and charged to its stack. -/
def State.srCommand (s : State) (st pc c : Nat) (kind : CmdKind) (sr : SrPhase) : State :=
  (s.modPc (pcNo st pc) fun x => ({ x with sr } : PcState).logCmd { cyc := c, kind }).charge st 1

/-- After self-refresh the stack's own row counters stand where the spec does not say: free values (R157, log 159). -/
def State.rowsMoved (s : State) (p : Nat) : State :=
  s.each (upTo 64) fun s b =>
    let x := s.takeFree
    x.2.modPc p fun y => y.modBank b fun k => { k with refRow := x.1 % 32768 }

/-- SELF_REFRESH_ENTRY (R167): preparation, REFab at 20 cycles, SRE tRFCab later; nothing is issued in command-path recovery. -/
def execSelfRefreshEntry (stack : Fin 32) (pc : Fin 64) (k : Fin 1000) (s : State) : Host.Outcome State Fault Refusal :=
  let st := stack.val
  let p := pcNo st pc
  let c := s.cycle k.val
  if !s.pcRuns st pc.val || (s.pc p).recovery.isSome then .next s
  else
    match (s.pc p).sr with
    | .awake => if s.mayEnter st pc.val k.val then .next (s.modPc p fun x => { x with sr := .preparing c }) else .next s
    | .preparing t => if c < t + 20 then .next s else .next (s.srCommand st pc.val c .refab (.committed c))
    | .committed t =>
      if c < t + (s.timing st pc.val).rfcab then .next s
      else .next ((s.srCommand st pc.val c .sre (.asleep t)).stBump st 0x2008 3 pc.val 1)
    | _ => .next s

/-- SELF_REFRESH_EXIT (R169): SRX for a held request at the earliest cycle that tSR allows, then the first command tXS
later. -/
def execSelfRefreshExit (stack : Fin 32) (pc : Fin 64) (k : Fin 1000) (s : State) : Host.Outcome State Fault Refusal :=
  let st := stack.val
  let p := pcNo st pc
  let c := s.cycle k.val
  let t := s.timing st pc.val
  if !s.pcRuns st pc.val || (s.pc p).recovery.isSome then .next s
  else
    match (s.pc p).sr with
    | .asleep z =>
      if (s.pc p).queue.isEmpty || decide (c < z + t.rfcab + t.sr) then .next s
      else .next ((s.srCommand st pc.val c .srx (.exiting (c + t.xs))).rowsMoved p)
    | .returning r | .exiting r => if c < r then .next s else .next (s.modPc p fun x => x.wakes c)
    | _ => .next s

/-! ### Self-refresh of a stack -/

/-- STACK_SELF_REFRESH_ENTER (R171, R172). -/
def execStackSelfRefreshEnter (rq : Rq) (stack : Fin 32) (s : State) : Host.Outcome State Fault Refusal :=
  let st := stack.val
  .next (s.directWrite rq (stackIx 0x2008 st) 6 0 roleO passes
    (fun s _ => refuseIf (s.activeRes.any (fun w => s.shareOf w st != 0) || decide (0 < s.ownedCycles st) || (s.stack st).switch.isSome)
      abObjState)
    passes fun s n => ((s.stSet st 0x2008 6 0 1).modStack st fun k => { k with srRequest := true }).asks (askKey 10 2 st) n)

/-- STACK_WAKE_REQUEST (R173): the one way to wake a stack that the Gaffer gated after 100 reels at T4. -/
def execStackWakeRequest (rq : Rq) (stack : Fin 32) (s : State) : Host.Outcome State Fault Refusal :=
  let st := stack.val
  .next (s.directWrite rq (stackIx 0x2008 st) 6 0 roleO passes passes passes fun s n =>
    ((s.stSet st 0x2008 6 0 0).modStack st fun k =>
      { k with srRequest := false, byGaffer := false, wakeReq := k.power == .gated || k.wakeReq }).asks (askKey 10 2 st)
        (if (s.stack st).power == .gated then n else 255))

/-- Pseudo-channels of a stack that have sheets and are not asleep. -/
def State.notAsleep (s : State) (st : Nat) : List Nat :=
  (upTo 64).filter fun pc => s.pcSheets st pc && (match (s.pc (pcNo st pc)).sr with | .asleep _ => false | _ => true)

/-- STACK_IDLE_EXPIRY (R171). -/
def execStackIdleExpiry (stack : Fin 32) (s : State) : Host.Outcome State Fault Refusal :=
  let st := stack.val
  let n := s.stLive st 0x2008 7 0
  if n = 0 ∨ (s.stack st).allIdle < n ∨ (s.stack st).power ≠ .service ∨ !(s.notAsleep st).isEmpty then .next s
  else .next (s.modStack st fun k => { k with srRequest := true })

/-- A stack domain is gated (R171): its fills are abandoned (R87), and its ledger reads 0 (R172). -/
def State.gateStack (s : State) (st : Nat) : State :=
  let s1 := (s.abandonOn st 2 fun _ => true).modStack st fun k =>
    { k with power := .gated, allIdle := 0, dPlan := 0, dNow := 0, deficit := false, deficitNext := false, scaleNext := 256 }
  (s1.setObj 0x4020 1 st 0).setReady st 3

/-- STACK_GATE (R171): all 64 pseudo-channels are in self-refresh and nothing waits for the stack. -/
def execStackGate (stack : Fin 32) (s : State) : Host.Outcome State Fault Refusal :=
  let st := stack.val
  let waiting := (s.reqs.any fun r => r.phase == .arb && s.reqStack r == st) ||
    (upTo 64).any fun pc => !(s.pc (pcNo st pc)).queue.isEmpty
  if (s.stack st).power ≠ .entering ∨ !(s.stack st).srRequest ∨ !(s.notAsleep st).isEmpty ∨ waiting then .next s else .next (s.gateStack st)

/-- STACK_WAKE (R173): at frame w the domain is powered; at frame w + 2 SRX on all 64 pseudo-channels, whose first command
follows at cycle 400. -/
def execStackWake (stack : Fin 32) (s : State) : Host.Outcome State Fault Refusal :=
  let st := stack.val
  let k := s.stack st
  match k.power with
  | .gated =>
    if !k.wakeReq then .next s
    else
      let s1 := (s.modStack st fun k => { k with power := .waking 0, wakeReq := false, srRequest := false }).setReady st 4
      .next ((s1.stBump st 0x2008 9 0 1).stSet st 0x2008 6 0 0)
  | .waking n =>
    if n < 2 ∨ 4 ≤ s.level st then .next s
    else
      let s1 := s.each (upTo 64) fun s pc =>
        match (s.pc (pcNo st pc)).sr with
        | .asleep _ => (s.srCommand st pc (s.cycle 0) .srx (.exiting (s.cycle 400))).rowsMoved (pcNo st pc)
        | _ => s
      .next (s1.modStack st fun k => { k with power := if k.slewDirty then .training else k.power })
  | _ => .next s

/-! ### Timing switches -/

/-- Checks of a timing switch (R177). -/
def State.switchCheck (s : State) (st set : Nat) : Nat :=
  if 3 < set then abRange
  else if (s.stack st).switch.isSome || (s.stack st).power == .gated || s.obj 0x2800 2 (st * 4 + set) == 0 then abObjState
  else if !s.admits st (s.planWith st (s.obj 0x2800 1 (set * 32 + 27))) then abLedger
  else 0

/-- A timing switch starts (R175); its first cut is asked for from the next boundary on (R36). -/
def State.startSwitch (s : State) (st set : Nat) : State :=
  ((s.setObj 0x2801 1 st set).setObj 0x2801 2 st 0).modStack st fun k => { k with switch := some (set, 0), switchNext := none }

/-- TIMING_SWITCH_CHANNEL_DONE (R142, R176): the next channel has switched, from the boundary after its cuts on; its predictors
start anew. With the last channel the set is in force. -/
def execTimingSwitchChannelDone (stack : Fin 32) (s : State) : Host.Outcome State Fault Refusal :=
  let st := stack.val
  match (s.stack st).switch with
  | none => .next s
  | some (t, c) =>
    let past := match (s.stack st).switchNext with | some n => decide (c < n) | none => false
    let done (pc : Nat) : Bool := !s.pcSheets st pc || (s.pc (pcNo st pc)).switched
    if !past || !(done (2 * c) && done (2 * c + 1)) then .next s
    else
      let s1 := s.each [2 * c, 2 * c + 1] fun s pc => s.each (upTo 64) fun s b => s.stSet st 0x2004 1 (pc * 64 + b) 2
      let s2 := s1.setObj 0x2801 2 st (c + 1)
      if c + 1 < 32 then .next (s2.modStack st fun k => { k with switch := some (t, c + 1) })
      else
        let s3 := s2.each (upTo 64) fun s pc => s.modPc (pcNo st pc) fun x => { x with switched := false }
        .next (((s3.modStack st fun k => { k with switch := none, switchNext := none }).stSet st 0x2002 1 0 t).count 0x2801 3)

/-! ### The boundary -/

/-- The sheet of the frame in which a stack leaves the thermal hold: its confirming cut (R173, R210; DEDUCED, log 160). -/
def PcState.confirming (x : PcState) : PcState := { x with sheet := { x.sheet with cmds := [], band := 0, cut := some { kind := .confirm, start := 400, len := 160 } } }

/-- What a boundary does to a stack here: a request for stack self-refresh and the count of frames with all of it in self-refresh
(R171), the frames of a wake (R173), and the end of the thermal hold (R210). -/
def State.sleepBoundary (s : State) (st : Nat) : State :=
  let all := (s.notAsleep st).isEmpty
  let k0 := s.stack st
  let cool := k0.power == .entering && k0.t4Done && !k0.srRequest && decide (k0.levelArb < 4)
  let s1 := s.when cool fun s => s.each ((upTo 64).filter fun pc => s.pcSheets st pc) fun s pc => s.modPc (pcNo st pc) PcState.confirming
  s1.modStack st fun k =>
    { k with
      allIdle := if all && k.power == .service then k.allIdle + 1 else 0
      t4Done := k.t4Done && (k.srRequest || decide (4 ≤ k.levelArb))
      power := match k.power with
        | .service => if k.srRequest then .entering else .service
        -- the thermal hold stands while the level is T4, and ends as from frame w + 2 of a wake (R210)
        | .entering =>
          if k.srRequest || decide (4 ≤ k.levelArb) then .entering else if k.t4Done then .waking 2 else .service
        -- at T4 a waking stack stays in self-refresh (R173, R210)
        | .waking n => if n = 1 ∧ 4 ≤ s.obj 0x7011 2 st then .waking 1 else .waking (n + 1)
        | o => o }

end Sys2Proof.Machine
end

