-- ==== Sys2Proof/Machine/Power.lean ====
section
/-! DEFINITION. Power.lean: power domains (R197, R199), telemetry and the Gaffer (R200 to R204), stack temperature and levels
(R205 to R210), neighbour duty and thermal slips (R211 to R215). -/
namespace Sys2Proof.Machine

/-! ### Domains -/

/-- Domains that an admitted shot needs (R199): those of its kind, the arrays in service for a SCORE or PROJECT (log 41),
and the quadrants that hold its units. -/
def State.shotDomains (s : State) (x : Shot) : List Nat :=
  let w := x.slate.toNat
  s.needs w ++ (if slKind w == 3 || slKind w == 4 then s.arraysIn.map (36 + ·) else []) ++ (x.units.map fun u => 32 + u.1 / 16)

/-- Whether a gate request is refused for what needs its domain (R199, R228). -/
def State.gateHeld (s : State) (d : Nat) : Bool :=
  (s.shot.shots.any fun x => (s.shotDomains x).contains d) ||
    (decide (32 ≤ d) && decide (d < 36) && s.loft.places.any fun (p : Nat × Option Nat) => p.1 / 256 == d - 32 && p.2.isSome) ||
    (d == 32 && s.shot.shots.any fun x => x.backed.isSome) ||
    (d == 41 && (s.packet.enabled || s.packet.enableReq == some true || crPlace s.capRing != 0 || !s.test.rebuild.isEmpty ||
      (upTo 32).any fun st => (s.stack st).mig.isSome))

/-- DOMAIN_GATE_REQUEST (R199): domains 32 to 41; in effect at the next boundary. The slice-map entries of a quadrant move at
once, and its dirty lines are written back first (R221, R237). -/
def execDomainGateRequest (rq : Rq) (domain : Fin 43) (v : BitVec 8) (s : State) : Host.Outcome State Fault Refusal :=
  let d := domain.val
  .next (s.directWrite rq 0x7001 3 d roleO
    (fun _ _ => if d < 32 ∨ 41 < d then abElement else refuseIf (decide (1 < v.toNat)) abRange)
    (fun s _ => refuseIf (v.toNat == 1 && s.gateHeld d) abObjState) passes
    fun s n =>
      let s1 := ((s.setObj 0x7001 3 d v.toNat).asks (askKey 10 2 d) (if v.toNat = 1 then n else 255)).modTest fun t =>
        let rest := t.gateReq.filter fun x => x != d
        { t with gateReq := if v.toNat = 1 ∧ s.readiness d = 1 then rest ++ [d] else rest }
      if d < 36 then s1.settleMap else s1)

/-- Whether nothing dirty is left in a quadrant (R237). -/
def State.quadClean (s : State) (q : Nat) : Bool :=
  (s.loft.lines.all fun (p : Nat × LoftLine) => p.1 / 131072 / 16 != q || p.2.dirty == 0) && s.loft.wbs.all fun w => w.slice / 16 != q

/-- A quadrant loses its contents (R199, R237): every slice leaves the cache, its filter sets are damaged, and what the Stockroom
or the capture ring held there is gone (R349, R353). -/
def State.gateQuadrant (s : State) (q : Nat) : State :=
  let mine (slice : Nat) : Bool := slice / 16 == q
  let s0 := if s.packet.enabled && s.packet.units.any (fun u => mine u.1) then s.stockroomOff 1 else s
  let s1 := if s0.packet.capUnits.any fun u => mine u.1 then s0.captureOff 1 else s0
  let s2 := (s1.unfetch fun key => mine (key / 131072)).modLoft fun l =>
    { l with
      lines := l.lines.filter fun (p : Nat × LoftLine) => !mine (p.1 / 131072)
      scratch := l.scratch.filter fun (p : Nat × ScratchLine) => p.1 / 8192 / 256 != q
      rewrites := l.rewrites.filter fun r => !mine r.slice
      corrected := l.corrected.filter fun x => !mine x.1
      patrolWord := l.patrolWord.filter fun (p : Nat × Nat) => !mine p.1
      patrolFrom := l.patrolFrom.filter fun (p : Nat × Nat) => !mine p.1
      retested := l.retested.erase q
      zeroing := l.zeroing.filter fun z => !mine z.1 }
  let s3 := s2.each ((upTo 16).map (q * 16 + ·)) fun s i => if s.obj 0x3005 1 i = 0 then s.setObj 0x3005 1 i 3 else s
  let s4 := s3.each (s3.shot.table.filter fun (x : Nat × TableSlot) => (x.2.units ++ x.2.unitsOld).any fun u => mine u.1) fun s x =>
    s.damageSet x.1 (q * 16)
  s4.each ((upTo 16).map (q * 16 + ·)) State.moveEntries

/-- Gate requests take effect (R199). DESIGN CHOICE: of a quadrant at the first boundary at which nothing in it is dirty (log 161). -/
def State.gateBoundary (s : State) : State :=
  let now (d : Nat) : Bool := decide (36 ≤ d) || s.quadClean (d - 32)
  let l := s.test.gateReq
  (s.each (l.filter now) fun s d => (if d < 36 then s.gateQuadrant (d - 32) else s).setReady d 3).modTest fun t =>
    { t with gateReq := l.filter fun d => !now d }

/-- DOMAIN_WAKE_COMPLETE (R197): a woken domain other than a stack is ready; a quadrant once its memory has been tested and
filled (R237, R474). -/
def execDomainWakeComplete (domain : Fin 43) (s : State) : Host.Outcome State Fault Refusal :=
  let d := domain.val
  if d < 32 ∨ 41 < d ∨ s.readiness d ≠ 4 ∨ (d < 36 ∧ !s.loft.retested.contains (d - 32)) then .next s
  else
    let s1 := if d < 36 then
        (s.each ((upTo 16).map ((d - 32) * 16 + ·)) fun s i => if s.obj 0x3005 1 i = 3 then s.setObj 0x3005 1 i 0 else s).modLoft fun l =>
          { l with retested := l.retested.erase (d - 32) }
      else s
    .next (((s1.setReady d 1).setObj 0x7001 3 d 0).settleMap)

/-! ### Telemetry and the Gaffer -/

/-- Energy of a frame that the envelope allows, in nJ (R19, R201): 1 W is 1,000 nJ in a frame. -/
def State.envelope (s : State) : Nat := s.live' 0x7000 1 0 * 1000

/-- What the allotments may sum to (R201). -/
def State.allotLimit (s : State) : Nat := s.envelope - s.live' 0x7000 2 0 * 100

/-- POWER_TELEMETRY (R200, R201, R204): last frame's energy; what exceeds the envelope is taken twice from what is left of
this frame's allotments, from each domain in proportion (log 42). A share counts from the frame its stack is ready (R472). -/
def execPowerTelemetry (domains rails : List Nat) (s : State) : Host.Outcome State Fault Refusal :=
  let s1 := s.each (upTo 43) fun s d => s.setObj 0x7001 1 d (domains.getD d 0)
  let s2 := s1.each (upTo 32) fun s st =>
    let s1 := s.setObj 0x7002 3 st (rails.getD st 0)
    if s.live' 0x7002 2 st * 100 < rails.getD st 0 ∧ (s.stack st).power ≠ .bringUp ∧ (s.stack st).shareFrom < s.time.frame then
      s1.modStack st fun k => { k with trimNext := 1 }
    else s1
  let total := (upTo 43).foldl (fun n d => n + domains.getD d 0) 0
  let cut := 2 * (total - s.envelope)
  let given := (upTo 43).foldl (fun n d => n + s.obj 0x7001 4 d) 0
  .next ((s2.setObj 0x7000 3 0 total).modTest fun t =>
    { t with unspent := (upTo 43).foldl (fun (m : Map (Option Nat)) d =>
        Map.upd none d (fun a => a.map (· - ceilDiv (cut * s.obj 0x7001 4 d) (max 1 given))) m) t.unspent })

/-- What is left to trim after a step that can give `have'`. -/
def leftOver (excess have' : Nat) : Nat := excess - have'

/-- Work queued for a domain (R202): at a stack's arbiter and in its queues, or at the slices of a quadrant. -/
def State.queuedFor (s : State) (d : Nat) : Nat :=
  if d < 32 then
    (s.reqs.filter fun r => r.phase == .arb && s.reqStack r == d).length + (upTo 64).foldl (fun n i => n + (s.pc (pcNo d i)).queue.length) 0
  else if d < 36 then (s.reqs.filter fun r => r.phase == .loft && s.reqSlice r / 16 == d - 32).length
  else 0

/-- Admitted shots that use a domain (R202). -/
def State.admittedFor (s : State) (d : Nat) : Nat :=
  (s.shot.shots.filter fun x =>
    (s.shotDomains x).contains d || (decide (d < 32) && x.regions.any fun r => let e := (s.slot r).now; e.loft != 2 && bit e.stackMask d)).length

/-- The Gaffer's estimates of the coming frame (R202, R204), open values: a domain's whole demand (kind 0), its draw of the kind
that each step of R202 trims (1 to 5), or the demand on a stack's own rail (6). -/
def State.estimate (s : State) (kind d : Nat) : Nat :=
  Config.demandEstimate (43 * kind + d) (if kind = 6 then s.obj 0x7002 3 d else s.obj 0x7001 1 d) (s.queuedFor d) (s.admittedFor d)

/-- Domains whose draw a step of R202 trims: the stacks, and for step 1 data movement (SCAN and COPY); the quadrants and engines;
the quadrants and the lanes. -/
def trimmedDomains (step : Nat) : List Nat :=
  if step = 1 then upTo 32 ++ [41]
  else if step = 3 then (upTo 10).map (· + 32)
  else if step = 4 then [32, 33, 34, 35, 40]
  else upTo 32

/-- The ladder of R202 for an excess: of each step, what it may trim and what it trims, each only as far as needed. -/
def ladder (excess : Nat) (draws : List Nat) : List (Nat × Nat) :=
  (draws.foldl (fun (acc : Nat × List (Nat × Nat)) k => (acc.1 - min acc.1 k, acc.2 ++ [(k, min acc.1 k)])) (excess, [])).2

/-- The deepest step that an excess reaches on a ladder (R202): the last one when even all of them do not remove it. -/
def deepest (excess : Nat) (l : List (Nat × Nat)) : Nat :=
  if excess = 0 then 0
  else if l.foldl (fun n x => n + x.2) 0 < excess then 5
  else (upTo 6).foldl (fun n i => if i ≠ 0 ∧ 0 < (l.getD (i - 1) (0, 0)).2 then i else n) 0

/-- What is left of a full measure after a trim, in whole parts. -/
def partLeft (full : Nat) (x : Nat × Nat) : Nat := if x.2 = 0 then full else full * (x.1 - x.2) / max 1 x.1

/-- The allotments and trims of the frame that opens (R201, R202). Each step takes of its domains in proportion to their draw, and
Bulk is capped at the same fraction of each stack's. DESIGN CHOICE: where all the steps together do not reach the limit, every
allotment is scaled down to it (log 42). -/
def State.gaffer (s : State) : State :=
  let demand := (upTo 43).map (s.estimate 0)
  let lim := s.allotLimit
  let excess := demand.foldl (· + ·) 0 - lim
  let draws := ([1, 2, 3, 4, 5] : List Nat).map fun i => (trimmedDomains i).foldl (fun n d => n + s.estimate i d) 0
  let l := ladder excess draws
  let at' (i : Nat) : Nat × Nat := l.getD (i - 1) (0, 0)
  let share (i d : Nat) : Nat := if (trimmedDomains i).contains d then ceilDiv (s.estimate i d * (at' i).2) (max 1 (at' i).1) else 0
  let want (d : Nat) : Nat := demand.getD d 0 - (share 1 d + share 2 d + share 3 d + share 4 d + share 5 d)
  let sum := (upTo 43).foldl (fun n d => n + want d) 0
  let give (d : Nat) : Nat := if sum ≤ lim then want d else want d * lim / sum
  let s1 := s.modTest fun t =>
    { t with
      trimStep := deepest excess l
      upDuty := partLeft 16 (at' 1), duty := partLeft 16 (at' 3), laneDuty := partLeft 16 (at' 4), powerScale := partLeft 256 (at' 5)
      unspent := (upTo 43).foldl (fun (m : Map (Option Nat)) d => Map.put none (some (give d)) d m) [] }
  let s2 := s1.each (upTo 43) fun s d => s.setObj 0x7001 4 d (give d)
  let s3 := s2.each (upTo 32) fun s' st => s'.modStack st fun k =>
    { k with bulkCap := if (at' 2).2 = 0 then none else some (partLeft (s.estimate 2 st) (at' 2) * 1000 / 160) }
  if deepest excess l = 5 then
    s3.logEvent 4 4 (demand.foldl (· + ·) 0 % 2 ^ 32 + partLeft 256 (at' 5) % 65536 * 2 ^ 32)
  else s3

/-- The draw that is never trimmed, at full use of the Critical rate caps (R203), in nJ of a frame: the stack paths as R204
estimates them, and what else R203 names, which is an open value. -/
def State.protectedDraw (s : State) : Nat :=
  let caps := (upTo 64).foldl (fun n m => n + s.obj 0x4001 6 m) 0
  32 * (1255 + ceilDiv (caps * 160) 1000) + Config.demandEstimate (43 * 7) 0 0 0

/-- The trim of one stack whose rail exceeded its share (R204), by steps 1, 2 and 5, until its own rail's demand is back within the
share; at step 5 an event (R203). -/
def State.trimStack (s : State) (st : Nat) : State :=
  let k := s.stack st
  let beyond := s.estimate 6 st - s.live' 0x7002 2 st * 100
  if k.trimNext = 0 ∧ (k.trim = 0 ∨ beyond = 0) then
    s.modStack st fun k => { k with trim := 0, trimCap := none, trimScale := 256 }
  else
    let l := ladder beyond [s.estimate 1 st, s.estimate 2 st, 0, 0, s.estimate 5 st]
    let at' (i : Nat) : Nat × Nat := l.getD (i - 1) (0, 0)
    let step := max 1 (deepest beyond l)
    let s1 := s.modStack st fun k =>
      { k with
        trim := step
        trimCap := if (at' 2).2 = 0 then none else some (((at' 2).1 - (at' 2).2) * 1000 / 160)
        trimScale := partLeft 256 (at' 5)
        trimNext := 0 }
    if step = 5 then s1.logEvent 4 4 (s.estimate 6 st % 2 ^ 32 + partLeft 256 (at' 5) % 65536 * 2 ^ 32) else s1

/-- The deepest step in force, on the block or on a stack alone, is reported, and a trimmed frame counted (R203). -/
def State.trimReport (s : State) : State :=
  let step := (upTo 32).foldl (fun n st => max n (s.stack st).trim) s.test.trimStep
  (s.setObj 0x7000 4 0 step).bump 0x7000 5 0 (min 1 step)

/-! ### Temperature -/

/-- Threshold of a level in 1/8 degree (R206). -/
def State.threshold (s : State) (n : Nat) : Int := 8 * (s.live' 0x7010 n 0 : Int)

/-- Level by a good reading (R208): up at once to the highest threshold reached, down by one below its threshold less the
hysteresis after the dwell. -/
def State.nextLevel (s : State) (st : Nat) (t : Int) : Nat :=
  let k := s.stack st
  let up := (upTo 5).foldl (fun n i => if i ≠ 0 ∧ s.threshold i ≤ t then i else n) 0
  if k.heat < up then up
  else if k.heat ≠ 0 ∧ t < s.threshold k.heat - 8 * (s.live' 0x7010 5 0 : Int) ∧
      k.levelSince + 1000 * s.live' 0x7010 6 0 ≤ s.time.frame then k.heat - 1
  else k.heat

/-- Report a stack's decided level; a change is counted, logged and held from the next boundary on (R208). -/
def State.decideLevel (s : State) (st v : Nat) : State :=
  let old := s.obj 0x7011 2 st
  if old = v then s
  else
    (((s.setObj 0x7011 2 st v).bump 0x7011 3 st 1).modStack st fun k => { k with levelSince := s.time.frame + 1 }).logEvent 4 1
      (st + old * 256 + v * 4096 + s.obj 0x7011 1 st % 65536 * 65536)

/-- The level that stands for a stack: at least T3 after three failed reads (R205). -/
def StackState.stands (k : StackState) : Nat := if k.forced then max 3 k.heat else k.heat

/-- TEMPERATURE_READ (R205, R208): one sensor read. -/
def execTemperatureRead (stack : Fin 32) (reading : Option Int) (s : State) : Host.Outcome State Fault Refusal :=
  let st := stack.val
  let k := s.stack st
  if k.power == .off || k.power == .gated || k.power == .waking 0 then .next s
  else
    match reading.filter fun t => decide (-320 ≤ t) && decide (t ≤ 1200) with
    | some t =>
      let h := s.nextLevel st t
      let s1 := (s.setObj 0x7011 1 st (ofInt 32 t)).modStack st fun k =>
        { k with fails := 0, forced := false, everRead := true, heat := h }
      .next (s1.decideLevel st h)
    | none =>
      let third := decide (k.fails = 2)
      let s1 := (s.bump 0x7011 4 st 1).modStack st fun k => { k with fails := min 3 (k.fails + 1), forced := k.forced || third }
      let v := if k.everRead then (s1.stack st).stands else 0
      let s2 := s1.decideLevel st v
      if third then .next (s2.logEvent 4 2 (st + v * 256)) else .next s2

/-- Requests to a stack at T4 that are not granted are answered NOT_READY (R210); reads of BLANK chunks are not among them,
and engines wait (R514). -/
def State.refuseHot (s : State) (st : Nat) : State :=
  let mine (r : Req) : Bool :=
    r.op != .fence && r.op != .post && !r.blank && (s.entryFor r.region r.version (s.reqOff r)).loft != 2 &&
      (s.slot r.region).now.live && s.reqStack r == st &&
      (match r.dest with
       | .port => r.phase == .arb || (r.phase == .held && r.whole.isNone && !r.notReady)
       | .line _ => r.phase == .arb
       | .row .. | .eng _ | .sink | .back _ => false)
  let out (r : Req) : Req :=
    if !mine r then r
    else if s.compat && r.dest == .port then { r with phase := .held, notReady := true, routed := false, chunk := none }
    else { r with whole := some (.refused, .notReady), phase := .done }
  { s with reqs := s.reqs.map out }

/-- T4 takes effect on a stack (R210, R215). -/
def State.enterT4 (s : State) (st : Nat) : State :=
  let s1 := s.abandonOn st 1 fun _ => true
  let s2 := s1.each (s1.shot.shots.filter fun x =>
      x.abort.isNone && !s1.workEnded x && x.regions.any fun r => (s1.slot r).now.loft != 2 && bit (s1.slot r).now.stackMask st) fun s x =>
    (s.askAbort x.id 3 st).count 0x7013 2
  s2.modStack st fun k => { k with t4Since := some s.time.frame }

/-- What a boundary does to a stack's level (R206, R207, R210). -/
def State.thermalBoundary (s : State) (st : Nat) : State :=
  let v := s.obj 0x7011 2 st
  let was := s.level st
  let s1 := (s.modStack st fun k =>
    { k with
      levelPrev := k.levelArb, levelArb := v, critFrame := 0
      t4Since := if v < 4 then none else k.t4Since }).stSet st 0x2006 1 0 (b2n (decide (1 ≤ was)))
  let s2 := if v = 4 ∧ was < 4 then s1.enterT4 st else s1
  if v < 4 then s2
  else
    (s2.refuseHot st).modStack st fun k =>
      match k.power with
      | .service => { k with power := .entering, t4Done := true }
      | .entering => { k with t4Done := true }
      | _ => k

/-- STACK_T4_GATE (R210): a stack at T4 for 100 reels, all in self-refresh, is gated by the Gaffer. -/
def execStackT4Gate (stack : Fin 32) (s : State) : Host.Outcome State Fault Refusal :=
  let st := stack.val
  match (s.stack st).t4Since with
  | none => .next s
  | some f =>
    if s.time.frame < f + 100000 ∨ (s.stack st).power ≠ .entering ∨ !(s.notAsleep st).isEmpty then .next s
    else .next (((s.gateStack st).modStack st fun k => { k with byGaffer := true, t4Since := none, t4Done := false }).logEvent 4 3 st)

/-! ### Slips -/

/-- Domains that a shot has work issued to or waiting for (R213; log 43): while it works those it needs, and the quadrants at
whose slices its requests wait. -/
def State.workDomains (s : State) (x : Shot) : List Nat :=
  (if x.ended then [] else s.shotDomains x) ++ x.slow ++
    ((s.reqs.filter fun r => r.shot == some x.id && r.phase == .loft).map fun r => 32 + s.reqSlice r / 16)

/-- The stacks whose heat affects a shot in this frame (R213). -/
def State.hotFor (s : State) (x : Shot) : List Nat :=
  let own := x.regions.flatMap fun r =>
    let e := (s.slot r).now
    if e.loft = 2 then [] else (setBits 32 e.stackMask).filter fun st => s.level st == 2 || s.level st == 3
  let slow := ((s.workDomains x).filter fun d => decide (32 ≤ d) && decide (s.neighbourDuty d < 100)).eraseDups
  own ++ (upTo 32).filter fun st => decide (0 < s.level st) && slow.any fun d => bit (s.live' 0x7012 1 st) (d - 32)

/-- The hottest of some stacks, the lowest number among equals. -/
def State.hottest (s : State) (l : List Nat) : Nat := (leastBy (fun st => 8 * (8 - s.level st) * 32 + st) l).getD 0

/-- The frame that opens affects the shots that heat reaches in it (R213); a REDUCE is never affected. -/
def State.slipBoundary (s : State) : State :=
  let slip (x : Shot) : Shot :=
    let y := { x with slow := [] }
    if slKind x.slate.toNat == 1 then y
    else if (s.hotFor y).isEmpty then { y with affected := false }
    else y.slips s.time.frame
  s.modShotS fun y => { y with shots := y.shots.map slip }

/-- One thermal-slip record of a shot (R214); to group 0 none is sent. -/
def State.slipRecord (s : State) (x : Shot) (stack level : Nat) : State :=
  if slGroup x.slate.toNat = 0 then s
  else (s.sendRecord x.slate.toNat 3 (slipWord stack level s.time.frame x.slipped (x.budgetEnd - x.admitted))).count 0x7013 1

/-- The record that ends a run (R214). It names a stack, but none affects the shot then: an open value. -/
def State.slipLast (s : State) (x : Shot) : State := let z := s.takeFree; z.2.slipRecord x (z.1 % 32) 0

/-- THERMAL_SLIP_RECORD (R214): the record due in this frame, if one is, of a shot that is admitted or has just ended. -/
def execThermalSlipRecord (shot : BitVec 16) (s : State) : Host.Outcome State Fault Refusal :=
  let f := s.time.frame
  match s.shot.tails.find? fun x => x.id == shot.toNat with
  | some x => .next ((s.modShotS fun y => { y with tails := y.tails.erase x }).slipLast x)
  | none =>
    match s.shot? shot.toNat with
    | none => .next s
    | some x =>
      match x.runSince with
      | none => .next s
      | some r =>
        let due := !x.affected || (f - r) % max 1 (s.live' 0x7013 3 0) == 0
        if !due || x.slipFrame == some f then .next s
        else
          let s1 := s.modShot x.id fun x => { x with slipFrame := some f, runSince := if x.affected then x.runSince else none }
          if x.affected then
            let st := s.hottest (s.hotFor x)
            .next (s1.slipRecord x st (s.level st))
          else .next (s1.slipLast x)

end Sys2Proof.Machine
end

