-- ==== Sys2Proof/Machine/Repair.lean ====
section
/-! DEFINITION. Repair.lean: splice copies (R381), rank-unit migration (R386 to R392), lost lines (R236, R393), the
rebuild of HASHED regions (R395), declarations and re-admission (R397, R398), the retirement list's read index (R385). -/
namespace Sys2Proof.Machine

/-- What a line of a stack needs of a copy: nothing (a free extent or a BLANK chunk), a wait (a FILLING chunk), or a copy
(R381, R389). -/
inductive LineNeed where
  | skip | wait | copy
deriving DecidableEq, Repr

/-- What a line at a mapped place needs. -/
def State.lineNeed (s : State) (mapped : Nat) : LineNeed :=
  match s.placeRegion mapped with
  | none => .skip
  | some (r, off) =>
    let c := chunkOf (s.slot r).now off
    if s.written c then .copy else if (s.fill? c).isSome then .wait else .skip

/-- Sector `i` of the line that starts at a place. -/
def sectorAt (p i : Nat) : Nat := p + i * 4294967296

/-- Copy one sector of a spliced row (R381); an uncorrectable one is also an engine's finding (R362). -/
def State.copySpliced (s : State) (src dst n : Nat) (e : ReadErrs) : State :=
  let r := s.copyRead 0x28 src n e
  match r.2.1 with
  | none => r.2.2.dramPut dst r.1
  | some persistent => (r.2.2.settleBad 2 0x28 src persistent).dramPut dst r.1

/-- Copy one sector for Dolly (R389): one that is uncorrectable is counted, logged, and its page listed under cause 4; the
source's rank unit has no further migration for it. -/
def State.copySector (s : State) (src dst n : Nat) (e : ReadErrs) : State :=
  let r := s.copyRead 0x26 src n e
  match r.2.1 with
  | none => r.2.2.dramPut dst r.1
  | some persistent =>
    let i : FindInfo := { source := 2, place := src, master := 0x26, positions := s.erased src, symbols := (s.erased src).length }
    (((r.2.2.integrityEvent (if persistent then 3 else 4) i false).count 0x6030 5).retirePlace (s.unphysical src) 4).dramPut dst r.1

/-- Carry a lost sector poisoned to its new place (R392). -/
def State.carryLost (s : State) (src dst : Nat) : State :=
  ((s.count 0x6030 5).retirePlace (s.unphysical src) 4).dramPut dst { s.dramAt src with poison := true }

/-- A splice copy's next line is moved (R381): the last one ends the copy. -/
def State.markMoved (s : State) (st : Nat) (c : SpliceCopy) : State :=
  let w := s.obj 0x6020 1 (st * 256 + c.entry)
  let s1 := s.setObj 0x6020 1 (st * 256 + c.entry)
    (packSplice (spState w) (spStrikes w) (spPc w) (spBank w) (spRow w) (spSubBank w) (spSubRow w) (spMoved w ||| 2 ^ c.line))
  s1.modStack st fun k =>
    { k with copies := if c.line = 3 then k.copies.filter fun x => x.entry != c.entry
                       else k.copies.map fun x => if x.entry == c.entry then { x with line := c.line + 1 } else x }

/-- SPLICE_LINE_COPY (R381): the next line of the oldest splice being copied. -/
def execSpliceLineCopy (stack : Fin 32) (e : ReadErrs) (s : State) : Host.Outcome State Fault Refusal :=
  let st := stack.val
  match (s.stack st).copies with
  | [] => .next s
  | c :: _ =>
    let w := s.obj 0x6020 1 (st * 256 + c.entry)
    let host := s.obj 0x6020 2 st
    let row := mkPlace st (spPc w) (c.entry / 64) (spBank w) (spRow w) (4 * c.line)
    match s.lineNeed row with
    | .skip => .next (s.markMoved st c)
    | .wait => .next s
    | .copy =>
      if !s.stackServes st .critical then .next s
      else
        let goal := mkPlace st (host / 4) (host % 4) (spSubBank w) (spSubRow w) (4 * c.line)
        let from_ := match c.homes.getD c.line none with
          | some (b, r) => mkPlace st (host / 4) (host % 4) b r (4 * c.line)
          | none => row
        let s0 := (s.ownWork from_ 4 0 0x28 .critical).ownWork goal 0 4 0x28 .critical
        let s1 := s0.each (upTo 4) fun s i => s.copySpliced (sectorAt from_ i) (sectorAt goal i) i e
        .next (s1.markMoved st c)

/-- Answer an atomic that is applied from the held writes, unless it was answered before it was held. -/
def State.answerHeld (s : State) (e : QEntry) (c : StoredSector) : State :=
  let told := match s.req? e.req with | some r => r.rsp.any fun x => x.1 == e.seq | none => true
  if e.kind != .atomic || told then s
  else
    let a : SectorRsp :=
      if c.poison then { poison := true }
      else { data := BitVec.ofNat 512 (wordOf (s.plainOf e.region e.tweak c) e.half).toNat }
    s.modReq e.req fun r =>
      let l := r.rsp ++ [(e.seq, a)]
      { r with rsp := l, phase := if (upTo r.sectors).all fun i => l.any fun x => x.1 == i then .done else r.phase }

/-- Apply one held write at its place's present home (R104, R390). -/
def State.applyHeld (s : State) (e : QEntry) : State :=
  let p := s.physical e.place
  let c := s.dramAt p
  (s.answerHeld e c).dramPut p (s.effect e c)

/-- Apply the held writes of a stack that a test picks, in queue order (R390). -/
def State.applyHeldWhere (s : State) (st : Nat) (pick : QEntry → Bool) : State :=
  let l := (s.stack st).heldWrites.filter pick
  (s.modStack st fun k => { k with heldWrites := k.heldWrites.filter fun e => !pick e }).each l fun s e => s.applyHeld e

/-- The event of a stack without a spare for a migration, once (R387). -/
def State.noSpare (s : State) (st : Nat) : State :=
  if (s.stack st).noSpareSaid then s
  else (s.modStack st fun k => { k with noSpareSaid := true }).logEvent 3 6 st

/-- MIGRATION_START (R386, R387): at a boundary, the first queued migration of a stack starts, or has no destination. -/
def execMigrationStart (stack : Fin 32) (s : State) : Host.Outcome State Fault Refusal :=
  let st := stack.val
  let k := s.stack st
  let running := ((upTo 32).filter fun i => (s.stack i).mig.isSome).length
  match k.mig, k.migQ with
  | none, (ru, urgent, blind) :: rest =>
    if !k.migGo then .next s else
    let s1 := s.modStack st fun k => { k with migQ := rest, migGo := false }
    let v := s.rankState st ru
    if v ≠ 0 ∧ v ≠ 1 then .next s1
    else
      match s.lowSpare st with
      | none =>
        let s2 := s1.noSpare st
        -- it stays in service: what was held for it is applied to it
        .next (if urgent then (s2.setRank st ru 6).applyHeldWhere st fun q => plUnit q.place == ru else s2)
      | some d =>
        if 8 ≤ running ∨ k.power ≠ .service then .next s
        else .next ((s1.setRank st ru 1).modStack st fun k => { k with mig := some { src := ru, dst := d, urgent, blind } })
  | _, _ => .next s

/-- Mapped place of line w of the source of a migration. -/
def Migration.line (m : Migration) (st w : Nat) : Nat := unitLinePlace st m.src w

/-- Whether a stack holds a live region. -/
def State.stackHolds (s : State) (st : Nat) : Bool :=
  s.regions.slots.any fun (x : Nat × RegionSlot) => x.2.now.live && x.2.now.loft != 2 && bit x.2.now.stackMask st

/-- The lowest line from `w` on that needs something, within `n` lines. -/
def State.nextNeed (s : State) (m : Migration) (st : Nat) : Nat → Nat → Nat
  | 0, w => w
  | n + 1, w => if m.pulled.contains w || s.lineNeed (m.line st w) == .skip then s.nextNeed m st n (w + 1) else w

/-- Line `w` is in the destination: the watermark passes it, or it is pulled ahead (R388, R390). -/
def Migration.took (m : Migration) (w : Nat) : Migration :=
  if w = m.wm then { m with wm := w + 1, wanted := m.wanted.filter (· != w), pulled := m.pulled.filter (· != w) }
  else { m with wanted := m.wanted.filter (· != w), pulled := m.pulled ++ [w] }

/-- Copy a line of a migration: its four sectors, poisoned where they are lost or unreadable (R389, R390, R392). -/
def State.migrateLine (s : State) (st w : Nat) (m : Migration) (e : ReadErrs) : State :=
  let from_ := m.line st w
  let goal := unitLinePlace st m.dst w
  let s0 := (s.ownWork (s.spliced from_) 4 0 0x26 .upkeep).ownWork (s.spliced goal) 0 4 0x26 .upkeep
  let s1 := s0.each (upTo 4) fun s i =>
    let src := s.spliced (sectorAt from_ i)
    let dst := s.spliced (sectorAt goal i)
    if m.lost.contains w then s.carryLost src dst else s.copySector src dst i e
  let ahead := decide (w ≠ m.wm)
  let s2 := s1.modStack st fun k => { k with mig := k.mig.map fun m => m.took w, dollyUsed := k.dollyUsed + 4 }
  (if ahead then s2.count 0x6030 6 else s2).applyHeldWhere st fun q => plUnit q.place == m.src && placeLineNo q.place == w

/-- MIGRATION_LINE_COPY (R388 to R390): the next line, one that requests wait for before the watermark. Lines that need no
copy are passed over with it. -/
def execMigrationLineCopy (stack : Fin 32) (e : ReadErrs) (s : State) : Host.Outcome State Fault Refusal :=
  let st := stack.val
  match (s.stack st).mig with
  | none => .next s
  | some m =>
    let pass := if s.stackHolds st then s.nextNeed m st (2097152 - m.wm) m.wm else 2097152
    let m1 := { m with wm := pass, pulled := m.pulled.filter fun w => decide (pass ≤ w) }
    let s1 := s.modStack st fun k => { k with mig := some m1 }
    let w := (m1.wanted.find? fun w => decide (pass ≤ w)).getD pass
    if 2097152 ≤ w then
      -- held writes to lines that needed no copy
      .next (s1.applyHeldWhere st fun q => plUnit q.place == m.src)
    else if !s1.upkeepOn st ∨ s1.live' 0x6030 1 0 < (s1.stack st).dollyUsed + 4 then .next s1
    else
      match s1.lineNeed (m1.line st w) with
      | .wait => .next s1
      | .skip =>
        .next ((s1.modStack st fun k => { k with mig := k.mig.map fun m => m.took w }).applyHeldWhere st fun q =>
          plUnit q.place == m.src && placeLineNo q.place == w)
      | .copy => .next (s1.migrateLine st w m1 e)

/-- Free the entries of the rows of a rank unit (R383). -/
def State.freeEntries (s : State) (st ru : Nat) : State :=
  let mine (s : State) (i : Nat) : Bool :=
    let w := s.obj 0x6020 1 (st * 256 + i)
    i / 64 == ru % 4 && spState w != 0 && spPc w == ru / 4
  let gone := (upTo 256).filter (mine s)
  (s.each gone fun s i => s.setObj 0x6020 1 (st * 256 + i) 0).modStack st fun k =>
    { k with copies := k.copies.filter fun c => !gone.contains c.entry }

/-- Point the map's element that names a rank unit to another one (R80, R391). -/
def State.pointTo (s : State) (st old new : Nat) : State :=
  match firstIdx (fun el => s.rankMap st el == old) (upTo 252) with
  | some el => s.stSet st 0x2010 1 el new
  | none => s

/-- Spares of a pseudo-channel that is lost become FAILED (R393). -/
def State.failSpares (s : State) (st pc : Nat) : State :=
  s.each (upTo 4) fun s sid => if s.rankState st (pc * 4 + sid) = 3 then s.setRank st (pc * 4 + sid) 4 else s

/-- A pseudo-channel is fenced (R393, R397). -/
def State.fencePc (s : State) (st pc : Nat) : State :=
  ((s.fenceUnit (unitPc st pc)).setObj 0x6031 1 (pcNo st pc) 2).failSpares st pc

/-- An evacuated pseudo-channel is fenced when its last rank unit has committed (R393). -/
def State.endEvacuation (s : State) (st pc : Nat) : State :=
  let left := (upTo 4).any fun sid =>
    let v := s.rankState st (pc * 4 + sid)
    v == 0 || v == 1 || v == 5 || v == 6
  if (s.stack st).evacuate.contains pc && !left then
    (s.fencePc st pc).modStack st fun k => { k with evacuate := k.evacuate.filter (· != pc) }
  else s

/-- MIGRATION_COMMIT (R391): at the boundary after the last line is visible and every held write applied. -/
def execMigrationCommit (stack : Fin 32) (s : State) : Host.Outcome State Fault Refusal :=
  let st := stack.val
  match (s.stack st).mig, (s.stack st).migCommit with
  | some m, true =>
    let s1 := ((s.pointTo st m.src m.dst).setRank st m.dst 0).setRank st m.src 2
    let s2 := ((s1.fenceUnit (unitRank st m.src)).freeEntries st m.src).count 0x6030 4
    let s3 := s2.modStack st fun k =>
      { k with
        mig := none
        migCommit := false
        lostUnits := k.lostUnits.map fun u => if u.dst == some m.src then { u with dst := some m.dst } else u }
    .next ((s3.logEvent 3 7 (st + m.src * 256 + m.dst * 2 ^ 16 + b2n m.urgent * 2 ^ 24)).endEvacuation st (m.src / 4))
  | _, _ => .next s

/-! ### Lost lines -/

/-- Rewrite a line poisoned at a mapped place, when it lies in a WRITTEN chunk of a live region (R393). -/
def State.loseLine (s : State) (mapped : Nat) : State :=
  match s.placeRegion mapped with
  | none => s
  | some (r, off) =>
    if s.written (chunkOf (s.slot r).now off) then
      (s.ownWork (s.physical mapped) 0 4 0x28 .upkeep).each (upTo 4) fun s i =>
        s.dramPut (s.physical (sectorAt mapped i)) (s.seal r (s.homePlace r (off / 256 * 256 + i * 64)) 0 true)
    else s

/-- The next cache line of a region lost with a slice, from a region line on, within `n` lines (R236). -/
def State.nextLostLine (s : State) (r : Nat) (g : LostLines) : Nat → Nat → Option Nat
  | 0, _ => none
  | n + 1, l =>
    if g.entries.contains (sliceEntry (s.lineNo r (l * 256))) && !g.done.contains l then some l else s.nextLostLine r g n (l + 1)

/-- Rewrite the next cache line that a region lost, when it lies on a stack (R236). -/
def State.loseCached (s : State) (st r : Nat) (g : LostLines) (rest : List LostLines) : Option State :=
  let e := (s.slot r).now
  match s.nextLostLine r g (e.size * 8192 - g.next) g.next with
  | none => some (s.modSlot r fun sl => { sl with lostG := rest })
  | some l =>
    let v := e.version
    if s.stackOf (s.entryFor r v (l * 256)) (l * 256) ≠ st then none
    else
      let s1 := if s.written (chunkOf e (l * 256)) then
          (s.ownWork (s.sectorPlace r v (l * 256)) 0 4 0x28 .upkeep).poisonLine r v (l * 256)
        else s
      some (s1.modSlot r fun sl => { sl with lostG := { g with next := l + 1 } :: rest })

/-- LOST_LINE_REWRITE (R236, R393): the next line of the stack's oldest lost rank unit; with none, of the cache lines that
regions lost with a failed slice. -/
def execLostLineRewrite (stack : Fin 32) (s : State) : Host.Outcome State Fault Refusal :=
  let st := stack.val
  if !s.upkeepOn st then .next s
  else
    match (s.stack st).lostUnits.find? fun u => u.dst.isSome with
    | some u =>
      let s1 := if u.done.contains u.next then s else s.loseLine (unitLinePlace st (s.rankMap st u.el) u.next)
      .next (s1.modStack st fun k =>
        { k with lostUnits :=
            if u.last ≤ u.next + 1 then k.lostUnits.erase u
            else k.lostUnits.map fun x => if x == u then { u with next := u.next + 1 } else x })
    | none =>
      .next ((s.regions.slots.findSome? fun (x : Nat × RegionSlot) =>
        match x.2.lostG with
        | [] => none
        | g :: rest => s.loseCached st x.1 g rest).getD s)

/-! ### Rebuild -/

/-- A sweep of a region starts, or starts anew, on the stacks of its set (R413). -/
def State.startSweep (s : State) (r : Nat) : State :=
  let mask := (s.slot r).now.stackMask
  (s.each (setBits 32 mask) fun s st => s.modStack st fun k => { k with sweepPos := Map.put 0 0 r k.sweepPos }).modSlot r
    fun sl => { sl with sweep := some { stackMask := mask } }

/-- A rebuild has passed every line of its region: it ends (R395). -/
def State.endRebuild (s : State) (r : Nat) : State :=
  let s1 := (s.modSlot r fun sl => { sl with rebuildWm := none, pulled := [] }).modTest fun t =>
    { t with rebuild := t.rebuild.filter fun (x : Nat × Nat) => x.1 != r }
  -- lines changed stacks under the sweep: it goes over the new set anew
  if (s.slot r).sweep.isSome then s1.startSweep r else s1

/-- A line of a rebuild is at its new place: the watermark passes it, or it is pulled ahead (R395). -/
def State.tookRebuild (s : State) (r l : Nat) : State :=
  s.modSlot r fun sl =>
    if sl.rebuildWm == some l then { sl with rebuildWm := some (l + 1) } else { sl with pulled := sl.pulled ++ [l] }

/-- The line that a write waits for and may be pulled ahead (R390, R395). -/
def State.rebuildPull (s : State) (r : Nat) : Option Nat :=
  if 1024 ≤ (s.slot r).pulled.length then none
  else (s.reqs.find? fun q => q.region == r && q.phase == .arb && s.rebuildWait q).map fun q => s.reqOff q / 256

/-- REBUILD_LINE_COPY (R395): the next line of a region that is rebuilt: copied, or written poisoned when its old place was
on the lost stack. -/
def execRebuildLineCopy (region : BitVec 12) (e : ReadErrs) (s : State) : Host.Outcome State Fault Refusal :=
  let r := region.toNat
  let sl := s.slot r
  match sl.rebuildWm, sl.old with
  | some wm, some o =>
    if o.size * 8192 ≤ wm then .next (s.endRebuild r)
    else
      let l := (s.rebuildPull r).getD wm
      let off := l * 256
      let c := chunkOf o off
      let from_ := s.stackOf o off
      let goal := s.stackOf sl.now off
      let gone := s.obj 0x6031 2 from_ != 0
      if sl.pulled.contains l then .next (s.modSlot r fun sl =>
        { sl with rebuildWm := some (wm + 1), pulled := sl.pulled.filter (· != l) })
      else if (s.fill? c).isSome then .next s
      else if !s.written c then .next (s.tookRebuild r l)
      else if !s.upkeepOn goal || (!gone && !s.upkeepOn from_) then .next s
      else
        let src (i : Nat) : Nat := s.physical (s.mappedPlace o (off + i * 64))
        let dst (s : State) (i : Nat) : Nat := s.physical (s.mappedPlace sl.now (off + i * 64))
        let s0 := (if gone then s else s.ownWork (src 0) 4 0 0x26 .upkeep).ownWork (dst s 0) 0 4 0x26 .upkeep
        let s1 := s0.each (upTo 4) fun s i =>
          if gone then s.dramPut (dst s i) (s.seal r (s.homePlace r (off + i * 64)) 0 true)
          else s.copySector (src i) (dst s i) i e
        .next (s1.tookRebuild r l)
  | _, _ => .next s

/-! ### Declarations and re-admission -/

/-- DECLARE_DEAD (R397): at the next frame boundary. -/
def execDeclareDead (rq : Rq) (unit : BitVec 32) (s : State) : Host.Outcome State Fault Refusal :=
  .next (s.directWrite rq 0x6040 2 0 roleO (fun _ _ => refuseIf (decide (88328 ≤ unit.toNat)) abRange) passes passes
    fun s _ => s.modTest fun t => { t with dead := if t.dead.contains unit.toNat then t.dead else t.dead ++ [unit.toNat] })

/-- READMIT (R398): the self-test of a FENCED unit starts. -/
def execReadmit (rq : Rq) (unit : BitVec 32) (s : State) : Host.Outcome State Fault Refusal :=
  let u := unit.toNat
  .next (s.directWrite rq 0x6040 4 0 roleO (fun _ _ => refuseIf (decide (88328 ≤ u)) abRange)
    (fun s _ =>
      if s.block.state != .service && s.block.state != .test then abBlockState
      else refuseIf (decide (88228 ≤ u) || s.unitState u != 1 || s.test.readmit.isSome) abObjState)
    passes fun s _ => (s.setObj 0x6040 5 u 2).modTest fun t => { t with readmit := some u })

/-- A rank unit that joins its stack's spares is filled as at bring-up (R398). -/
def State.joinSpares (s : State) (st ru : Nat) : State :=
  let named := (upTo 252).any fun el => s.rankMap st el == ru
  if named then s
  else
    let s1 : State := { s with dram := s.dram.filter fun (x : Nat × StoredSector) => !(plStack x.1 == st && plUnit x.1 == ru) }
    s1.setRank st ru 3

/-- A unit that passed becomes a spare of its kind (R398). -/
def State.toStandby (s : State) (u : Nat) : State :=
  if u < 32 then
    -- it is filled as at bring-up (R472)
    (({ s with dram := s.dram.filter fun (x : Nat × StoredSector) => plStack x.1 != u }.setObj 0x6031 2 u 0).setReady u 1).modStack u fun k => { k with power := .service, bring := 6 }
  else if u < 2080 then
    let p := u - 32
    (s.setObj 0x6031 1 p 0).each (upTo 4) fun s sid =>
      let ru := p % 64 * 4 + sid
      if s.rankState (p / 64) ru = 4 ∨ s.rankState (p / 64) ru = 7 then s.joinSpares (p / 64) ru else s
  else if u < 79904 then
    let p := (u - 2080) / 38
    let lane := (u - 2080) % 38
    -- a lane that was replaced waits behind its redundant lane; a failed redundant lane is spare again
    s.setLaneState p lane (if lane < 36 then 1 else 2) 0
  else if u < 88096 then s.joinSpares ((u - 79904) / 256) ((u - 79904) % 256)
  else s.modTest fun t => { t with standby := t.standby ++ [u] }

/-- READMIT_RESULT (R398): the self-test of the unit under re-admission ends. -/
def execReadmitResult (pass : Bool) (s : State) : Host.Outcome State Fault Refusal :=
  match s.test.readmit with
  | none => .next s
  | some u =>
    let s1 := s.modTest fun t => { t with readmit := none }
    if pass then .next (((s1.raiseGen u).setObj 0x6040 5 u 3).toStandby u)
    else .next ((s1.setObj 0x6040 5 u 1).logEvent 3 10 u)

/-- RETIREMENT_READ_INDEX (R385): under the rules of R352. -/
def execRetirementReadIndex (rq : Rq) (v : BitVec 64) (s : State) : Host.Outcome State Fault Refusal :=
  .next (s.directWrite rq 0x6050 3 0 roleO
    (fun s _ => refuseIf (decide (v.toNat < s.obj 0x6050 3 0) || decide (s.obj 0x6050 2 0 < v.toNat)) abRange)
    passes passes fun s _ => s.setObj 0x6050 3 0 v.toNat)

end Sys2Proof.Machine
end

