-- ==== Sys2Proof/Machine/Security.lean ====
section
/-! DEFINITION. Security.lean: keys and their generator (R406 to R411), rotation and its sweep (R412 to R414), erasure
(R415, R416), microcode staging (R423) and clearing before scan (R424). -/
namespace Sys2Proof.Machine

/-! ### Keys -/

/-- Whether the generator gives keys now (R409). -/
def State.canKey (s : State) : Bool := s.obj 0x6800 4 0 == 0

/-- A fresh key of an epoch (R408). -/
def State.newKey (s : State) (epoch : Nat) : KeyRec × State :=
  let s1 := s.modKeys fun k => { k with nextHandle := k.nextHandle + 1, calls := k.calls + 1 }
  ({ epoch, handle := s.keys.nextHandle }, s1.count 0x6801 2)

/-- KEY_ROTATE (R412): the key of epoch e + 1 is generated now and current at the next boundary. -/
def execKeyRotate (rq : Rq) (region : BitVec 16) (s : State) : Host.Outcome State Fault Refusal :=
  let r := region.toNat
  .next (s.directWrite rq 0x6802 1 0 roleK
    (fun s _ => refuseIf (decide (4096 ≤ r) || !(s.slot r).now.live || (s.slot r).now.loft == 2) abRange)
    (fun s _ => refuseIf ((s.slot r).sweep.isSome || (s.slot r).keyNext.isSome) abInUse)
    (fun s _ => refuseIf (!s.canKey) abKeyGen)
    fun s _ =>
      let k := s.newKey ((((s.slot r).cur.getD {}).epoch + 1) % 16)
      k.2.modSlot r fun sl => { sl with keyNext := some k.1 })

/-- A generated key becomes current at a boundary, and its sweep starts (R412, R413). -/
def State.takeKey (s : State) (r : Nat) : State :=
  match (s.slot r).keyNext with
  | none => s
  | some k => (s.modSlot r fun sl => { sl with prev := sl.cur, cur := some k, keyNext := none }).startSweep r

/-- The next line of a region in a WRITTEN chunk on a stack, from a line on, within `n` lines. -/
def State.nextSweepLine (s : State) (r st : Nat) (e : RegionEntry) : Nat → Nat → Option Nat
  | 0, _ => none
  | n + 1, l =>
    if s.written (chunkOf e (l * 256)) && s.stackOf (s.entryFor r e.version (l * 256)) (l * 256) == st then some l
    else s.nextSweepLine r st e n (l + 1)

/-- Re-encipher one sector under the current key (R413, R414). -/
def State.sweepSector (s : State) (r off : Nat) (er : ReadErrs) : State :=
  let v := (s.slot r).now.version
  let place := s.sectorPlace r v off
  let home := s.homePlace r off
  let look := s.lookAt 1 0x28 place (errsOf er.first 0) (errsOf er.second 0)
  let s1 := look.2
  match look.1 with
  | .bad persistent =>
    let s2 := s1.settleBad 1 0x28 place persistent 1 (s1.live' 0x6001 5 0 == 0)
    s2.dramPut place (s2.seal r home (s2.plainOf r home (s2.dramAt place)) true)
  | .good residual =>
    let b := s1.bake (s1.dramAt place) residual
    let s2 := b.2
    let cur := ((s2.slot r).cur.getD {}).epoch
    if b.1.epoch = cur then s2
    else
      match s2.keyOf r b.1.epoch with
      | some k => s2.dramPut place (s2.seal r home (openWith k home b.1) b.1.poison)
      | none => s2.count 0x6802 5

/-- Writes that the sweep makes of a sector: none at the current epoch (R413). -/
def State.sweepWrites (s : State) (r off : Nat) : Nat :=
  b2n ((s.dramAt (s.sectorPlace r (s.slot r).now.version off)).epoch != ((s.slot r).cur.getD {}).epoch)

/-- SWEEP_STEP (R413): a stack's next sector of a region, at the pace in force; past the last one the stack has
finished. -/
def execSweepStep (stack : Fin 32) (region : BitVec 12) (e : ReadErrs) (s : State) : Host.Outcome State Fault Refusal :=
  let st := stack.val
  let r := region.toNat
  let k := s.stack st
  match (s.slot r).sweep with
  | none => .next s
  | some sw =>
    let en := (s.slot r).now
    if !bit sw.stackMask st || bit sw.done st || !s.upkeepOn st || decide (s.live' 0x6802 4 0 ≤ k.sweepUsed) then .next s
    else
      let pos := Map.look 0 r k.sweepPos
      let l := if pos % 4 = 0 then s.nextSweepLine r st en (en.size * 8192 - pos / 4) (pos / 4) else some (pos / 4)
      match l with
      | none => .next (s.modSlot r fun sl => { sl with sweep := sl.sweep.map fun w => { w with done := w.done ||| 2 ^ st } })
      | some l =>
        let at_ := if l = pos / 4 then pos else l * 4
        let off := at_ * 64
        if s.blindAt (s.mappedPlace (s.entryFor r en.version off) off) || s.sectorBusy (s.sectorPlace r en.version off) then .next s
        else
          .next (((s.ownWork (s.sectorPlace r en.version off) 1 (s.sweepWrites r off) 0x28 .upkeep).sweepSector r off e).modStack st fun k =>
            { k with sweepPos := Map.put 0 (at_ + 1) r k.sweepPos, sweepUsed := k.sweepUsed + 1 })

/-- Whether every stack of a sweep has finished (R413). -/
def Sweep.finished (w : Sweep) : Bool := w.done &&& w.stackMask == w.stackMask

/-- SWEEP_COMPLETE (R413): at the boundary after every stack finished, the previous key is destroyed. -/
def execSweepComplete (region : BitVec 12) (s : State) : Host.Outcome State Fault Refusal :=
  let r := region.toNat
  match (s.slot r).sweep with
  | some w =>
    if !w.destroy then .next s
    else
      let p := (s.slot r).prev
      let s1 := s.modSlot r fun sl => { sl with sweep := none, prev := none }
      match p with
      | none => .next s1
      | some k => .next ((s1.count 0x6801 3).logEvent 7 2 (r + k.epoch * 2 ^ 16) (s.regionTenant r))
  | none => .next s

/-- Whether a listed or admitted shot names a region (R416). -/
def State.shotNames (s : State) (r : Nat) : Bool :=
  (s.shot.shots.any fun x => x.regions.contains r) ||
    s.shot.lists.any fun (x : Nat × List Listed) => x.2.any fun l => (slRegionsAll l.slate.toNat (s.descOf l.slate.toNat)).contains r

/-- KEY_ERASE (R416): from the write on, the region's requests are refused with STATE. -/
def execKeyErase (rq : Rq) (region : BitVec 16) (s : State) : Host.Outcome State Fault Refusal :=
  let r := region.toNat
  .next (s.directWrite rq 0x6802 3 0 roleK
    (fun s _ => refuseIf (decide (4096 ≤ r) || !(s.slot r).now.live) abRange)
    (fun s _ =>
      if s.shotNames r then abInUse
      else if (s.slot r).next.isSome || (s.slot r).old.isSome then abTwoVersions
      else refuseIf (s.regions.slots.any fun (x : Nat × RegionSlot) => x.2.erasing) abObjState)
    (fun s _ => refuseIf (!s.canKey) abKeyGen)
    fun s _ => s.modSlot r fun sl => { sl with erasing := true })

/-- The cache lines, write-back buffers and scratch data of a region leave the Loft without write-back (R416). -/
def State.dropLoft (s : State) (r : Nat) : State :=
  let chunks := let e := (s.slot r).now; (upTo e.size).map (e.chunkBase + ·)
  let mine (key : Nat) : Bool := s.loft.places.any fun (p : Nat × Option Nat) =>
    p.1 == key / 8192 && (match p.2 with | some c => chunks.contains c | none => false)
  s.modLoft fun l =>
    { l with
      lines := l.lines.filter fun (x : Nat × LoftLine) => x.2.region != r
      wbs := l.wbs.filter fun w => w.region != r
      scratch := if (s.slot r).now.loft = 2 then l.scratch.filter fun (x : Nat × ScratchLine) => !mine x.1 else l.scratch }

/-- Whether a request to a region is outstanding (R416), or a fill of one of its chunks runs. -/
def State.regionBusy (s : State) (r : Nat) : Bool :=
  (s.reqs.any fun q => q.region == r && q.op != .fence && q.op != .post) || (s.regions.fills.any fun f => f.region == r)

/-- A boundary looks for regions to erase (R416). -/
def State.eraseBoundary (s : State) : State :=
  s.each ((s.regions.slots.filter fun (x : Nat × RegionSlot) => x.2.erasing).map (·.1)) fun s r =>
    s.modSlot r fun sl => { sl with eraseNow := !s.regionBusy r }

/-- ERASE_EFFECT (R416): at the boundary with no request to the region outstanding. -/
def execEraseEffect (region : BitVec 12) (s : State) : Host.Outcome State Fault Refusal :=
  let r := region.toNat
  let sl := s.slot r
  if !sl.erasing || !sl.eraseNow || !s.canKey then .next s
  else
    let s1 := (s.destroyKeys r).dropLoft r
    let s2 := s1.each ((upTo sl.now.size).map (sl.now.chunkBase + ·)) fun s c => s.setWritten c false
    let k := if sl.now.loft = 2 ∨ !sl.now.live then (none, s2) else let x := s2.newKey 0; (some x.1, x.2)
    .next (k.2.modSlot r fun sl => { sl with cur := k.1, erasing := false, eraseNow := false, dirtySlices := 0, lostG := [] })

/-! ### The generator -/

/-- A fresh seed (R408). -/
def State.reseed (s : State) : State :=
  s.modKeys fun k => { k with seeded := true, calls := 0, seedFrame := s.time.frame }

/-- ENTROPY_HEALTH_CHANGE (R409). -/
def execEntropyHealthChange (h : HealthChange) (s : State) : Host.Outcome State Fault Refusal :=
  let v := s.obj 0x6800 4 0
  match h with
  | .fails test =>
    let s1 := (s.setObj 0x6800 4 0 1).modKeys fun k => { k with goodRun := 0 }
    .next (if v = 1 then s1 else s1.logEvent 7 1 test.val)
  | .passes n =>
    if v = 0 then .next s
    else .next ((s.setObj 0x6800 4 0 2).modKeys fun k => { k with goodRun := min 1024 (k.goodRun + n) })
  | .seed =>
    if v = 0 then .next s.reseed
    else if v = 2 ∧ 1024 ≤ s.keys.goodRun then .next ((s.setObj 0x6800 4 0 0).modKeys fun k => { k with goodRun := 0 }).reseed
    else .next s

/-- DRBG_RESEED (R408): after 2^20 calls, and once per reel at least, while the noise source is good. -/
def execDrbgReseed (s : State) : Host.Outcome State Fault Refusal := .next (if s.canKey then s.reseed else s)

/-! ### Microcode -/

/-- MICROCODE_SEGMENT (R423): a 64 KiB segment of the staged image; the last one is followed by its verification. -/
def execMicrocodeSegment (rq : Rq) (segment : BitVec 32) (last sigOk : Bool) (version : BitVec 16) (s : State) :
    Host.Outcome State Fault Refusal :=
  let bad : Nat := if !last then 0 else if !sigOk then abSignature else if version.toNat < s.keys.minimum then abVersion else 0
  match s.gate rq with
  | .drop s => .next s
  | .noSession s => .next (s.refuse rq 2 abSession 0x6810 1 segment.toNat)
  | .go n s =>
    if !(s.session n).has roleK then .next (s.refuse rq 2 abRoleWrite 0x6810 1 segment.toNat)
    else if s.safeRefuses 0x6810 then .next (s.refuse rq 2 abBlockState 0x6810 1 segment.toNat)
    else
      -- segment 0 opens a new image
      let s1 := (s.setObj 0x6810 2 0 1).modKeys fun k =>
        { k with segments := if segment = 0 then [0] else k.segments ++ [segment.toNat], stagedVersion := none }
      if bad ≠ 0 then .next (((s1.setObj 0x6810 2 0 3).modKeys fun k => { k with segments := [] }).refuse rq 2 bad 0x6810 1 segment.toNat)
      else if last then
        .next (((s1.setObj 0x6810 2 0 2).modKeys fun k => { k with segments := [], stagedVersion := some version.toNat }).answer rq 2 0 [])
      else .next (s1.answer rq 2 0 [])

/-- RAISE_MINIMUM_VERSION (R423). -/
def execRaiseMinimumVersion (rq : Rq) (s : State) : Host.Outcome State Fault Refusal :=
  .next (s.directWrite rq 0x6810 3 0 roleK passes
    (fun s _ => refuseIf (decide (s.keys.running ≤ s.keys.minimum) || s.keys.raises == 0) abObjState) passes
    fun s _ => s.modKeys fun k => { k with minimum := k.running, raises := k.raises - 1 })

/-! ### Clearing before scan -/

/-- Every port request that is not delivered is answered ABORTED with a detail (R252, R424); those not visible leave every
queue. -/
def State.abortPorts (s : State) (d : Detail) : State :=
  let ids := (s.reqs.filter fun r => r.dest == .port && !r.visible && r.phase != .done).map (·.id)
  let s1 : State := { s with
    reqs := s.reqs.map fun r => if r.dest == .port then { r with whole := some (.aborted, d), rsp := [], released := 0, phase := .done } else r }
  s1.eachPc fun c => { c with queue := c.queue.filter fun e => !ids.contains e.req }

/-- SCAN_REQUEST (R65, R424, R440): the block enters SAFE; step 1. -/
def execScanRequest (s : State) : Host.Outcome State Fault Refusal :=
  if s.block.scanEn || s.block.rstLow then .next s
  else
    let old := s.block.state
    let s0 := (s.modBlock fun b =>
      { b with
        scanEn := true, scanStep := 1, scanRdy := false, state := .safe, safeCause := 4, request := none
        boot := if b.boot == .up then .up else .held }).abortPorts .epoch
    let s1 := if old == .safe then s0 else s0.logEvent 10 8 (old.code + BlkState.safe.code * 2 ^ 8)
    let s2 := s1.each s1.shot.shots fun s x => s.abortShot x 8 BlkState.safe.code
    .next (s2.each (upTo 4) fun s n => if (s.session n).isOpen then s.modSession n fun x => { x with staged := [] } else s)

/-- Step 2 of R424, at the next boundary: every key, the generator, the identity key and the sessions' keys. -/
def State.scanBoundary (s : State) : State :=
  if s.block.scanStep != 1 then s
  else
    let s1 := s.each (s.regions.slots.map (·.1)) State.destroyKeys
    let s2 := s1.each (upTo 32) fun s st =>
      if (s.stack st).fillKey = 0 then s else (s.count 0x6801 3).modStack st fun k => { k with fillKey := 0 }
    let s3 := s2.modKeys fun k => { k with seeded := false, calls := 0, identity := false }
    let s4 := s3.each (upTo 4) fun s n => if (s.session n).isOpen then s.dropSession n else s
    (s4.modMgmt fun m => { m with handshake := none }).modBlock fun b => { b with scanStep := 2 }

/-- SCAN_CLEAR_COMPLETE (R424): the Loft, the contexts and the lanes' slot headers are zeroed, and the read-back confirms it
or not. -/
def execScanClearComplete (ok : Bool) (s : State) : Host.Outcome State Fault Refusal :=
  if s.block.scanStep != 2 then .next s
  else
    let s1 := s.modLoft fun l => { l with lines := [], wbs := [], scratch := [], zeroing := [] }
    let s2 := s1.modShotS fun y => { y with ctxs := [], lanes := [], sets := [] }
    .next (s2.modBlock fun b => { b with scanStep := 4, scanRdy := ok })

end Sys2Proof.Machine
end

