-- ==== Sys2Proof/Machine/Commit.lean ====
section
/-! DEFINITION. Commit.lean: locked objects (R428, R444): what a value must be to be staged (checks 3 and 5 of R436), what
its commit asks and does (R91 to R93, R123, R124, R177, R219, R245, R248, R323, R350, R369, R453, R454, R486), and the
commit of a session's staged writes as one (R448). -/
namespace Sys2Proof.Machine

/-- The bits of the named fields, the reserved ones read as zero (R7). -/
def keepFields (w : Nat) (l : List (Nat × Nat)) : Nat := l.foldl (fun n x => n + bits w x.1 x.2 * 2 ^ x.2) 0

/-! ### Regions -/

/-- What a region entry must be by itself (R73, R74, R77): range, then consistency. -/
def regionShape (e : RegionEntry) : Nat :=
  let n := popcount 32 e.stackMask
  if 3 ≤ e.loft ∨ e.size = 0 ∨ 2064384 < e.size ∨ e.base % 2097152 ≠ 0 ∨ 2 ^ 48 < e.base + e.size * 2097152 then abRange
  else if e.loft = 2 then refuseIf (e.stackMask != 0) abInconsistent
  else if e.mode = 0 ∨ 3 ≤ e.mode ∨ (64512 ≤ e.extentBase ∧ e.extentBase ≠ 0xFFFF) then abRange
  else if e.mode = 1 then refuseIf (n == 0 || decide (e.size % max 1 n ≠ 0)) abInconsistent
  else
    refuseIf (n != 1 || e.size % 32 != 0 || e.base % 67108864 != 0 || (e.extentBase != 0xFFFF && e.extentBase % 32 != 0)) abInconsistent

/-- What a change of a live region must be by itself (R73, R77, R81, R91). DEDUCED: the size column of R77 holds for a size that
changes, so a size that a rebuild has left stays (log 162). -/
def changeShape (o w : RegionEntry) : Nat :=
  if w.stackMask ≠ o.stackMask then abRoleWrite
  else if 3 ≤ w.loft ∨ w.size = 0 ∨ 2064384 < w.size ∨ 2 ^ 48 < o.base + w.size * 2097152 then abRange
  else
    refuseIf (w.size != o.size && ((o.mode == 1 && o.loft != 2 && decide (w.size % max 1 (popcount 32 o.stackMask) ≠ 0)) ||
      (o.mode == 2 && o.loft != 2 && w.size % 32 != 0))) abInconsistent

/-- Whether a region holds two versions (R93). -/
def RegionSlot.two (sl : RegionSlot) : Bool := sl.next.isSome || sl.old.isSome || sl.rebuildWm.isSome

/-- Whether a region is the spill region of a Stockroom that is enabled, or holds the capture ring (R336, R350). -/
def State.inService (s : State) (r : Nat) : Bool :=
  ((s.packet.enabled || s.packet.enableReq == some true) && s.spillRegion == r) ||
    (crPlace s.capRing == 2 && crRegion s.capRing == r)

/-- Scratch places of a quadrant that are free, in order: those in ways that are scratch ways now and stay so (R219, R226). A
place lies on all 16 slices of its quadrant: with a failed slice, which is out of the partitions (R235), none is free
(DEDUCED, log 163). -/
def State.freePlaces (s : State) (q : Nat) : List Nat :=
  let w := s.obj 0x3000 1 q
  let v := (Map.look none q s.loft.partNext).getD w
  if (upTo 16).any fun i => s.obj 0x3005 1 (q * 16 + i) == 1 || s.obj 0x3005 1 (q * 16 + i) == 2 then [] else
  (upTo (partScratch w * 16)).filter fun p =>
    let way := partCache w + p / 16
    decide (partCache v ≤ way) && decide (way < partCache v + partScratch v) && (Map.look none (q * 256 + p) s.loft.places).isNone

/-- A scratch chunk takes the lowest free place of the quadrant with the most free places (R226). -/
def State.allotPlace (s : State) (chunk : Nat) : Option State :=
  match leastBy (fun (x : Nat × List Nat) => 100000 - x.2.length) ((upTo 4).map fun q => (q, s.freePlaces q)) with
  | some (q, p :: _) => some (s.modLoft fun l => { l with places := Map.put none (some chunk) (q * 256 + p) l.places })
  | _ => none

/-- Places for several chunks, or none. -/
def State.allotPlaces (s : State) : List Nat → Option State
  | [] => some s
  | c :: l => (s.allotPlace c).bind fun s1 => s1.allotPlaces l

/-- A new region (R77, R78, R82, R226, R405, R410): the code, and the state with the entry committed. -/
def State.createRegion (s : State) (r : Nat) (e : RegionEntry) : Nat × State :=
  if regionShape e ≠ 0 then (regionShape e, s)
  else if !runFree (s.takenAddrs none) e.base (e.size * 2097152) then (abInconsistent, s)
  else if (setBits 32 e.stackMask).any fun st => s.readiness st == 2 then (abObjState, s)
  else
    let scratch := e.loft == 2
    let place := if scratch then some e.extentBase else s.placeExtents e.stackMask (extentsOf e) e.extentBase none
    match place, lowestRun (s.takenChunks none) e.size 2097152 with
    | some x, some c =>
      let chunks := (upTo e.size).map (c + ·)
      match (if scratch then s.allotPlaces chunks else some s) with
      | none => (abNoRoom, s)
      | some s1 =>
        if !scratch && !s.canKey then (abKeyGen, s)
        else
          let k := if scratch then (none, s1) else let y := s1.newKey 0; (some y.1, y.2)
          let v := ((s.slot r).now.version + 1) % 256
          (0, k.2.modSlot r fun sl =>
            { sl with
              next := some { e with version := v, chunkBase := c, extentBase := x, live := true }
              cur := k.1
              prev := none
              dirtySlices := 0
              lost := false
              lostG := [] })
    | _, _ => (abNoRoom, s)

/-- A change of a live region (R91). DESIGN CHOICE: fields that R91's table does not list, extent_base among them, are ignored
(log 162). -/
def State.changeRegion (s : State) (r : Nat) (w : RegionEntry) : Nat × State :=
  let o := (s.slot r).now
  let scratch := o.loft == 2
  let n : RegionEntry := { o with size := w.size, loft := w.loft }
  if changeShape o w ≠ 0 then (changeShape o w, s)
  else if !runFree (s.takenAddrs (some r)) n.base (n.size * 2097152) then (abInconsistent, s)
  else if w.base != o.base || w.tenant != o.tenant || (!scratch && w.mode != o.mode) || (w.loft == 2) != scratch then (abObjState, s)
  else if s.inService r then (abInUse, s)
  else if o.size < n.size ∧ !runFree (s.takenChunks (some r)) o.chunkBase n.size ∨ 2097152 < o.chunkBase + n.size then (abNoRoom, s)
  else if !scratch && (s.placeExtents o.stackMask (extentsOf n) o.extentBase (some r)).isNone then (abNoRoom, s)
  else
    let fresh := (upTo (n.size - o.size)).map (o.chunkBase + o.size + ·)
    match (if scratch then s.allotPlaces fresh else some s) with
    | none => (abNoRoom, s)
    | some s1 => (0, s1.modSlot r fun sl => { sl with next := some { n with version := (o.version + 1) % 256 } })

/-- The commit of a region entry (R91 to R93). -/
def State.commitRegion (s : State) (r w : Nat) : Nat × State :=
  let e := unpackRegion w
  let sl := s.slot r
  if !e.live && !sl.now.live && sl.next.isNone then (0, s)
  else if sl.two then (abTwoVersions, s)
  else if !sl.now.live then s.createRegion r e
  else if e.live then s.changeRegion r e
  else if s.inService r || (s.shot.shots.any fun x => x.regions.contains r) then (abInUse, s)
  else (0, s.modSlot r fun x => { x with next := some { version := (sl.now.version + 1) % 256 } })

/-! ### The shot table -/

/-- What a membership body must be (R263). -/
def membershipShape (e : Nat) : Nat :=
  let n := mbRanges e
  let x := mbExcl e
  let rs := (upTo n).map fun i => (mbStart e i, mbLen e i)
  let js := (upTo x).map (mbOut e)
  let outIn (c : Nat) : Bool := rs.any fun r => decide (r.1 ≤ c) && decide (c < r.1 + r.2)
  if n = 0 ∨ 8 < n ∨ 8 < x ∨ 1048576 < mbLeaves e ∨ rs.any fun r => r.2 == 0 || decide (512 < r.1 + r.2) then abRange
  else if (upTo 512).any fun c => decide (1 < (rs.filter fun r => decide (r.1 ≤ c) && decide (c < r.1 + r.2)).length) then abInconsistent
  else if js.any (fun j => !outIn j) || !(js.length == js.eraseDups.length) || memberCount e == 0 then abInconsistent
  else
    refuseIf ((upTo 8).any fun i => (decide (n ≤ i) && (mbStart e i != 0 || mbLen e i != 0)) || (decide (x ≤ i) && mbOut e i != 0)) abInconsistent

/-- Bytes of the elements of a table row. -/
def rowElemBytes (fmt n : Nat) : Nat := byteLen fmt n

/-- What a gather-table body must be by itself (R287, R288). -/
def gatherShape (e : Nat) : Nat :=
  let f := tbFormat e
  if !(isFloat f || f == 12 || isMx f) || tbScale e == 3 || tbOffset e % 64 != 0 || tbRows e == 0 || tbElems e == 0 ||
      decide (4096 < tbElems e) || (isMx f && tbElems e % 32 != 0) || decide (tbRowBytes e < 64) || decide (4096 < tbRowBytes e) ||
      tbRowBytes e % 64 != 0 then abRange
  else refuseIf ((isMx f && tbScale e != 0) || decide (tbRowBytes e < rowElemBytes f (tbElems e) + 4 * tbScale e)) abInconsistent

/-- What a candidate-table body must be by itself (R301, R302). -/
def candidateShape (e : Nat) : Nat :=
  let f := tbFormat e
  if (queryFmt f).isNone || tbOffset e % 64 != 0 || tbRows e == 0 || decide (tbDim e < 32) || decide (1024 < tbDim e) ||
      tbDim e % 32 != 0 || decide (tbRowBytes e < 64) || decide (4096 < tbRowBytes e) || tbRowBytes e % 64 != 0 then abRange
  else
    refuseIf (decide (tbRowBytes e < rowElemBytes f (tbDim e) + (if tbRowScale e then 4 else 0)) ||
      decide (2 ^ 32 < tbIdBase e + tbRows e)) abInconsistent

/-- What a filter-set body must be (R322). -/
def filterShape (e : Nat) : Nat :=
  let n := fsLog e
  if fsKind e = 0 then refuseIf (decide (n < 10) || decide (24 < n) || fsHashes e != 0) abRange
  else if fsKind e = 1 then refuseIf (decide (n < 19) || decide (33 < n) || fsHashes e == 0 || decide (16 < fsHashes e)) abRange
  else abRange

/-- What a shot-table entry must be by itself (R248). -/
def tableShape (e : Nat) : Nat :=
  match teType e with
  | 0 => 0
  | 1 => membershipShape e
  | 2 => gatherShape e
  | 3 => filterShape e
  | 4 => candidateShape e
  | _ => abRange

/-- A shot-table entry as it is kept: the fields of its type, the version and the units the block gives it. -/
def tableEntry (e version : Nat) : Nat :=
  let common := keepFields e [(3, 0), (21, 12)] + version * 16
  match teType e with
  | 1 => common + keepFields e [(39, 32), (68, 48), (303, 80)]
  | 2 => common + keepFields e [(43, 32), (140, 48), (153, 144), (175, 160)]
  | 3 => common + keepFields e [(44, 32), (111, 48)] + fsUnits e % 65536 * 2 ^ 112
  | 4 => common + keepFields e [(43, 32), (138, 48), (152, 144), (207, 160)]
  | _ => version * 16

/-- Whether a listed or admitted shot names a shot-table entry (R248). -/
def State.entryNamed (s : State) (t : Nat) : Bool :=
  let names (w : Nat) : Bool := (descType (slKind w)).isSome && slDesc w == t
  (s.shot.shots.any fun x => names x.slate.toNat) || s.shot.lists.any fun (x : Nat × List Listed) => x.2.any fun l => names l.slate.toNat

/-- The region of a gather or candidate table: live, of the entry's tenant, and holding the table (R288, R302). A region
that the same commit creates counts. -/
def State.tableRegion (s : State) (e : Nat) : Nat :=
  let sl := s.slot (tbRegion e)
  let en := sl.next.getD sl.now
  if teType e = 2 ∨ teType e = 4 then
    refuseIf (!en.live || en.tenant != teTenant e || decide (en.size * 2097152 < tbOffset e + tbRows e * tbRowBytes e)) abInconsistent
  else 0

/-- The commit of a shot-table entry (R248, R323). -/
def State.commitEntry (s : State) (t e : Nat) : Nat × State :=
  let sl := s.tslot t
  let o := sl.now.toNat
  let n := tableEntry e ((teVersion o + 1) % 256)
  if tableShape e ≠ 0 then (tableShape e, s)
  else if sl.next.isSome || sl.old.isSome then (abTwoVersions, s)
  else if (teType o ≠ teType n ∨ teTenant o ≠ teTenant n) ∧ s.entryNamed t then (abInUse, s)
  else
    match (if teType e = 3 then s.placeUnits (fsUnits e) else some []) with
    | none => (abNoRoom, s)
    | some u => (0, s.modTslot t fun x => { x with next := some (BitVec.ofNat 512 n), unitsOld := x.units, units := u })

/-! ### Counters -/

/-- Filters that an event of a set allows, as the letters of R489 and R490: bit 0 C, 1 M, 2 R, 3 A, 4 S. -/
def stackFilters (code : Nat) : Option Nat :=
  match code with
  | 0 => some 31
  | 0x01 | 0x02 | 0x03 | 0x04 | 0x05 | 0x06 | 0x09 => some 31
  | 0x07 => some 15
  | 0x08 => some 7
  | 0x0A | 0x0B | 0x0F | 0x10 => some 2
  | 0x0C | 0x0D | 0x0E | 0x13 => some 0
  | 0x11 => some 3
  | 0x12 => some 26
  | _ => none
def blockFilters (code : Nat) : Option Nat :=
  match code with
  | 0 => some 31
  | 0x01 | 0x02 | 0x03 | 0x04 | 0x05 | 0x08 | 0x09 => some 31
  | 0x06 => some 3
  | 0x07 => some 15
  | 0x0A | 0x17 => some 24
  | 0x0B | 0x0C => some 2
  | 0x0D | 0x0E | 0x18 | 0x19 | 0x1A => some 0
  | 0x0F | 0x13 | 0x14 | 0x15 => some 12
  | 0x10 | 0x11 | 0x12 => some 4
  | 0x16 => some 27
  | _ => none

/-- What a counter configuration must be (R485, R486). -/
def counterShape (w : Nat) (allowed : Option Nat) : Nat :=
  match allowed with
  | none => abRange
  | some f =>
    let mode := bits w 24 23
    let base := bits w 63 37
    let n := bits w 90 64
    if mode = 3 then abRange
    else
      refuseIf ((bits w 11 8 != 0 && !bit f 0) || (bit w 22 && !bit f 1) || (bits w 15 12 != 0 && !bit f 2) ||
        (mode != 0 && !bit f 3) || (bits w 127 96 != 0 && !bit f 4) || (mode == 2 && (n == 0 || decide (2 ^ 27 < base + n)))) abInconsistent

/-- The region that a counter configuration filters on must be live (R486). -/
def State.counterRegion (s : State) (w : Nat) : Nat :=
  let sl := s.slot (bits w 36 25)
  refuseIf (bits w 24 23 == 1 && !(sl.next.getD sl.now).live) abObjState

/-- The commit of a counter configuration (R465, R486). -/
def State.commitCounter (s : State) (ix el no w : Nat) : Nat × State :=
  (0, (s.setObj ix 2 el w).modTest fun t => { t with cfgNew := t.cfgNew.filter (· != no) ++ [no] })

/-! ### Profiles -/

/-- Template entries of an image and whether it carries slot tables (R451). -/
def pfRegions (img : Nat) : Nat := bits img 142 136
def pfSlots (img : Nat) : Bool := bit img 19
/-- Length of an image (R451). -/
def pfLength (img : Nat) : Nat := 128 + 32 * pfRegions img + (if pfSlots img then 32000 else 0)
/-- Stack share, template entry and slot-table entry of an image. -/
def pfShare (img st : Nat) : Nat := byteField img (64 + 2 * st) 2
def pfRegion (img i : Nat) : RegionEntry := { unpackRegion (byteField img (128 + 32 * i) 32) with live := true }
def pfSlot (img el : Nat) : Nat := byteField img (128 + 32 * pfRegions img + el) 1
/-- Thresholds and the other settings of an image: objects and their values. -/
def pfThreshold (img n : Nat) : Nat := byteField img (3 + n) 1
def pfSettings (img : Nat) : List (Nat × Nat × Nat) :=
  [ (0x4000, 1, b2n (bit img 18)), (0x7010, 1, pfThreshold img 1), (0x7010, 2, pfThreshold img 2)
  , (0x7010, 3, pfThreshold img 3), (0x7010, 4, pfThreshold img 4), (0x7010, 5, bits img 71 64), (0x7010, 6, bits img 87 72)
  , (0x7000, 1, bits img 103 88), (0x7000, 2, bits img 119 104), (0x7002, 1, bits img 135 120) ]

/-- Thresholds rise as R209 asks. -/
def thresholdsOk (t1 t2 t3 t4 : Nat) : Bool :=
  decide (70 ≤ t1) && decide (t1 ≤ 85) && decide (t1 + 4 ≤ t2) && decide (t2 + 4 ≤ t3) && decide (t3 + 4 ≤ t4) && decide (t4 ≤ 110)

/-- An image as it is read: its reserved bits, and those of its template entries, read zero (R7, R451). They are kept as they
were written, since the check value covers them. -/
def profileImage (img : Nat) : Nat :=
  let head := keepFields img [(19, 0), (142, 32), (191, 160)]
  let tail := img / 2 ^ 512 * 2 ^ 512
  (upTo (pfRegions img)).foldl (fun w i =>
    let e := byteField img (128 + 32 * i) 32
    w - (e - keepFields e [(152, 0), (176, 156)]) * 2 ^ (8 * (128 + 32 * i))) (head + tail)

/-- Whether an image passes its layout, check and range rules (R451, R452, R454). -/
def State.profileOk (s : State) (img : Nat) : Bool :=
  let cfg := s.obj 0x6010 1 0
  let plain := img - bits img 191 160 * 2 ^ 160
  bits img 15 0 == 1 && decide (pfRegions img ≤ 64) &&
    checkFinal cfg (feedBytes cfg (bits cfg 127 64) (leBytes (pfLength img) plain)) % 2 ^ 32 == bits img 191 160 &&
    thresholdsOk (pfThreshold img 1) (pfThreshold img 2) (pfThreshold img 3) (pfThreshold img 4) &&
    ((pfSettings img).all fun x =>
      match objRow? x.1 x.2.1 with | some o => decide (o.lo ≤ x.2.2) && decide (x.2.2 ≤ o.hi) | none => false) &&
    decide ((upTo 32).foldl (fun n st => n + pfShare img st) 0 ≤ 10 * bits img 135 120) &&
    (upTo (pfRegions img)).all fun i => regionShape (pfRegion img i) == 0

/-- A profile's settings and slot tables (R453); tables that an image does not carry stay as they are. -/
def State.setProfile (s : State) (img : Nat) : State :=
  let s1 := s.each (pfSettings img) fun s x => s.setObj x.1 x.2.1 0 x.2.2
  let s2 := s1.each (upTo 32) fun s st => s.setObj 0x7002 2 st (pfShare img st)
  if pfSlots img then s2.each (upTo 32000) fun s el => s.setObj 0x4004 1 el (pfSlot img el) else s2

/-- A running profile change (R453): the code, and the state after. -/
def State.loadProfile (s : State) (n : Nat) : Nat × State :=
  let img := s.obj 0x1F01 1 n
  if !bit (s.obj 0x1F00 3 0) n then (abInconsistent, s)
  else
    let set := bits img 17 16
    let burst := s.obj 0x2800 1 (set * 32 + 27)
    let s1 := (s.setProfile img).setObj 0x1F00 1 0 n
    let move := (upTo 32).filter fun st => s.timingSet st != set
    let code (st : Nat) : Nat :=
      if move.contains st then s1.switchCheck st set
      else refuseIf (pfSlots img && !s1.admits st (s1.planWith st burst)) abLedger
    match ((upTo 32).map code).find? (· != 0) with
    | some c => (c, s)
    | none => (0, s1.each move fun s st => s.startSwitch st set)

/-- A stored profile is replaced (R454). -/
def State.storeProfile (s : State) (n img : Nat) : Nat × State :=
  if !s.profileOk img then (abInconsistent, s)
  else
    let v := s.obj 0x1F00 3 0
    (0, ((s.setObj 0x1F01 1 n img).setObj 0x1F00 3 0 (if bit v n then v else v + 2 ^ n)).logEvent 10 5 n none (s.asker commitKey))

/-! ### Other locked objects -/

/-- Elements that an object's numbering leaves unassigned (R7, R457). -/
def reservedElem (ix sub el : Nat) : Bool :=
  let m := if ix = 0x4001 ∧ (sub = 2 ∨ sub = 4 ∨ sub = 5) then el / 4 else el
  if ix = 0x4001 then decide (0x2C ≤ m) && decide (m ≤ 0x3E)
  else if ix = 0x1200 ∧ sub = 4 then decide (8 ≤ el) && decide (el ≤ 0xFF)
  else ix == 0x2800 && sub == 1 && decide (29 ≤ el % 32)

/-- A value of a locked object as it is read (R7): reserved bits and elements read zero. -/
def lockedValue (ix sub el w : Nat) : Nat :=
  if reservedElem ix sub el then 0
  else if ix = 0x3400 then keepFields w [(152, 0), (176, 156)]
  else if ix = 0x3000 then keepFields w [(14, 0)]
  else if ix = 0x4003 then keepFields w [(5, 0), (19, 8), (50, 24)]
  else if ix = 0x5001 then keepFields w [(19, 0)]
  else if ix = 0x5002 then tableEntry w (teVersion w)
  else if ix = 0x5900 then keepFields w [(2, 0), (27, 16), (104, 32)]
  else if ix = 0x6010 then keepFields w [(202, 0)]
  else if ix = 0x9000 ∨ ix = 0x9002 then keepFields w [(90, 0), (127, 96)]
  else if ix = 0x1F01 then profileImage w
  else w

/-- What a value of a locked object must be by itself: checks 3 and 5 of R436. -/
def State.lockedShape (s : State) (ix sub el w : Nat) : Nat :=
  if ix = 0x3400 then
    let e := unpackRegion w
    let o := (s.slot el).now
    if !e.live then 0 else if o.live then changeShape o e else regionShape e
  else if ix = 0x3000 then
    refuseIf (partCache w + partScratch w + partEngine w != 16 || (el == 0 && partEngine w == 0)) abInconsistent
  else if ix = 0x4003 then refuseIf (resPattern w == 3) abRange
  else if ix = 0x5001 then refuseIf (bits w 19 11 == 0 || decide (256 < bits w 19 11)) abRange
  else if ix = 0x5002 then tableShape w
  else if ix = 0x5900 then
    (if crPlace w = 3 ∨ 16777216 < crRecords w then abRange
     else refuseIf (crRecords w % 256 != 0 || crOffset w % 256 != 0 || (crPlace w != 0 && crRecords w == 0)) abInconsistent)
  else if ix = 0x6010 then
    let width := bits w 198 192
    (if width < 8 ∨ 64 < width ∨ bits w 202 201 = 3 then abRange
     else refuseIf (decide (2 ^ width ≤ bits w 63 0) || decide (2 ^ width ≤ bits w 127 64) || decide (2 ^ width ≤ bits w 191 128)) abInconsistent)
  else if ix = 0x6803 then refuseIf (el == 1) abRoleWrite
  else if ix = 0x9000 then counterShape w (stackFilters (bits w 7 0))
  else if ix = 0x9002 then counterShape w (blockFilters (bits w 7 0))
  else if ix = 0x1F00 then refuseIf (decide (3 < w)) abRange
  else if ix = 0x1F01 then refuseIf (!s.profileOk w) abInconsistent
  else if reservedElem ix sub el then 0
  else
    match objRow? ix sub with
    | some o => refuseIf (decide (w < o.lo) || decide (o.hi < w)) abRange
    | none => 0

/-- A partition word (R219). -/
def State.commitPartition (s : State) (q w : Nat) : Nat × State :=
  let v := lockedValue 0x3000 1 q w
  let o := s.obj 0x3000 1 q
  let stays (p : Nat) : Bool :=
    decide (partCache v ≤ partCache o + p / 16) && decide (partCache o + p / 16 < partCache v + partScratch v)
  let moved := s.loft.places.any fun (x : Nat × Option Nat) => x.1 / 256 == q && x.2.isSome && !stays (x.1 % 256)
  let held := decide (partEngine v < partEngine o) && (upTo 16).any fun i => decide (0 < s.unitsUsed (q * 16 + i))
  if (Map.look none q s.loft.partNext).isSome || moved || held then (abObjState, s)
  else (0, (s.setObj 0x3000 2 q 1).modLoft fun l => { l with partNext := Map.put none (some v) q l.partNext })

/-- A list entry (R245). -/
def State.commitList (s : State) (i w : Nat) : Nat × State :=
  let o := s.obj 0x5001 1 i
  let v := lockedValue 0x5001 1 i w
  if !(s.list i).isEmpty && (bits o 9 0 != bits v 9 0 || bits o 19 11 != bits v 19 11) then (abObjState, s)
  else (0, s.setObj 0x5001 1 i v)

/-- The capture ring (R350). -/
def State.commitCapture (s : State) (w : Nat) : Nat × State :=
  let v := lockedValue 0x5900 1 0 w
  let s1 := (s.capForget.freeUnits s.packet.capUnits).modPacket fun p => { p with capUnits := [] }
  let s2 := ((s1.setNow 0x5900 1 0 v).setObj 0x5900 3 0 0).setObj 0x5900 4 0 0
  if crPlace v = 1 then
    match s.placeUnits (crRecords v / 256) with
    | none => (abNoRoom, s)
    | some u => (0, s2.modPacket fun p => { p with capUnits := u })
  else (0, s2)

/-- The region of a capture ring of place 2 (R350). -/
def State.captureRegion (s : State) (v : Nat) : Nat :=
  let sl := s.slot (crRegion v)
  let e := sl.next.getD sl.now
  refuseIf (crPlace v == 2 && (!e.live || e.loft == 2 || decide (e.size * 2097152 < crOffset v + crRecords v * 256))) abInconsistent

/-- An Assured reservation (R124): what it must be beside the others and its region. -/
def State.reservationCheck (s : State) (i : Nat) : Nat :=
  let v := s.obj 0x4003 1 i
  let sl := s.slot (resRegion v)
  let same (j : Nat) : Bool :=
    let o := s.obj 0x4003 1 j
    j != i && resActive o && resMaster o == resMaster v && resRegion o == resRegion v
  if resActive v && (upTo 1024).any same then abInconsistent
  else refuseIf (resActive v && !(sl.next.getD sl.now).live) abObjState

/-- Whether a timing set is in force, or being taken up, on any stack (R174). -/
def State.setInForce (s : State) (set : Nat) : Bool :=
  (upTo 32).any fun st => s.timingSet st == set || (match (s.stack st).switch with | some (t, _) => t == set | none => false)

/-- What the commit of one staged element asks and does. -/
def State.commitOne (s : State) (x : Staged) : Nat × State :=
  let el := x.elem
  let w := x.value
  if x.index = 0x3400 then s.commitRegion el w
  else if x.index = 0x3000 then s.commitPartition el w
  else if x.index = 0x4003 then (0, s.setObj 0x4003 1 el (lockedValue 0x4003 1 el w))
  else if x.index = 0x5001 then s.commitList el w
  else if x.index = 0x5002 then s.commitEntry el w
  else if x.index = 0x5900 then s.commitCapture w
  else if x.index = 0x6010 then (0, s.setObj 0x6010 1 el (lockedValue 0x6010 1 el w))
  else if x.index = 0x9000 then s.commitCounter 0x9000 el el (lockedValue 0x9000 2 el w)
  else if x.index = 0x9002 then s.commitCounter 0x9002 el (1024 + el) (lockedValue 0x9002 2 el w)
  else if x.index = 0x1F00 then s.loadProfile w
  else if x.index = 0x1F01 then s.storeProfile el w
  else if x.index = 0xF000 then (0, (s.setObj 0xF000 1 0 w).logEvent 10 6 w none (s.asker commitKey))
  else if reservedElem x.index x.sub el then (0, s)
  else if x.index = 0x2801 then
    (if s.switchCheck el w ≠ 0 then (s.switchCheck el w, s) else (0, s.startSwitch el w))
  else if x.index = 0x2800 then
    (if s.setInForce (el / 32) then (abObjState, s)
     else (0, (s.setObj 0x2800 1 el w).each (upTo 32) fun s st => s.setObj 0x2800 2 (st * 4 + el / 32) 0))
  else (0, s.setObj x.index x.sub el w)

/-! ### The commit -/

/-- Burst slots that go with a data rate (R174). -/
def rateSlots (rate : Nat) : Option Nat :=
  if rate = 8000 then some 1000 else if rate = 6400 then some 800 else if rate = 4000 then some 500 else if rate = 2000 then some 250 else none

/-- Whether a staged element promises more on a stack (R123): a reservation created or enlarged, a Critical rate cap raised, a
slot table with more owned cycles. -/
def State.promisesMore (before after : State) (x : Staged) (st : Nat) : Bool :=
  let part (s : State) : Nat :=
    if x.index = 0x4003 then
      let w := s.obj 0x4003 1 x.elem
      if resActive w then s.shareOf w st * patternCost4 (resPattern w) else 0
    else if x.index = 0x4001 then s.obj 0x4001 6 x.elem
    else if x.elem / 1000 = st then s.ownedCycles st else 0
  decide (part before < part after)

/-- What a whole commit must keep for one of its elements, the other elements of the commit in force with it: the regions that
it names (R124, R288, R302, R350, R486), a timing set that agrees with itself (R174), the ports' outstanding caps (at most
294,912 in sum, R101, R110), the ledger of every stack on which it promises more (R123), and the power limit of the work that
is never trimmed (R203). -/
def State.wholeCheck (before after : State) (x : Staged) : Nat :=
  let named :=
    if x.index = 0x4003 then after.reservationCheck x.elem
    else if x.index = 0x5002 then after.tableRegion x.value
    else if x.index = 0x5900 then after.captureRegion x.value
    else if x.index = 0x9000 ∨ x.index = 0x9002 then after.counterRegion x.value
    else 0
  if named ≠ 0 then named else
  if x.index = 0x2800 then
    let p (i : Nat) : Nat := after.obj 0x2800 1 (x.elem / 32 * 32 + i)
    refuseIf (decide (800 < p 22 + p 23) || rateSlots (p 28) != some (p 27)) abInconsistent
  else if x.index = 0x4001 ∧ x.sub = 1 then
    let sum (s : State) : Nat := (upTo 36).foldl (fun n m => n + s.obj 0x4001 1 m) 0
    refuseIf (decide (294912 < sum after) && decide (sum before < sum after)) abNoRoom
  else if x.index = 0x4003 ∨ x.index = 0x4004 ∨ (x.index = 0x4001 ∧ x.sub = 6) then
    refuseIf ((x.index == 0x4001 && decide (before.protectedDraw < after.protectedDraw) && decide (after.allotLimit < after.protectedDraw)) ||
      (upTo 32).any fun st => before.promisesMore after x st && !after.admits st (after.planOf st)) abLedger
  else if x.index = 0x4000 ∧ (x.sub = 5 ∨ x.sub = 6) then
    refuseIf ((upTo 32).any fun st => !after.ledgerOff st && !after.admits st (after.planOf st)) abLedger
  else 0

/-- Staged writes in the order they were staged: the code and element of the first that fails, or the state with all of
them committed. -/
def State.commitAll (s : State) : List Staged → Except (Nat × Staged) State
  | [] => .ok s
  | x :: l =>
    let shape := s.lockedShape x.index x.sub x.elem x.value
    if shape ≠ 0 then .error (shape, x)
    else
      let r := s.commitOne x
      if r.1 ≠ 0 then .error (r.1, x) else r.2.commitAll l

/-- A commit as a whole (R448). -/
def State.commitStaged (s : State) (l : List Staged) : Except (Nat × Staged) State :=
  match s.commitAll l with
  | .error e => .error e
  | .ok t =>
    match l.findSome? fun x => let c := s.wholeCheck t x; if c = 0 then none else some (c, x) with
    | some e => .error e
    | none => .ok t

/-- Locks and staged writes of a session go (R448). -/
def State.releaseLocks (s : State) (n : Nat) : State := s.modSession n fun x => { x with scopes := [], staged := [] }

/-- What every request about locks passes first (R446, R449): the code of a broken lock, and the mark of it cleared. -/
def State.brokenLock (s : State) (n : Nat) : Bool × State :=
  ((s.session n).broken, s.modSession n fun x => { x with broken := false })

/-- The commit point (R448). -/
def State.commitPoint (s : State) (n : Nat) : State :=
  (((s.count 0x1200 7).setObj 0x1200 6 n (s.session n).lockNo).releaseLocks n).asks commitKey 255

/-- Counts and the event of a commit that is refused (R93, R123, R437). -/
def State.commitRefused (s : State) (rq : Rq) (n : Nat) (code : Nat) (x : Staged) : State :=
  let s1 := s.releaseLocks n
  let s2 := if code = abTwoVersions ∧ x.index = 0x3400 then s1.count 0x3403 2 else s1
  let s3 := if code = abLedger then s2.count 0x4030 4 else s2
  let y := s3.session n
  let s4 := if code / 0x1000000 = 4 then
      (s3.count 0x1311 1).logEvent 0 1 (code + x.index * 2 ^ 32 + x.sub * 2 ^ 48 + x.elem * 2 ^ 64) y.eventTenant n
    else s3
  s4.answer rq 4 code (leBytes 2 x.index ++ leBytes 1 x.sub ++ [0] ++ leBytes 4 x.elem)

/-- COMMIT (R448). -/
def execCommit (rq : Rq) (s : State) : Host.Outcome State Fault Refusal :=
  match s.gate rq with
  | .drop s => .next s
  | .noSession s => .next (s.refuse rq 4 abSession 0 0 0)
  | .go n s =>
    if (s.session n).roles == 0 then .next (s.refuse rq 4 abRoleWrite 0 0 0)
    else
      let b := s.brokenLock n
      let x := b.2.session n
      if b.1 then .next (b.2.refuse rq 4 abBroken 0 0 0)
      else if x.scopes.isEmpty then .next (b.2.refuse rq 4 abNoLock 0 0 0)
      else if s.block.state == .safe then .next (b.2.refuse rq 4 abBlockState 0 0 0)
      else if x.staged.isEmpty then .next ((b.2.releaseLocks n).answer rq 4 0 [])
      else
        match (b.2.asks commitKey n).commitStaged x.staged with
        | .error e => .next (b.2.commitRefused rq n e.1 e.2)
        | .ok t => .next ((t.commitPoint n).answer rq 4 0 [])

/-- TIMING_SWITCH_REQUEST (R175, R177): a write of 0x2801.01 in a sequence that holds scope 0, with its commit. -/
def execTimingSwitchRequest (rq : Rq) (stack : Fin 32) (set : BitVec 8) (s : State) : Host.Outcome State Fault Refusal :=
  let st := stack.val
  let t := set.toNat
  match s.gate rq with
  | .drop s => .next s
  | .noSession s => .next (s.refuse rq 2 abSession 0x2801 1 st)
  | .go n s =>
    if !(s.session n).has roleO then .next (s.refuse rq 2 abRoleWrite 0x2801 1 st)
    else if 3 < t then .next (s.refuse rq 2 abRange 0x2801 1 st)
    else
      let b := s.brokenLock n
      if b.1 then .next (b.2.refuse rq 2 abBroken 0x2801 1 st)
      else if !(b.2.session n).scopes.contains 0 then .next (b.2.refuse rq 2 abNoLock 0x2801 1 st)
      else if b.2.block.state == .safe then .next (b.2.refuse rq 2 abBlockState 0x2801 1 st)
      else
        let c := b.2.switchCheck st t
        if c ≠ 0 then .next ((if c = abLedger then b.2.count 0x4030 4 else b.2).refuse rq 2 c 0x2801 1 st)
        else .next ((b.2.startSwitch st t).answer rq 2 0 [])

end Sys2Proof.Machine
end

