-- ==== Sys2Proof/Machine/BringUp.lean ====
section
/-! DEFINITION. BringUp.lean: reset (R63, R64), from reset to a reachable dictionary (R468, R469), the bring-up of each
function (R470 to R475) and what a failure there does (R476). -/
namespace Sys2Proof.Machine

/-! ### Reset -/

/-- What a reset leaves (R63, R378, R411): everything at its reset value but the fuses, the stacks' ciphertext, and the
model's own queue, trace and counters. -/
def State.cleared (s : State) : State :=
  { State.reset with
    block := { state := .off, boot := .down, rstLow := true }
    dram := s.dram
    keys := { nextHandle := s.keys.nextHandle, minimum := s.keys.minimum, raises := s.keys.raises }
    free := s.free
    outbox := s.outbox
    pending := s.pending }

/-- RESET_ASSERT (R63, R70): kv_rst_n is low for so many ns. The filter rejects pulses shorter than 20 ns and passes those
longer than 40 ns; between them, a free value says which. -/
def execResetAssert (lowNs : Nat) (s : State) : Host.Outcome State Fault Refusal :=
  if lowNs < 20 then .next s
  else if 40 < lowNs then .next s.cleared
  else
    let f := s.takeFree
    .next (if f.1 % 2 = 1 then f.2.cleared else f.2)

/-- RESET_RELEASE (R64, R468): the filtered rising edge: straps sampled, time and frame count at 0, core self-test runs. -/
def execResetRelease (profile : BitVec 2) (compat : Bool) (s : State) : Host.Outcome State Fault Refusal :=
  if !s.block.rstLow then .next s
  else .next { s.cleared with block := { profile := profile.toNat, compat } }

/-- CORE_POWER_LOSS (R198, R438): the block is OFF until it is released from reset again. -/
def execCorePowerLoss (s : State) : Host.Outcome State Fault Refusal := .next s.cleared

/-- The block enters SAFE held in reset (R469). -/
def State.holdSafe (s : State) (cause : Nat) : State :=
  s.modBlock fun b => { b with state := .safe, safeCause := cause, boot := .held }

/-- CORE_SELF_TEST_DONE (R468, R469). -/
def execCoreSelfTestDone (pass : Bool) (s : State) : Host.Outcome State Fault Refusal :=
  if s.block.boot ≠ .coreTest then .next s
  else if pass then .next (s.modBlock fun b => { b with boot := .image })
  else .next (s.holdSafe 1)

/-! ### The microcode image and the profile -/

/-- The region template of a profile, all of it or nothing (R452): the entry refused and its code, or the state with the
regions live. Entry i creates region ID i. -/
def State.applyTemplate (s : State) (img : Nat) : Except (Nat × Nat) State :=
  go s (upTo (pfRegions img))
where
  go (s : State) : List Nat → Except (Nat × Nat) State
    | [] => .ok s
    | i :: l =>
      let r := s.createRegion i (pfRegion img i)
      if r.1 ≠ 0 then .error (i, r.1)
      else go (r.2.modSlot i fun sl => { sl with now := sl.next.getD sl.now, next := none }) l

/-- The four profiles as supplied (R450): stored, and whether each is valid (R452). -/
def State.storeProfiles (s : State) (l : List (List Byte)) : State :=
  (s.each (upTo 4) fun s i =>
    let b := l.getD i []
    let img := ofLe b
    let ok := b.length == pfLength img && s.profileOk img
    let s1 := s.setObj 0x1F01 1 i img
    if ok then s1.setObj 0x1F00 3 0 (s1.obj 0x1F00 3 0 + 2 ^ i) else s1)

/-- The selected profile is checked and applied, with its template (R452). -/
def State.bootProfile (s : State) : State :=
  let n := s.block.profile
  if !bit (s.obj 0x1F00 3 0) n then (s.setObj 0x1F00 1 0 0xFF).logEvent 10 3 n
  else
    let img := s.obj 0x1F01 1 n
    let set := bits img 17 16
    let s1 := ((s.setProfile img).setObj 0x1F00 1 0 n).each (upTo 32) fun s st => (s.stSet st 0x2002 1 0 set).setObj 0x2801 1 st set
    match s1.applyTemplate img with
    | .ok s2 => s2
    | .error (i, c) => s1.logEvent 10 4 (n + i * 2 ^ 8 + c * 2 ^ 32)

/-- The generator is seeded, and the 32 fill keys and the identity key exist (R407, R408, R420). -/
def State.bootKeys (s : State) (i : BootImage) : State :=
  let s1 := s.reseed.each (upTo 32) fun s st =>
    let k := s.newKey 0
    k.2.modStack st fun x => { x with fillKey := k.1.handle }
  s1.modKeys fun k => { k with identity := true, running := i.version.toNat, runVersion := i.mcVersion.toNat }

/-- MICROCODE_IMAGE (R422, R450, R452, R468): steps 3 to 5. -/
def execMicrocodeImage (img : BootImage) (s : State) : Host.Outcome State Fault Refusal :=
  if s.block.boot ≠ .image then .next s
  else if !img.sigOk ∨ img.version.toNat < s.keys.minimum then .next (s.holdSafe 2)
  else
    let s1 := (s.setObj 0xF000 1 0 (b2n img.compatReq)).modBlock fun b => { b with compat := b.compat || img.compatReq }
    let s2 := ((s1.bootKeys img).storeProfiles img.profiles).bootProfile
    .next { s2 with live := s2.objs, live2 := s2.objs, block := { s2.block with boot := .boundary } }

/-- DICTIONARY_REACHABLE (R468, R470): the boundary that opens frame r; the dictionary answers, and domains 0 to 41 are
powered. -/
def execDictionaryReachable (s : State) : Host.Outcome State Fault Refusal :=
  if s.block.boot ≠ .boundary then .next s
  else
    let s1 := s.each (upTo 32) fun s st => s.modStack st fun k => { k with power := .bringUp, bring := 1 }
    .next ((s1.modBlock fun b => { b with boot := .up, state := .bringUp }).logEvent 10 1 (s.obj 0x1F00 1 0 + b2n s.compat * 2 ^ 8))

/-! ### Results -/

/-- The event of a bring-up result (R476, R512). -/
def State.bringEvent (s : State) (kind result number : Nat) : State :=
  s.logEvent 10 7 (kind + result * 2 ^ 8 + number * 2 ^ 32)

/-- The work of a domain has passed or failed (R470): readiness from the next boundary on. -/
def State.domainResult (s : State) (d : Nat) (pass : Bool) : State :=
  let v := if pass then 1 else 2
  ((s.setObj 0x8801 5 d v).modBlock fun b => { b with readyNext := b.readyNext ++ [(d, v)] }).bringEvent 0 v d

/-- A stack fails at bring-up (R476): it leaves service. -/
def State.bringFail (s : State) (st : Nat) : State :=
  ((s.modStack st fun k => { k with bring := 7, loseNext := true }).setObj 0x6031 2 st 2).domainResult st false

/-- A pseudo-channel fails at bring-up (R476): quarantined. -/
def State.bringLosePc (s : State) (st pc : Nat) : State :=
  if (s.stack st).fenceNext.contains pc || s.obj 0x6031 1 (pcNo st pc) == 2 then s
  else (s.quarantine (pcNo st pc)).bringEvent 1 2 (unitPc st pc)

/-- Pseudo-channels of a stack lost so far. -/
def State.pcsLost (s : State) (st : Nat) : List Nat :=
  (upTo 64).filter fun pc => (s.stack st).fenceNext.contains pc || s.obj 0x6031 1 (pcNo st pc) == 2

/-- A step of bring-up ends: the next one runs, unless more than 4 pseudo-channels are lost (R476). -/
def State.bringStep (s : State) (st next : Nat) : State :=
  if 4 < (s.pcsLost st).length then s.bringFail st else s.modStack st fun k => { k with bring := next }

/-! ### The steps of a stack -/

/-- Step 1 (R471, R476): identity and temperature. -/
def State.bringRead (s : State) (st : Fin 32) (r : BringResult) : State :=
  let n := st.val
  let k := s.stack n
  -- R205: a value outside -40 to 150 degrees is a failed read
  let reading := r.reading.filter fun t => decide (-320 ≤ t) && decide (t ≤ 1200)
  let third := reading.isNone && decide (2 ≤ k.fails)
  let s1 := (s.modStack n fun k => { k with identity := r.identity.toNat, everRead := k.everRead || third }).stSet n 0x2007 2 0 (b2n (!r.directedRfm))
  let s2 := match execTemperatureRead st reading s1 with | .next t => t | _ => s1
  let late := match k.t4Since with | some f => decide (f + 100000 ≤ s.time.frame) | none => false
  match reading with
  | none =>
    -- a stack that was at T4 stays at T4 through failed reads (R205, R471)
    if k.hotStart then (if late && (s2.stack n).stands == 4 then s2.bringFail n else s2)
    else if third then s2.bringStep n 2
    else s2
  | some t =>
    let hot := k.hotStart || decide (s.threshold 4 ≤ t)
    let s3 := s2.modStack n fun k => { k with hotStart := hot }
    if !hot then s3.bringStep n 2
    else if t < s.threshold 3 then s3.bringStep n 2
    else if late && decide (s.threshold 4 ≤ t) then s3.bringFail n
    else s3

/-- A lane that fails in training moves to its redundant lane, or is FAILED (R180, R182). -/
def State.bringLane (s : State) (p lane : Nat) : State :=
  if s.laneState p lane ≠ 0 then s else s.replaceLane p lane true

/-- Full training of a stack (R182, R183), for the sets of 0x8004.01 and the set in force: the pseudo-channels with a FAILED lane
after it. -/
def State.fullTrain (s : State) (st : Nat) (r : TrainResult) : List Nat × State :=
  let on (set : Nat) : Bool := bit (s.obj 0x8004 1 st) set || set == s.timingSet st
  let s1 := s.each r.badLanes fun s x => s.bringLane (pcNo st x.1) x.2
  let s2 := s1.each (r.eyes.filter fun e => on e.set.val) fun s e =>
    if s.eyePasses e then s.trainLane st e else s.bringLane (pcNo st e.pc.val) e.lane.val
  let s3 := s2.each ((upTo 4).filter on) fun s i => s.setObj 0x2800 2 (st * 4 + i) (b2n (r.sets.getLsbD i))
  ((upTo 64).filter fun pc => (upTo 38).any fun l => s3.laneState (pcNo st pc) l == 3,
    s3.each (upTo 64) fun s pc => s.noteCal (pcNo st pc))

/-- Whether training fails on the stack (R184). -/
def trainFails (r : TrainResult) (failed : List Nat) : Bool := !r.cmdOk || decide (4 < failed.length)

/-- Step 2 (R182 to R184): training. -/
def State.bringTrain (s : State) (st : Nat) (r : TrainResult) : State :=
  let x := s.fullTrain st r
  if trainFails r x.1 then x.2.bringFail st else (x.2.each x.1 fun s pc => s.bringLosePc st pc).bringStep st 3

/-! ### The end of a wake -/

/-- Whether a lane of a pseudo-channel failed the confirmation of a wake (R191, R195). -/
def State.wakeFails (s : State) (p : Nat) (res : List CalResult) : Bool :=
  let part := res.filter fun r => let v := s.laneState p r.lane.val; v == 0 || v == 2
  part.any fun r => !calPasses (part.all (·.refDown) || part.all (·.refUp)) r

/-- The confirmation of a wake ends on a pseudo-channel (R195): its results are applied with no histogram proposal. -/
def State.wakeCal (s : State) (st pc : Nat) (res : List (Fin 64 × CalResult)) : State :=
  let p := pcNo st pc
  let mine := (res.filter fun x => x.1.val == pc).map (·.2)
  (s.applyCal p [] mine).modPc p fun x => { x.wakes (s.cycle 0) with retraining := s.wakeFails p mine }

/-- Full training replaced the confirmation (R173): a failure takes the stack, or a pseudo-channel, out of service (R184). -/
def State.wakeTrain (s : State) (st : Nat) (r : TrainResult) : State :=
  let x := s.fullTrain st r
  if trainFails r x.1 then x.2.bringFail st
  else (x.2.each (upTo 64) fun s pc => s.modPc (pcNo st pc) fun x => { x.wakes (s.cycle 0) with retraining := false }).each x.1 fun s pc =>
    s.bringLosePc st pc

/-- STACK_WAKE_SERVICE (R173, R195): the confirmation, or the full training that replaced it, is done; settings are applied
at the boundary that opens frame w + 3, and a pseudo-channel that failed its confirmation goes on training while the rest of
the stack serves. A stack whose identity codes, read again at the wake, have changed fails as in training (R458). -/
def execStackWakeService (stack : Fin 32) (identity : BitVec 256) (res : List (Fin 64 × CalResult)) (train : TrainResult) (s : State) :
    Host.Outcome State Fault Refusal :=
  let st := stack.val
  let ready := match (s.stack st).power with
    | .waking n => decide (3 ≤ n)
    | .training => true
    | _ => false
  if !ready || !(s.notAsleep st).length == (upTo 64).countP (s.pcSheets st) then .next s
  else if identity.toNat ≠ (s.stack st).identity then .next (s.bringFail st)
  else
    let s1 := if (s.stack st).power == .training then s.wakeTrain st train else s.each (upTo 64) fun s pc => s.wakeCal st pc res
    if (s1.stack st).loseNext then .next s1
    else .next ((s1.modStack st fun k => { k with power := .service, slewDirty := false }).setReady st 1)

/-! ### Bring-up, steps 3 to 5 -/

/-- A rank unit is held out (R378, R476): its map entry is pointed to a spare, or its pseudo-channel is quarantined. -/
def State.holdOut (s : State) (st ru : Nat) : State :=
  let v := s.rankState st ru
  if v = 3 then s.setRank st ru 4
  else if v ≠ 0 then s
  else
    let s1 := s.bringEvent 1 2 (unitRank st ru)
    match s.lowSpare st with
    | some d => (((s1.pointTo st ru d).setRank st d 0).setRank st ru 2).fenceUnit (unitRank st ru)
    | none => (s1.noSpare st).bringLosePc st (ru / 4)

/-- Step 3 (R471, R476): the stack's own test. -/
def State.bringTest (s : State) (st : Nat) (r : BringResult) : State :=
  let many := (r.rows.map (·.1)).eraseDups.filter fun u => decide (64 < (r.rows.filter fun x => x.1 == u).length)
  let rows := (r.rows.filter fun x => !many.contains x.1).eraseDups.map fun x => mkPlace st (x.1 / 4) (x.1 % 4) x.2.1 x.2.2 0
  let s1 := s.modStack st fun k => { k with rows }
  let s2 := (s1.each r.badPcs fun s pc => s.bringLosePc st pc).each many fun s u => s.holdOut st u
  s2.bringStep st 4

/-- A faulty row is repaired inside the stack (R377): recorded as REPAIRED with strike 1 where its quarter has an entry. -/
def State.pprRow (s : State) (st pc sid bank row : Nat) : State :=
  let s1 := s.bump 0x6021 2 st 1
  match ((upTo 64).map (· + 64 * sid)).find? fun i => spState (s.obj 0x6020 1 (st * 256 + i)) == 0 with
  | some i => s1.setObj 0x6020 1 (st * 256 + i) (packSplice 2 1 pc bank row 0 0 15)
  | none => s1

/-- Step 4 (R377, R378): the repair list, post-package repairs and splices. Nothing is copied, because the fill follows. -/
def State.bringRepair (s : State) (st : Nat) (r : BringResult) : State :=
  let list := ((upTo 256).map fun i => s.obj 0x6021 1 (st * 256 + i)).filter fun w => bit w 0
  let units := (list.filter fun w => bit w 1).map fun w => bits w 7 2 * 4 + bits w 9 8
  let s1 := s.each units.eraseDups fun s u => s.holdOut st u
  let listed := (list.filter fun w => !bit w 1).map fun w => mkPlace st (bits w 7 2) (bits w 9 8) (bits w 13 10) (bits w 28 14) 0
  let lost (p : Nat) : Bool := (s1.pcsLost st).contains (plPc p) || s1.rankState st (plUnit p) == 2 || s1.rankState st (plUnit p) == 4
  let rows := (listed ++ (s.stack st).rows).eraseDups.filter fun p => !lost p
  let room (pc : Nat) : Nat := min 8 (((r.ppr.find? fun x => x.1 == pc).map (·.2)).getD 0)
  let s2 := (rows.foldl (fun (a : State × List Nat) p =>
    let pc := plPc p
    if (a.2.filter fun x => x == pc).length < room pc then (a.1.pprRow st pc (plSid p) (plBank p) (plRow p), pc :: a.2)
    else (a.1.rowFault st pc (plSid p) (plBank p) (plRow p), a.2)) (s1, [])).1
  let s3 := s2.each ((upTo 256).filter fun i => spState (s2.obj 0x6020 1 (st * 256 + i)) == 1) fun s i =>
    let w := s.obj 0x6020 1 (st * 256 + i)
    s.setObj 0x6020 1 (st * 256 + i) (packSplice 1 (spStrikes w) (spPc w) (spBank w) (spRow w) (spSubBank w) (spSubRow w) 15)
  (s3.modStack st fun k => { k with copies := [], rows := [] }).bringStep st 5

/-- STACK_BRING_UP_STEP_DONE (R471): the step under way of a stack's bring-up ends. -/
def execStackBringUpStepDone (stack : Fin 32) (r : BringResult) (s : State) : Host.Outcome State Fault Refusal :=
  let st := stack.val
  let k := s.stack st
  if k.power ≠ .bringUp then .next s
  else if !r.answered ∧ k.bring < 5 then .next (s.bringFail st)
  else if k.bring = 1 then .next (s.bringRead stack r)
  else if k.bring = 2 then .next (s.bringTrain st r.train)
  else if k.bring = 3 then .next (s.bringTest st r)
  else if k.bring = 4 then .next (s.bringRepair st r)
  else .next s

/-- HARDWARE_FILL_DONE (R472, R473): every sector of the stack holds encrypted zeros under its fill key; it is ready from
the next boundary on. -/
def execHardwareFillDone (stack : Fin 32) (s : State) : Host.Outcome State Fault Refusal :=
  let st := stack.val
  if (s.stack st).power ≠ .bringUp ∨ (s.stack st).bring ≠ 5 then .next s
  else
    let s1 : State := { s with dram := s.dram.filter fun (x : Nat × StoredSector) => plStack x.1 != st }
    .next ((s1.modStack st fun k => { k with bring := 6, power := .service, shareFrom := s.time.frame + 1 }).domainResult st true)

/-! ### The Loft and the engines -/

/-- LOFT_QUADRANT_TEST_DONE (R233, R237, R474): the march test and the fill of a quadrant, at bring-up or at a wake. -/
def execLoftQuadrantTestDone (q : Fin 4) (bad : List (List Nat)) (s : State) : Host.Outcome State Fault Refusal :=
  let v := s.readiness (32 + q.val)
  let waits := v == 0 && s.obj 0x8801 5 (32 + q.val) == 0 && s.block.boot == .up
  if !waits && v != 4 then .next s
  else
    let live (i : Nat) : Bool := s.obj 0x3005 1 i != 1 && s.obj 0x3005 1 i != 2
    let slices := ((upTo 16).map (q.val * 16 + ·)).filter live
    let words (i : Nat) : List Nat := (bad.getD (i % 16) []).eraseDups
    let failing := slices.filter fun i => decide (16 < (words i).length)
    let s1 := s.modLoft fun l =>
      { l with
        lines := l.lines.filter fun (p : Nat × LoftLine) => p.1 / 131072 / 16 != q.val
        scratch := l.scratch.filter fun (p : Nat × ScratchLine) => p.1 / 8192 / 256 != q.val
        corrected := l.corrected.filter fun x => x.1 / 16 != q.val
        remaps := (l.remaps.filter fun x => x.1 / 16 != q.val) ++ slices.flatMap fun i => ((words i).take 16).map fun w => (i, w) }
    let s2 := s1.each failing fun s i => (s.declareFailed i false).bringEvent 1 2 (unitSlice i)
    if failing.length = slices.length then .next (s2.domainResult (32 + q.val) false)
    else if v = 4 then .next (s2.modLoft fun l => { l with retested := q.val :: l.retested.erase q.val })
    else .next (s2.domainResult (32 + q.val) true)

/-- Units whose self-test a domain runs at bring-up (R197, R396, R474). Dolly, the scan unit, the capture writer and the
Stockroom, which R396 does not number, are 88,328 to 88,331 here (log 46). -/
def testUnits (d : Nat) : List Nat :=
  if d < 36 then []
  else if d < 40 then [unitArray (d - 36)]
  else if d = 40 then (upTo 64).map unitRedLane ++ (upTo 16).map unitSelect ++ (upTo 16).map unitFilter
  else if d = 41 then (upTo 32).map unitGather ++ (upTo 4).map (88328 + ·)
  else []

/-- ENGINE_SELF_TEST_DONE (R470, R474, R476): a unit that fails is declared dead; the domain's result follows its last
unit. -/
def execEngineSelfTestDone (unit : Nat) (pass : Bool) (s : State) : Host.Outcome State Fault Refusal :=
  match (upTo 43).find? fun d => (testUnits d).contains unit with
  | none => .next s
  | some d =>
    if s.block.boot ≠ .up ∨ s.obj 0x8801 5 d ≠ 0 ∨ s.test.tested.any (fun x => x.1 == unit) then .next s
    else
      let s1 := s.modTest fun t =>
        { t with tested := t.tested ++ [(unit, pass)], dead := if pass || decide (88328 ≤ unit) then t.dead else t.dead ++ [unit] }
      let s2 := if pass || decide (88328 ≤ unit) then s1 else s1.bringEvent 1 2 unit
      let got (u : Nat) : Option Bool := (s2.test.tested.find? fun x => x.1 == u).map (·.2)
      let l := testUnits d
      if l.any fun u => (got u).isNone then .next s2
      else
        let numbered := l.filter fun u => decide (u < 88328)
        let one := numbered.any fun u => got u == some true
        let alone := (l.filter fun u => decide (88328 ≤ u)).all fun u => got u == some true
        .next (s2.domainResult d (one && alone))

end Sys2Proof.Machine
end

