-- ==== Sys2Proof/Machine/Counters.lean ====
section
/-! DEFINITION. Counters.lean: samples leaving their capture register (R491, R492) and the two direct objects of chapter 22
(R465, R494). -/
namespace Sys2Proof.Machine

/-- A sample record with its sequence number; in compatibility mode its value field has 32 bits (R492, R496). -/
def finishSample (compat : Bool) (w seq : Nat) : Nat :=
  let v := bits w 239 192
  w - v * 2 ^ 192 + (if compat then v % 2 ^ 32 else v) * 2 ^ 192 + seq % 65536 * 2 ^ 240

/-- COUNTER_SAMPLE (R491): the record in a counter's capture register enters the ring. -/
def execCounterSample (counter : Fin 1088) (s : State) : Host.Outcome State Fault Refusal :=
  let c := Map.look {} counter.val s.test.capture
  match c.held with
  | none => .next s
  | some w =>
    let wi := s.obj 0x9003 2 0
    let s1 := (s.setObj 0x9003 1 (wi % 256) (finishSample s.compat w wi)).setObj 0x9003 2 0 (wi + 1)
    .next (s1.modTest fun t => { t with capture := Map.put {} { c with held := none } counter.val t.capture })

/-- COUNTER_GRANT (R494). -/
def execCounterGrant (rq : Rq) (elem : Fin 1088) (v : BitVec 16) (s : State) : Host.Outcome State Fault Refusal :=
  .next (s.directWrite rq 0x9004 1 elem.val roleO passes passes passes fun s _ =>
    s.setNow 0x9004 1 elem.val (v.toNat % 1024 + b2n (v.getLsbD 15) * 32768))

/-- SAMPLE_READ_INDEX (R465, R352). -/
def execSampleReadIndex (rq : Rq) (v : BitVec 64) (s : State) : Host.Outcome State Fault Refusal :=
  .next (s.directWrite rq 0x9003 3 0 roleO
    (fun s _ => refuseIf (decide (v.toNat < s.obj 0x9003 3 0) || decide (s.obj 0x9003 2 0 < v.toNat)) abRange)
    passes passes fun s _ => s.setObj 0x9003 3 0 v.toNat)

end Sys2Proof.Machine
end

