-- ==== Sys2Proof/Machine/Filter.lean ====
section
/-! DEFINITION. Filter.lean: filter sets (R322 to R327) and FILTER shots (R328, R329). -/
namespace Sys2Proof.Machine

/-- The mixing function of R324, modulo 2^64. -/
def mix (x : BitVec 64) : BitVec 64 :=
  let a := (x ^^^ (x >>> 30)) * 0xBF58476D1CE4E5B9
  let b := (a ^^^ (a >>> 27)) * 0x94D049BB133111EB
  b ^^^ (b >>> 31)

/-- The hash of a key in a set (R324). -/
def keyHash (entry key : Nat) : Nat := (mix (BitVec.ofNat 64 key ^^^ BitVec.ofNat 64 (fsSeed entry))).toNat

/-- The two buckets of a key (R325). -/
def bucketsOf (entry key : Nat) : Nat × Nat :=
  let b := 2 ^ fsLog entry
  let h := keyHash entry key
  let b1 := h % b
  let b2 := (h >>> 32) % b
  (b1, if b2 = b1 then Nat.xor b1 1 else b2)

/-- A bucket's slots. -/
def FilterSet.bucket (f : FilterSet) (b : Nat) : Map Nat := Map.look [] b f.buckets

/-- Whether a bucket holds a key. -/
def FilterSet.holds (f : FilterSet) (b key : Nat) : Bool := (f.bucket b).any fun (x : Nat × Nat) => x.2 == key + 1

/-- The lowest free slot of a bucket, 1 to 7. -/
def FilterSet.freeSlot (f : FilterSet) (b : Nat) : Option Nat :=
  ([1, 2, 3, 4, 5, 6, 7] : List Nat).find? fun i => Map.look 0 i (f.bucket b) == 0

/-- Put a key into a slot of a bucket. -/
def FilterSet.put (f : FilterSet) (b i key : Nat) : FilterSet :=
  { f with buckets := Map.put [] (Map.put 0 (key + 1) i (f.bucket b)) b f.buckets }

/-- The insertion chain of R325: `n` steps are left, key x is in hand, bucket b is visited. Answers the set and whether the
chain ended in the stash. -/
def FilterSet.chain (entry : Nat) : Nat → FilterSet → Nat → Nat → FilterSet × Bool
  | 0, f, x, _ => ({ f with stash := f.stash ++ [x] }, true)
  | n + 1, f, x, b =>
    let i := (63 - n) % 7 + 1
    let y := Map.look 0 i (f.bucket b) - 1
    let f1 := f.put b i x
    let bs := bucketsOf entry y
    let b' := if bs.1 = b then bs.2 else bs.1
    match f1.freeSlot b' with
    | some j => (f1.put b' j y, false)
    | none => FilterSet.chain entry n f1 y b'

/-- What a key operation answers. -/
inductive KeyOut where
  | found | absent | full
deriving DecidableEq, Repr

/-- A key operation on a cuckoo set (R325): answer, set, whether a key was inserted, whether a chain ended in the stash. -/
def FilterSet.cuckoo (f : FilterSet) (entry key : Nat) (test : Bool) : KeyOut × FilterSet × Bool × Bool :=
  let bs := bucketsOf entry key
  let found := f.holds bs.1 key || f.holds bs.2 key || f.stash.contains key
  if found then (.found, f, false, false)
  else if test then (.absent, f, false, false)
  else if f.keys = min (2 ^ 26) (4 * 2 ^ fsLog entry) then (.full, f, false, false)
  else
    let g := { f with keys := f.keys + 1 }
    match f.freeSlot bs.1 with
    | some i => (.absent, g.put bs.1 i key, true, false)
    | none =>
      match f.freeSlot bs.2 with
      | some i => (.absent, g.put bs.2 i key, true, false)
      | none =>
        if 64 ≤ f.stash.length then (.full, f, false, false)
        else
          let r := FilterSet.chain entry 64 g key bs.1
          (.absent, r.1, true, r.2)

/-- Line and bits of a key in a Bloom filter (R326). -/
def bloomBits (entry key : Nat) : Nat × List Nat :=
  let h := keyHash entry key
  let g := (mix (BitVec.ofNat 64 h)).toNat
  let u := g % 2048
  let v := Nat.lor ((g >>> 11) % 2048) 1
  ((h >>> 32) % (2 ^ fsLog entry / 2048), (upTo (fsHashes entry)).map fun i => (u + i * v) % 2048)

/-- A key operation on a Bloom filter (R326). -/
def FilterSet.bloom (f : FilterSet) (entry key : Nat) (test : Bool) : KeyOut × FilterSet × Bool × Bool :=
  let b := bloomBits entry key
  let line := Map.look 0 b.1 f.bits
  let found := b.2.all fun i => bit line i
  if found then (.found, f, false, false)
  else if test then (.absent, f, false, false)
  else (.absent, { f with keys := f.keys + 1, bits := Map.put 0 (b.2.foldl (fun l i => Nat.lor l (2 ^ i)) line) b.1 f.bits }, true, false)

/-- Key of a shot's set among the sets: its captured version (R248, R323). -/
def State.setKey (s : State) (x : Shot) : Nat :=
  let t := slDesc x.slate.toNat
  if teVersion (s.tslot t).now.toNat = x.descVer then t else t + 4096

/-- The output of a FILTER once its last key is done (R329): the last bitmap sector; or the header and the zeros after the
keys. -/
def State.filterEnd (s : State) (n : Nat) (x : Shot) : State :=
  let w := x.slate.toNat
  let c := clsOf (slClass w)
  if slOut w = 0 ∨ flResult w = 0 then s
  else
    let s1 := s.shotOut x 0x25 c 0 (leBytes 64 (n % 2 ^ 48))
    s1.shotOut x 0x25 c (64 + 8 * n) (List.replicate (outBytes w x.entry - 64 - 8 * n) 0)

/-- FILTER_KEY (R324 to R329): the next key of a shot, as one step on its set. -/
def execFilterKey (shot : BitVec 16) (s : State) : Host.Outcome State Fault Refusal :=
  match s.working shot.toNat [6] with
  | none => .next s
  | some x =>
    let w := x.slate.toNat
    let r := slSrc w
    let j := x.work.pos
    let off := slSrcOff w + 8 * j
    let c := clsOf (slClass w)
    -- the keys of a 256 B line are read together
    let lo := max (slSrcOff w) (off / 256 * 256)
    let hi := min (slSrcOff w + 8 * slCount w) (off / 256 * 256 + 256)
    let need := [x.part r lo (hi - lo)]
    if slCount w ≤ j ∨ !s.isReady 40 ∨ !s.issueRoom 40 3 then .next s
    else if !s.engHas x.id need then .next (s.engAsk (x.reader 0x25 c) x.id need)
    else
      match s.engBytes? x.id r off 8 with
      | none => .next ((s.engDone x.id).poisonAbort x)
      | some b =>
        let s1 := (if off + 8 = hi then s.engDone x.id else s).issue 40 1
        let key := ofLe b
        let t := x.entry
        if s.unitState (unitFilter (keyHash t key % 16)) ≠ 0 ∨ s.underTest (unitFilter (keyHash t key % 16)) then .next s
        else
          let at' := s.setKey x
          let f := Map.look ({} : FilterSet) at' s.shot.sets
          let res := if fsKind t = 0 then f.cuckoo t key (flOp w == 0) else f.bloom t key (flOp w == 0)
          let found := res.1 == .found
          let s2 := (s1.modShotS fun y => { y with sets := Map.put {} res.2.1 at' y.sets }).count 0x5600 2
          let s3 := if res.2.2.1 then s2.count 0x5600 3 else s2
          let s4 := if res.1 == .full then (s3.count 0x5600 4).modShot x.id fun x => { x with oor := x.oor + 1 } else s3
          let s5 := (if res.2.2.2 then s4.count 0x5600 5 else s4).tallyBlock 0x12 1 (s.shotTxn w x.origin)
          -- the output of this key
          let last := decide (slCount w ≤ j + 1)
          let reg := x.work.reg + (if found then 2 ^ (j % 512) else 0)
          let flush := flResult w = 0 ∧ slOut w ≠ 0 ∧ (j % 512 = 511 ∨ last)
          let keep := (flResult w = 1 ∧ found) ∨ (flResult w = 2 ∧ !found)
          let s6 := if flush then s5.shotOut x 0x25 c (j / 512 * 64) (leBytes 64 reg) else s5
          let s7 := if keep ∧ slOut w ≠ 0 then s6.shotOut x 0x25 c (64 + 8 * x.work.writes) (leBytes 8 key) else s6
          let s8 := s7.modShot x.id fun x =>
            { x with
              done := x.done + 1
              ended := last
              work := { x.work with writes := if keep then x.work.writes + 1 else x.work.writes, pos := j + 1, reg := if j % 512 = 511 then 0 else reg } }
          .next (if last then s8.filterEnd (if keep then x.work.writes + 1 else x.work.writes) x else s8)

end Sys2Proof.Machine
end

