-- ==== Sys2Proof/Machine/Losses.lean ====
section
/-! DEFINITION. Losses.lean: what a frame boundary does to units that leave service: a lost pseudo-channel (R393), a lost
stack (R394) and the start of a rebuild (R395), and units declared dead (R397, R398). -/
namespace Sys2Proof.Machine

/-! ### Work on a controller that is gone -/

/-- A pseudo-channel's controller stops (R397): its reads are arbitrated anew; the answer is the writes that it held. -/
def State.stopPc (s : State) (p : Nat) : List QEntry × State :=
  let x := s.takeOut p fun _ => true
  (x.1, x.2.modPc p fun x => { lanes := x.lanes, calFrame := x.calFrame, calTemp := x.calTemp, sheet := { deliver := 0 } })

/-- An atomic that can be applied nowhere answers POISON (R393, R394). -/
def State.answerLost (s : State) (e : QEntry) : State := s.answerHeld e { poison := true }

/-- Writes held for what was lost are applied at their new places before any later request to their lines (R104, R152, R390):
each entry with the mapped place it had and the map element of its rank unit. The line's other sectors are lost (R393). -/
def State.applyMoved (s : State) (st : Nat) (x : QEntry × Nat × Nat) : State :=
  let (e, mapped, el) := x
  let ru := s.rankMap st el
  let place := mkPlace st (ru / 4) (ru % 4) (plBank mapped) (plRow mapped) (plSector mapped)
  let w := placeLineNo place
  match (s.stack st).lostUnits.find? fun u => u.holds el w with
  | none => s.applyHeld { e with place }
  | some u =>
    if u.dst.isNone then s.answerLost e
    else
      ((s.loseLine (unitLinePlace st ru w)).modStack st fun k =>
        { k with lostUnits := k.lostUnits.map fun x => if x == u then { x with done := x.done ++ [w] } else x }).applyHeld { e with place }

/-! ### Regions that lose data -/

/-- Whether a region has lines on a rank-unit map element of a stack (R79), in chunks that are WRITTEN. -/
def State.holdsOn (s : State) (st el : Nat) (sl : RegionSlot) : Bool :=
  (sl.versions.any fun e =>
    e.loft != 2 && bit e.stackMask st &&
      decide (e.extentBase * 8192 / tierLines ≤ el / 63) && decide (el / 63 ≤ ((e.extentBase + extentsOf e) * 8192 - 1) / tierLines)) &&
    (upTo sl.now.size).any fun c => s.written (sl.now.chunkBase + c)

/-- A region has lost data (R393, R394): marked, named in an event, and the shots that name it aborted. -/
def State.regionLoses (s : State) (r st pc : Nat) : State :=
  let s1 := (s.setObj 0x6031 3 r 1).logEvent 3 8 (r + st * 2 ^ 16 + pc * 2 ^ 24) (s.regionTenant r)
  let s2 := s1.each (s1.shot.shots.filter fun x => x.regions.contains r) fun s x => s.askAbort x.id 7 st
  let s3 := if s2.packet.enabled && s2.spillRegion == r then s2.stockroomOff 2 else s2
  if crPlace s3.capRing == 2 && crRegion s3.capRing == r then s3.captureOff 2 else s3

/-! ### Loss of a pseudo-channel -/

/-- Lines of a running migration that were written after their copy (R392): those whose two copies differ. -/
def State.writtenSince (s : State) (st : Nat) (m : Migration) : List Nat :=
  let touched := (s.dram.filter fun (x : Nat × StoredSector) => plStack x.1 == st && (plUnit x.1 == m.dst || plUnit x.1 == m.src)).map
    fun (x : Nat × StoredSector) => placeLineNo x.1
  let differs (w : Nat) : Bool := (upTo 4).any fun i =>
    let a := s.dramAt (s.spliced (sectorAt (unitLinePlace st m.src w) i))
    let b := s.dramAt (s.spliced (sectorAt (unitLinePlace st m.dst w) i))
    a.plain != b.plain || a.key != b.key || a.epoch != b.epoch || a.poison != b.poison
  touched.eraseDups.filter fun w => (decide (w < m.wm) || m.pulled.contains w) && differs w

/-- The destination of the running migration is lost (R392): it starts anew to the next spare, or has none (R387). `held`:
lines written after their copy by writes that the destination still held. -/
def State.loseDestination (s : State) (st : Nat) (m : Migration) (held : List Nat) : State :=
  let lost := (m.lost ++ s.writtenSince st m ++ held).eraseDups
  match s.lowSpare st with
  | some d =>
    s.modStack st fun k =>
      { k with migCommit := false, mig := some { src := m.src, dst := d, urgent := m.urgent, blind := m.blind, lost } }
  | none =>
    let s1 := (s.noSpare st).modStack st fun k => { k with migCommit := false, mig := none }
    let s2 := s1.each lost fun s w => s.loseLine (unitLinePlace st m.src w)
    (s2.setRank st m.src (if m.urgent then 6 else 0)).applyHeldWhere st fun q => plUnit q.place == m.src

/-- A rank unit in service is lost with its pseudo-channel (R393): its map entry is pointed to a destination, and its lines
are to be rewritten poisoned. In bring-up it holds no data yet (R476). -/
def State.loseRank (s : State) (st ru : Nat) : State :=
  let v := s.rankState st ru
  if v ≠ 0 ∧ v ≠ 1 ∧ v ≠ 6 then s
  else
    let k := s.stack st
    let el := firstIdx (fun el => s.rankMap st el == ru) (upTo 252)
    let mine := match k.mig with | some m => if m.src = ru then some m else none | none => none
    let s1 := ((s.setRank st ru 7).freeEntries st ru).modStack st fun k =>
      { k with
        mig := if mine.isSome then none else k.mig
        migCommit := k.migCommit && mine.isNone
        migQ := k.migQ.filter fun x => x.1 != ru
        lostUnits := k.lostUnits.filter fun u => some u.el != el }
    match el with
    | none => s1
    | some el =>
      let fresh := k.power == .bringUp
      let put (s : State) (u : LostUnit) : State := s.modStack st fun k => { k with lostUnits := k.lostUnits ++ [u] }
      match mine with
      | some m =>
        put ((s1.pointTo st ru m.dst).setRank st m.dst 0) { dst := some m.dst, el, next := m.wm, done := m.pulled }
      | none =>
        match s1.lowSpare st with
        | some d =>
          let s2 := (s1.pointTo st ru d).setRank st d 0
          if fresh then s2 else put s2 { dst := some d, el }
        | none => put (s1.noSpare st) { dst := none, el }

/-- The splice host is lost (R393): every SPLICED row is lost with it, at its original place, and its entry is freed. -/
def State.loseHost (s : State) (st ru : Nat) : State :=
  let l := (upTo 256).filter fun i => spState (s.obj 0x6020 1 (st * 256 + i)) == 1
  (s.setRank st ru 7).each l fun s i =>
    let w := s.obj 0x6020 1 (st * 256 + i)
    let unit := spPc w * 4 + i / 64
    let base := spRow w * 64
    let others := ((upTo 64).map (base + ·)).filter fun w' => plBank (unitLinePlace st unit w') != spBank w
    let s1 := (s.setObj 0x6020 1 (st * 256 + i) 0).modStack st fun k => { k with copies := k.copies.filter fun c => c.entry != i }
    match firstIdx (fun el => s.rankMap st el == unit) (upTo 252) with
    | none => s1
    | some el =>
      s1.modStack st fun k => { k with lostUnits := k.lostUnits ++ [{ dst := some unit, el, next := base, last := base + 64, done := others }] }

/-- Live regions with lines in WRITTEN chunks on the SPLICED rows of a stack (R393). -/
def State.splicedRegions (s : State) (st : Nat) : List Nat :=
  (((upTo 256).filter fun i => spState (s.obj 0x6020 1 (st * 256 + i)) == 1).flatMap fun i =>
    let w := s.obj 0x6020 1 (st * 256 + i)
    (upTo 4).filterMap fun n =>
      match s.placeRegion (mkPlace st (spPc w) (i / 64) (spBank w) (spRow w) (4 * n)) with
      | some (r, off) => if s.written (chunkOf (s.slot r).now off) then some r else none
      | none => none).eraseDups

/-- A write held for a unit that is lost, with its mapped place and map element (R104). -/
def State.movedOf (s : State) (st : Nat) (e : QEntry) : Option (QEntry × Nat × Nat) :=
  let mapped := s.unphysical e.place
  (firstIdx (fun el => s.rankMap st el == plUnit mapped) (upTo 252)).map fun el => (e, mapped, el)

/-- A pseudo-channel is lost with its data (R393). -/
def State.losePc (s : State) (st pc : Nat) : State :=
  if s.obj 0x6031 1 (pcNo st pc) = 2 then s
  else
    let p := pcNo st pc
    let units := (upTo 4).map (pc * 4 + ·)
    let els := (upTo 252).filter fun el => units.contains (s.rankMap st el)
    let fresh := (s.stack st).power == .bringUp
    let hosted := if units.any fun u => s.rankState st u == 5 then s.splicedRegions st else []
    let hit := if fresh then [] else ((s.regions.slots.filter fun (x : Nat × RegionSlot) =>
      x.2.now.live && els.any fun el => s.holdsOn st el x.2).map (·.1) ++ hosted).eraseDups
    let stopped := s.stopPc p
    let moved := (((s.stack st).heldWrites.filter fun e => units.contains (plUnit e.place)) ++ stopped.1).filterMap (s.movedOf st)
    let s1 := (stopped.2.fencePc st pc).modStack st fun k =>
      { k with
        fenceNext := k.fenceNext.filter (· != pc)
        evacuate := k.evacuate.filter (· != pc)
        heldWrites := k.heldWrites.filter fun e => !units.contains (plUnit e.place) }
    let s2 := match (s1.stack st).mig with
      | some m =>
        if units.contains m.dst then
          s1.loseDestination st m ((moved.filter fun (x : QEntry × Nat × Nat) => plUnit x.2.1 == m.src).map fun (x : QEntry × Nat × Nat) => placeLineNo x.2.1)
        else s1
      | none => s1
    let s3 := (s2.each units fun s u => if s.rankState st u = 5 then s.loseHost st u else s.loseRank st u).each moved
      fun s x => s.applyMoved st x
    let s4 := (s3.each hit fun s r => s.regionLoses r st pc).abandonOn st 3 fun _ => true
    let lost := (upTo 64).filter fun q => s4.obj 0x6031 1 (pcNo st q) == 2
    if 4 < lost.length then s4.modStack st fun k => { k with loseNext := true } else s4

/-! ### Loss of a stack -/

/-- A stack leaves service (R394): fenced; its migrations, copies and controllers stop; regions over it alone are lost, and
the others are to be rebuilt (R395). -/
def State.loseStack (s : State) (st : Nat) : State :=
  let s0 := s.each (upTo 64) fun s pc => let x := s.stopPc (pcNo st pc); x.2.each x.1 State.answerLost
  let s1 := (s0.each (s.stack st).heldWrites State.answerLost).modStack st fun k =>
    { k with
      power := .off, bring := 7, loseNext := false, fenceNext := [], evacuate := [], mig := none, migQ := [], migCommit := false
      heldWrites := [], copies := [], lostUnits := [], rewrites := [], switch := none, srRequest := false, wakeReq := false }
  let s2 := (s1.fenceUnit st).setObj 0x6031 2 st 2
  let s3 := if s2.readiness st = 2 then s2 else s2.setReady st 2
  let named := (s3.regions.slots.filter fun (x : Nat × RegionSlot) => x.2.now.live && x.2.now.loft != 2 && bit x.2.now.stackMask st).map (·.1)
  let s4 := s3.each named fun s r =>
    let sl := s.slot r
    let e := sl.now
    let holds := (upTo e.size).any fun c => s.written (e.chunkBase + c)
    let a := if e.mode = 1 ∧ 1 < popcount 32 e.stackMask then
        s.modTest fun t => { t with rebuild := t.rebuild ++ [(r, st)] }
      else s.modSlot r fun sl => { sl with lost := true }
    let b := if holds then a.regionLoses r st 0xFF else a
    b.each (b.shot.shots.filter fun x => x.regions.contains r) fun s x => s.askAbort x.id 7 st
  (s4.abandonOn st 3 fun _ => true).settleLost st

/-- A rebuild starts (R395): the new version of a region, without the lost stacks, is committed (R81); none without the free
extents. -/
def State.startRebuild (s : State) (r : Nat) (gone : List Nat) : Option State :=
  let sl := s.slot r
  let mask := gone.foldl (fun m st => if bit m st then m - 2 ^ st else m) sl.now.stackMask
  let n : RegionEntry := { sl.now with stackMask := mask, version := (sl.now.version + 1) % 256 }
  if mask = 0 then none
  else
    (s.placeExtents mask (extentsOf n) 0xFFFF none).map fun x =>
      s.modSlot r fun sl => { sl with next := some { n with extentBase := x } }

/-- Rebuilds go one at a time, in ascending region ID (R395); a region that finds no extents is left lost, named once, and
tried again. -/
def State.rebuildBoundary (s : State) : State :=
  let s0 := s.modTest fun t => { t with rebuild := t.rebuild.filter fun (x : Nat × Nat) => (s.slot x.1).now.live && bit (s.slot x.1).now.stackMask x.2 || (s.slot x.1).rebuildWm.isSome }
  let busy := s0.regions.slots.any fun (x : Nat × RegionSlot) => x.2.rebuildWm.isSome || x.2.rebuilds
  let ids := ((s0.test.rebuild.map (·.1)).mergeSort fun a b => decide (a ≤ b)).eraseDups
  let s1 := if busy then s0 else
    (ids.foldl (fun (acc : Bool × State) r =>
      let sl := acc.2.slot r
      if acc.1 || sl.next.isSome || sl.old.isSome then acc
      else
        let gone := (acc.2.test.rebuild.filter fun x => x.1 == r).map (·.2)
        match acc.2.startRebuild r gone with
        | some t => (true, t)
        | none =>
          if sl.lost then acc
          else (false, (acc.2.modSlot r fun sl => { sl with lost := true }).logEvent 3 9 (r + gone.headD 0 * 2 ^ 16) (acc.2.regionTenant r)))
      (false, s0)).2
  s1.each ((upTo 32).filter fun st => s1.obj 0x6031 2 st != 0) fun s st =>
    s.setObj 0x6031 2 st (if s.test.rebuild.any fun x => x.2 == st then 1 else 2)

/-! ### Units declared dead -/

/-- Kind of an engine unit, by its first and last unit number (R396). -/
def unitKind (u : Nat) : Nat × Nat :=
  if u < 88160 then (88096, 88159) else if u < 88164 then (88160, 88163) else if u < 88196 then (88164, 88195)
  else if u < 88212 then (88196, 88211) else (88212, 88227)

/-- Whether an admitted shot uses an engine unit, and the master its abort names (R254, R285, R312). -/
def usesUnit (u : Nat) (x : Shot) : Option Nat :=
  let w := x.slate.toNat
  let k := slKind w
  if u < 88160 then
    if k = 1 ∧ unitsIn (slotsOn x.id (rdWindow w) x.work.lanesL) (u - 88096) ≠ 0 then some 0x3F else none
  else if u < 88164 then if k = 3 ∨ k = 4 then some 0x25 else none
  else if u < 88196 then
    if k = 2 ∧ (x.work.bags.any fun g => x.bagUnit g.bag == u - 88164) then some 0x24 else none
  else if u < 88212 then if k = 5 ∨ (k = 3 ∧ scK w ≠ 0) then some 0x3F else none
  else if k = 6 then some 0x3F else none

/-- An engine unit is fenced (R397): its shots are aborted, and a STANDBY unit of its kind takes its place (R398). -/
def State.fenceEngine (s : State) (u : Nat) : State :=
  let s1 := s.fenceUnit u
  let s2 := s1.each s1.shot.shots fun s x =>
    match usesUnit u x with
    | some m => s.askAbort x.id 5 m
    | none => s
  let (lo, hi) := unitKind u
  match s2.test.standby.find? fun v => decide (lo ≤ v) && decide (v ≤ hi) && v != u with
  | some v => (s2.setObj 0x6040 5 v 0).modTest fun t => { t with standby := t.standby.erase v }
  | none => s2

/-- A declaration takes effect (R397). -/
def State.unitDies (s : State) (u : Nat) : State :=
  if u < 32 then s.loseStack u
  else if u < 2080 then s.losePc ((u - 32) / 64) ((u - 32) % 64)
  else if u < 79904 then
    let p := (u - 2080) / 38
    let lane := (u - 2080) % 38
    let s1 := s.fenceUnit u
    if s1.laneState p lane = 0 then (s1.repairLane p lane true).2
    else if s1.laneState p lane = 2 then s1.setLaneState p lane 1 0
    else s1
  else if u < 88096 then
    let st := (u - 79904) / 256
    let ru := (u - 79904) % 256
    let s1 := s.fenceUnit u
    if s1.rankState st ru = 3 then
      match (s1.stack st).mig with
      | some m => if m.dst = ru then (s1.setRank st ru 4).loseDestination st m [] else s1.setRank st ru 4
      | none => s1.setRank st ru 4
    else if s1.rankState st ru = 5 then
      (s1.loseHost st ru).each (s1.splicedRegions st) fun s r => s.regionLoses r st (ru / 4)
    else
      let els := (upTo 252).filter fun el => s1.rankMap st el == ru
      let hit := (s1.regions.slots.filter fun (x : Nat × RegionSlot) => x.2.now.live && els.any fun el => s1.holdsOn st el x.2).map (·.1)
      let out := s1.takeOut (pcNo st (ru / 4)) fun sid => sid == ru % 4
      let moved := (((s1.stack st).heldWrites.filter fun e => plUnit e.place == ru) ++ out.1).filterMap (s1.movedOf st)
      let s2 := (out.2.modStack st fun k => { k with heldWrites := k.heldWrites.filter fun e => plUnit e.place != ru }).loseRank st ru
      (s2.each moved fun s x => s.applyMoved st x).each hit fun s r => s.regionLoses r st (ru / 4)
  else if u < 88228 then s.fenceEngine u
  else if u < 88292 then s.declareFailed (u - 88228) false
  else s.resetPort (u - 88292)

/-- Everything that leaves service at a boundary (R393, R394, R397). -/
def State.lossBoundary (s : State) : State :=
  let dead := s.test.dead
  let s1 := (s.modTest fun t => { t with dead := [] }).each dead fun s u => s.unitDies u
  let gone := (upTo 32).filter fun st => (s.stack st).loseNext
  let s2 := s1.each gone fun s st => s.loseStack st
  s2.each ((upTo 32).filter fun st => !gone.contains st) fun s st =>
    s.each (s.stack st).fenceNext fun s pc => s.losePc st pc

end Sys2Proof.Machine
end

