-- ==== Sys2Proof/Machine/TimeOfDay.lean ====
section
/-! DEFINITION. TimeOfDay.lean: the local clock (R25 to R31), the correction modes (R32 to R34), steps (R35) and the
reference (R58). -/
namespace Sys2Proof.Machine

/-- Limit of a rate correction in both modes (R30). -/
def rateLimit : Int := 200000

/-- A rate correction brought to the nearest limit (R30, R34). -/
def clampRate (r : Int) : Int := max (-rateLimit) (min rateLimit r)

/-- The nominal increment of a reference frequency: 10^9 / f ns in 2^-32 ns, to nearest (R58). -/
def nominalOf (hz : Nat) : Nat := (4294967296 * 1000000000 * 2 + hz) / (2 * hz)

/-- A step rounded to whole frames, a half frame away from zero (R35). -/
def roundFrames (ns : Int) : Int := if 0 ≤ ns then (ns + 500) / 1000 * 1000 else -((-ns + 500) / 1000 * 1000)

/-- REFERENCE_CYCLE (R29): the applied increment is nominal x (1 + rate correction), exactly. -/
def execReferenceCycle (s : State) : Host.Outcome State Fault Refusal :=
  .next (s.modTime fun t => { t with tod := t.tod + t.nominal * (1000000000 + t.rate).toNat })

/-- Apply a step at the boundary at `nextNs` (R35): cut so that the time of day never wraps, and logged; item 0 is a step that
was asked for, 1 the join step of TRACK (R33). -/
def State.jump (s : State) (item : Nat) (ns : Int) : State :=
  let old := s.time.nextNs
  let new := ((old : Int) + roundFrames ns).toNat
  let s1 := s.modTime fun t => { t with nextNs := new, tod := t.tod + new * nsUnit - old * nsUnit }
  s1.logAsked 8 1 item (timeWord old + timeWord new * 2 ^ 80 + s.time.frame % 2 ^ 64 * 2 ^ 160)

/-- TRACK takes effect from SERVO (R33): a pending step is discarded, and the offset last measured is taken for the join
step of the next boundary. -/
def State.selectTrack (s : State) : State :=
  let ofs := toInt 64 (s.obj 0x7802 1 0)
  (s.modTime fun t => { t with mode := .track, pendingStep := none, joinDue := some (-ofs) }).setNow 0x7801 1 0 0

/-- What a boundary does to the time (R27 to R35, R58): the boundary's time is reached and the frame count moves on; the
join step; a mode change, or a transition into SERVICE; a pending step; the rate and the increment of the frame. DESIGN CHOICE:
from the boundary that selects SERVO until its first offset the rate is the one SERVO last had, 0 after reset (log 10). -/
def State.timeBoundary (s : State) (toService : Bool) : State :=
  let s1 := s.modTime fun t => { t with tod := max t.tod (t.nextNs * nsUnit), frame := t.frame + 1 }
  let s2 :=
    match s1.time.joinDue with
    | some d => ((s1.modTime fun t => { t with joinDue := none }).jump 1 d).setObj 0x7802 2 0 1
    | none => s1
  let asked := if toService || s2.obj 0x7801 1 0 == 0 then CorrMode.track else CorrMode.servo
  let s3 :=
    if asked = s2.time.mode then (if toService then s2.setNow 0x7801 1 0 0 else s2)
    else match asked with
      | .track => s2.selectTrack
      | .servo => s2.modTime fun t => { t with mode := .servo, servoSum := 0 }
  let s4 :=
    match s3.time.pendingStep with
    | some d => (s3.modTime fun t => { t with pendingStep := none }).jump 0 d
    | none => s3
  (s4.modTime fun t =>
    { t with
      rate := match t.mode with
        | .track => toInt 32 (s4.obj 0x7801 2 0)
        | .servo => t.servoRate
      nominal := t.nominalReq.getD t.nominal
      nominalReq := none
      frameStart := t.nextNs * nsUnit
      nextNs := t.nextNs + 1000 }).emit .framePulse

/-- PTP_OFFSET (R32, R58): the latest measurement; in SERVO it feeds the servo (log 10), which asks for a step when the
offset exceeds 0x7801.06. -/
def execPtpOffset (ofs : BitVec 64) (s : State) : Host.Outcome State Fault Refusal :=
  let v := ofs.toInt
  let last := toInt 64 (s.obj 0x7802 1 0)
  let s1 := s.setObj 0x7802 1 0 ofs.toNat
  match s.time.mode with
  | .track => .next s1
  | .servo =>
    let sum := s.time.servoSum + v
    let r := clampRate (Config.servoRate v last sum s.time.servoRate (s.obj 0x7801 4 0) (s.obj 0x7801 5 0))
    let beyond := decide (s.obj 0x7801 6 0 < v.natAbs) && s.time.pendingStep.isNone
    let s2 := s1.modTime fun t => { t with servoRate := r, servoSum := sum, pendingStep := if beyond then some (-v) else t.pendingStep }
    .next (s2.when beyond fun s => s.asks (askKey 8 1 0) 255)

/-- PTP_RATE (R34, R58): taken in TRACK, clamped to the limits; ignored in SERVO. -/
def execPtpRate (rate : BitVec 32) (s : State) : Host.Outcome State Fault Refusal :=
  match s.time.mode with
  | .servo => .next s
  | .track =>
    let r := clampRate rate.toInt
    let s1 := s.setObj 0x7801 2 0 (ofInt 32 r)
    if r = rate.toInt then .next s1
    else .next ((s1.count 0x7802 3).logEvent 8 2 (rate.toNat + ofInt 32 r * 2 ^ 32))

/-- STEP_REQUEST (R34, R35): refused in TRACK or while a step is pending. -/
def execStepRequest (rq : Rq) (ns : BitVec 64) (s : State) : Host.Outcome State Fault Refusal :=
  .next (s.directWrite rq 0x7801 3 0 roleO passes
    (fun s _ => refuseIf (s.time.mode == .track || s.time.pendingStep.isSome) abObjState) passes
    fun s n => (s.modTime fun t => { t with pendingStep := some ns.toInt }).asks (askKey 8 1 0) n)

/-- CORRECTION_MODE_SELECT (R33, R34): in force at the next boundary; SERVO is refused in SERVICE. -/
def execCorrectionModeSelect (rq : Rq) (v : BitVec 8) (s : State) : Host.Outcome State Fault Refusal :=
  .next (s.directWrite rq 0x7801 1 0 roleO (fun _ _ => refuseIf (decide (1 < v.toNat)) abRange)
    (fun s _ => refuseIf (v.toNat == 1 && s.block.state == .service) abBlockState) passes
    fun s n => (s.setObj 0x7801 1 0 v.toNat).asks (askKey 8 1 1) n)

/-- RATE_CORRECTION_WRITE (R30, R34): in force at the next boundary; outside +-200 ppm it is refused. -/
def execRateCorrectionWrite (rq : Rq) (v : BitVec 32) (s : State) : Host.Outcome State Fault Refusal :=
  .next (s.directWrite rq 0x7801 2 0 roleO (fun _ _ => refuseIf (clampRate v.toInt != v.toInt) abRange) passes passes
    fun s _ => s.setObj 0x7801 2 0 v.toNat)

/-- REFERENCE_FREQUENCY_WRITE (R58): 100 to 400 MHz, in BRING-UP; the increment changes at the next boundary. -/
def execReferenceFrequencyWrite (rq : Rq) (hz : BitVec 32) (s : State) : Host.Outcome State Fault Refusal :=
  .next (s.directWrite rq 0x7803 1 0 roleO
    (fun _ _ => refuseIf (decide (hz.toNat < 100000000) || decide (400000000 < hz.toNat)) abRange)
    (fun s _ => refuseIf (s.block.state != .bringUp) abBlockState) passes
    fun s _ => (s.setObj 0x7803 1 0 hz.toNat).modTime fun t => { t with nominalReq := some (nominalOf hz.toNat) })

end Sys2Proof.Machine
end

