-- ==== Sys2Proof/Machine/Views.lean ====
section
/-! DEFINITION. Views.lean: what a READ of each object returns (R456 to R467 and the object tables of the chapters): the
values that other state holds, and which sessions read which objects and elements. -/
namespace Sys2Proof.Machine

/-- Bits set where a test holds. -/
def bitmap (n : Nat) (p : Nat → Bool) : Nat := (upTo n).foldl (fun w i => if p i then w + 2 ^ i else w) 0

/-- Code of a stack's power state (0x2008.08). -/
def StackPower.code : StackPower → Nat
  | .entering => 1 | .gated => 2 | .waking _ => 3 | .training => 3 | _ => 0

/-- Code of a self-refresh state (0x2008.02). -/
def SrPhase.code : SrPhase → Nat
  | .awake => 0 | .preparing _ => 1 | .committed _ => 2 | .asleep _ => 3 | .returning _ | .exiting _ => 4

/-- State of a power domain (0x7001.02). -/
def State.domainState (s : State) (d : Nat) : Nat :=
  if d < 32 then (match (s.stack d).power with | .entering => 1 | .gated => 2 | .waking _ => 3 | .training => 3 | _ => 0)
  else if s.readiness d = 3 then 2
  else if s.readiness d = 4 then 3
  else if s.test.gateReq.contains d then 1
  else 0

/-- The committed entry of a region (R463). -/
def RegionSlot.committed (sl : RegionSlot) : RegionEntry := sl.next.getD sl.now
/-- The committed entry of the shot table. -/
def TableSlot.committed (sl : TableSlot) : Nat := (sl.next.getD sl.now).toNat

/-- The old version that a region or an entry of the shot table holds from a commit on (R92, R248). -/
def RegionSlot.held (sl : RegionSlot) : Option RegionEntry :=
  if sl.next.isSome then (if sl.now.live then some sl.now else none) else sl.old
def TableSlot.held (sl : TableSlot) : Option (BitVec 512) :=
  if sl.next.isSome then (if teType sl.now.toNat = 0 then none else some sl.now) else sl.old

/-- A context in the layout of R249. -/
def Ctx.pack (c : Ctx) : Nat :=
  c.state % 8 + c.epoch % 256 * 2 ^ 3 + (if c.state = 5 then c.cause % 256 else 0) * 2 ^ 11 + c.flags % 32 * 2 ^ 19 +
    c.tenant % 1024 * 2 ^ 24 + c.frame % 2 ^ 64 * 2 ^ 64

/-- Key slot status (0x6801.01). -/
def RegionSlot.keyStatus (sl : RegionSlot) : Nat :=
  match sl.cur, sl.prev with
  | none, _ => 0
  | some c, none => 1 + c.epoch * 4
  | some c, some p => 2 + c.epoch * 4 + p.epoch * 64

/-- BLANK chunks in live regions (0x3402.04). -/
def State.blankChunks (s : State) : Nat :=
  s.regions.slots.foldl (fun n (x : Nat × RegionSlot) =>
    let e := x.2.committed
    if e.live then n + (((upTo e.size).map (e.chunkBase + ·)).filter s.blank).length else n) 0

/-- Lines of the cache dirty on a slice (0x3001.05). -/
def State.dirtyLines (s : State) (slice : Nat) : Nat :=
  (s.loft.lines.filter fun (x : Nat × LoftLine) => x.1 / 131072 == slice && x.2.dirty != 0).length

/-- Bags in progress (0x5300.04). -/
def State.bagsInUse (s : State) : Nat := s.shot.shots.foldl (fun n x => n + x.work.bags.length) 0

/-- Contexts in use (0x5000.06). -/
def State.ctxsInUse (s : State) : Nat := (s.shot.ctxs.filter fun (x : Nat × Ctx) => x.2.state != 0).length

/-- Migration status (0x6030.02). -/
def State.migStatus (s : State) (st : Nat) : Nat :=
  let k := s.stack st
  (match k.mig with
    | none => 0
    | some m => m.src % 256 + m.dst % 256 * 2 ^ 8 + m.wm % 2 ^ 22 * 2 ^ 16 + b2n m.urgent * 2 ^ 38) + k.migQ.length % 256 * 2 ^ 39

/-- Sweep progress (0x6802.02). -/
def RegionSlot.sweepStatus (sl : RegionSlot) : Nat :=
  match sl.sweep with
  | none => 0
  | some w => w.done % 2 ^ 32 + 2 ^ 32

/-- The rebuild under way (0x6031.04). -/
def State.rebuildStatus (s : State) : Nat :=
  match s.regions.slots.find? fun (x : Nat × RegionSlot) => x.2.rebuildWm.isSome with
  | none => 0
  | some (r, sl) => r + sl.rebuildWm.getD 0 % 2 ^ 36 * 2 ^ 12

/-- An entry of a bank's activate table (0x2007.07): element = PC x 1,024 + SID x 256 + bank x 16 + entry. -/
def State.activateEntry (s : State) (st el : Nat) : Nat :=
  let a := Map.look ({} : ActEntry) (el % 16) ((s.pc (pcNo st (el / 1024))).bank (el / 16 % 64)).table
  a.count % 2 ^ 32 + a.row % 32768 * 2 ^ 32

/-- The value of an element, as its object's chapter has it read; an object that nothing here names reads the value last
accepted or committed (R463). -/
def State.viewElem (s : State) (ix sub el : Nat) : Nat :=
  let st := stackOfIx ix
  let ob := s.obj ix sub el
  if reservedElem ix sub el then 0 else
  match normIx ix, sub with
  | 0x1F01, 1 => profileImage ob
  | 0x1000, 1 => 0x54342D564B
  | 0x1000, 2 => Config.stepping % 65536
  | 0x1000, 3 => s.keys.runVersion
  | 0x1000, 4 => Config.serial % 2 ^ 64
  | 0x1000, 5 => Config.vendor % 2 ^ 32
  | 0x1100, 1 => s.block.state.code
  | 0x1100, 3 => s.readiness el
  | 0x1100, 4 => s.block.safeCause
  | 0x1200, 1 =>
    let x := s.session el
    b2n x.isOpen + x.transport % 4 * 2 + x.roles % 16 * 8 + x.tenant % 1024 * 128
  | 0x1200, 4 =>
    match (upTo 4).find? fun n => (s.session n).scopes.contains el with
    | none => 255
    | some n => n + ((s.session n).leaseEnd - s.time.frame) % 2 ^ 32 * 256
  | 0x1300, 1 => (match s.mgmt.events.find? fun (x : Nat × EventRec) => x.1 == el with | some x => x.2.pack | none => 0)
  | 0x1F00, 1 => s.live' 0x1F00 1 0
  | 0x2000, 1 => (s.stack st).identity
  | 0x2002, 2 => s.tParam st el
  | 0x2008, 2 => (s.pc (pcNo st el)).sr.code
  | 0x2008, 8 => (s.stack st).power.code
  | 0x2006, 2 => s.time.frame % s.windowFrames st
  | 0x2007, 7 => s.activateEntry st el
  | 0x3000, 1 => (Map.look none el s.loft.partNext).getD ob
  | 0x3002, 1 => (s.freePlaces el).length
  | 0x3002, 2 => s.unitsFree el
  | 0x3003, 5 => (s.loft.remaps.filter fun x => x.1 == el).length
  | 0x3400, 1 => (s.slot el).committed.pack el
  | 0x3400, 2 => (match (s.slot el).held with | some o => o.pack el | none => 0)
  | 0x3400, 3 => (s.regions.slots.filter fun (x : Nat × RegionSlot) => x.2.committed.live).length
  | 0x3401, 1 => 64512 - covered (s.takenExtents el none)
  | 0x3401, 2 => longestRun (s.takenExtents el none) 64512
  | 0x3401, 3 => 2097152 - covered (s.takenChunks none)
  | 0x3402, 4 => s.blankChunks
  | 0x3402, 7 => s.regions.fills.length
  | 0x4020, 2 => s.planOf el
  | 0x4020, 3 => s.refreshMax el
  | 0x4020, 4 => if s.ledgerOff el then 0 else ceilDiv (s.promised4 el) 4
  | 0x5001, 2 => (s.list el).length
  | 0x5002, 1 => (s.tslot el).committed
  | 0x5002, 2 => (match (s.tslot el).held with | some o => o.toNat | none => 0)
  | 0x5004, 1 => (s.ctx el).pack
  | 0x5200, 1 => bitmap 64 fun i =>
      s.unitState (unitRedLane i) == 0 && s.obj 0x3005 1 i == 0 && s.readiness (32 + i / 16) != 3 &&
        decide (0 < partEngine (s.obj 0x3000 1 (i / 16)))
  | 0x5200, 2 => (upTo 64).foldl (fun n i => n + s.headersUsed i) 0
  | 0x5300, 6 => bitmap 32 fun i => s.unitState (unitGather i) == 0
  | 0x5400, 1 => bitmap 4 fun i => s.unitState (unitArray i) == 0 && s.readiness (36 + i) != 3
  | 0x5400, 3 => (s.shot.shots.filter (·.stores)).length
  | 0x5600, 1 =>
    let f := Map.look ({} : FilterSet) el s.shot.sets
    f.keys % 2 ^ 48 + f.stash.length % 128 * 2 ^ 48 + b2n f.damaged * 2 ^ 55
  | 0x5800, 4 => s.packet.pages - s.packet.usedPages.length
  | 0x5801, 2 => (s.egress el).occ
  | 0x5801, 3 => (s.egress el).recs.length
  | 0x5801, 4 => (s.egress el).link
  | 0x5802, 8 => s.packet.bp.length
  | 0x5802, 9 => (match Map.look none el s.packet.bp with | some q => 1 + q % 512 * 2 | none => 0)
  | 0x6800, 2 => s.keys.running
  | 0x6800, 3 => s.keys.minimum
  | 0x6801, 1 => (s.slot el).keyStatus
  | 0x6801, 4 => (s.slot el).homeMask % 2 ^ 32 + (s.slot el).homeBase % 65536 * 2 ^ 32
  | 0x7001, 2 => s.domainState el
  | 0x7800, 1 => s.stamp
  | 0x7800, 2 => s.time.frame
  | 0x8801, 6 => s.test.slices.length
  | 0x9000, 1 | 0x9001, 1 | 0x9002, 1 => ob + s.stamp * 2 ^ 64
  | 0xF000, 2 => b2n s.compat
  | _, _ => ob

/-! ### Objects by name -/

/-- The native index that an index names: the aliases of compatibility mode (R467, R500). -/
def aliasIx (compat : Bool) (ix : Nat) : Nat :=
  if !compat then ix
  else
    match ix with
    | 0xA000 => 0x1000 | 0xA100 => 0x1100 | 0xA300 => 0x1300 | 0xB000 => 0x3400 | 0xB400 => 0x4000 | 0xC000 => 0x6000
    | 0xD000 => 0x7000 | 0xD010 => 0x7010 | 0xE000 => 0x9000 | 0xE001 => 0x9001 | 0xE002 => 0x9002
    | _ => ix

/-- The highest sub-index of an index in use (R426), none when it has no objects. -/
def highestSub (ix : Nat) : Option Nat :=
  let l := objRows.filter fun r => r.ix == normIx ix
  if l.isEmpty then none else some (l.foldl (fun m r => max m r.sub) 0)

/-- OCTETS objects (R427, R462). -/
def isOctets (ix sub : Nat) : Bool :=
  (ix == 0x1000 && sub == 1) || (normIx ix == 0x2000 && sub == 1) || (ix == 0x5900 && sub == 1) || (ix == 0x6800 && sub == 1)

/-- The bytes of an OCTETS object. -/
def State.octets (s : State) (ix sub : Nat) : List (BitVec 8) :=
  if ix = 0x6800 then Config.certificate
  else leBytes (match objRow? ix sub with | some r => r.size | none => 0) (s.viewElem ix sub 0)

/-! ### Who reads what -/

/-- Whether a session's rights are more than its tenant's (Operator, Keeper or Observer). -/
def Session.wide (x : Session) : Bool := x.has (roleO + roleK + roleB)

/-- Whether the capture ring lies in a region of a tenant (R354). -/
def State.ringOf (s : State) (tenant : Nat) : Bool :=
  crPlace s.capRing == 2 && s.regionTenant (crRegion s.capRing) == some tenant

/-- The check of a READ's role for an object as a whole (check 3 of R436): zero when the session reads it. -/
def State.readRole (s : State) (x : Session) (ix sub : Nat) : Nat :=
  let i := normIx ix
  let row := objRow? ix sub
  if (match row with | some r => r.acc == 2 | none => false) then abRoleRead
  else if x.roles = 0 ∧ ix ≠ 0x1000 ∧ ix ≠ 0x1100 then abRoleRead
  else if (i = 0x2007 ∧ sub = 7) ∨ (ix = 0x8002 ∧ sub = 1) then refuseIf (!x.has roleO) abRoleRead
  else if ix = 0x5900 ∧ sub = 5 then refuseIf (!x.has (roleO + roleB)) abRoleRead
  else if x.wide then 0
  else if ix = 0x5900 ∧ (sub = 3 ∨ sub = 4) then refuseIf (!s.ringOf x.tenant) abTenant
  else if (0x5800 ≤ ix ∧ ix ≤ 0x5802) ∨ ix = 0x5900 ∨ (ix = 0x5901 ∧ sub ≠ 4) then abRoleRead
  else if 0x3401 ≤ ix ∧ ix ≤ 0x3403 then abRoleRead
  else if ix = 0x3400 ∧ sub = 3 then abRoleRead
  else if 0x4000 ≤ ix ∧ ix ≤ 0x4004 ∧ ix ≠ 0x4003 then abRoleRead
  else 0

/-- Whether a counter's filter is confined to a tenant's regions (R494). -/
def State.confined (s : State) (w tenant : Nat) : Bool :=
  if bits w 24 23 = 1 then s.regionTenant (bits w 36 25) == some tenant
  else if bits w 24 23 = 2 then
    s.regions.slots.any fun (x : Nat × RegionSlot) =>
      x.2.now.live && x.2.now.tenant == tenant && decide (x.2.now.base ≤ bits w 63 37 * 2097152) &&
        decide ((bits w 63 37 + bits w 90 64) * 2097152 ≤ x.2.now.base + x.2.now.size * 2097152)
  else false

/-- Whether a counter is granted to a tenant and confined for it (R465, R494): its number in 0x9004.01. -/
def State.granted (s : State) (no tenant : Nat) : Bool :=
  let g := s.obj 0x9004 1 no
  bit g 15 && g % 1024 == tenant && s.confined (if no < 1024 then s.obj 0x9000 2 no else s.obj 0x9002 2 (no - 1024)) tenant

/-- Whether a session reads an element; one that it may not read returns zeros (R461). -/
def State.readsElem (s : State) (x : Session) (n ix sub el : Nat) : Bool :=
  if ix = 0x1301 then decide (el = n)
  else if x.wide then true
  else
    let own (r : Nat) : Bool := (s.slot r).committed.live && (s.slot r).committed.tenant == x.tenant
    match ix, sub with
    | 0x1200, 1 | 0x1200, 5 | 0x1200, 6 => decide (el = n)
    | 0x1300, 1 => (match s.mgmt.events.find? fun (y : Nat × EventRec) => y.1 == el with | some y => x.sees y.2 | none => false)
    | 0x3400, 1 | 0x6031, 3 | 0x6801, 4 => own el
    | 0x3400, 2 => (match (s.slot el).held with | some o => o.tenant == x.tenant | none => false)
    | 0x4003, 1 => own (resRegion (s.obj 0x4003 1 el))
    | 0x5001, 1 => bits (s.obj 0x5001 1 el) 9 0 == x.tenant
    | 0x5002, 1 => teType (s.tslot el).committed != 0 && teTenant (s.tslot el).committed == x.tenant
    | 0x5002, 2 => (match (s.tslot el).held with | some o => teTenant o.toNat == x.tenant | none => false)
    | 0x5600, 1 => teTenant (s.tslot el).now.toNat == x.tenant
    | 0x5004, 1 | 0x6011, 1 => (s.ctx el).tenant == x.tenant
    | 0x6050, 1 => own (s.obj 0x6050 1 el % 4096)
    | 0x9000, 1 => s.granted el x.tenant
    | 0x9002, 1 => s.granted (1024 + el) x.tenant
    | 0x9003, 1 => s.granted (s.obj 0x9003 1 el % 2048) x.tenant
    | 0x9000, _ | 0x9001, _ | 0x9002, _ | 0x9004, _ => false
    | _, _ => true

end Sys2Proof.Machine
end

