-- ==== Sys2Proof/Machine/Frames.lean ====
section
/-! DEFINITION. Frames.lean: the frame boundary (R27): every change, decision and allotment that the manual ties to it, in
parts. -/
namespace Sys2Proof.Machine

/-! ### Block state -/

/-- A state change accepted under R440 takes effect: whether it enters SERVICE, and the state after. On entry to SAFE every
shot is aborted with cause STATE. -/
def State.stateBoundary (s : State) : Bool × State :=
  match s.block.request with
  | none => (false, s)
  | some goal =>
    let old := s.block.state
    let s1 := (s.modBlock fun b => { b with state := goal, request := none, safeCause := if goal == .safe then 3 else b.safeCause }).logAsked
      10 8 0 (old.code + goal.code * 2 ^ 8)
    let n := s.asker (askKey 10 8 0)
    -- what follows from the change is that session's too: the aborts of SAFE, the join step of SERVICE
    if goal == .safe then (false, (s1.asks (askKey 5 1 8) n).askAborts (fun _ => true) 8 goal.code)
    else if goal == .service then (true, s1.asks (askKey 8 1 1) n)
    else (false, s1)

/-- Readiness results of the frame before (R470); a quadrant that becomes ready takes no entry of a failed slice (R221). -/
def State.readyBoundary (s : State) : State :=
  let l := s.block.readyNext
  let s1 := (s.modBlock fun b => { b with readyNext := [] }).each l fun s x => if s.readiness x.1 = x.2 then s else s.setReady x.1 x.2
  if l.any fun x => decide (32 ≤ x.1) && decide (x.1 < 36) && x.2 == 1 then
    s1.each ((upTo 64).filter fun i => s1.obj 0x3005 1 i == 1 || s1.obj 0x3005 1 i == 2) State.moveEntries
  else s1

/-- Sessions that ended free their numbers (R431). -/
def State.sessionBoundary (s : State) : State :=
  s.each ((upTo 4).filter fun n => (s.session n).isOpen && (s.session n).ending) State.dropSession

/-! ### Objects -/

/-- Values accepted or committed in the frame before come into force (R36, R463, R465): counters whose configuration is new
start from zero, and a move to Regulated fills the regulators (R112). -/
def State.objectBoundary (s : State) : State :=
  let regulated := s.live' 0x4000 1 0 != 0 && s.obj 0x4000 1 0 == 0
  let s1 : State := { s with live2 := s.live, live := s.objs, tokens := if regulated then [] else s.tokens }
  (s1.each s1.test.cfgNew fun s no =>
    (if no < 1024 then s.setObj 0x9000 1 no 0 else s.setObj 0x9002 1 (no - 1024) 0).modTest fun t =>
      { t with capture := Map.put {} {} no t.capture, sampledAt := Map.put 0 0 no t.sampledAt }).modTest fun t => { t with cfgNew := [] }

/-- Reports that change at each boundary (R166, R246, and the object tables of 10, 13, 17 and 18). -/
def State.reportBoundary (s : State) : State :=
  let s1 := s.each s.pcs fun s x => s.stSet (x.1 / 64) 0x2007 5 (x.1 % 64) x.2.triggers.length
  let s2 := s1.each (upTo 64) fun s i => s.setObj 0x3001 5 i (s.dirtyLines i)
  let s3 := (s2.setObj 0x5000 6 0 s2.ctxsInUse).setObj 0x5300 4 0 s2.bagsInUse
  let s4 := (s3.each (upTo 32) fun s st => s.setObj 0x6030 2 st (s.migStatus st)).setObj 0x6031 4 0 s3.rebuildStatus
  s4.each s4.regions.slots fun s x => s.setObj 0x6802 2 x.1 x.2.sweepStatus

/-- What is counted by reel starts anew (R152, R189, R234), and the buckets are due to leak (R364). -/
def State.reelBoundary (s : State) : State :=
  let f := s.time.frame
  let s1 := s.modTest fun t => { t with boundaryLeak := decide (f % (1000 * s.live' 0x6002 3 0) = 0) }
  if f % 1000 ≠ 0 then s1
  else
    let fresh (x : PcState) : PcState :=
      { x with parityReel := 0, lanes := (x.lanes.map fun (l : Nat × LaneCal) => (l.1, { l.2 with located := 0 })).filter fun l => l.2 != ({} : LaneCal) }
    (s1.eachPc fresh).modLoft fun l => { l with bad := [] }

/-! ### Sheets and allotments -/

/-- Whether a pseudo-channel was idle in the frame that ends (R167). -/
def PcState.wasIdle (x : PcState) : Bool :=
  !x.used && x.queue.isEmpty && x.sheet.cut.isNone && !x.sheet.deferred && x.sheet.cmds.all fun d => d.kind == 0

/-- The sheet built in the frame before takes effect (R36), and with it the cuts asked for in that frame fall due; a retraining cut
that has ended leaves its proposals to apply (R192), a timing-switch cut the new set (R176). Idle frames are counted (R167). -/
def PcState.nextSheet (x : PcState) : PcState :=
  let ended := match x.sheet.cut with
    | some c => match c.kind with | .retrain _ => some x.sheet.cal | _ => none
    | none => none
  { x with
    lastCut := x.sheet.cut.map (·.kind)
    switched := x.switched || (match x.sheet.cut with | some c => c.kind == .switch | none => false)
    idle := if x.wasIdle then x.idle + 1 else 0
    used := !x.queue.isEmpty
    cutDue := x.cutDue ++ x.cutAsked
    cutAsked := []
    pendingCal := ended.orElse fun _ => x.pendingCal
    sheet := x.sheetNext.getD {}
    sheetNext := none }

/-- Every controller takes its sheet; a timing switch asked for in the frame before has its first cut due (R36, R175). -/
def State.sheetBoundary (s : State) : State :=
  (s.eachPc PcState.nextSheet).each ((upTo 32).filter fun st => (s.stack st).switch.isSome && (s.stack st).switchNext.isNone) fun s st =>
    s.modStack st fun k => { k with switchNext := some 0 }

/-- The thermal Assured scale of a level, in 1/256 (R206). -/
def thermalScale (level : Nat) : Nat := if level < 2 then 256 else if level = 2 then 153 else 0

/-- The ledger of a stack for the frame that opens (R119, R126, R127): D, a deficit run's events and count. -/
def State.deficitBoundary (s : State) (st : Nat) : State :=
  let k := s.stack st
  let p := ceilDiv (s.promised4 st) 4
  let body := st + k.dPlan % 2 ^ 32 * 2 ^ 32 + p % 2 ^ 32 * 2 ^ 64
  let s1 := s.modStack st fun k => { k with dNow := k.dPlan, deficit := k.deficitNext }
  let s2 := if k.deficitNext then s1.bump 0x4020 6 st 1 else s1
  if k.deficitNext && !k.deficit then s2.logEvent 6 1 (body + k.scaleNext * 2 ^ 96)
  else if k.deficit && !k.deficitNext then s2.logEvent 6 2 body
  else s2

/-- The Assured scale in force: the lowest of ledger, thermal and power scales (R126, R202, R204). -/
def State.scaleOf (s : State) (st : Nat) : Nat :=
  let k := s.stack st
  min (min k.scaleNext (thermalScale k.levelArb)) (min s.test.powerScale k.trimScale)

/-- The scale that a reservation's credit takes: the power scale does not apply to the Stockroom's (R337). -/
def State.scaleFor (s : State) (st w : Nat) : Nat :=
  let k := s.stack st
  if resMaster w = 0x29 then min k.scaleNext (thermalScale k.levelArb) else s.scaleOf st

/-- The credits and counts of a stack for the frame that opens (R106, R125, R202, R206, R388, R413). -/
def State.creditBoundary (s : State) (st : Nat) : State :=
  let f := s.scaleOf st
  let s1 := if s.obj 0x4020 5 st = f then s else s.setObj 0x4020 5 st f
  let give (i : Nat) : Nat := s.shareOf (s.live' 0x4003 1 i) st * s.scaleFor st (s.live' 0x4003 1 i) / 256
  let active := (upTo 1024).filter fun i => resActive (s.live' 0x4003 1 i)
  s1.modStack st fun k =>
    { k with
      credit := active.foldl (fun (m : Map Nat) i => Map.put 0 (give i) i m) []
      critUsed := [], upkeepUsed := 0, critFrame := 0, bulkUsed := 0, sweepUsed := 0, dollyUsed := 0 }

/-- Regulators are refilled by their rate, up to their depth (R112), from what was left under the depth of the frame before; the
Loft's port shares and the engines' duties start anew (R201, R211, R229). -/
def State.refill (s : State) : State :=
  let spent (i : Nat) : Nat := s.live' 0x4001 5 i - (s.live2' 0x4001 5 i - Map.look 0 i s.tokens + s.live' 0x4001 4 i)
  let tokens := (upTo 256).foldl (fun (m : Map Nat) i => Map.put 0 (spent i) i m) []
  (({ s with tokens } : State).modLoft fun l => { l with rdLane := [], wrLane := [], rdAll := [], wrAll := [], laneUsed := [] }).modTest fun t =>
    { t with issued := [] }

/-! ### Versions -/

/-- Fetches of lines of a region are given up (R225). -/
def State.unfetchRegion (s : State) (r : Nat) : State :=
  s.unfetch fun key => (Map.look ({} : LoftLine) key s.loft.lines).region == r

/-- A region entry that is no longer live (R89): its Loft lines go, its reservations are free (R124), counters that filter
on it stop (R487), and its loss marks are cleared. -/
def State.releaseBoundary (s : State) (r : Nat) : State :=
  let backs : State := { s with reqs := s.reqs.filter fun q => !(q.region == r && match q.dest with | .back _ => true | _ => false) }
  let s1 := (backs.unfetchRegion r).modLoft fun l =>
    { l with lines := l.lines.filter fun (x : Nat × LoftLine) => x.2.region != r
             wbs := l.wbs.filter fun w => w.region != r }
  let s2 := s1.each ((upTo 1024).filter fun i => let w := s.obj 0x4003 1 i; resActive w && resRegion w == r) fun s i => s.setNow 0x4003 1 i 0
  let stop (s : State) (ix el no : Nat) : State :=
    let w := s.obj ix 2 el
    if bits w 24 23 = 1 ∧ bits w 36 25 = r then (s.setNow ix 2 el (w - bits w 7 0)).setObj 0x9004 1 no 0 else s
  let s3 := s2.each (upTo 1024) fun s i => stop s 0x9000 i i
  let s4 := s3.each (upTo 64) fun s i => stop s 0x9002 i (1024 + i)
  ((s4.setObj 0x6031 3 r 0).modSlot r fun sl => { sl with lost := false, lostG := [], sweep := none, dirtySlices := 0 }).modTest fun t =>
    { t with rebuild := t.rebuild.filter fun (x : Nat × Nat) => x.1 != r }

/-- A committed region entry becomes current (R92); a line in the Loft that is clean leaves a region that is no longer
cached (R225). -/
def State.switchRegion (s : State) (r : Nat) : State :=
  match (s.slot r).next with
  | none => s
  | some n =>
    let o := (s.slot r).now
    let s1 := s.modSlot r fun sl =>
      { sl with
        now := n, next := none, old := if o.live then some o else none
        -- a region created has its home placement from here on (R405)
        homeMask := if o.live then sl.homeMask else n.stackMask
        homeBase := if o.live then sl.homeBase else n.extentBase }
    if (s.slot r).rebuilds then
      -- the version without the lost stacks (R81, R395)
      (s1.modSlot r fun sl => { sl with rebuildWm := some 0, pulled := [], lost := false }).each
        ((setBits 32 o.stackMask).filter fun st => !bit n.stackMask st) State.settleLost
    else if o.live && !n.live then s1.releaseBoundary r
    else if o.loft = 1 ∧ n.loft ≠ 1 then
      (s1.unfetchRegion r).modLoft fun l => { l with lines := l.lines.filter fun (x : Nat × LoftLine) => x.2.region != r || x.2.dirty != 0 }
    else s1

/-- A committed shot-table entry becomes current (R248); the contents of a filter set go with the old version. -/
def State.switchEntry (s : State) (t : Nat) : State :=
  match (s.tslot t).next with
  | none => s
  | some n =>
    let o := (s.tslot t).now
    let s1 := s.modTslot t fun x => { x with now := n, next := none, old := if teType o.toNat = 0 then none else some o }
    let set := Map.look ({} : FilterSet) t s1.shot.sets
    s1.modShotS fun y => { y with sets := Map.put {} set (t + 4096) (Map.put {} {} t y.sets) }

/-- Keys and versions at a boundary (R92, R248, R412, R413). -/
def State.versionBoundary (s : State) : State :=
  let s0 := s.noteDrained
  let s1 := s0.each ((s0.regions.slots.filter fun (x : Nat × RegionSlot) => x.2.next.isSome).map (·.1)) State.switchRegion
  let s2 := s1.each ((s1.shot.table.filter fun (x : Nat × TableSlot) => x.2.next.isSome).map (·.1)) State.switchEntry
  let s3 := s2.each ((s2.regions.slots.filter fun (x : Nat × RegionSlot) => x.2.keyNext.isSome).map (·.1)) State.takeKey
  s3.eraseBoundary.each ((s3.regions.slots.filter fun (x : Nat × RegionSlot) =>
      x.2.rebuildWm.isNone && (match x.2.sweep with | some w => w.finished | none => false)).map (·.1)) fun s r =>
    s.modSlot r fun sl => { sl with sweep := sl.sweep.map fun w => { w with destroy := true } }

/-- A migration whose last line is visible and whose held writes are applied commits (R391), and one that is queued may start
(R386). -/
def State.commitDue (s : State) : State :=
  s.each ((upTo 32).filter fun st => (s.stack st).mig.isSome || !(s.stack st).migQ.isEmpty) fun s st => s.modStack st fun k =>
    { k with
      migGo := !k.migQ.isEmpty
      migCommit := k.migCommit || (match k.mig with
        | some m => m.wm == 2097152 && !k.heldWrites.any fun e => plUnit e.place == m.src
        | none => false) }

/-- The retraining cuts due for the frame after the one that opens (R36, R188, R189), gated stacks included (R190). -/
def State.cutBoundary (s : State) : State :=
  s.each ((upTo 32).filter fun st => let k := s.stack st; k.power != .off && (k.power != .bringUp || decide (4 ≤ k.bring))) fun s st =>
    s.noteCuts st (s.time.frame + 1)

/-- The patrol starts anew from step 0 when it is switched on (R367). -/
def State.patrolBoundary (s : State) : State :=
  if s.live2' 0x6001 2 0 = 0 ∧ s.live' 0x6001 2 0 = 1 then
    s.each (upTo 32) fun s st => (s.setObj 0x6001 3 st 0).modStack st fun k =>
      { k with patrolStart := s.time.frame, patrolFor := s.live' 0x6001 1 0 }
  else s

/-! ### The boundary -/

/-- Time, state and what comes into force. -/
def State.boundaryOpen (s : State) : State :=
  let x := s.stateBoundary
  let s1 := (x.2.scanBoundary.timeBoundary x.1).objectBoundary
  let s2 := (s1.cutBoundary.reelBoundary.sheetBoundary).retrainBoundary
  ((s2.patrolBoundary.sessionBoundary).readyBoundary).pauseWaits

/-- Heat, sleep and power (R171, R199, R206, R210). -/
def State.boundaryPower (s : State) : State :=
  ((s.each (upTo 32) State.thermalBoundary).each (upTo 32) State.sleepBoundary).gateBoundary

/-- Losses, versions, shots and packets. -/
def State.boundaryWork (s : State) : State :=
  let s1 := (s.lossBoundary.versionBoundary.rebuildBoundary.commitDue).partBoundary
  let s2 := s1.abortListed.decideShots
  let s3 := if s2.block.scanEn then s2 else s2.admitAll
  s3.slipBoundary.packetBoundary

/-- The ledger and the Gaffer's allotments for the frame that opens. -/
def State.boundaryAllot (s : State) : State :=
  let s1 := (s.gaffer.each (upTo 32) State.trimStack).trimReport
  let s2 := s1.each (upTo 32) State.deficitBoundary
  (s2.each (upTo 32) State.creditBoundary).refill

/-- FRAME_BOUNDARY (R27). Before the dictionary is reachable only the time moves on; in OFF nothing does. -/
def execFrameBoundary (s : State) : Host.Outcome State Fault Refusal :=
  match s.block.boot with
  | .down => .next s
  | .up => .next s.boundaryOpen.boundaryPower.boundaryWork.boundaryAllot.reportBoundary
  | _ => .next ((s.scanBoundary.timeBoundary false).objectBoundary)

end Sys2Proof.Machine
end

