-- ==== Sys2Proof/Machine/I3c.lean ====
section
/-! DEFINITION. I3c.lean: the I3C sideband (R59): dynamic address, common command codes and MCTP transfers. -/
namespace Sys2Proof.Machine

/-- Sessions bound to the I3C transport end (R431). -/
def State.endI3c (s : State) : State :=
  s.each (upTo 4) fun s n => if (s.session n).isOpen && (s.session n).transport == 0 then s.endSession n else s

/-- A common command code reaches the target: it answers while it has power and is out of reset. -/
def State.i3c (s : State) (f : State → State) : State := if s.block.rstLow then s else f s

/-- A code that the target answers at its dynamic address alone. -/
def State.i3cAt (s : State) (bytes : State → List Nat) : State :=
  s.i3c fun s => if s.mgmt.i3cAddr.isSome then s.emit (.i3c (bytes s)) else s

/-- Whether an in-band interrupt is wanted (R59): events are enabled and an I3C session has an event to see. -/
def State.inBand (s : State) : Bool :=
  s.mgmt.i3cAddr.isSome && bit s.mgmt.i3cEvents 0 && (upTo 4).any fun n => (s.session n).transport == 0 && s.irq n

/-- ENTDAA (R59, R431). -/
def execEntdaa (addr : BitVec 7) (s : State) : Host.Outcome State Fault Refusal :=
  .next (s.i3c fun s => (s.endI3c).modMgmt fun m => { m with i3cAddr := some addr.toNat })

/-- RSTDAA (R59, R431). -/
def execRstdaa (s : State) : Host.Outcome State Fault Refusal :=
  .next (s.i3c fun s => (s.endI3c).modMgmt fun m => { m with i3cAddr := none })

/-- ENEC (R59): target events are enabled. -/
def execEnec (mask : BitVec 8) (s : State) : Host.Outcome State Fault Refusal :=
  .next (s.i3c fun s => s.modMgmt fun m => { m with i3cEvents := m.i3cEvents ||| mask.toNat })

/-- DISEC (R59): target events are disabled. -/
def execDisec (mask : BitVec 8) (s : State) : Host.Outcome State Fault Refusal :=
  .next (s.i3c fun s => s.modMgmt fun m => { m with i3cEvents := m.i3cEvents &&& (255 - mask.toNat) })

/-- GETPID (R59). -/
def execGetpid (s : State) : Host.Outcome State Fault Refusal := .next (s.i3cAt fun _ => Config.i3cPid)

/-- GETBCR (R59). -/
def execGetbcr (s : State) : Host.Outcome State Fault Refusal := .next (s.i3cAt fun _ => [Config.i3cBcr])

/-- GETDCR (R59). -/
def execGetdcr (s : State) : Host.Outcome State Fault Refusal := .next (s.i3cAt fun _ => [Config.i3cDcr])

/-- GETMRL (R59): most significant byte first (log 12). -/
def execGetmrl (s : State) : Host.Outcome State Fault Refusal :=
  .next (s.i3cAt fun s => [s.mgmt.i3cMrl / 256, s.mgmt.i3cMrl % 256])

/-- GETMWL (R59). -/
def execGetmwl (s : State) : Host.Outcome State Fault Refusal :=
  .next (s.i3cAt fun s => [s.mgmt.i3cMwl / 256, s.mgmt.i3cMwl % 256])

/-- SETMRL (R59). -/
def execSetmrl (v : BitVec 16) (s : State) : Host.Outcome State Fault Refusal :=
  .next (s.i3c fun s => s.modMgmt fun m => { m with i3cMrl := v.toNat })

/-- SETMWL (R59). -/
def execSetmwl (v : BitVec 16) (s : State) : Host.Outcome State Fault Refusal :=
  .next (s.i3c fun s => s.modMgmt fun m => { m with i3cMwl := v.toNat })

/-- MCTP transmission unit of the sideband (R59): 64 B at least, 256 B at most. PRESUMED: negotiated by the maximum write
length, which holds the packet's header and check byte besides (log 12). -/
def State.mctpUnit (s : State) : Nat := min 256 (max 64 (s.mgmt.i3cMwl - 5))

/-- I3C_MCTP_TRANSFER (R59, R429): one packet of a message under MCTP joins those of its endpoint, or ends the message, whose
own command then follows. PRESUMED: one longer than the transmission unit is dropped, and its message with it (log 12). -/
def execI3cMctpTransfer (rq : Rq) (bytes : Nat) (last : Bool) (s : State) : Host.Outcome State Fault Refusal :=
  let e := rq.endpoint.toNat
  if s.block.rstLow || s.mgmt.i3cAddr.isNone then .next s
  else
    let n := if last || decide (s.mctpUnit < bytes) then 0 else Map.look 0 e s.mgmt.i3cParts + bytes
    .next (s.modMgmt fun m => { m with i3cParts := Map.put 0 n e m.i3cParts })

end Sys2Proof.Machine
end

