-- ==== Sys2Proof/Machine/Rykin.lean ====
section
/-! DEFINITION. Rykin.lean: the dictionary protocol (R426 to R449): reads and writes, locks, sessions' ends, event
acknowledgement and state requests, and the transports that bring requests (R59 to R61). -/
namespace Sys2Proof.Machine

/-! ### Reads -/

/-- Elements of a table, or 1. -/
def ObjRow.elems (r : ObjRow) : Nat := max 1 r.count

/-- A session's staged value of an element. -/
def Session.stagedAt (x : Session) (ix sub el : Nat) : Option Nat :=
  (x.staged.find? fun y => y.index == ix && y.sub == sub && y.elem == el).map fun y => lockedValue ix sub el y.value

/-- What a READ answers (R436, R459 to R463): the code, and the data. A session number is given inside a session. -/
def State.readObject (s : State) (n : Option Nat) (ix sub el : Nat) (staged : Bool) (length : Nat) : Nat × List (BitVec 8) :=
  let x : Session := match n with | some k => s.session k | none => {}
  let barred := match n with | some _ => s.safeRefuses ix | none => false
  if sub = 0 then
    match highestSub ix with
    | none => (abNoObject, [])
    | some h =>
      if el ≠ 0 then (abElement, [])
      else if (upTo (h + 1)).all fun i => (objRow? ix i).isNone || s.readRole x ix i != 0 then (abRoleRead, [])
      else if length ≠ 1 then (abLength, [])
      else if barred then (abBlockState, [])
      else (0, leBytes 1 h)
  else
    match objRow? ix sub with
    | none => (abNoObject, [])
    | some r =>
      if r.elems ≤ el then (abElement, [])
      else if s.readRole x ix sub ≠ 0 then (s.readRole x ix sub, [])
      else if 65536 < length then (abTooLong, [])
      else if isOctets ix sub then
        (if barred then (abBlockState, []) else (0, (s.octets ix sub).take length))
      else if length % r.size ≠ 0 ∨ (r.count = 0 ∧ length ≠ r.size) then (abLength, [])
      else if ((ix == 0x9000 || ix == 0x9001 || ix == 0x9002) && sub == 1) && length != r.size then (abLength, [])
      else if r.elems < el + length / r.size then (abElement, [])
      else if barred then (abBlockState, [])
      else
        (0, (upTo (length / r.size)).flatMap fun i =>
          let own := if staged then x.stagedAt ix sub (el + i) else none
          let seen := match n with | some k => s.readsElem x k ix sub (el + i) | none => true
          leBytes r.size (if seen then own.getD (s.viewElem ix sub (el + i)) else 0))

/-- DICTIONARY_READ (R433): outside a session only 0x1000 and 0x1100 are read (R429). -/
def execDictionaryRead (rq : Rq) (o : Obj) (staged : Bool) (length : Nat) (s : State) : Host.Outcome State Fault Refusal :=
  let ix := aliasIx s.compat o.index.toNat
  let sub := o.sub.toNat
  let el := o.elem.toNat
  match s.gate rq with
  | .drop s => .next s
  | .noSession s =>
    if rq.session.isNone && (ix == 0x1000 || ix == 0x1100) then
      let r := s.readObject none ix sub el staged length
      .next (if r.1 = 0 then s.answer rq 1 0 r.2 else s.refuse rq 1 r.1 ix sub el)
    else .next (s.refuse rq 1 abSession ix sub el)
  | .go n s =>
    let r := s.readObject (some n) ix sub el staged length
    .next (if r.1 = 0 then s.answer rq 1 0 r.2 else s.refuse rq 1 r.1 ix sub el)

/-! ### Writes -/

/-- The roles that write an object (R418, R456), as a mask. -/
def writers (ix sub : Nat) : Nat :=
  if 0x6800 ≤ ix ∧ ix ≤ 0x6810 then roleK
  else if ix = 0x1301 then roleAll
  else if ix = 0x5002 ∨ ix = 0x5003 ∨ (ix = 0x5001 ∧ sub = 3) ∨ (ix = 0x5900 ∧ sub = 4) then roleO + roleT
  else roleO

/-- Whether an element may be written by a session's tenant rights (R436, R461, R511): zero when it may. -/
def State.writeTenant (s : State) (x : Session) (n ix el w : Nat) : Nat :=
  if ix = 0x1301 then refuseIf (el != n) abTenant
  else if ix = 0x5002 ∧ !x.has roleO then
    let o := (s.tslot el).committed
    refuseIf ((teType o != 0 && teTenant o != x.tenant) || (teType w != 0 && teTenant w != x.tenant)) abTenant
  else 0

/-- The scopes that a staged write needs (R444, R453, R511). -/
def State.scopesFor (s : State) (ix sub el w : Nat) : List Nat :=
  if ix = 0x5002 then
    let o := (s.tslot el).committed
    (if teType o = 0 then [] else [0x100 + teTenant o]) ++
      (if teType o = 0 ∨ (teType w ≠ 0 ∧ teTenant w ≠ teTenant o) then [0x100 + teTenant w] else [])
  else if ix = 0x1F00 ∧ sub = 2 then [0, 2, 7]
  else if (0x1F00 ≤ ix ∧ ix ≤ 0x1F01) ∨ (0x2000 ≤ ix ∧ ix ≤ 0x2801) then [0]
  else if 0x3000 ≤ ix ∧ ix ≤ 0x3403 then [1]
  else if 0x4000 ≤ ix ∧ ix ≤ 0x4030 then [2]
  else if 0x5000 ≤ ix ∧ ix ≤ 0x56FF then [3]
  else if 0x5800 ≤ ix ∧ ix ≤ 0x5901 then [4]
  else if 0x6000 ≤ ix ∧ ix ≤ 0x6011 then [5]
  else if 0x6800 ≤ ix ∧ ix ≤ 0x6810 then [6]
  else [7]

/-- The check of a value of a direct object (check 5 of R436): its row's range, and the rules that tie objects; `l` lists
the elements that one write gives. -/
def State.directRange (s : State) (ix sub : Nat) (l : List (Nat × Nat)) (el v : Nat) : Nat :=
  let st := stackOfIx ix
  let row := objRow? ix sub
  if (match row with | some r => decide (v < r.lo) || decide (r.hi < v) | none => false) then abRange
  else if normIx ix = 0x2001 ∧ sub = 2 then refuseIf (decide (s.stObj st 0x2001 1 0 ≤ v)) abRange
  else if ix = 0x7002 then
    let share (k : Nat) : Nat :=
      if sub = 2 then ((l.find? fun x => x.1 == k).map (·.2)).getD (s.obj 0x7002 2 k) else s.obj 0x7002 2 k
    let budget := if sub = 1 then v else s.obj 0x7002 1 0
    refuseIf (decide (10 * budget < (upTo 32).foldl (fun n k => n + share k) 0)) abInconsistent
  else if ix = 0x7010 ∧ 1 ≤ sub ∧ sub ≤ 4 then
    let t (k : Nat) : Nat := if k = sub then v else s.obj 0x7010 k 0
    refuseIf (!thresholdsOk (t 1) (t 2) (t 3) (t 4)) abInconsistent
  else 0

/-- Whether a stack is in self-refresh, all of it, and leaves that only by a wake (R68, R171, R173, R210). -/
def State.stackAsleep (s : State) (st : Nat) : Bool :=
  let k := s.stack st
  (s.notAsleep st).isEmpty && (match k.power with | .gated | .waking _ => true | .entering => k.t4Done | _ => false)

/-- The check of the state a direct object may be written in (check 7 of R436). -/
def State.directState (s : State) (ix sub el : Nat) : Nat :=
  let st := stackOfIx ix
  let i := normIx ix
  let b := s.block.state
  if i = 0x2001 ∧ sub = 5 then refuseIf (b != .test) abBlockState
  else if i = 0x2007 ∧ sub = 2 then refuseIf (b != .bringUp && b != .test) abBlockState
  else if i = 0x201C then
    refuseIf (b != .bringUp && !s.stackAsleep st) abObjState
  else if ix = 0x6021 then
    (if b != .bringUp then abBlockState else refuseIf (decide (4 ≤ (s.stack (el / 256)).bring)) abObjState)
  else if ix = 0x5800 ∧ sub = 1 then refuseIf (s.packet.enabled || s.packet.enableReq == some true) abInUse
  else 0

/-- The value of a direct object as it is kept: reserved bits read as zero (R7). -/
def directValue (ix v : Nat) : Nat := if ix = 0x6021 then keepFields v [(28, 0)] else v

/-- A direct object takes a value (R428, R463); some come into force at once. A slew or drive setting changed after training has the
stack trained anew on its next exit from self-refresh (R68). -/
def State.directSet (s : State) (ix sub el v : Nat) : State :=
  let st := stackOfIx ix
  let s1 := s.setObj ix sub el (directValue ix v)
  if normIx ix = 0x201C then s1.modStack st fun k => { k with slewDirty := k.slewDirty || (k.power != .off && (k.power != .bringUp || decide (3 ≤ k.bring))) }
  else if ix = 0x1301 ∨ ix = 0x1200 ∨ ix = 0x7801 then s.setNow ix sub el v
  else s1

/-- The state of an outcome. -/
def outState (s : State) : Host.Outcome State Fault Refusal → State
  | .next t => t
  | _ => s

/-- A write of an object with a command of its own is that command. -/
def State.ownCommand (s : State) (rq : Rq) (ix sub el v : Nat) : Option State :=
  let st := stackOfIx ix
  let run (o : Host.Outcome State Fault Refusal) : Option State := some (outState s o)
  match normIx ix, sub with
  | 0x1301, 1 => none
  | 0x2008, 6 =>
    if h : st < 32 then
      (if v = 0 then run (execStackWakeRequest rq ⟨st, h⟩ s)
       else if v = 1 then run (execStackSelfRefreshEnter rq ⟨st, h⟩ s) else none)
    else none
  | 0x5001, 3 => some (s.hostPost rq el v)
  | 0x5003, 1 => run (execJobAbort rq (BitVec.ofNat 32 v) s)
  | 0x5800, 2 => if v = 0 then run (execStockroomDisable (some rq) s) else if v = 1 then run (execStockroomEnable rq s) else none
  | 0x5900, 4 => run (execCaptureReadIndex rq (BitVec.ofNat 64 v) s)
  | 0x6040, 2 => run (execDeclareDead rq (BitVec.ofNat 32 v) s)
  | 0x6040, 4 => run (execReadmit rq (BitVec.ofNat 32 v) s)
  | 0x6050, 3 => run (execRetirementReadIndex rq (BitVec.ofNat 64 v) s)
  | 0x6802, 1 => run (execKeyRotate rq (BitVec.ofNat 16 v) s)
  | 0x6802, 3 => run (execKeyErase rq (BitVec.ofNat 16 v) s)
  | 0x6810, 1 => run (execMicrocodeSegment rq (BitVec.ofNat 32 el) false true 0 s)
  | 0x6810, 3 => run (execRaiseMinimumVersion rq s)
  | 0x7001, 3 => if h : el < 43 then run (execDomainGateRequest rq ⟨el, h⟩ (BitVec.ofNat 8 v) s) else none
  | 0x7801, 1 => run (execCorrectionModeSelect rq (BitVec.ofNat 8 v) s)
  | 0x7801, 2 => run (execRateCorrectionWrite rq (BitVec.ofNat 32 v) s)
  | 0x7801, 3 => run (execStepRequest rq (BitVec.ofNat 64 v) s)
  | 0x7803, 1 => run (execReferenceFrequencyWrite rq (BitVec.ofNat 32 v) s)
  | 0x9003, 3 => run (execSampleReadIndex rq (BitVec.ofNat 64 v) s)
  | 0x9004, 1 => if h : el < 1088 then run (execCounterGrant rq ⟨el, h⟩ (BitVec.ofNat 16 v) s) else none
  | _, _ => none

/-- The code of the last answer sent. -/
def State.lastCode (s : State) : Nat :=
  match s.outbox.reverse.find? fun o => match o with | .rykin _ _ _ _ => true | _ => false with
  | some (.rykin _ _ c _) => c
  | _ => 0

/-- Several elements written to a table whose writes are commands of their own: all or none, with one answer (R460). -/
def State.ownCommands (s : State) (rq : Rq) (ix sub : Nat) (l : List (Nat × Nat)) : Option State :=
  match l with
  | [(el, v)] => s.ownCommand rq ix sub el v
  | _ =>
    let r := l.foldl (fun (acc : Option (State × Option State)) x =>
      match acc with
      | none => none
      | some (t, some bad) => some (t, some bad)
      | some (t, none) =>
        match t.ownCommand rq ix sub x.1 x.2 with
        | none => none
        | some u =>
          if u.lastCode ≠ 0 then
            -- nothing is written: the refusal alone, from the state before
            match s.ownCommand rq ix sub x.1 x.2 with
            | some w => if w.lastCode ≠ 0 then some (t, some w) else some (t, some (s.refuse rq 2 u.lastCode ix sub x.1))
            | none => none
          else some ({ u with outbox := s.outbox }, none)) (some (s, none))
    match r with
    | some (_, some bad) => some bad
    | some (t, none) => some (t.answer rq 2 0 [])
    | none => none

/-- Bytes staged in a session (R446). -/
def Session.stagedBytes (x : Session) : Nat := x.staged.foldl (fun n y => n + y.bytes) 0

/-- Stage one element; a later write of the same element takes the place of the earlier one (R446). -/
def Session.stage (x : Session) (y : Staged) : Session :=
  let same (z : Staged) : Bool := z.index == y.index && z.sub == y.sub && z.elem == y.elem
  { x with staged := if x.staged.any same then x.staged.map fun z => if same z then y else z else x.staged ++ [y] }

/-- The lease runs from now (R447). -/
def State.restartLease (s : State) (n : Nat) : State :=
  s.modSession n fun x => { x with leaseEnd := s.time.frame + 1000 * s.live' 0x1200 2 0 }

/-- The first failure of a check over elements. -/
def firstCode (l : List (Nat × Nat)) (check : Nat → Nat → Nat) : Option (Nat × Nat) :=
  l.findSome? fun x => let c := check x.1 x.2; if c = 0 then none else some (c, x.1)

/-- A WRITE that stages (R446), its elements and values given. -/
def State.stageWrite (s : State) (rq : Rq) (n ix sub size : Nat) (l : List (Nat × Nat)) (el : Nat) : State :=
  let b := s.brokenLock n
  let x := b.2.session n
  let staged := l.foldl (fun (y : Session) v => y.stage { index := ix, sub, elem := v.1, value := v.2, bytes := size }) x
  if b.1 then b.2.refuse rq 2 abBroken ix sub el
  else if l.any fun v => (s.scopesFor ix sub v.1 v.2).any fun k => !x.scopes.contains k then b.2.refuse rq 2 abNoLock ix sub el
  else if s.safeRefuses ix then b.2.refuse rq 2 abBlockState ix sub el
  else if 262144 < staged.stagedBytes then b.2.refuse rq 2 abStaging ix sub el
  else ((b.2.modSession n fun _ => staged).restartLease n).answer rq 2 0 []

/-- A WRITE inside a session (R433, R436). -/
def State.writeObject (s : State) (rq : Rq) (n ix sub el : Nat) (data : List (BitVec 8)) : State :=
  let x := s.session n
  let no (code : Nat) : State := s.refuse rq 2 code ix sub el
  match objRow? ix sub with
  | none => no (if sub = 0 ∧ (highestSub ix).isSome then abRoleWrite else abNoObject)
  | some r =>
    let image := ix == 0x1F01
    let size := if image then data.length else r.size
    let count := if size = 0 then 0 else data.length / size
    let l := (upTo count).map fun i => (el + i, ofLe ((data.drop (i * size)).take size))
    if r.elems ≤ el then no abElement
    else if r.acc = 0 ∨ !x.has (writers ix sub) then no abRoleWrite
    else
      match firstCode l fun e v => s.writeTenant x n ix e v with
      | some c => no c.1
      | none =>
        if 65536 < data.length then no abTooLong
        else if data.isEmpty || size == 0 || data.length % max 1 size != 0 || (r.count == 0 && data.length != size) then no abLength
        else if image && data.length != pfLength (ofLe data) then no abLength
        else if r.elems < el + count then no abElement
        else if r.locked then
          match firstCode l fun e v => s.lockedShape ix sub e v with
          | some c => no c.1
          | none => s.stageWrite rq n ix sub size l el
        else
          match s.ownCommands rq ix sub l with
          | some t => t
          | none =>
            match firstCode l fun e v => s.directRange ix sub l e v with
            | some c => no c.1
            | none =>
              if s.safeRefuses ix then no abBlockState
              else
                match firstCode l fun e _ => s.directState ix sub e with
                | some c => no c.1
                | none => (s.each l fun s v => s.directSet ix sub v.1 v.2).answer rq 2 0 []

/-! ### Locks -/

/-- The role check of a scope (R444): zero when the session may lock it. -/
def scopeRole (x : Session) (k : Nat) : Nat :=
  if k = 6 then refuseIf (!x.has roleK) abRoleWrite
  else if k < 8 then refuseIf (!x.has roleO) abRoleWrite
  else if 0x100 ≤ k ∧ k < 0x500 then
    (if x.has roleO then 0 else if !x.has roleT then abRoleWrite else refuseIf (k != 0x100 + x.tenant) abTenant)
  else 0

/-- LOCK (R445): every scope it names, or none. -/
def execLock (rq : Rq) (scopes : List (BitVec 16)) (s : State) : Host.Outcome State Fault Refusal :=
  let l := scopes.map (·.toNat)
  match s.gate rq with
  | .drop s => .next s
  | .noSession s => .next (s.refuse rq 3 abSession 0 0 0)
  | .go n s =>
    let x := s.session n
    let held := l.findSome? fun k => ((upTo 4).find? fun m => m != n && (s.session m).scopes.contains k)
    match (l.map (scopeRole x)).find? (· != 0) with
    | some c => .next (s.refuse rq 3 c 0 0 0)
    | none =>
      if x.roles = 0 then .next (s.refuse rq 3 abRoleWrite 0 0 0)
      else if l.isEmpty || decide (8 < l.length) then .next (s.refuse rq 3 abLength 0 0 0)
      else if l.any fun k => decide (8 ≤ k) && !(decide (0x100 ≤ k) && decide (k < 0x500)) then .next (s.refuse rq 3 abRange 0 0 0)
      else
        let b := s.brokenLock n
        if b.1 then .next (b.2.refuse rq 3 abBroken 0 0 0)
        else
          match held with
          | some m =>
            .next (b.2.answer rq 3 abHeld (leBytes 1 m ++ leBytes 4 ((s.session m).leaseEnd - s.time.frame)))
          | none =>
            if s.block.state == .safe then .next (b.2.refuse rq 3 abBlockState 0 0 0)
            else
              let no := (s.mgmt.lockCount + 1) % 2 ^ 32
              let s1 := b.2.modMgmt fun m => { m with lockCount := no }
              let s2 := s1.modSession n fun x => { x with scopes := (x.scopes ++ l).eraseDups, lockNo := no }
              .next ((s2.restartLease n).answer rq 3 0 (leBytes 4 no))

/-- What DISCARD and RENEW pass first: session, roles, a lock that holds, the block state. -/
def State.lockRequest (s : State) (rq : Rq) (op : Nat) (apply : State → Nat → State) : State :=
  match s.gate rq with
  | .drop s => s
  | .noSession s => s.refuse rq op abSession 0 0 0
  | .go n s =>
    let b := s.brokenLock n
    if (s.session n).roles = 0 then s.refuse rq op abRoleWrite 0 0 0
    else if b.1 then b.2.refuse rq op abBroken 0 0 0
    else if (b.2.session n).scopes.isEmpty then b.2.refuse rq op abNoLock 0 0 0
    else if s.block.state == .safe then b.2.refuse rq op abBlockState 0 0 0
    else (apply b.2 n).answer rq op 0 []

/-- DISCARD (R433): staged writes are dropped and locks released. -/
def execDiscard (rq : Rq) (s : State) : Host.Outcome State Fault Refusal := .next (s.lockRequest rq 5 State.releaseLocks)

/-- RENEW (R447). -/
def execRenew (rq : Rq) (s : State) : Host.Outcome State Fault Refusal := .next (s.lockRequest rq 6 State.restartLease)

/-- LEASE_EXPIRY (R447, R449): at the first boundary at which the lease has run out. -/
def execLeaseExpiry (n : Fin 4) (s : State) : Host.Outcome State Fault Refusal :=
  let x := s.session n.val
  if x.scopes.isEmpty || decide (s.time.frame < x.leaseEnd) then .next s else .next (s.breakLocks n.val 1)

/-! ### Sessions -/

/-- SESSION_RESET (R431, R433): after its response. -/
def execSessionReset (rq : Rq) (s : State) : Host.Outcome State Fault Refusal :=
  match s.gate rq with
  | .drop s => .next s
  | .noSession s => .next (s.refuse rq 7 abSession 0 0 0)
  | .go n s =>
    if s.block.state == .safe then .next (s.refuse rq 7 abBlockState 0 0 0)
    else .next (((s.answer rq 7 0 []).endSession n).asks (askKey 1 2 n) n)

/-- RESERVED_DICTIONARY_OP (R433). -/
def execReservedDictionaryOp (rq : Rq) (op : BitVec 8) (s : State) : Host.Outcome State Fault Refusal :=
  match s.gate rq with
  | .drop s => .next s
  | .noSession s => .next (s.refuse rq op.toNat abSession 0 0 0)
  | .go _ s => .next (s.refuse rq op.toNat abReservedOp 0 0 0)

/-- SESSION_TIMEOUT (R431): no message for twice the heartbeat period. -/
def execSessionTimeout (n : Fin 4) (s : State) : Host.Outcome State Fault Refusal :=
  let x := s.session n.val
  if x.isOpen && decide (x.lastMsg + 2 * x.hbFrames ≤ s.time.frame) then .next (s.endSession n.val) else .next s

/-- EVENT_ACKNOWLEDGE (R443): a session writes its own read index. -/
def execEventAcknowledge (rq : Rq) (v : BitVec 64) (s : State) : Host.Outcome State Fault Refusal :=
  let el := match rq.session with | some n => n.val | none => 0
  .next (s.directWrite rq 0x1301 1 el roleAll
    (fun s n => refuseIf (decide (v.toNat < s.obj 0x1301 1 n) || decide (s.obj 0x1300 2 0 < v.toNat)) abRange)
    passes passes fun s n => s.setNow 0x1301 1 n v.toNat)

/-! ### Block state -/

/-- Whether a shot is listed or admitted. -/
def State.anyShot (s : State) : Bool :=
  !s.shot.shots.isEmpty || s.shot.lists.any fun (x : Nat × List Listed) => !x.2.isEmpty

/-- Whether R440 allows a change. -/
def State.mayGo (s : State) (goal : BlkState) : Bool :=
  match goal with
  | .safe => s.block.state != .off
  | .service =>
    match s.block.state with
    | .bringUp => (upTo 43).all fun d => s.readiness d != 0
    | .drain | .test => true
    | _ => false
  | .drain => s.block.state == .service
  | .test => (s.block.state == .bringUp || s.block.state == .service || s.block.state == .drain) && !s.anyShot
  | _ => false

/-- A write of a state code to 0x1100.02 (R440): an allowed change applies at the next frame boundary. -/
def State.stateRequest (s : State) (rq : Rq) (goal : BlkState) : State :=
  s.directWrite rq 0x1100 2 0 roleO passes (fun s _ => refuseIf (!s.mayGo goal) abBlockState) passes
    fun s n => (s.modBlock fun b => { b with request := some goal }).asks (askKey 10 8 0) n

/-- STATE_REQUEST_SERVICE (R440). -/
def execStateRequestService (rq : Rq) (s : State) : Host.Outcome State Fault Refusal := .next (s.stateRequest rq .service)
/-- STATE_REQUEST_DRAIN (R440). -/
def execStateRequestDrain (rq : Rq) (s : State) : Host.Outcome State Fault Refusal := .next (s.stateRequest rq .drain)
/-- STATE_REQUEST_TEST (R440). -/
def execStateRequestTest (rq : Rq) (s : State) : Host.Outcome State Fault Refusal := .next (s.stateRequest rq .test)
/-- STATE_REQUEST_SAFE (R440). -/
def execStateRequestSafe (rq : Rq) (s : State) : Host.Outcome State Fault Refusal := .next (s.stateRequest rq .safe)

/-- The state that a code written to 0x1100.02 asks for; no code but those of R440 asks for one that may be entered. -/
def stateOf (v : Nat) : BlkState :=
  if v = 2 then .service else if v = 3 then .drain else if v = 4 then .test else if v = 5 then .safe else .off

/-- DICTIONARY_WRITE (R433, R446). -/
def execDictionaryWrite (rq : Rq) (o : Obj) (data : List Byte) (s : State) : Host.Outcome State Fault Refusal :=
  let ix := aliasIx s.compat o.index.toNat
  let sub := o.sub.toNat
  let el := o.elem.toNat
  if ix = 0x1100 ∧ sub = 2 ∧ el = 0 ∧ data.length = 1 then .next (s.stateRequest rq (stateOf (ofLe data)))
  else if ix = 0x1301 ∧ sub = 1 ∧ data.length = 8 ∧ rq.session.map (·.val) = some el then
    execEventAcknowledge rq (BitVec.ofNat 64 (ofLe data)) s
  else
    match s.gate rq with
    | .drop s => .next s
    | .noSession s => .next (s.refuse rq 2 abSession ix sub el)
    | .go n s => .next (s.writeObject rq n ix sub el data)

/-! ### Transports -/

/-- MAILBOX_DOORBELL (R60, R429): ignored and counted while a request is in service, which leaves the window unread. Else
the block takes the packet in the window; the last one of a message puts the request in service. -/
def execMailboxDoorbell (packet : List Byte) (last : Bool) (s : State) : Host.Outcome State Fault Refusal :=
  if s.block.rstLow then .next s
  else if s.mgmt.mbBusy then .next (s.count 0x1311 4)
  else .next (s.modMgmt fun m => { m with mbBusy := last, mbRequest := packet.take 4096 })

/-- MANAGEMENT_PACKET (R61): a packet over 9,216 B is discarded and counted; what a message in it asks is that message's
own command. -/
def execManagementPacket (_rq : Rq) (bytes : Nat) (s : State) : Host.Outcome State Fault Refusal :=
  if s.block.rstLow || decide (bytes ≤ 9216) then .next s else .next (s.count 0x1311 5)

end Sys2Proof.Machine
end

