-- ==== Sys2Proof/Machine/Score.lean ====
section
/-! DEFINITION. Score.lean: SCORE and PROJECT on the matrix arrays (R303 to R312), SELECT and the merging of partial lists
(R309, R310, R316 to R321). -/
namespace Sys2Proof.Machine

/-! ### Matrix arrays -/

/-- Rate multiple of a candidate format (R303): 16,384 multiplications in an engine cycle times this. -/
def rateOf (fmt : Nat) : Nat := if fmt = 3 ∨ fmt = 2 then 1 else if fmt = 10 then 4 else 2

/-- A count rounded up to a power of two (R306). -/
def upPow2 (n : Nat) : Nat := 2 ^ (if n ≤ 1 then 0 else Nat.log2 (n - 1) + 1)

/-- Engine cycles an array takes for some rows (R306). -/
def arrayCycles (w e rows : Nat) : Nat :=
  ceilDiv (rows * tbDim e * upPow2 (scQ w)) (16384 * rateOf (tbFormat e)) * (if scPaired w then 2 else 1)

/-- The next admitted SCORE or PROJECT shot with rows left, in rotation after the one the array served last (R307). -/
def State.arrayTurn (s : State) (a : Nat) : Option Shot :=
  let able := s.shot.shots.filter fun x =>
    (slKind x.slate.toNat == 3 || slKind x.slate.toNat == 4) && !x.ended && x.abort.isNone &&
      decide (x.work.pos < slCount x.slate.toNat)
  let last := Map.look 0 a s.shot.turns
  match firstIdx (fun (x : Shot) => x.id + 1 == last) s.shot.shots with
  | none => able.head?
  | some i =>
    let later := (s.shot.shots.drop (i + 1)).map (·.id)
    ((able.find? fun x => later.contains x.id).orElse fun _ => able.head?)

/-- Load a shot's queries or matrix in the operand format (R303, R307). -/
def State.loadQueries (s : State) (x : Shot) : State :=
  let w := x.slate.toNat
  let t := x.entry
  let r := slSrc w
  let n := scQ w * scStride w t
  let need := [x.part r (slSrcOff w) n]
  if !s.engHas x.id need then s.engAsk (x.reader 0x25 (clsOf (slClass w))) x.id need
  else
    let s1 := s.engDone x.id
    match s.engBytes? x.id r (slSrcOff w) n with
    | none => s1.poisonAbort x
    | some l =>
      let fmt := (queryFmt (tbFormat t)).getD 0
      let rows := (upTo (scQ w)).map fun j =>
        writeElems fmt (slSat w) (readElems (slIn w) (tbDim t) ((l.drop (j * scStride w t)).take (scStride w t)))
      (s1.modWork x.id fun k => { k with started := true, queries := rows.flatMap (·.1) }).countVals x.id
        (rows.foldl (fun n r => n + r.2.1) 0) (rows.foldl (fun n r => n + r.2.2) 0)

/-- The score of a row and a query (R308): terms of 32 products each, added in dimension order. -/
def scoreOf (paired : Bool) (row query : List Val) : Val :=
  let terms := (upTo (ceilDiv row.length 32)).map fun t =>
    (upTo 32).foldl (fun acc i => acc.add ((row.getD (32 * t + i) (.fin false 0 1)).mul (query.getD (32 * t + i) (.fin false 0 1))))
      (.fin false 0 1)
  if paired then (terms.foldl (fun (p : Pair) v => let q := pairOf v; (p.addTerm q.hi).addTerm q.lo) {}).val
  else f32 (terms.foldl (fun (a : BitVec 32) v => addF a (toF32 v)) 0)

/-- The scores of one candidate row for every query (R308). -/
def rowScores (w e : Nat) (queries row : List (BitVec 8)) : List Val :=
  let d := tbDim e
  let fmt := (queryFmt (tbFormat e)).getD 0
  let n := byteLen fmt d
  let a := readElems (tbFormat e) d row
  let scale := f32 (BitVec.ofNat 32 (ofLe ((row.drop (tbRowBytes e - 4)).take 4)))
  (upTo (scQ w)).map fun j =>
    let v := scoreOf (scPaired w) a (readElems fmt d ((queries.drop (j * n)).take n))
    if tbRowScale e then v.mul scale else v

/-- Bytes of the elements and of the scale of a candidate row (R301). -/
def rowParts (e : Nat) : Nat × Nat := (byteLen (tbFormat e) (tbDim e), if tbRowScale e then 4 else 0)

/-- The reads of some candidate rows, each row's as R293 splits them. -/
def Shot.rowsPart (x : Shot) (first n : Nat) : EngPart :=
  let t := x.entry
  let r := tbRegion t
  let m := rowParts t
  { region := r, version := x.ver r
    reads := coverReads ((upTo n).flatMap fun i =>
      ((upTo (tbRowBytes t / 64)).filter fun k => rowHolds m.1 m.2 (tbRowBytes t) (64 * k)).map fun k =>
        (tbOffset t + (first + i) * tbRowBytes t) / 64 + k) }

/-- The bytes of a candidate row as they were read; none when a sector that holds elements or the scale answered POISON
(R312). -/
def State.readRow (s : State) (x : Shot) (i : Nat) : Option (List (BitVec 8)) :=
  let t := x.entry
  let off := tbOffset t + i * tbRowBytes t
  let m := rowParts t
  (upTo (tbRowBytes t / 64)).foldl (fun acc k =>
    if !rowHolds m.1 m.2 (tbRowBytes t) (64 * k) then acc.map fun l => l ++ List.replicate 64 0
    else
      let a := s.engSector x.id (tbRegion t) (off + 64 * k)
      if a.poison then none else acc.map fun l => l ++ leBytes 64 a.data.toNat) (some [])

/-- Partial lists of a shot with new entries of one unit and query (R309, R320): the lists, and entries removed by dedup. -/
def addPartial (l : List Partial) (unit query k : Nat) (ascending dedup : Bool) (es : List (BitVec 32 × Nat)) : List Partial × Nat :=
  let old := ((l.find? fun p => p.unit == unit && p.query == query).map (·.entries)).getD []
  let r := topK ascending dedup k (old ++ es)
  ((l.filter fun p => !(p.unit == unit && p.query == query)) ++ [{ unit, query, entries := r.1 }], r.2)

/-- What one candidate row gives (R305, R309): scores or partial lists of a SCORE, an output row of a PROJECT. The last scores are
followed by zeros to the end of their sector. -/
def State.rowDone (s : State) (x : Shot) (i : Nat) (vs : List Val) : State :=
  let w := x.slate.toNat
  let q := scQ w
  if slKind w = 4 then
    let r := writeElems (slOutFmt w) (slSat w) vs
    let stride := pad64 (byteLen (slOutFmt w) q)
    (s.shotOut x 0x25 (clsOf (slClass w)) (i * stride) (r.1 ++ List.replicate (stride - r.1.length) 0)).countVals x.id r.2.1 r.2.2
  else if scK w = 0 then
    let r := writeElems 1 (slSat w) vs
    let fin := (i + 1) * q * 4
    let pad := if i + 1 = slCount w then pad64 fin - fin else 0
    (s.shotOut x 0x25 (clsOf (slClass w)) (i * q * 4) (r.1 ++ List.replicate pad 0)).countVals x.id r.2.1 r.2.2
  else
    let id := (tbIdBase x.entry + scFirst w + i) % 2 ^ 32
    let r := writeElems 1 (slSat w) vs
    (s.modWork x.id fun k =>
      { k with parts := (upTo q).foldl (fun (l : List Partial) j =>
          (addPartial l ((scFirst w + i) % 16) j (scK w) false false [(BitVec.ofNat 32 (ofLe ((r.1.drop (4 * j)).take 4)), id)]).1) k.parts }).countVals
      x.id r.2.1 r.2.2

/-- Select units in service. -/
def State.selectUnits (s : State) : List Nat := (upTo 16).filter fun i => s.isReady 40 && s.unitState (unitSelect i) == 0

/-- Whether the select units take entries now (R320): some are in service, none is under test, and their domain may issue. -/
def State.selectGo (s : State) : Bool :=
  !s.selectUnits.isEmpty && !(s.selectUnits.any fun u => s.underTest (unitSelect u)) && s.issueRoom 40 3

/-- Entries are passed to the select units (R309, R320): how many and, for each unit, its share, 64 in a cycle. -/
def State.passEntries (s : State) (x : Shot) (n : Nat) (share : Nat → Nat) : State :=
  let most := (upTo 16).foldl (fun m u => max m (share u)) 0
  let s1 := (((s.bump 0x5500 1 0 n).tallyBlock 0x11 n (s.shotTxn x.slate.toNat x.origin)).issue 40 (ceilDiv most 64))
  s1.each ((upTo 16).filter fun u => decide (0 < share u)) fun s u => s.bump 0x5500 3 u (ceilDiv (share u) 64)

/-- ARRAY_RUN (R306 to R309, R311, R312): an array takes the next run of its shot in rotation, once its rows have come; a shot's
queries are loaded before its first run. -/
def execArrayRun (array : Fin 4) (s : State) : Host.Outcome State Fault Refusal :=
  let a := array.val
  if !s.arraysIn.contains a ∨ s.underTest (unitArray a) ∨ !s.issueRoom (36 + a) 3 then .next s
  else
    match s.arrayTurn a with
    | none => .next s
    | some x =>
      if !x.work.started then .next (s.loadQueries x)
      else
        let w := x.slate.toNat
        let t := x.entry
        let n := min (s.live' 0x5400 6 0) (slCount w - x.work.pos)
        let first := scFirst w + x.work.pos
        let need := [x.rowsPart first n]
        let passes := decide (slKind w = 3 ∧ 0 < scK w)
        if !s.engHas x.id need then .next (s.engAsk (x.reader 0x25 (clsOf (slClass w))) x.id need)
        else if passes && !s.selectGo then .next s
        else
          let r := (upTo n).foldl (fun (acc : Option State) i =>
            match acc, s.readRow x (first + i) with
            | some s1, some row => some (s1.rowDone x (x.work.pos + i) (rowScores w t x.work.queries row))
            | _, _ => none) (some (s.engDone x.id))
          match r with
          | none => .next ((s.engDone x.id).poisonAbort x)
          | some s0 =>
            let cyc := arrayCycles w t n
            let all := decide (slCount w ≤ x.work.pos + n)
            let s1 := s0.modShot x.id fun x =>
              { x with
                done := x.done + n
                ended := all && (slKind w == 4 || scK w == 0)
                work := { x.work with pos := x.work.pos + n } }
            let s2 := (((s1.bump 0x5400 2 0 n).bump 0x5400 5 a cyc).tallyBlock 0x10 cyc (s.shotTxn w x.origin)).issue (36 + a) cyc
            let share (u : Nat) : Nat := ((upTo n).filter fun i => (first + i) % 16 == u).length * scQ w
            let s3 := if passes then (s2.bump 0x5400 4 0 (n * scQ w)).passEntries x (n * scQ w) share else s2
            .next (s3.modShotS fun y => { y with turns := Map.put 0 (x.id + 1) a y.turns })

/-! ### Select units -/

/-- Offset in its region of an input entry of a SELECT slate (R318). -/
def seOff (w i : Nat) : Nat := slSrcOff w + i / slSize w * listStride (slSize w) + i % slSize w * 8

/-- SELECT_ENTRY_DEAL (R318 to R321): the next 64 input entries of a SELECT shot are dealt, once they have come. -/
def execSelectEntryDeal (shot : BitVec 16) (s : State) : Host.Outcome State Fault Refusal :=
  match s.working shot.toNat [5] with
  | none => .next s
  | some x =>
    let w := x.slate.toNat
    let r := slSrc w
    let total := slCount w * slSize w
    let p := x.work.pos
    let n := min 64 (total - p)
    let need : List EngPart := [{ region := r, version := x.ver r, reads := coverReads (((upTo n).map fun i => seOff w (p + i) / 64).eraseDups) }]
    if n = 0 ∨ !s.selectGo then .next s
    else if !s.engHas x.id need then .next (s.engAsk (x.reader 0x25 (clsOf (slClass w))) x.id need)
    else
      let rd := (upTo n).foldl (fun (acc : Option (List (BitVec 32 × Nat))) i =>
        match acc, s.engBytes? x.id r (seOff w (p + i)) 8 with
        | some l, some b => some (l ++ [(BitVec.ofNat 32 (ofLe (b.take 4)), ofLe (b.drop 4))])
        | _, _ => none) (some [])
      let s0 := s.engDone x.id
      match rd with
      | none => .next (s0.poisonAbort x)
      | some es =>
        let unit (i : Nat) : Nat := if seDedup w then (es.getD i (0, 0)).2 % 16 else (p + i) % 16
        let parts := (upTo 16).foldl (fun (acc : List Partial × Nat) u =>
          let mine := ((upTo n).filter fun i => unit i == u).map fun i => es.getD i (0, 0)
          if mine.isEmpty then acc
          else
            let a := addPartial acc.1 u 0 (seK w) (seAscending w) (seDedup w) mine
            (a.1, acc.2 + a.2)) (x.work.parts, 0)
        let s1 := s0.modShot x.id fun x =>
          { x with done := (p + n) / slSize w, work := { x.work with pos := p + n, parts := parts.1 } }
        .next ((s1.bump 0x5500 2 0 parts.2).passEntries x n fun u => ((upTo n).filter fun i => unit i == u).length)

/-- Bytes of score entries (R309). -/
def entryBytes (l : List (BitVec 32 × Nat)) : List (BitVec 8) := l.flatMap fun x => leBytes 4 x.1.toNat ++ leBytes 4 x.2

/-- Shot-output packets of a list (R310). -/
def listPackets (x : Shot) (query : Nat) (l : List (BitVec 32 × Nat)) : List RsPacket :=
  let w := x.slate.toNat
  let parts := max 1 (ceilDiv l.length 1020)
  (upTo parts).map fun i =>
    let es := (l.drop (1020 * i)).take 1020
    { ty := 4, shot := x.id, epoch := slEpoch w, group := slGroup w, format := slOutFmt w
      payload := leBytes 32 (listWord query i parts es.length) ++ entryBytes es }

/-- SELECT_MERGE (R309, R310, R319, R320): the 16 partial lists of each query are merged, padded and delivered. -/
def execSelectMerge (shot : BitVec 16) (s : State) : Host.Outcome State Fault Refusal :=
  match s.working shot.toNat [3, 5] with
  | none => .next s
  | some x =>
    let w := x.slate.toNat
    let sel := slKind w == 5
    let k := if sel then seK w else scK w
    let total := if sel then slCount w * slSize w else slCount w
    match s.selectUnits with
    | [] => .next s
    | u :: _ =>
      if k = 0 ∨ x.work.merged ∨ x.work.pos < total ∨ s.underTest (unitSelect u) ∨ !s.issueRoom 40 3 then .next s
      else
        let q := if sel then 1 else scQ w
        let merged (j : Nat) : List (BitVec 32 × Nat) :=
          let all := (x.work.parts.filter fun p => p.query == j).flatMap (·.entries)
          let l := (topK (sel && seAscending w) (sel && seDedup w) k all).1
          l ++ List.replicate (k - l.length) (0x7FC00000, 0xFFFFFFFF)
        let out (s : State) (j : Nat) : State :=
          let l := merged j
          if slOut w = 2 then (listPackets x j l).foldl State.send s
          else
            let b := entryBytes l
            s.shotOut x 0x25 (clsOf (slClass w)) (j * listStride k) (b ++ List.replicate (listStride k - b.length) 0)
        let s1 := ((s.each (upTo q) out).bump 0x5500 3 u (q * ceilDiv (16 * k) 64)).issue 40 (q * ceilDiv (16 * k) 64)
        .next (s1.modShot x.id fun x => { x with ended := true, work := { x.work with merged := true } })

end Sys2Proof.Machine
end

