-- ==== Sys2Proof/Machine/SelfTest.lean ====
section
/-! DEFINITION. SelfTest.lean: the periodic self-test in slices (R477 to R482): the order of a pass, the request of a slice
and its end. -/
namespace Sys2Proof.Machine

/-- Engine slices, Loft slices and all slices of a pass (R478). -/
def engineSlices : Nat := 132 * 64
def loftSlices : Nat := 64 * 1024
def passSlices : Nat := engineSlices + loftSlices + 2 ^ 31

/-- Slice n of a pass (R478): its kind, unit and place in the unit. Engine units go in unit order; stack row groups go in the
step order of R365, the 32 stacks in turn. -/
def passSlice (n : Nat) : Nat × Nat × Nat :=
  if n < engineSlices then (2, unitRedLane (n / 64), n % 64)
  else
    let m := n - engineSlices
    if m < loftSlices then (1, unitSlice (m / 1024), m % 1024)
    else
      let i := (m - loftSlices) / 32
      (0, unitRank ((m - loftSlices) % 32) (i % 64 * 4 + i / 64 % 4), i)

/-- The two rows of a stack slice (R365, R477): bank and row, in bank groups two apart. -/
def sliceRows (i : Nat) : List (Nat × Nat) := let b := i / 256 % 8; [(b, i / 2048), (b + 8, i / 2048)]

/-- Stack, pseudo-channel and SID of a rank unit's unit number. -/
def rankPlace (u : Nat) : Nat × Nat × Nat := ((u - 79904) / 256, (u - 79904) % 256 / 4, (u - 79904) % 4)

/-- Whether a pseudo-channel's slice has yet to take its cut (R38). -/
def PcState.sliceWaits (x : PcState) : Bool :=
  (x.cutDue ++ x.cutAsked).contains .slice || (match x.sheetNext.bind (·.cut) with | some q => q.kind == .slice | none => false)

/-- Whether a slice may be requested now (R478). -/
def State.mayTest (s : State) (kind unit : Nat) : Bool :=
  if s.test.slices.any fun x => x.unit == unit then false
  else if kind = 2 then
    let d := if unit < 88160 then 40 else if unit < 88164 then 36 + (unit - 88160) else if unit < 88196 then 41 else 40
    s.unitState unit == 0 && s.isReady d
  else if kind = 1 then s.sliceOk (unit - 88228)
  else
    let (st, pc, sid) := rankPlace unit
    let p := pcNo st pc
    let k := s.stack st
    let ru := pc * 4 + sid
    let v := s.rankState st ru
    let moving := match k.mig with | some m => m.src == ru || m.dst == ru | none => false
    decide (s.level st < 2) && k.switch.isNone && k.power == .service && !k.srRequest && (s.pc p).sr == .awake &&
      s.obj 0x6031 1 p == 0 && s.unitState (32 + p) == 0 && v != 1 && v != 2 && v != 7 && !moving &&
      !(s.pc p).sliceWaits

/-- The next slice of the pass from a position on, within `n` positions: its position. -/
def State.nextSlice (s : State) : Nat → Nat → Option Nat
  | 0, _ => none
  | n + 1, p => let x := passSlice p; if s.mayTest x.1 x.2.1 then some p else s.nextSlice n (p + 1)

/-- A slice starts: a stack slice asks for its cut (R38, R478). -/
def State.startSlice (s : State) (kind unit index : Nat) : State :=
  let s1 := s.modTest fun t => { t with slices := t.slices ++ [{ kind, unit, index, frame := s.time.frame }] }
  if kind ≠ 0 then s1
  else
    let (st, pc, _) := rankPlace unit
    s1.modPc (pcNo st pc) fun x => { x with cutAsked := x.cutAsked ++ [.slice] }

/-- SELF_TEST_SLICE_REQUEST (R477, R478, R481): a slice to run again goes ahead of the pass order; slices that may not be
requested now are left to the next pass, which starts no earlier than its period after this one. -/
def execSelfTestSliceRequest (s : State) : Host.Outcome State Fault Refusal :=
  let t := s.test
  let st := s.block.state
  if !(st == .service || st == .drain || st == .test) ∨ s.live' 0x8800 1 0 ≠ 1 ∨ s.live' 0x8800 2 0 ≤ t.slices.length ∨
      4 ≤ t.trimStep then .next s
  else
    match t.reruns.find? fun x => s.mayTest x.1 x.2.1 with
    | some x => .next ((s.modTest fun t => { t with reruns := t.reruns.erase x }).startSlice x.1 x.2.1 x.2.2)
    | none =>
      let beyond := decide (passSlices ≤ t.passPos)
      if beyond && decide (s.time.frame < t.passStart + hoursFrames t.passFor) then .next s
      else
        let s1 := if beyond then s.modTest fun t => { t with passPos := 0, passStart := s.time.frame, passFor := s.live' 0x8800 3 0 } else s
        let from_ := s1.test.passPos
        match s1.nextSlice (passSlices - from_) from_ with
        | none => .next (s1.modTest fun t => { t with passPos := passSlices })
        | some p =>
          let x := passSlice p
          .next ((s1.modTest fun t => { t with passPos := p + 1 }).startSlice x.1 x.2.1 x.2.2)

/-- Patterns of a full slice (R477). -/
def fullCount (kind : Nat) : Nat := if kind = 0 then 96 else if kind = 1 then 512 else 1024

/-- What a stack slice does beside its test (R479): the activations of its rows are counted, and its saved sectors are
decoded as the patrol's are. -/
def State.sliceReads (s : State) (x : Slice) (r : SliceResult) : State :=
  let (st, pc, sid) := rankPlace x.unit
  (s.each (sliceRows x.index) fun s row =>
    (s.noteAct (s.look st pc 200) (sid * 16 + row.1) row.2)).each (upTo 32) fun s n =>
      let row := (sliceRows x.index).getD (n / 16) (0, 0)
      s.patrolSector (mkPlace st pc sid row.1 row.2 (n % 16)) n r.errs

/-- A failed slice is acted on (R482). -/
def State.sliceFailed (s : State) (x : Slice) (r : SliceResult) : State :=
  if x.kind = 0 then
    let (st, pc, sid) := rankPlace x.unit
    match r.lane with
    | some l => s.reportLanes (pcNo st pc) ((lanePositions l.val).take 1)
    | none => s.each r.rows.eraseDups fun s row => s.rowFault st pc sid row.1 row.2
  else if x.kind = 1 then s.each r.words.eraseDups fun s w => s.hardWord (x.unit - 88228) (x.index * 4096 + w)
  else s.modTest fun t => { t with dead := if t.dead.contains x.unit then t.dead else t.dead ++ [x.unit] }

/-- The result of a slice (R481): below the full count it is INCOMPLETE, whatever its signature. -/
def State.sliceResult (s : State) (x : Slice) (r : SliceResult) : State :=
  if r.count.toNat < fullCount x.kind then
    let n := Map.look 0 x.unit s.test.incomplete + 1
    let s1 := (s.setObj 0x8801 1 x.unit 3).count 0x8801 4
    if n < 3 then
      s1.modTest fun t => { t with incomplete := Map.put 0 n x.unit t.incomplete, reruns := t.reruns ++ [(x.kind, x.unit, x.index)] }
    else (s1.modTest fun t => { t with incomplete := Map.put 0 0 x.unit t.incomplete }).logEvent 3 11 x.unit
  else
    let s1 := s.modTest fun t => { t with incomplete := Map.put 0 0 x.unit t.incomplete }
    if r.sigOk then (s1.setObj 0x8801 1 x.unit 1).count 0x8801 2
    else ((s1.setObj 0x8801 1 x.unit 2).count 0x8801 3).sliceFailed x r

/-- SELF_TEST_SLICE_END (R479, R481, R482): the running slice of a unit ends; a stack slice ends with its cut. -/
def execSelfTestSliceEnd (unit : Nat) (r : SliceResult) (s : State) : Host.Outcome State Fault Refusal :=
  match s.test.slices.find? fun x => x.unit == unit with
  | none => .next s
  | some x =>
    let (st, pc, _) := rankPlace x.unit
    if x.kind = 0 ∧ (s.pc (pcNo st pc)).sliceWaits then .next s
    else
      let s1 := s.modTest fun t => { t with slices := t.slices.erase x }
      let s2 := if x.kind = 0 then s1.sliceReads x r else s1
      .next (s2.sliceResult x r)

end Sys2Proof.Machine
end

