-- ==== Sys2Proof/Machine/Spdm.lean ====
section
/-! DEFINITION. Spdm.lean: the SPDM responder (R419 to R421) and the forming and ending of host sessions (R417, R430,
R431). -/
namespace Sys2Proof.Machine

/-- Answer an SPDM request. -/
def State.spdm (s : State) (rq : Rq) (r : SpdmRsp) : State := ((s.signalPending rq).emit (.spdm rq r)).mailboxDone rq

/-- SPDM error codes of DSP0274 (log 45): invalid request, invalid session, unexpected request, decrypt error, unsupported
request, session limit exceeded. -/
def spInvalid : Nat := 0x01
def spSession : Nat := 0x02
def spUnexpected : Nat := 0x04
def spDecrypt : Nat := 0x06
def spUnsupported : Nat := 0x07
def spLimit : Nat := 0x0A

/-- Whether SPDM messages are answered at all (R439, R468, R469): not before the dictionary is, and in SAFE only when the
Operator asked for it. -/
def State.spdmServed (s : State) : Bool :=
  s.block.boot == .up && s.keys.identity && (s.block.state != .safe || s.block.safeCause == 3)

/-- An SPDM message: outside a session it is answered as it stands; one that comes in a session passes the session's
checks. -/
def State.spdmGate (s : State) (rq : Rq) (f : State → Option Nat → State) : State :=
  if !s.spdmServed then s.dropMessage rq
  else
    match rq.session with
    | none => f s none
    | some _ =>
      match s.gate rq with
      | .drop s => s
      | .noSession s => s.spdm rq (.error spSession)
      | .go n s => f s (some n)

/-- An SPDM request that is answered in the same way in and outside a session. -/
def State.spdmAny (s : State) (rq : Rq) (r : State → SpdmRsp) : State := s.spdmGate rq fun s _ => s.spdm rq (r s)

/-- An SPDM request that belongs in a session. -/
def State.spdmInside (s : State) (rq : Rq) (f : State → Nat → State) : State :=
  s.spdmGate rq fun s n => match n with | some n => f s n | none => s.spdm rq (.error spUnexpected)

/-- The heartbeat period offered, in seconds (R431). -/
def State.heartbeatOffer (s : State) : Nat := s.obj 0x1200 3 0

/-- GET_VERSION (R419). -/
def execGetVersion (rq : Rq) (s : State) : Host.Outcome State Fault Refusal := .next (s.spdmAny rq fun _ => .version)

/-- GET_CAPABILITIES (R419). -/
def execGetCapabilities (rq : Rq) (s : State) : Host.Outcome State Fault Refusal :=
  .next (s.spdmAny rq fun s => .capabilities s.heartbeatOffer)

/-- NEGOTIATE_ALGORITHMS (R419). -/
def execNegotiateAlgorithms (rq : Rq) (supported : Bool) (s : State) : Host.Outcome State Fault Refusal :=
  .next (s.spdmAny rq fun _ => if supported then .algorithms else .error spInvalid)

/-- GET_DIGESTS (R419). -/
def execGetDigests (rq : Rq) (s : State) : Host.Outcome State Fault Refusal := .next (s.spdmAny rq fun _ => .digests)

/-- GET_CERTIFICATE (R419): slot 0 only. -/
def execGetCertificate (rq : Rq) (slot : BitVec 4) (offset length : BitVec 16) (s : State) : Host.Outcome State Fault Refusal :=
  .next (s.spdmAny rq fun _ => if slot = 0 then .certificate offset.toNat length.toNat else .error spInvalid)

/-- CHALLENGE (R419): signed with the identity key; slot 0 only. -/
def execChallenge (rq : Rq) (slot : BitVec 4) (nonce : BitVec 256) (s : State) : Host.Outcome State Fault Refusal :=
  .next (s.spdmAny rq fun _ => if slot = 0 then .challengeAuth nonce else .error spInvalid)

/-! ### Measurements -/

/-- What measurement 2 covers (R421): every region's current entry and home placement. -/
def State.regionBytes (s : State) : List (BitVec 8) :=
  (upTo 4096).flatMap fun r =>
    let sl := s.slot r
    leBytes 32 (sl.now.pack r) ++ leBytes 4 sl.homeMask ++ leBytes 2 sl.homeBase

/-- What measurement 3 covers: the slot tables in force. -/
def State.slotBytes (s : State) : List (BitVec 8) := (upTo 32000).map fun el => BitVec.ofNat 8 (s.live' 0x4004 1 el)

/-- What measurement 4 covers: the profile number in force and that profile. -/
def State.profileBytes (s : State) : List (BitVec 8) :=
  let n := s.live' 0x1F00 1 0
  let img := profileImage (s.live' 0x1F01 1 n)
  BitVec.ofNat 8 n :: (if n < 4 then leBytes (pfLength img) img else [])

/-- What measurement 5 covers: role roots, minimum security version, compatibility. -/
def State.securityBytes (s : State) : List (BitVec 8) :=
  ((upTo 4).flatMap fun i => leBytes 97 (s.live' 0x6803 1 i)) ++ leBytes 2 s.keys.minimum ++ leBytes 1 (b2n s.compat)

/-- One measurement block (R421). -/
def State.measure (s : State) (index : Nat) : BitVec 384 :=
  match index with
  | 1 => Config.imageDigest s.keys.running s.keys.runVersion
  | 2 => Config.sha384 s.regionBytes
  | 3 => Config.sha384 s.slotBytes
  | 4 => Config.sha384 s.profileBytes
  | _ => Config.sha384 s.securityBytes

/-- GET_MEASUREMENTS (R421): one block, every block (0xFF), or their number (0), signed, with the frame count of the last
boundary. -/
def execGetMeasurements (rq : Rq) (index : BitVec 8) (s : State) : Host.Outcome State Fault Refusal :=
  let i := index.toNat
  .next (s.spdmAny rq fun s =>
    if i = 0 then .measurements 0 s.time.frame []
    else if i = 0xFF then .measurements 0xFF s.time.frame ([1, 2, 3, 4, 5].map s.measure)
    else if i ≤ 5 then .measurements i s.time.frame [s.measure i]
    else .error spInvalid)

/-! ### Sessions -/

/-- The lowest free session number (R430). -/
def State.freeSession (s : State) : Option Nat := (upTo 4).find? fun n => !(s.session n).isOpen

/-- KEY_EXCHANGE (R430). -/
def execKeyExchange (rq : Rq) (s : State) : Host.Outcome State Fault Refusal :=
  .next (s.spdmGate rq fun s _ =>
    match s.freeSession with
    | none => s.spdm rq (.error spLimit)
    | some _ =>
      (s.modMgmt fun m => { m with handshake := some { transport := rq.transport.val, endpoint := rq.endpoint.toNat } }).spdm rq
        (.keyExchange s.heartbeatOffer))

/-- A session begins (R430, R431): its roles are those in the leaf that its root allows (R417). -/
def State.openSession (s : State) (n : Nat) (rq : Rq) (leaf : LeafCert) : State :=
  let s1 := s.modSession n fun _ =>
    { isOpen := true
      transport := rq.transport.val
      endpoint := rq.endpoint.toNat
      roles := if bit leaf.roles.toNat leaf.root.val then 2 ^ leaf.root.val else 0
      tenant := leaf.tenant.toNat
      lastMsg := s.time.frame
      hbFrames := s.heartbeatOffer * 1000000 }
  ((s1.modMgmt fun m => { m with handshake := none }).setNow 0x1301 1 n (s.obj 0x1300 2 0)).setNow 0x1301 2 n 0x7FE

/-- FINISH (R430): the session takes the lowest free number. -/
def execFinish (rq : Rq) (leaf : LeafCert) (s : State) : Host.Outcome State Fault Refusal :=
  .next (s.spdmGate rq fun s _ =>
    match s.mgmt.handshake with
    | none => s.spdm rq (.error spUnexpected)
    | some h =>
      if h.transport != rq.transport.val || h.endpoint != rq.endpoint.toNat then s.spdm rq (.error spUnexpected)
      else if !leaf.ok then (s.modMgmt fun m => { m with handshake := none }).spdm rq (.error spDecrypt)
      else
        match s.freeSession with
        | none => s.spdm rq (.error spLimit)
        | some n => (s.openSession n rq leaf).spdm rq (.finished n))

/-- END_SESSION (R431). -/
def execEndSession (rq : Rq) (s : State) : Host.Outcome State Fault Refusal :=
  .next (s.spdmInside rq fun s n => ((s.spdm rq .endSessionAck).endSession n).asks (askKey 1 2 n) n)

/-- HEARTBEAT (R419, R431): the message itself keeps the session. -/
def execHeartbeat (rq : Rq) (s : State) : Host.Outcome State Fault Refusal :=
  .next (s.spdmInside rq fun s _ => s.spdm rq .heartbeatAck)

/-- KEY_UPDATE (R419). -/
def execKeyUpdate (rq : Rq) (s : State) : Host.Outcome State Fault Refusal :=
  .next (s.spdmInside rq fun s n =>
    (s.modMgmt fun m => { m with keyUpdates := Map.upd 0 n (· + 1) m.keyUpdates }).spdm rq .keyUpdateAck)

/-- UNSUPPORTED_SPDM_REQUEST (R419). -/
def execUnsupportedSpdmRequest (rq : Rq) (_code : BitVec 8) (s : State) : Host.Outcome State Fault Refusal :=
  .next (s.spdmAny rq fun _ => .error spUnsupported)

end Sys2Proof.Machine
end

