-- ==== Sys2Proof/Machine/Dispatch.lean ====
section
/-! DEFINITION. Dispatch.lean: the meaning of each command, one arm per constructor. -/
namespace Sys2Proof.Machine

/-- The effect of a command on everything but the queue. -/
def exec (i : Instr) (s : State) : Host.Outcome State Fault Refusal :=
  match i with
  | .read r => Sys2Proof.Machine.execRead r s
  | .write r => Sys2Proof.Machine.execWrite r s
  | .add r => Sys2Proof.Machine.execAdd r s
  | .swap r => Sys2Proof.Machine.execSwap r s
  | .cas r => Sys2Proof.Machine.execCas r s
  | .fence r => Sys2Proof.Machine.execFence r s
  | .reservedOperation r op cls => Sys2Proof.Machine.execReservedOperation r op cls s
  | .writeData port ps => Sys2Proof.Machine.execWriteData port ps s
  | .holdBufferRelease port c => Sys2Proof.Machine.execHoldBufferRelease port c s
  | .responseRelease port => Sys2Proof.Machine.execResponseRelease port s
  | .arbiterCycle stack k => Sys2Proof.Machine.execArbiterCycle stack k s
  | .agePromotion req => Sys2Proof.Machine.execAgePromotion req s
  | .watchdogBite req => Sys2Proof.Machine.execWatchdogBite req s
  | .pcControllerCycle stack pc k => Sys2Proof.Machine.execPcControllerCycle stack pc k s
  | .rowIdleClose stack pc sid bank k => Sys2Proof.Machine.execRowIdleClose stack pc sid bank k s
  | .readDataReturn stack pc errs => Sys2Proof.Machine.execReadDataReturn stack pc errs s
  | .secondLookResult stack pc errs => Sys2Proof.Machine.execSecondLookResult stack pc errs s
  | .correctiveRewrite stack => Sys2Proof.Machine.execCorrectiveRewrite stack s
  | .parityError stack pc k => Sys2Proof.Machine.execParityError stack pc k s
  | .replayTakeEnd stack pc => Sys2Proof.Machine.execReplayTakeEnd stack pc s
  | .frameBoundary => Sys2Proof.Machine.execFrameBoundary s
  | .callSheetComplete stack => Sys2Proof.Machine.execCallSheetComplete stack s
  | .referenceCycle => Sys2Proof.Machine.execReferenceCycle s
  | .ptpOffset ofs => Sys2Proof.Machine.execPtpOffset ofs s
  | .ptpRate rate => Sys2Proof.Machine.execPtpRate rate s
  | .stepRequest rq ns => Sys2Proof.Machine.execStepRequest rq ns s
  | .correctionModeSelect rq v => Sys2Proof.Machine.execCorrectionModeSelect rq v s
  | .rateCorrectionWrite rq v => Sys2Proof.Machine.execRateCorrectionWrite rq v s
  | .referenceFrequencyWrite rq hz => Sys2Proof.Machine.execReferenceFrequencyWrite rq hz s
  | .contribution pipe h beats payload => Sys2Proof.Machine.execContribution pipe h beats payload s
  | .laneAccumulate lane => Sys2Proof.Machine.execLaneAccumulate lane s
  | .creditReturn pipe => Sys2Proof.Machine.execCreditReturn pipe s
  | .resultSend => Sys2Proof.Machine.execResultSend s
  | .spillPacket desc bytes => Sys2Proof.Machine.execSpillPacket desc bytes s
  | .spillPull port => Sys2Proof.Machine.execSpillPull port s
  | .linkStatus port up => Sys2Proof.Machine.execLinkStatus port up s
  | .holdExpiry port => Sys2Proof.Machine.execHoldExpiry port s
  | .backPressureRefresh => Sys2Proof.Machine.execBackPressureRefresh s
  | .captureHeader port queue len hdr => Sys2Proof.Machine.execCaptureHeader port queue len hdr s
  | .captureReadIndex rq v => Sys2Proof.Machine.execCaptureReadIndex rq v s
  | .stockroomEnable rq => Sys2Proof.Machine.execStockroomEnable rq s
  | .stockroomDisable rq => Sys2Proof.Machine.execStockroomDisable rq s
  | .chunkFillEnd chunk => Sys2Proof.Machine.execChunkFillEnd chunk s
  | .fillAllowanceTaken chunk => Sys2Proof.Machine.execFillAllowanceTaken chunk s
  | .backgroundFillWrite stack => Sys2Proof.Machine.execBackgroundFillWrite stack s
  | .engineWaitEnd => Sys2Proof.Machine.execEngineWaitEnd s
  | .versionDrop region => Sys2Proof.Machine.execVersionDrop region s
  | .shotTableVersionDrop entry => Sys2Proof.Machine.execShotTableVersionDrop entry s
  | .refreshWindowStart stack => Sys2Proof.Machine.execRefreshWindowStart stack s
  | .selfRefreshEntry stack pc k => Sys2Proof.Machine.execSelfRefreshEntry stack pc k s
  | .selfRefreshExit stack pc k => Sys2Proof.Machine.execSelfRefreshExit stack pc k s
  | .stackSelfRefreshEnter rq stack => Sys2Proof.Machine.execStackSelfRefreshEnter rq stack s
  | .stackWakeRequest rq stack => Sys2Proof.Machine.execStackWakeRequest rq stack s
  | .stackIdleExpiry stack => Sys2Proof.Machine.execStackIdleExpiry stack s
  | .stackGate stack => Sys2Proof.Machine.execStackGate stack s
  | .stackWake stack => Sys2Proof.Machine.execStackWake stack s
  | .stackWakeService stack identity res train => Sys2Proof.Machine.execStackWakeService stack identity res train s
  | .timingSwitchRequest rq stack set => Sys2Proof.Machine.execTimingSwitchRequest rq stack set s
  | .timingSwitchChannelDone stack => Sys2Proof.Machine.execTimingSwitchChannelDone stack s
  | .histogramBinAdvance stack pc dis => Sys2Proof.Machine.execHistogramBinAdvance stack pc dis s
  | .retrainingApply stack pc res => Sys2Proof.Machine.execRetrainingApply stack pc res s
  | .pcRetrainComplete stack pc eyes => Sys2Proof.Machine.execPcRetrainComplete stack pc eyes s
  | .domainGateRequest rq domain v => Sys2Proof.Machine.execDomainGateRequest rq domain v s
  | .domainWakeComplete domain => Sys2Proof.Machine.execDomainWakeComplete domain s
  | .powerTelemetry domains rails => Sys2Proof.Machine.execPowerTelemetry domains rails s
  | .temperatureRead stack reading => Sys2Proof.Machine.execTemperatureRead stack reading s
  | .stackT4Gate stack => Sys2Proof.Machine.execStackT4Gate stack s
  | .thermalSlipRecord shot => Sys2Proof.Machine.execThermalSlipRecord shot s
  | .loftPortCycle slice d => Sys2Proof.Machine.execLoftPortCycle slice d s
  | .loftLineFill slice => Sys2Proof.Machine.execLoftLineFill slice s
  | .loftWriteBack slice => Sys2Proof.Machine.execLoftWriteBack slice s
  | .loftPatrolStep slice found => Sys2Proof.Machine.execLoftPatrolStep slice found s
  | .partitionChangeEffect q => Sys2Proof.Machine.execPartitionChangeEffect q s
  | .sliceFail slice tagsLost => Sys2Proof.Machine.execSliceFail slice tagsLost s
  | .sliceFence slice => Sys2Proof.Machine.execSliceFence slice s
  | .sliceMapReturn slice => Sys2Proof.Machine.execSliceMapReturn slice s
  | .reduce p => Sys2Proof.Machine.execReduce p s
  | .gather p => Sys2Proof.Machine.execGather p s
  | .score p => Sys2Proof.Machine.execScore p s
  | .project p => Sys2Proof.Machine.execProject p s
  | .select p => Sys2Proof.Machine.execSelect p s
  | .filter p => Sys2Proof.Machine.execFilter p s
  | .convert p => Sys2Proof.Machine.execConvert p s
  | .copy p => Sys2Proof.Machine.execCopy p s
  | .scan p => Sys2Proof.Machine.execScan p s
  | .fill p => Sys2Proof.Machine.execFill p s
  | .reservedKind p kind => Sys2Proof.Machine.execReservedKind p kind s
  | .shotExtend shot => Sys2Proof.Machine.execShotExtend shot s
  | .shotTimeAbort shot => Sys2Proof.Machine.execShotTimeAbort shot s
  | .listHeadTimeout list => Sys2Proof.Machine.execListHeadTimeout list s
  | .contextFree shot => Sys2Proof.Machine.execContextFree shot s
  | .jobAbort rq v => Sys2Proof.Machine.execJobAbort rq v s
  | .gatherBagStart unit => Sys2Proof.Machine.execGatherBagStart unit s
  | .gatherRowData unit => Sys2Proof.Machine.execGatherRowData unit s
  | .arrayRun array => Sys2Proof.Machine.execArrayRun array s
  | .selectMerge shot => Sys2Proof.Machine.execSelectMerge shot s
  | .filterKey shot => Sys2Proof.Machine.execFilterKey shot s
  | .patrolStep stack e => Sys2Proof.Machine.execPatrolStep stack e s
  | .bucketLeak => Sys2Proof.Machine.execBucketLeak s
  | .spliceLineCopy stack e => Sys2Proof.Machine.execSpliceLineCopy stack e s
  | .migrationStart stack => Sys2Proof.Machine.execMigrationStart stack s
  | .migrationLineCopy stack e => Sys2Proof.Machine.execMigrationLineCopy stack e s
  | .migrationCommit stack => Sys2Proof.Machine.execMigrationCommit stack s
  | .rebuildLineCopy region e => Sys2Proof.Machine.execRebuildLineCopy region e s
  | .declareDead rq unit => Sys2Proof.Machine.execDeclareDead rq unit s
  | .readmit rq unit => Sys2Proof.Machine.execReadmit rq unit s
  | .readmitResult pass => Sys2Proof.Machine.execReadmitResult pass s
  | .retirementReadIndex rq v => Sys2Proof.Machine.execRetirementReadIndex rq v s
  | .keyRotate rq region => Sys2Proof.Machine.execKeyRotate rq region s
  | .sweepStep stack region e => Sys2Proof.Machine.execSweepStep stack region e s
  | .sweepComplete region => Sys2Proof.Machine.execSweepComplete region s
  | .keyErase rq region => Sys2Proof.Machine.execKeyErase rq region s
  | .eraseEffect region => Sys2Proof.Machine.execEraseEffect region s
  | .entropyHealthChange h => Sys2Proof.Machine.execEntropyHealthChange h s
  | .drbgReseed => Sys2Proof.Machine.execDrbgReseed s
  | .microcodeSegment rq segment last sigOk version => Sys2Proof.Machine.execMicrocodeSegment rq segment last sigOk version s
  | .raiseMinimumVersion rq => Sys2Proof.Machine.execRaiseMinimumVersion rq s
  | .scanRequest => Sys2Proof.Machine.execScanRequest s
  | .scanClearComplete ok => Sys2Proof.Machine.execScanClearComplete ok s
  | .resetAssert lowNs => Sys2Proof.Machine.execResetAssert lowNs s
  | .resetRelease profile compat => Sys2Proof.Machine.execResetRelease profile compat s
  | .microcodeImage img => Sys2Proof.Machine.execMicrocodeImage img s
  | .dictionaryReachable => Sys2Proof.Machine.execDictionaryReachable s
  | .stackBringUpStepDone stack r => Sys2Proof.Machine.execStackBringUpStepDone stack r s
  | .hardwareFillDone stack => Sys2Proof.Machine.execHardwareFillDone stack s
  | .loftQuadrantTestDone q bad => Sys2Proof.Machine.execLoftQuadrantTestDone q bad s
  | .engineSelfTestDone unit pass => Sys2Proof.Machine.execEngineSelfTestDone unit pass s
  | .selfTestSliceRequest => Sys2Proof.Machine.execSelfTestSliceRequest s
  | .selfTestSliceEnd unit r => Sys2Proof.Machine.execSelfTestSliceEnd unit r s
  | .counterSample counter => Sys2Proof.Machine.execCounterSample counter s
  | .counterGrant rq elem v => Sys2Proof.Machine.execCounterGrant rq elem v s
  | .sampleReadIndex rq v => Sys2Proof.Machine.execSampleReadIndex rq v s
  | .mailboxDoorbell packet last => Sys2Proof.Machine.execMailboxDoorbell packet last s
  | .managementPacket rq bytes => Sys2Proof.Machine.execManagementPacket rq bytes s
  | .dictionaryRead rq o staged length => Sys2Proof.Machine.execDictionaryRead rq o staged length s
  | .dictionaryWrite rq o data => Sys2Proof.Machine.execDictionaryWrite rq o data s
  | .lock rq scopes => Sys2Proof.Machine.execLock rq scopes s
  | .commit rq => Sys2Proof.Machine.execCommit rq s
  | .discard rq => Sys2Proof.Machine.execDiscard rq s
  | .renew rq => Sys2Proof.Machine.execRenew rq s
  | .sessionReset rq => Sys2Proof.Machine.execSessionReset rq s
  | .reservedDictionaryOp rq op => Sys2Proof.Machine.execReservedDictionaryOp rq op s
  | .leaseExpiry n => Sys2Proof.Machine.execLeaseExpiry n s
  | .sessionTimeout n => Sys2Proof.Machine.execSessionTimeout n s
  | .eventAcknowledge rq v => Sys2Proof.Machine.execEventAcknowledge rq v s
  | .stateRequestService rq => Sys2Proof.Machine.execStateRequestService rq s
  | .stateRequestDrain rq => Sys2Proof.Machine.execStateRequestDrain rq s
  | .stateRequestTest rq => Sys2Proof.Machine.execStateRequestTest rq s
  | .stateRequestSafe rq => Sys2Proof.Machine.execStateRequestSafe rq s
  | .keyExchange rq => Sys2Proof.Machine.execKeyExchange rq s
  | .finish rq leaf => Sys2Proof.Machine.execFinish rq leaf s
  | .endSession rq => Sys2Proof.Machine.execEndSession rq s
  | .getMeasurements rq index => Sys2Proof.Machine.execGetMeasurements rq index s
  | .getVersion rq => Sys2Proof.Machine.execGetVersion rq s
  | .getCapabilities rq => Sys2Proof.Machine.execGetCapabilities rq s
  | .negotiateAlgorithms rq supported => Sys2Proof.Machine.execNegotiateAlgorithms rq supported s
  | .getDigests rq => Sys2Proof.Machine.execGetDigests rq s
  | .getCertificate rq slot offset length => Sys2Proof.Machine.execGetCertificate rq slot offset length s
  | .challenge rq slot nonce => Sys2Proof.Machine.execChallenge rq slot nonce s
  | .heartbeat rq => Sys2Proof.Machine.execHeartbeat rq s
  | .keyUpdate rq => Sys2Proof.Machine.execKeyUpdate rq s
  | .entdaa addr => Sys2Proof.Machine.execEntdaa addr s
  | .rstdaa => Sys2Proof.Machine.execRstdaa s
  | .enec mask => Sys2Proof.Machine.execEnec mask s
  | .disec mask => Sys2Proof.Machine.execDisec mask s
  | .getpid => Sys2Proof.Machine.execGetpid s
  | .getbcr => Sys2Proof.Machine.execGetbcr s
  | .getdcr => Sys2Proof.Machine.execGetdcr s
  | .getmrl => Sys2Proof.Machine.execGetmrl s
  | .getmwl => Sys2Proof.Machine.execGetmwl s
  | .setmrl v => Sys2Proof.Machine.execSetmrl v s
  | .setmwl v => Sys2Proof.Machine.execSetmwl v s
  | .coreSelfTestDone pass => Sys2Proof.Machine.execCoreSelfTestDone pass s
  | .i3cMctpTransfer rq bytes last => Sys2Proof.Machine.execI3cMctpTransfer rq bytes last s
  | .unsupportedSpdmRequest rq code => Sys2Proof.Machine.execUnsupportedSpdmRequest rq code s
  | .corePowerLoss => Sys2Proof.Machine.execCorePowerLoss s
  | .selectEntryDeal shot => Sys2Proof.Machine.execSelectEntryDeal shot s
  | .checkValueBlock shot => Sys2Proof.Machine.execCheckValueBlock shot s
  | .dollyShotTransfer shot => Sys2Proof.Machine.execDollyShotTransfer shot s
  | .fillShotWrite shot => Sys2Proof.Machine.execFillShotWrite shot s
  | .lostLineRewrite stack => Sys2Proof.Machine.execLostLineRewrite stack s

end Sys2Proof.Machine
end

