-- ==== Sys2Proof/Safety.lean ====
section
/-! DEFINITION. Safety.lean: what a safe step and a safe run of steps are, and the canonical form of the tables, in the terms the statements use. -/
namespace Sys2Proof.Safety

open Sys2Proof.Machine

/-- A step that goes on. -/
def Goes (s : State) : Prop := ∃ t, step s = .next t

/-- `n` steps, as far as they go on. -/
def run : Nat → State → Option State
  | 0, s => some s
  | n + 1, s =>
    match step s with
    | .next t => run n t
    | _ => none

/-- A run of `n` steps in which none stops. -/
def RunsOn (n : Nat) (s : State) : Prop := ∃ t, run n s = some t

/-- The tables of the state are in their canonical form: keys rise and no entry equals what an unlisted key reads as, so
that equal contents are equal data; the keys of the dictionary objects rise. -/
def Canonical (s : State) : Prop :=
  Memory.wf s.dram = true ∧ Map.wf (fun _ => ({} : PcState)) s.pcs = true ∧
    Map.wf (fun _ => ({} : PortState)) s.ports = true ∧ Map.wf (fun _ => ({} : StackState)) s.stackTab = true ∧
      Map.wf (fun _ => (0 : Nat)) s.tokens = true ∧
        Map.rising s.objs = true ∧ Map.rising s.live = true ∧ Map.rising s.live2 = true

/-- The parts of the state, one for each field of State but the free-value counter's meaning. -/
inductive Part where
  | time | block | mgmt | objs | live | live2 | regions | dram | reqs | nextReq | ports | stackTab | pcs | loft | shot
  | entry | packet | seqNo | keys | test | tokens | free | outbox | pending
deriving DecidableEq, Repr

/-- A part is the same in two states. -/
def Part.Same (p : Part) (s t : State) : Prop :=
  match p with
  | .time => t.time = s.time
  | .block => t.block = s.block
  | .mgmt => t.mgmt = s.mgmt
  | .objs => t.objs = s.objs
  | .live => t.live = s.live
  | .live2 => t.live2 = s.live2
  | .regions => t.regions = s.regions
  | .dram => t.dram = s.dram
  | .reqs => t.reqs = s.reqs
  | .nextReq => t.nextReq = s.nextReq
  | .ports => t.ports = s.ports
  | .stackTab => t.stackTab = s.stackTab
  | .pcs => t.pcs = s.pcs
  | .loft => t.loft = s.loft
  | .shot => t.shot = s.shot
  | .entry => t.entry = s.entry
  | .packet => t.packet = s.packet
  | .seqNo => t.seqNo = s.seqNo
  | .keys => t.keys = s.keys
  | .test => t.test = s.test
  | .tokens => t.tokens = s.tokens
  | .free => t.free = s.free
  | .outbox => t.outbox = s.outbox
  | .pending => t.pending = s.pending

/-- From `s` to `t` nothing changed but the parts listed. -/
def Changes (l : List Part) (s t : State) : Prop := ∀ p : Part, p ∉ l → p.Same s t

/-- The outputs sent from `s` to `t`. -/
def Sends (l : List Output) (s t : State) : Prop := t.outbox = s.outbox ++ l

/-- The doorbell that follows an answer through the mailbox (R60). -/
def bell (rq : Rq) : List Output := if rq.transport = 1 then [.doorbell] else []

/-- The in-band interrupt that goes before an answer on the I3C sideband, where the controller enabled it (R59). -/
def notice (rq : Rq) (s : State) : List Output :=
  if rq.transport = 0 ∧ s.mgmt.i3cAddr.isSome = true ∧ bit s.mgmt.i3cEvents 0 = true then [.inBand] else []

/-- The one answer to a dictionary request (R434). -/
def Answers (rq : Rq) (op code : Nat) (data : List Byte) (s t : State) : Prop :=
  Sends (notice rq s ++ .rykin rq op code data :: bell rq) s t

/-- The one answer to an SPDM request. -/
def Replies (rq : Rq) (r : SpdmRsp) (s t : State) : Prop := Sends (notice rq s ++ .spdm rq r :: bell rq) s t

/-- A port whose buffer has room for a position of write data (R48), with request numbers used once each and no post that
has its slate still waiting for it. -/
def WriteReady (s : State) (p : Nat) : Prop :=
  s.writeBuffer p ≤ 65024 ∧ (s.reqs.map (·.id)).Nodup ∧
    ∀ r ∈ s.portReqs p, r.op = .post → r.phase = .wait → r.data = none

/-- A request with its write data, first position lowest (R48); its wait for the next step begins (R118). -/
def withData (s : State) (q : Req) (got : List Sector) : Req :=
  { q with
    data := some (BitVec.ofNat 2048 ((List.range got.length).foldl (fun n i => n + (got.getD i 0).toNat * 2 ^ (512 * i)) 0))
    waitSince := s.time.frame }

/-- A message that the block takes from session `n`, which holds one of the roles (R429 to R431, R436, R438). -/
def Heard (s : State) (rq : Rq) (n : Fin 4) (roles : Nat) : Prop :=
  s.block.boot = .up ∧ s.block.state ≠ .safe ∧ rq.session = some n ∧ (s.session n.val).isOpen = true ∧
    (s.session n.val).transport = rq.transport.val ∧ (s.session n.val).endpoint = rq.endpoint.toNat ∧
      (s.session n.val).ending = false ∧ (s.session n.val).has roles = true

/-- What holds of a block that is in SAFE (R440, R469): it is up or held in reset, and the one change of state that may
have been asked for is SAFE again; and no change is asked for before the dictionary answers (R468). -/
def SafeHeld (s : State) : Prop :=
  (s.block.state = .safe → (s.block.boot = .up ∨ s.block.boot = .held) ∧ (s.block.request = none ∨ s.block.request = some .safe)) ∧
    (s.block.boot ≠ .up → s.block.boot ≠ .held → s.block.request = none)

/-- Families of commands. -/
inductive Family where
  | ports | memory | time | packets | loft | shots | repair | chip | management
deriving DecidableEq, Repr

/-- The family of a command: the requester ports and arbiters; the pseudo-channel controllers, refresh and training; time
and frames; packets; regions and the Loft; shots and engines; integrity, repair, self-test and counters; keys, reset,
bring-up and power; management. -/
def familyOf : Instr → Family
  | .read _ | .write _ | .add _ | .swap _ | .cas _ | .fence _ | .reservedOperation _ _ _ | .writeData _ _
  | .holdBufferRelease _ _ | .responseRelease _ | .arbiterCycle _ _ | .agePromotion _ | .watchdogBite _ => .ports
  | .pcControllerCycle _ _ _ | .rowIdleClose _ _ _ _ _ | .readDataReturn _ _ _ | .secondLookResult _ _ _
  | .correctiveRewrite _ | .parityError _ _ _ | .replayTakeEnd _ _ | .refreshWindowStart _
  | .selfRefreshEntry _ _ _ | .selfRefreshExit _ _ _ | .stackSelfRefreshEnter _ _ | .stackWakeRequest _ _
  | .stackIdleExpiry _ | .stackGate _ | .stackWake _ | .stackWakeService _ _ _ _ | .timingSwitchRequest _ _ _
  | .timingSwitchChannelDone _ | .histogramBinAdvance _ _ _ | .retrainingApply _ _ _ | .pcRetrainComplete _ _ _ => .memory
  | .frameBoundary | .callSheetComplete _ | .referenceCycle | .ptpOffset _ | .ptpRate _ | .stepRequest _ _
  | .correctionModeSelect _ _ | .rateCorrectionWrite _ _ | .referenceFrequencyWrite _ _ => .time
  | .contribution _ _ _ _ | .laneAccumulate _ | .creditReturn _ | .resultSend | .spillPacket _ _
  | .spillPull _ | .linkStatus _ _ | .holdExpiry _ | .backPressureRefresh | .captureHeader _ _ _ _
  | .captureReadIndex _ _ | .stockroomEnable _ | .stockroomDisable _ => .packets
  | .chunkFillEnd _ | .fillAllowanceTaken _ | .backgroundFillWrite _ | .engineWaitEnd | .versionDrop _
  | .shotTableVersionDrop _ | .loftPortCycle _ _ | .loftLineFill _ | .loftWriteBack _ | .loftPatrolStep _ _
  | .partitionChangeEffect _ | .sliceFail _ _ | .sliceFence _ | .sliceMapReturn _ => .loft
  | .reduce _ | .gather _ | .score _ | .project _ | .select _ | .filter _ | .convert _ | .copy _ | .scan _
  | .fill _ | .reservedKind _ _ | .shotExtend _ | .shotTimeAbort _ | .listHeadTimeout _ | .contextFree _
  | .jobAbort _ _ | .gatherBagStart _ | .gatherRowData _ | .arrayRun _ | .selectMerge _ | .filterKey _
  | .selectEntryDeal _ | .checkValueBlock _ | .dollyShotTransfer _ | .fillShotWrite _ => .shots
  | .patrolStep _ _ | .bucketLeak | .spliceLineCopy _ _ | .migrationStart _ | .migrationLineCopy _ _
  | .migrationCommit _ | .rebuildLineCopy _ _ | .declareDead _ _ | .readmit _ _ | .readmitResult _
  | .retirementReadIndex _ _ | .lostLineRewrite _ | .selfTestSliceRequest | .selfTestSliceEnd _ _
  | .counterSample _ | .counterGrant _ _ _ | .sampleReadIndex _ _ => .repair
  | .domainGateRequest _ _ _ | .domainWakeComplete _ | .powerTelemetry _ _ | .temperatureRead _ _
  | .stackT4Gate _ | .thermalSlipRecord _ | .keyRotate _ _ | .sweepStep _ _ _ | .sweepComplete _
  | .keyErase _ _ | .eraseEffect _ | .entropyHealthChange _ | .drbgReseed | .microcodeSegment _ _ _ _ _
  | .raiseMinimumVersion _ | .scanRequest | .scanClearComplete _ | .resetAssert _ | .resetRelease _ _
  | .microcodeImage _ | .dictionaryReachable | .stackBringUpStepDone _ _ | .hardwareFillDone _
  | .loftQuadrantTestDone _ _ | .engineSelfTestDone _ _ | .coreSelfTestDone _ | .corePowerLoss => .chip
  | .mailboxDoorbell _ _ | .managementPacket _ _ | .dictionaryRead _ _ _ _ | .dictionaryWrite _ _ _ | .lock _ _
  | .commit _ | .discard _ | .renew _ | .sessionReset _ | .reservedDictionaryOp _ _ | .leaseExpiry _
  | .sessionTimeout _ | .eventAcknowledge _ _ | .stateRequestService _ | .stateRequestDrain _
  | .stateRequestTest _ | .stateRequestSafe _ | .keyExchange _ | .finish _ _ | .endSession _
  | .getMeasurements _ _ | .getVersion _ | .getCapabilities _ | .negotiateAlgorithms _ _ | .getDigests _
  | .getCertificate _ _ _ _ | .challenge _ _ _ | .heartbeat _ | .keyUpdate _ | .entdaa _ | .rstdaa | .enec _
  | .disec _ | .getpid | .getbcr | .getdcr | .getmrl | .getmwl | .setmrl _ | .setmwl _ | .i3cMctpTransfer _ _ _
  | .unsupportedSpdmRequest _ _ => .management

/-- The parts of the state that a command may change; every other part is as before, whatever the state. -/
def mayChange : Instr → List Part
  | .read _ | .write _ | .add _ | .swap _ | .cas _
    => [.block, .mgmt, .objs, .regions, .reqs, .nextReq, .ports, .stackTab, .seqNo, .test]
  | .fence _ => [.objs, .reqs, .nextReq, .ports, .test]
  | .reservedOperation _ _ _ => [.reqs, .nextReq, .ports]
  | .writeData _ _ => [.block, .mgmt, .objs, .reqs, .ports, .stackTab, .shot]
  | .holdBufferRelease _ _ => [.block, .mgmt, .objs, .regions, .reqs, .stackTab, .loft, .shot, .seqNo, .test]
  | .responseRelease _ => [.objs, .reqs, .ports, .test, .outbox]
  | .arbiterCycle _ _ => [.objs, .regions, .dram, .reqs, .stackTab, .pcs, .loft, .seqNo, .test, .tokens]
  | .agePromotion _ => [.objs, .reqs, .pcs, .test]
  | .replayTakeEnd _ _
    => [.block, .mgmt, .objs, .regions, .reqs, .nextReq, .stackTab, .pcs, .loft, .shot, .packet, .seqNo, .test, .outbox]
  | .watchdogBite _ => [.mgmt, .objs, .reqs, .ports, .pcs, .loft, .shot]
  | .pcControllerCycle _ _ _ => [.objs, .dram, .pcs, .test]
  | .rowIdleClose _ _ _ _ _ => [.pcs]
  | .selfRefreshExit _ _ _ => [.pcs, .test, .free]
  | .readDataReturn _ _ _ | .secondLookResult _ _ _
    => [.block, .mgmt, .objs, .regions, .dram, .reqs, .nextReq, .stackTab, .pcs, .loft, .shot, .packet, .seqNo, .test, .free, .outbox]
  | .patrolStep _ _ | .spliceLineCopy _ _ | .migrationLineCopy _ _
    => [.mgmt, .objs, .dram, .reqs, .stackTab, .pcs, .test, .tokens, .free]
  | .correctiveRewrite _ => [.objs, .dram, .stackTab, .pcs, .test, .tokens, .free]
  | .parityError _ _ _ => [.objs, .reqs, .stackTab, .pcs, .seqNo, .test]
  | .frameBoundary
    => [.time, .block, .mgmt, .objs, .live, .live2, .regions, .dram, .reqs, .nextReq, .ports, .stackTab, .pcs, .loft, .shot, .entry, .packet, .seqNo, .keys, .test, .tokens, .free, .outbox]
  | .callSheetComplete _ => [.objs, .stackTab, .pcs, .free]
  | .timingSwitchChannelDone _ => [.objs, .stackTab, .pcs]
  | .referenceCycle => [.time]
  | .ptpOffset _ => [.time, .objs]
  | .ptpRate _ | .mailboxDoorbell _ _ | .leaseExpiry _ => [.mgmt, .objs]
  | .stepRequest _ _ | .referenceFrequencyWrite _ _ => [.time, .mgmt, .objs, .outbox]
  | .correctionModeSelect _ _ | .rateCorrectionWrite _ _ | .captureReadIndex _ _ | .retirementReadIndex _ _
  | .sampleReadIndex _ _ | .dictionaryRead _ _ _ _ | .lock _ _ | .discard _ | .renew _ | .sessionReset _
  | .reservedDictionaryOp _ _ | .keyExchange _ | .endSession _ | .getMeasurements _ _ | .getVersion _
  | .getCapabilities _ | .negotiateAlgorithms _ _ | .getDigests _ | .getCertificate _ _ _ _
  | .challenge _ _ _ | .heartbeat _ | .keyUpdate _ | .unsupportedSpdmRequest _ _
    => [.mgmt, .objs, .outbox]
  | .contribution _ _ _ _ => [.objs, .shot, .entry, .test]
  | .laneAccumulate _ => [.objs, .loft, .shot, .entry, .test]
  | .creditReturn _ => [.objs, .entry, .test, .outbox]
  | .resultSend => [.objs, .shot, .entry, .outbox]
  | .spillPacket _ _ | .spillPull _ | .engineWaitEnd
    => [.block, .mgmt, .objs, .regions, .reqs, .nextReq, .stackTab, .loft, .shot, .packet, .seqNo, .test, .outbox]
  | .linkStatus _ _ | .holdExpiry _ => [.objs, .packet]
  | .backPressureRefresh | .getpid | .getbcr | .getdcr | .getmrl | .getmwl => [.outbox]
  | .captureHeader _ _ _ _
    => [.block, .mgmt, .objs, .regions, .reqs, .nextReq, .stackTab, .loft, .shot, .packet, .seqNo, .test]
  | .stockroomEnable _ => [.mgmt, .objs, .packet, .outbox]
  | .stockroomDisable _
    => [.block, .mgmt, .objs, .live, .regions, .reqs, .nextReq, .stackTab, .loft, .shot, .packet, .seqNo, .test, .outbox]
  | .chunkFillEnd _ | .backgroundFillWrite _
    => [.objs, .regions, .dram, .reqs, .stackTab, .pcs, .loft, .shot, .seqNo, .test, .tokens]
  | .fillAllowanceTaken _ => [.objs, .regions]
  | .versionDrop _ => [.objs, .regions, .loft]
  | .shotTableVersionDrop _ => [.loft, .shot]
  | .refreshWindowStart _ => [.stackTab, .pcs]
  | .selfRefreshEntry _ _ _ => [.objs, .pcs, .test]
  | .histogramBinAdvance _ _ _ => [.objs, .pcs]
  | .stackSelfRefreshEnter _ _ | .stackWakeRequest _ _ | .timingSwitchRequest _ _ _
    => [.mgmt, .objs, .stackTab, .outbox]
  | .stackIdleExpiry _ => [.stackTab]
  | .stackGate _ | .stackT4Gate _ => [.block, .mgmt, .objs, .regions, .reqs, .stackTab, .loft, .seqNo, .test]
  | .stackWake _ => [.block, .mgmt, .objs, .stackTab, .pcs, .test, .free]
  | .stackWakeService _ _ _ _ | .stackBringUpStepDone _ _ => [.block, .mgmt, .objs, .stackTab, .pcs, .free]
  | .retrainingApply _ _ _ | .pcRetrainComplete _ _ _ => [.mgmt, .objs, .stackTab, .pcs, .free]
  | .domainGateRequest _ _ _ | .declareDead _ _ | .readmit _ _ => [.mgmt, .objs, .test, .outbox]
  | .domainWakeComplete _ | .loftQuadrantTestDone _ _ => [.block, .mgmt, .objs, .loft]
  | .powerTelemetry _ _ => [.objs, .stackTab, .test]
  | .temperatureRead _ _ | .migrationCommit _ => [.mgmt, .objs, .stackTab]
  | .thermalSlipRecord _ => [.objs, .shot, .entry, .free]
  | .shotExtend _ => [.objs, .shot, .entry]
  | .loftPortCycle _ _ => [.objs, .regions, .dram, .reqs, .nextReq, .stackTab, .loft, .shot, .packet, .seqNo, .test]
  | .loftLineFill _ => [.objs, .regions, .reqs, .loft, .shot, .seqNo, .test]
  | .loftWriteBack _ => [.objs, .reqs, .nextReq, .stackTab, .loft, .test]
  | .loftPatrolStep _ _ => [.objs, .reqs, .nextReq, .stackTab, .loft, .shot]
  | .partitionChangeEffect _ => [.objs, .live, .loft]
  | .sliceFail _ _
    => [.mgmt, .objs, .live, .regions, .reqs, .nextReq, .pcs, .loft, .shot, .entry, .packet, .seqNo, .test]
  | .sliceFence _ | .sliceMapReturn _ => [.objs, .loft]
  | .reduce _ | .gather _ | .score _ | .project _ | .select _ | .filter _ | .convert _ | .copy _ | .scan _
  | .fill _ | .reservedKind _ _
    => [.block, .mgmt, .objs, .regions, .reqs, .nextReq, .ports, .stackTab, .loft, .shot, .seqNo, .test, .outbox]
  | .shotTimeAbort _ => [.mgmt, .objs, .regions, .reqs, .nextReq, .pcs, .loft, .shot, .entry, .seqNo, .test]
  | .listHeadTimeout _ => [.mgmt, .objs, .reqs, .nextReq, .shot, .entry, .test]
  | .contextFree _ => [.shot]
  | .jobAbort _ _ => [.mgmt, .objs, .shot, .outbox]
  | .gatherBagStart _ | .gatherRowData _ | .arrayRun _ | .filterKey _ | .dollyShotTransfer _
  | .selectEntryDeal _ | .checkValueBlock _ | .fillShotWrite _
    => [.block, .mgmt, .objs, .regions, .reqs, .nextReq, .stackTab, .loft, .shot, .seqNo, .test]
  | .selectMerge _
    => [.block, .mgmt, .objs, .regions, .reqs, .nextReq, .stackTab, .loft, .shot, .entry, .seqNo, .test]
  | .bucketLeak | .counterSample _ => [.objs, .test]
  | .migrationStart _ => [.mgmt, .objs, .dram, .reqs, .stackTab]
  | .rebuildLineCopy _ _ | .sweepStep _ _ _
    => [.mgmt, .objs, .regions, .dram, .reqs, .stackTab, .pcs, .test, .tokens, .free]
  | .readmitResult _ => [.block, .mgmt, .objs, .dram, .stackTab, .test]
  | .keyRotate _ _ => [.mgmt, .objs, .regions, .keys, .outbox]
  | .sweepComplete _ => [.mgmt, .objs, .regions]
  | .keyErase _ _ => [.mgmt, .objs, .regions, .outbox]
  | .eraseEffect _ => [.objs, .regions, .loft, .keys]
  | .entropyHealthChange _ => [.mgmt, .objs, .keys]
  | .drbgReseed => [.keys]
  | .microcodeSegment _ _ _ _ _ | .raiseMinimumVersion _ => [.mgmt, .objs, .keys, .outbox]
  | .scanRequest => [.block, .mgmt, .objs, .regions, .reqs, .nextReq, .pcs, .loft, .shot, .entry, .seqNo, .test]
  | .scanClearComplete _ => [.block, .loft, .shot]
  | .resetAssert _
    => [.time, .block, .mgmt, .objs, .live, .live2, .regions, .reqs, .nextReq, .ports, .stackTab, .pcs, .loft, .shot, .entry, .packet, .seqNo, .keys, .test, .tokens, .free]
  | .resetRelease _ _ | .corePowerLoss
    => [.time, .block, .mgmt, .objs, .live, .live2, .regions, .reqs, .nextReq, .ports, .stackTab, .pcs, .loft, .shot, .entry, .packet, .seqNo, .keys, .test, .tokens]
  | .microcodeImage _ => [.block, .mgmt, .objs, .live, .live2, .regions, .stackTab, .loft, .keys]
  | .dictionaryReachable => [.block, .mgmt, .objs, .stackTab]
  | .hardwareFillDone _ => [.block, .mgmt, .objs, .dram, .stackTab]
  | .engineSelfTestDone _ _ => [.block, .mgmt, .objs, .test]
  | .selfTestSliceRequest => [.pcs, .test]
  | .selfTestSliceEnd _ _ => [.mgmt, .objs, .dram, .reqs, .stackTab, .pcs, .loft, .test, .free]
  | .counterGrant _ _ _ | .eventAcknowledge _ _ | .finish _ _ => [.mgmt, .objs, .live, .outbox]
  | .managementPacket _ _ => [.objs]
  | .dictionaryWrite _ _ _
    => [.time, .block, .mgmt, .objs, .live, .regions, .reqs, .nextReq, .stackTab, .loft, .shot, .packet, .seqNo, .keys, .test, .outbox]
  | .commit _ => [.mgmt, .objs, .live, .regions, .reqs, .stackTab, .loft, .shot, .packet, .keys, .test, .outbox]
  | .sessionTimeout _ | .entdaa _ | .rstdaa | .enec _ | .disec _ | .setmrl _ | .setmwl _
  | .i3cMctpTransfer _ _ _
    => [.mgmt]
  | .stateRequestService _ | .stateRequestDrain _ | .stateRequestTest _ | .stateRequestSafe _
    => [.block, .mgmt, .objs, .outbox]
  | .coreSelfTestDone _ => [.block]
  | .lostLineRewrite _ => [.objs, .regions, .dram, .stackTab, .pcs, .test, .tokens]

/-- An access that passes every check of R513: a region's live extent holds it, and nothing refuses it. -/
def Accepts (s : State) (op : ReqOp) (r : PortReq) (region off : Nat) : Prop :=
  let e := (s.slot region).now
  s.portReady r.port.val r.cls = true ∧ r.addr.toNat % reqBytes op r.size.toNat = 0 ∧
    s.tagOut r.port.val r.tag.toNat = false ∧ s.lookup r.addr.toNat (reqBytes op r.size.toNat) = some (region, off) ∧
      r.tenant.toNat = e.tenant ∧ s.block.state ≠ .safe ∧ s.block.scanEn = false ∧ (s.slot region).erasing = false ∧
        (op.writes = true → s.lostWrite region e.version off = false) ∧
          (op.writes = true → e.loft = 2 →
            s.loft.lostLines.contains ((s.scratchKey (chunkOf e off) (off % 2097152 / 256)).getD (2 ^ 40)) = false) ∧
            (op = .read → s.blank (chunkOf e off) = true ∨ ((s.slot region).lost = false ∧ s.lostRebuild region off = false)) ∧
              s.readyFor op region e.version off = .ok

/-- A READ, WRITE or atomic slot as its command. -/
def accessOf (op : ReqOp) (r : PortReq) : Option Instr :=
  match op with
  | .read => some (.read r)
  | .write => some (.write r)
  | .add => some (.add r)
  | .swap => some (.swap r)
  | .cas => some (.cas r)
  | _ => none

/-- One request is taken into the tracker, behind every other, and nothing else becomes of the requests. -/
def Takes (q : Req) (s t : State) : Prop := t.reqs = s.reqs ++ [q] ∧ t.nextReq = s.nextReq + 1

/-- A slot is answered REFUSED with a detail: it is tracked for its place in order, answered, and waits for no data more
than its operation brings (R48, R51). -/
def RefusedWith (d : Detail) (op : ReqOp) (r : PortReq) (s t : State) : Prop :=
  ∃ q : Req, Takes q s t ∧ q.id = s.nextReq ∧ q.master = r.port.val ∧ q.op = op ∧ q.tag = r.tag.toNat ∧
    q.whole = some (.refused, d) ∧ q.phase = .done ∧ t.regions = s.regions ∧ t.loft = s.loft ∧ t.dram = s.dram

end Sys2Proof.Safety
end

