-- ==== Sys2Proof/Certificates/Slice0/Obligations.lean ====
section
/-! DEFINITION. Obligations.lean: what is stated of the KV-4T, for the provers. Every statement is about a command and a
state of any kind; one that rests on a choice of the model names its log entry. -/

open Sys2Proof Sys2Proof.Machine

/-- For every command c, state s and queue rest: step of s with c in front of rest is exec of c on s with the queue
rest. A step on an empty queue answers the same state. The queue and the idling are the model's DESIGN CHOICE of log
1. -/
def Obligations.StepRunsTheFrontCommand : Prop :=
  (∀ (c : Instr) (rest : List Instr) (s : State),
    step { s with pending := c :: rest } = exec c { s with pending := rest }) ∧
  ∀ s : State, s.pending = [] → step s = .next s

/-- For every command and every state, exec answers a next state: the specification gives every command of the table an
effect, so none stops the machine. And for every state with a command in front the step answers a next state whose
queue is the rest: no command adds, drops or reorders waiting commands. -/
def Obligations.EveryStepGoesOnAndTakesOneCommand : Prop :=
  (∀ (c : Instr) (s : State), ∃ t, exec c s = .next t) ∧
  ∀ (c : Instr) (rest : List Instr) (s : State), s.pending = c :: rest → ∃ t, step s = .next t ∧ t.pending = rest

/-- For every state and command: either the command is FRAME_BOUNDARY and the frame count is one more (the same in OFF),
or it is RESET_ASSERT, RESET_RELEASE or CORE_POWER_LOSS, or the frame count is unchanged. In every state that is not
OFF, FRAME_BOUNDARY completes and adds one; a step of the time of day that applies at the boundary does not change
that. At reset the count is 0. -/
def Obligations.OnlyBoundariesAndResetsMoveTheFrameCount : Prop :=
  State.reset.time.frame = 0 ∧
  (∀ s : State, s.block.boot ≠ .down → ∃ t, exec .frameBoundary s = .next t ∧ t.time.frame = s.time.frame + 1) ∧
  ∀ (c : Instr) (s t : State), exec c s = .next t →
    (c = .frameBoundary ∧ (s.block.boot = .down ∧ t.time.frame = s.time.frame ∨ t.time.frame = s.time.frame + 1)) ∨
      (∃ n, c = .resetAssert n) ∨ (∃ p k, c = .resetRelease p k) ∨ c = .corePowerLoss ∨ t.time.frame = s.time.frame

/-- At reset the time of day and the frame count are 0, the correction mode is SERVO, the block is in BRING-UP before
its core self-test, no domain is ready, no request, shot, session or event is there, memory lists nothing and the
command queue is empty; and the first boundary comes at 1,000 ns. -/
def Obligations.ResetState : Prop :=
  State.reset.time.tod = 0 ∧ State.reset.time.frame = 0 ∧ State.reset.time.mode = .servo ∧ State.reset.time.nextNs = 1000 ∧
    State.reset.block.state = .bringUp ∧ State.reset.block.boot = .coreTest ∧ (∀ d, State.reset.readiness d = 0) ∧
      State.reset.reqs = [] ∧ State.reset.shot.shots = [] ∧ (∀ n, (State.reset.session n).isOpen = false) ∧
        State.reset.mgmt.events = [] ∧ State.reset.dram = [] ∧ State.reset.pending = []

/-- At reset every table of the state (the stacks' memory, pseudo-channels, ports, stacks, regulators) is in the one
canonical form. -/
def Obligations.ResetIsCanonical : Prop :=
  Safety.Canonical State.reset

/-- For every state whose tables are in canonical form: whatever command a step runs, the next state's tables are in
canonical form. So equal contents of the stacks' memory, the pseudo-channels, the ports, the stacks and the
regulators stay equal data. -/
def Obligations.EveryStepKeepsCanonicalTables : Prop :=
  ∀ s t : State, Safety.Canonical s → step s = .next t → Safety.Canonical t

/-- For every command of the families ports, memory, time, every state and every next state that exec answers: every
part of the state that Safety.mayChange does not list for that command is as before. A command whose list holds no
dram leaves every byte of the stacks' memory as it was; one without pcs leaves every bank and queue, one without
keys every key, one without mgmt every session, lock and event, and so on. -/
def Obligations.FrameOfPortMemoryAndTimeCommands : Prop :=
  ∀ (c : Instr) (s t : State), (Safety.familyOf c = .ports ∨ Safety.familyOf c = .memory ∨ Safety.familyOf c = .time) →
    exec c s = .next t → Safety.Changes (Safety.mayChange c) s t

/-- For every command of the families packets, loft, shots, every state and every next state that exec answers: every
part of the state that Safety.mayChange does not list for that command is as before. A command whose list holds no
dram leaves every byte of the stacks' memory as it was; one without pcs leaves every bank and queue, one without
keys every key, one without mgmt every session, lock and event, and so on. -/
def Obligations.FrameOfPacketLoftAndShotCommands : Prop :=
  ∀ (c : Instr) (s t : State), (Safety.familyOf c = .packets ∨ Safety.familyOf c = .loft ∨ Safety.familyOf c = .shots) →
    exec c s = .next t → Safety.Changes (Safety.mayChange c) s t

/-- For every command of the families repair, chip, management, every state and every next state that exec answers:
every part of the state that Safety.mayChange does not list for that command is as before. A command whose list
holds no dram leaves every byte of the stacks' memory as it was; one without pcs leaves every bank and queue, one
without keys every key, one without mgmt every session, lock and event, and so on. -/
def Obligations.FrameOfRepairChipAndManagementCommands : Prop :=
  ∀ (c : Instr) (s t : State), (Safety.familyOf c = .repair ∨ Safety.familyOf c = .chip ∨ Safety.familyOf c = .management) →
    exec c s = .next t → Safety.Changes (Safety.mayChange c) s t

/-- A time of n nanoseconds reads as n div 10^9 seconds and n mod 10^9 nanoseconds, so nanoseconds carry into seconds
when they would reach 10^9. When the core domain leaves reset the time of day is 0 and no rate correction applies:
the next cycle of the timing reference adds the nominal increment (10^9 parts of it), whatever the reference. -/
def Obligations.TimeOfDayCarriesAndStarts : Prop :=
  (∀ n, timeWord n % 2 ^ 32 = n % 10 ^ 9 ∧ timeWord n / 2 ^ 32 = n / 10 ^ 9) ∧
  (∀ n, timeWord n % 2 ^ 32 = 10 ^ 9 - 1 → timeWord (n + 1) = (timeWord n / 2 ^ 32 + 1) * 2 ^ 32) ∧
  (∀ (straps : BitVec 2) (compat : Bool) (s : State), s.block.rstLow = true →
    ∃ t, exec (.resetRelease straps compat) s = .next t ∧ t.time.tod = 0 ∧
      exec .referenceCycle t = .next { t with time := { t.time with tod := t.time.nominal * 10 ^ 9 } })

/-- REFERENCE_CYCLE completes and adds nominal x (1 + rate correction) to the time of day, in units of 2^-32 ns and
parts per 10^9, and changes nothing else. PTP_OFFSET completes with the offset as the latest measurement
(0x7802.01); in TRACK nothing else changes; in SERVO it brings a rate within 200,000 parts per 10^9 (which rate the
servo chooses is open, log 10), and an offset beyond 0x7801.06 asks for a step against it unless one is pending.
PTP_RATE is ignored in SERVO; in TRACK it completes with the correction clamped to the nearest limit in 0x7801.02,
and a clamp counts one in 0x7802.03. -/
def Obligations.ReferenceCyclesAndMeasurements : Prop :=
  (∀ s : State, exec .referenceCycle s =
    .next { s with time := { s.time with tod := s.time.tod + s.time.nominal * (1000000000 + s.time.rate).toNat } }) ∧
  (∀ (ofs : BitVec 64) (s : State), Safety.Canonical s → ∃ t, exec (.ptpOffset ofs) s = .next t ∧ t.obj 0x7802 1 0 = ofs.toNat ∧
    (s.time.mode = .track → Safety.Changes [.objs] s t) ∧
      (s.time.mode = .servo → -200000 ≤ t.time.servoRate ∧ t.time.servoRate ≤ 200000 ∧
        (∀ d, s.time.pendingStep = some d → t.time.pendingStep = some d) ∧
          (s.time.pendingStep = none → t.time.pendingStep =
            if s.obj 0x7801 6 0 < ofs.toInt.natAbs then some (-ofs.toInt) else none))) ∧
  (∀ (rate : BitVec 32) (s : State), s.time.mode = .servo → exec (.ptpRate rate) s = .next s) ∧
  (∀ (rate : BitVec 32) (s : State), Safety.Canonical s → s.time.mode = .track → ∃ t, exec (.ptpRate rate) s = .next t ∧
    t.obj 0x7801 2 0 = ofInt 32 (max (-200000) (min 200000 rate.toInt)) ∧
      t.obj 0x7802 3 0 = s.obj 0x7802 3 0 + if rate.toInt < -200000 ∨ 200000 < rate.toInt then 1 else 0)

/-- From an Operator session outside SAFE: STEP_REQUEST in SERVO with no step pending completes with the step pending
and the answer 0; in TRACK, or with one pending, it is answered with a class 0x04 abort and the time is as before.
CORRECTION_MODE_SELECT completes with 0x7801.01 written, save SERVO in SERVICE, answered with a class 0x04 abort and
without effect. RATE_CORRECTION_WRITE within 200 ppm completes with 0x7801.02 written, and outside with a class 0x03
abort. REFERENCE_FREQUENCY_WRITE of 100 to 400 MHz in BRING-UP completes with 0x7803.01 written and the nominal
increment 10^9 / f ns in 2^-32 ns, to nearest, due at the next boundary; outside the range it is answered with a
class 0x03 abort. -/
def Obligations.TimeWritesAreCheckedAndApplied : Prop :=
  (∀ (rq : Rq) (n : Fin 4) (ns : BitVec 64) (s : State), Safety.Heard s rq n roleO → ∃ t, exec (.stepRequest rq ns) s = .next t ∧
    (s.time.mode = .servo → s.time.pendingStep = none →
      t.time = { s.time with pendingStep := some ns.toInt } ∧ Safety.Answers rq 2 0 [] s t) ∧
      (s.time.mode = .track ∨ s.time.pendingStep ≠ none → t.time = s.time ∧ Safety.Answers rq 2 abObjState [] s t)) ∧
  (∀ (rq : Rq) (n : Fin 4) (v : BitVec 8) (s : State), Safety.Canonical s → Safety.Heard s rq n roleO → v.toNat ≤ 1 →
    ∃ t, exec (.correctionModeSelect rq v) s = .next t ∧
      (¬ (v.toNat = 1 ∧ s.block.state = .service) → t.obj 0x7801 1 0 = v.toNat ∧ Safety.Answers rq 2 0 [] s t) ∧
        (v.toNat = 1 → s.block.state = .service →
          t.obj 0x7801 1 0 = s.obj 0x7801 1 0 ∧ Safety.Answers rq 2 abBlockState [] s t)) ∧
  (∀ (rq : Rq) (n : Fin 4) (v : BitVec 32) (s : State), Safety.Canonical s → Safety.Heard s rq n roleO →
    ∃ t, exec (.rateCorrectionWrite rq v) s = .next t ∧
      (-200000 ≤ v.toInt → v.toInt ≤ 200000 → t.obj 0x7801 2 0 = v.toNat ∧ Safety.Answers rq 2 0 [] s t) ∧
        (v.toInt < -200000 ∨ 200000 < v.toInt →
          t.obj 0x7801 2 0 = s.obj 0x7801 2 0 ∧ Safety.Answers rq 2 abRange [] s t)) ∧
  (∀ (rq : Rq) (n : Fin 4) (hz : BitVec 32) (s : State), Safety.Canonical s → Safety.Heard s rq n roleO → s.block.state = .bringUp →
    ∃ t, exec (.referenceFrequencyWrite rq hz) s = .next t ∧
      (100000000 ≤ hz.toNat → hz.toNat ≤ 400000000 → t.obj 0x7803 1 0 = hz.toNat ∧ Safety.Answers rq 2 0 [] s t ∧
        ∃ k, t.time = { s.time with nominalReq := some k } ∧
          2 * (k * hz.toNat) ≤ 2 * 4294967296 * 1000000000 + hz.toNat ∧ 2 * 4294967296 * 1000000000 < 2 * (k * hz.toNat) + hz.toNat + 1) ∧
        (hz.toNat < 100000000 ∨ 400000000 < hz.toNat →
          t.obj 0x7803 1 0 = s.obj 0x7803 1 0 ∧ t.time = s.time ∧ Safety.Answers rq 2 abRange [] s t))

/-- CALL_SHEET_COMPLETE on a stack whose controllers build sheets completes: every pseudo-channel has a sheet for the
next frame; a lost or fenced one delivers 0; one that is awake carries the band of its refreshes and neighbour
refreshes, and below T4 delivers the burst slots its sheet leaves. The ledger of the stack (0x4020.01) is the sum of
the deliverable slots less two for each sector of work the block raised itself, and the Assured scale of the next
frame is cut exactly when the ledger falls short of what is promised. -/
def Obligations.CallSheetsAreCompleteAndCounted : Prop :=
  ∀ (stack : Fin 32) (s : State), Safety.Canonical s → s.sheetsRun stack.val = true →
    ∃ t, exec (.callSheetComplete stack) s = .next t ∧
      (∀ pc, pc < 64 → ∃ h, (t.pc (pcNo stack.val pc)).sheetNext = some h ∧
        (s.pcSheets stack.val pc = false → h.deliver = 0) ∧
          (s.pcSheets stack.val pc = true → (s.pc (pcNo stack.val pc)).sleeping = false →
            h.cmds = (s.bandOf stack.val pc (s.time.frame + 1) (decide (1 ≤ s.level stack.val))).1.cmds ∧
              (s.level stack.val < 4 → h.deliver = t.deliverOf stack.val pc h))) ∧
        let sum := (List.range 64).foldl (fun n pc =>
          match (t.pc (pcNo stack.val pc)).sheetNext with | some h => n + h.deliver | none => n) 0
        (∃ w, t.raisedBacks stack.val ≤ w ∧ w ≤ t.raisedBacks stack.val + (t.raisedMost stack.val).sum ∧
          t.obj 0x4020 1 stack.val = if t.ledgerOff stack.val then 0 else sum - 2 * w) ∧
          (t.stack stack.val).scaleNext =
            if t.ledgerOff stack.val = false ∧ 4 * t.obj 0x4020 1 stack.val < t.promised4 stack.val
            then t.ledgerScale stack.val (t.obj 0x4020 1 stack.val) else 256

/-- For READ, WRITE, ADD, SWAP and CAS in every state in which the slot passes the checks of R513: the command
completes, one request is appended in issue order with the slot's port, tag, class, tenant and address, the region
and its current version, unanswered and in its hold buffer; an operation with write data waits for as many positions
as R48 gives it, and a READ for none. -/
def Obligations.AcceptedAccessIsTracked : Prop :=
  ∀ (op : ReqOp) (r : PortReq) (c : Instr) (s : State) (region off : Nat), Safety.accessOf op r = some c →
    Safety.Accepts s op r region off →
      ∃ (t : State) (q : Req), exec c s = .next t ∧ Safety.Takes q s t ∧ q.id = s.nextReq ∧ q.master = r.port.val ∧ q.op = op ∧
        q.bytes = reqBytes op r.size.toNat ∧ q.addr = r.addr.toNat ∧ q.cls = r.cls ∧ q.tag = r.tag.toNat ∧
          q.tenant = r.tenant.toNat ∧ q.region = region ∧ q.version = (s.slot region).now.version ∧ q.whole = none ∧
            q.rsp = [] ∧ q.phase = .held ∧ q.data = none ∧
              (if op = .read then (t.port r.port.val).due = (s.port r.port.val).due
               else (t.port r.port.val).due =
                 (s.port r.port.val).due ++ [{ req := s.nextReq, n := if op = .write then (q.bytes + 63) / 64 else 1 }])

/-- For READ, WRITE, ADD, SWAP and CAS at a ready class: misaligned, it is answered REFUSED RANGE; aligned with a tag
outstanding on its port, REFUSED STATE and 0x1311.02 counts one; else outside every live region, RANGE; else for
another tenant, DENIED and 0x3403.01 counts one; else in SAFE or after a scan request, STATE. None of these has any
effect on a region, on the Loft or on the stacks. -/
def Obligations.AccessChecksRefuseInOrder : Prop :=
  ∀ (op : ReqOp) (r : PortReq) (c : Instr) (s : State), Safety.accessOf op r = some c → s.portReady r.port.val r.cls = true →
    ∃ t, exec c s = .next t ∧
      let bytes := reqBytes op r.size.toNat
      let tagged := s.tagOut r.port.val r.tag.toNat
      (r.addr.toNat % bytes ≠ 0 → Safety.RefusedWith .range op r s t) ∧
        (r.addr.toNat % bytes = 0 → tagged = true →
          Safety.RefusedWith .state op r s t ∧ t.obj 0x1311 2 0 = s.obj 0x1311 2 0 + 1) ∧
          (r.addr.toNat % bytes = 0 → tagged = false → s.lookup r.addr.toNat bytes = none → Safety.RefusedWith .range op r s t) ∧
            ∀ region off, r.addr.toNat % bytes = 0 → tagged = false → s.lookup r.addr.toNat bytes = some (region, off) →
              (r.tenant.toNat ≠ (s.slot region).now.tenant →
                Safety.RefusedWith .denied op r s t ∧ t.obj 0x3403 1 0 = s.obj 0x3403 1 0 + 1) ∧
                (r.tenant.toNat = (s.slot region).now.tenant → s.block.state = .safe ∨ s.block.scanEn = true →
                  Safety.RefusedWith .state op r s t)

/-- A FENCE at a ready class with a free tag outside SAFE and a scan completes: it is tracked behind every earlier
request with the answer DONE to be delivered in its place. RESERVED_OPERATION completes with REFUSED RANGE, a
reserved class whatever the readies are, a reserved operation when its class is ready. When the first held request
of a class at a port is no POST, waits for no NOT_READY cause, has no earlier request of its port to its line still
held, and both its caps have room, HOLD_BUFFER_RELEASE completes: the request counts against the caps from now on
and has left its hold buffer; with a cap full, or behind such a request, nothing changes. A held POST whose slate
has not come leaves its hold buffer in the same way and waits for its slate; with a cap full nothing changes. -/
def Obligations.FenceReservedAndHeldSlots : Prop :=
  (∀ (r : PortReq) (s : State), s.portReady r.port.val r.cls = true → s.tagOut r.port.val r.tag.toNat = false →
    s.block.state ≠ .safe → s.block.scanEn = false →
      ∃ (t : State) (q : Req), exec (.fence r) s = .next t ∧ Safety.Takes q s t ∧ q.id = s.nextReq ∧ q.op = .fence ∧
        q.master = r.port.val ∧ q.tag = r.tag.toNat ∧ q.whole = some (.done, .none) ∧ q.phase = .done) ∧
  (∀ (r : PortReq) (op cls : BitVec 4) (s : State), s.block.boot = .up →
    4 ≤ cls.toNat ∨ s.portReady r.port.val (clsOf cls.toNat) = true →
      ∃ t, exec (.reservedOperation r op cls) s = .next t ∧ Safety.RefusedWith .range (opOf op.toNat) r s t) ∧
  (∀ (port : Fin 36) (c : Cls) (s : State) (r : Req),
    (s.portReqs port.val).find? (fun q => q.cls == c && q.phase == .held && !q.reserved) = some r → s.req? r.id = some r →
      (r.op ≠ .post → r.notReady = false →
        (s.capRoom r = true → s.behindHeld r = false →
          ∃ (t : State) (q : Req), exec (.holdBufferRelease port c) s = .next t ∧ q ∈ t.reqs ∧ q.id = r.id ∧
            q.routed = true ∧ q.phase ≠ .held) ∧
          (s.capRoom r = false ∨ s.behindHeld r = true → exec (.holdBufferRelease port c) s = .next s)) ∧
      (r.op = .post → r.data = none → Safety.WriteReady s port.val →
        (s.capRoom r = true → ∃ t, exec (.holdBufferRelease port c) s = .next t ∧ Safety.Changes [.reqs] s t ∧
          t.req? r.id = some { r with phase := .wait, routed := true }) ∧
          (s.capRoom r = false → exec (.holdBufferRelease port c) s = .next s)))

/-- WRITE_DATA with no position changes nothing. At a port whose buffer has room (Safety.WriteReady), one position
completes: with nothing due nothing changes; else it joins those gathered for the first due request. While that
request waits for more, only the port changes. With its last position it is due no more and nothing is gathered; it
holds the positions, first lowest, and its watchdog wait starts anew, unless a position of it was lost (the request
stays without its data) or it is late (no request changes; 0x1311.03 counts the position). A POST that waits for its
slate is then taken as State.portPost says; any other request is only given its data. Several positions at once are
as one after another while there is room; exactly the n positions of a first due request complete it. With less than
512 B free every position is discarded and counted in 0x1311.07, no request changes, and the first due request lacks
the position. -/
def Obligations.WriteDataCompletesTheFirstDueRequest : Prop :=
  (∀ (port : Fin 36) (s : State), exec (.writeData port []) s = .next s) ∧
  (∀ (port : Fin 36) (d : Sector) (s : State), Safety.WriteReady s port.val → (s.port port.val).due = [] →
    exec (.writeData port [d]) s = .next s) ∧
  (∀ (port : Fin 36) (d : Sector) (s : State) (x : Due) (rest : List Due), Safety.Canonical s → Safety.WriteReady s port.val →
    (s.port port.val).due = x :: rest →
      let got := (s.port port.val).gathered ++ [d]
      let ends : Prop := x.n ≤ got.length + x.lost
      ∃ t, exec (.writeData port [d]) s = .next t ∧
        (¬ ends → (t.port port.val).due = x :: rest ∧ (t.port port.val).gathered = got) ∧
          (ends → (t.port port.val).due = rest ∧ (t.port port.val).gathered = []) ∧
            (x.late = true → t.reqs = s.reqs ∧ t.obj 0x1311 3 0 = s.obj 0x1311 3 0 + 1) ∧
              (x.late = false → got.length < x.n → Safety.Changes [.ports] s t) ∧
                  ∀ q, x.late = false → x.n ≤ got.length → s.req? x.req = some q →
                    (q.op ≠ .post ∨ q.phase ≠ .wait → Safety.Changes [.ports, .reqs] s t ∧
                      t.req? x.req = some (Safety.withData s q got) ∧ ∀ id, id ≠ x.req → t.req? id = s.req? id) ∧
                      (q.op = .post → q.phase = .wait → q.master = port.val → q.dest = .port →
                        t = ((s.modPort port.val fun k => { k with gathered := [], due := rest }).modReq x.req fun q =>
                          Safety.withData s q got).portPost (Safety.withData s q got))) ∧
  (∀ (port : Fin 36) (d : Sector) (ps : List Sector) (s t : State), s.writeBuffer port.val ≤ 65024 →
    exec (.writeData port [d]) s = .next t → t.writeBuffer port.val ≤ 65024 →
      exec (.writeData port (d :: ps)) s = exec (.writeData port ps) t) ∧
  (∀ (port : Fin 36) (ps : List Sector) (s : State) (x : Due) (rest : List Due) (q : Req), Safety.Canonical s → Safety.WriteReady s port.val →
    (s.port port.val).due = x :: rest → (s.port port.val).gathered = [] → x.late = false → x.lost = 0 →
      ps.length = x.n → ps ≠ [] → s.req? x.req = some q → q.op ≠ .post →
        ∃ t, exec (.writeData port ps) s = .next t ∧ (t.port port.val).due = rest ∧ (t.port port.val).gathered = [] ∧
          t.req? x.req = some (Safety.withData s q ps)) ∧
  (∀ (port : Fin 36) (ps : List Sector) (s : State), Safety.Canonical s → 65024 < s.writeBuffer port.val →
    ∃ t, exec (.writeData port ps) s = .next t ∧ t.obj 0x1311 7 0 = s.obj 0x1311 7 0 + ps.length ∧
      Safety.Changes [.objs, .ports] s t ∧
        ∀ x rest, ps.length = 1 → (s.port port.val).due = x :: rest →
          (t.port port.val).due =
            if (s.port port.val).gathered.length + x.lost + 1 < x.n then { x with lost := x.lost + 1 } :: rest else rest)

/-- RESPONSE_RELEASE completes and sends at most eight positions. When the first request of the port is answered as a
whole, its one position with last set leaves first and the request is no longer tracked. -/
def Obligations.ResponsesLeaveInOrder : Prop :=
  ∀ (port : Fin 36) (s : State), ∃ (t : State) (l : List Output), exec (.responseRelease port) s = .next t ∧ Safety.Sends l s t ∧
    l.length ≤ 8 ∧
      ∀ (r : Req) (rest : List Req) (code : RspCode) (d : Detail), s.portReqs port.val = r :: rest → s.req? r.id = some r →
        r.whole = some (code, d) → (∀ q ∈ rest, q.id ≠ r.id) →
          l.head? = some (Output.rsp port.val r.tag code d 0 true r.oor 0) ∧ ∀ q ∈ t.reqs, q.id ≠ r.id

/-- When a stack's arbiter runs, the controller cycle has no owner, the tracker holds one request, a READ that waits at
this arbiter for no migration and no lost data, and it is grantable at its rank: ARBITER_CYCLE completes, the
request is QUEUED with its grant in this cycle, and one entry for each of its sectors stands at the end of its
pseudo-channel's queue. -/
def Obligations.ArbiterGrantsAWaitingRead : Prop :=
  ∀ (stack : Fin 32) (k : Fin 1000) (s : State) (r : Req), s.arbiterRuns stack.val = true → s.ownerAt stack.val k.val = 0xFF →
    s.reqs = [r] → r.phase = .arb → r.op = .read → r.bytes ≤ 2048 → s.reqStack r = stack.val → s.blindLine r = none →
      s.lostRead r.region r.version (s.reqOff r) = false →
        (s.pc (plPcNo (s.reqPlace r))).sr = .awake →
          s.grantable stack.val (s.rankOf stack.val (oldestUpkeep [r]) r) r = true →
            ∃ t, exec (.arbiterCycle stack k) s = .next t ∧
              t.reqs = [{ r with phase := .queued, waitSince := s.time.frame, grantCyc := s.cycle k.val, visible := false }] ∧
                (t.pc (plPcNo (s.reqPlace r))).queue =
                  (s.pc (plPcNo (s.reqPlace r))).queue ++
                    s.entriesOf r (s.rankOf stack.val (oldestUpkeep [r]) r) (s.cycle k.val)

/-- When an unanswered request that is not promoted has reached the age limit 0x4000.02 from its acceptance,
AGE_PROMOTION completes: the request is marked promoted and is otherwise as before, its queue entries have Critical
rank, and 0x4030.01 counts one. Before the limit nothing changes. -/
def Obligations.AgePromotesToCriticalRank : Prop :=
  ∀ (id : Nat) (s : State) (r : Req), Safety.Canonical s → s.req? id = some r → r.promoted = false → r.phase ≠ .done →
    (r.bornNs + s.live' 0x4000 2 0 ≤ s.frameNs → ∃ t, exec (.agePromotion id) s = .next t ∧
      t.req? id = some { r with promoted := true } ∧ t.obj 0x4030 1 0 = s.obj 0x4030 1 0 + 1 ∧
        (∀ p, (t.pc p).queue = (s.pc p).queue.map fun e => if e.req == id then { e with critical := true, rank := 1 } else e) ∧
          ∀ q ∈ s.reqs, q.id ≠ id → q ∈ t.reqs) ∧
      (s.frameNs < r.bornNs + s.live' 0x4000 2 0 → exec (.agePromotion id) s = .next s)

/-- When an unanswered request of a port that stands at a resource class of R128, held for no NOT_READY cause, has
waited longer than the watchdog period, WATCHDOG_BITE completes: every outstanding request of that port is answered
ABORTED with GENERATION, no request is lost or added and those of other masters stand, the port's generation number
rises by one, write data still due is late, and 0x4030.03 counts the bite. A request of an engine that waits so long
at a stack that serves keeps its place with a new wait, its shots are asked to abort, and 0x4030.03 counts. Within
the period, or at no resource class (log 142), nothing changes. -/
def Obligations.WatchdogResetsThePortPath : Prop :=
  (∀ (id : Nat) (s : State) (r : Req), Safety.Canonical s → s.req? id = some r → s.waitClass r ≠ none → r.notReady = false → r.dest = .port →
    (r.waitSince + s.live' 0x4000 4 0 < s.time.frame → ∃ t, exec (.watchdogBite id) s = .next t ∧
      t.reqs.map (·.id) = s.reqs.map (·.id) ∧
        (∀ q ∈ t.reqs, q.master = r.master → q.dest = .port → q.whole = some (.aborted, .generation) ∧ q.phase = .done) ∧
          (∀ q ∈ s.reqs, q.master ≠ r.master ∨ q.dest ≠ .port → q ∈ t.reqs) ∧
            t.obj 0x6040 1 (unitPort r.master) = (s.obj 0x6040 1 (unitPort r.master) + 1) % 65536 ∧
              (t.port r.master).due.length = (s.port r.master).due.length ∧
                (∀ x ∈ (t.port r.master).due, x.late = true) ∧ t.obj 0x4030 3 0 = s.obj 0x4030 3 0 + 1) ∧
      (s.time.frame ≤ r.waitSince + s.live' 0x4000 4 0 → exec (.watchdogBite id) s = .next s)) ∧
  (∀ (id : Nat) (s : State) (r : Req), Safety.Canonical s → s.req? id = some r → r.phase = .arb → r.notReady = false →
    r.dest ≠ .port → (∀ k, r.dest ≠ .line k) → (∀ k, r.dest ≠ .back k) →
      s.arbiterRuns (s.reqStack r) = true → r.waitSince + s.live' 0x4000 4 0 < s.time.frame →
        ∃ t, exec (.watchdogBite id) s = .next t ∧ t.req? id = some { r with waitSince := s.time.frame } ∧
          t.shot.shots.map (·.id) = s.shot.shots.map (·.id) ∧
            (∀ x ∈ s.shotsOf r (s.engUnit r), ∀ y ∈ t.shot.shots, y.id = x.id → y.abort ≠ none) ∧
              t.obj 0x4030 3 0 = s.obj 0x4030 3 0 + 1) ∧
  (∀ (id : Nat) (s : State) (r : Req), s.req? id = some r → s.waitClass r = none → exec (.watchdogBite id) s = .next s)

/-- Whatever a controller cycle of a pseudo-channel does (WR, ACT, PRE, refresh or a replay), every sector of the stacks
whose place no entry of that pseudo-channel's queue names is stored afterwards as it was before. -/
def Obligations.ControllerStoresOnlyQueuedSectors : Prop :=
  ∀ (stack : Fin 32) (pc : Fin 64) (k : Fin 1000) (s t : State), exec (.pcControllerCycle stack pc k) s = .next t →
    ∀ place, (∀ e ∈ (s.pc (pcNo stack.val pc.val)).queue, e.place ≠ place) → t.dramAt place = s.dramAt place

/-- For a running controller whose queue holds one waiting write, with no recent command, no sheet, no recovery and no
self-refresh: with the bank closed and every interval met, PC_CONTROLLER_CYCLE completes with the entry's row open
and nothing stored; with the row open and the column command allowed, it completes with the sector stored, sealed
under its region's key and home place, with no other sector changed, and the entry writing since this cycle. -/
def Obligations.ControllerActivatesThenWrites : Prop :=
  ∀ (stack : Fin 32) (pc : Fin 64) (k : Fin 1000) (s : State) (e : QEntry) (x : PcState), Safety.Canonical s →
    x = s.pc (pcNo stack.val pc.val) → s.pcRuns stack.val pc.val = true →
      x = { x with queue := [e], acts := [], cols := [], bursts := [], log := [], sheet := {}, sheetNext := none, late := [],
                   recovery := none, sr := .awake } →
        e.kind = .write → e.stage = .waiting →
          let v := s.look stack.val pc.val k.val
          ((x.bank e.bank).openRow = none → x.actReady v.t v.c e.bank = true → 0 < v.t.rcd → x.triggers.length < 64 →
            ∃ t, exec (.pcControllerCycle stack pc k) s = .next t ∧
              ((t.pc (pcNo stack.val pc.val)).bank e.bank).openRow = some e.row ∧ t.dram = s.dram) ∧
            ((x.bank e.bank).openRow = some e.row → x.colFits v.t v.frame v.c e.bank false = true →
              ∃ t, exec (.pcControllerCycle stack pc k) s = .next t ∧ t.dramAt e.place = s.seal e.region e.tweak e.data e.poison ∧
                (∀ place, place ≠ e.place → t.dramAt place = s.dramAt place) ∧
                  (t.pc (pcNo stack.val pc.val)).queue = [{ e with stage := .writing v.c }])

/-- A row left open with no column command for 200 cycles on an awake, fault-free, running controller outside a cut is
closed by ROW_IDLE_CLOSE when its intervals allow PRE, this cycle's row command is unspent and no refresh that is
due is ready. A parity error of which the log holds the faulty command, within the limits of R152 and outside
recovery, starts a take: commands from the faulty one on wait for replay in their order (precharges apart, and a
targeted refresh once), the log is empty, nothing resumes before tPAR_REC, and 0x2003.01 counts one. A take with
PREA issued, nothing left to replay, no replayed command still under way and no Stockroom pull that waits ends with
REPLAY_TAKE_END, and 0x2003.02 counts one. -/
def Obligations.RowCloseAndCommandPathRecovery : Prop :=
  (∀ (stack : Fin 32) (pc : Fin 64) (sid : Fin 4) (bank : Fin 16) (k : Fin 1000) (s : State) (kb : Bank),
    let v := s.look stack.val pc.val k.val
    s.pcRuns stack.val pc.val = true → (s.pc v.p).sr = .awake → (s.pc v.p).rowSpent v.c = false →
      ((s.pc v.p).due v.k).any ((s.pc v.p).refreshReady v) = false → (s.pc v.p).sheet.inCut v.k = false →
      (s.pc v.p).recovery = none → kb = (s.pc (pcNo stack.val pc.val)).bank (sid.val * 16 + bank.val) →
        kb.preReady (s.timing stack.val pc.val) (s.cycle k.val) = true → kb.lastCol + 200 ≤ s.cycle k.val →
          (∀ a, kb.actAt = some a → a + 200 ≤ s.cycle k.val) →
            ∃ t, exec (.rowIdleClose stack pc sid bank k) s = .next t ∧
              ((t.pc (pcNo stack.val pc.val)).bank (sid.val * 16 + bank.val)).openRow = none ∧
                ((t.pc (pcNo stack.val pc.val)).bank (sid.val * 16 + bank.val)).preAt = some (s.cycle k.val)) ∧
  (∀ (stack : Fin 32) (pc : Fin 64) (k : Fin 1000) (s : State) (x : PcState) (marked : List LogCmd), Safety.Canonical s →
    x = s.pc (pcNo stack.val pc.val) → s.pcRuns stack.val pc.val = true → x.recovery = none →
      marked = x.notExecuted (s.timing stack.val pc.val) (s.cycle k.val) → marked ≠ [] →
        x.parityReel + 1 ≤ s.stLive stack.val 0x2003 5 0 → 1 ≤ s.stLive stack.val 0x2003 4 0 →
          ∃ (t : State) (r : Recovery), exec (.parityError stack pc k) s = .next t ∧
            (t.pc (pcNo stack.val pc.val)).recovery = some r ∧
              r.replay = replayOf marked ∧
                r.resume = s.cycle k.val + (s.timing stack.val pc.val).parRec ∧ r.takes = 1 ∧ r.prea = false ∧
                  (t.pc (pcNo stack.val pc.val)).log = [] ∧
                    t.stObj stack.val 0x2003 1 pc.val = s.stObj stack.val 0x2003 1 pc.val + 1) ∧
  (∀ (stack : Fin 32) (pc : Fin 64) (s : State) (r : Recovery), Safety.Canonical s →
    (s.pc (pcNo stack.val pc.val)).recovery = some r → r.prea = true → r.replay = [] → r.out = [] → s.packet.pulls = [] →
      ∃ t, exec (.replayTakeEnd stack pc) s = .next t ∧ (t.pc (pcNo stack.val pc.val)).recovery = none ∧
        t.stObj stack.val 0x2003 2 pc.val = s.stObj stack.val 0x2003 2 pc.val + 1)

/-- For the oldest first read of a pseudo-channel with no lane under watch and no recovery, whose data meets no error,
with no Stockroom pull waiting: READ_DATA_RETURN completes, its entry leaves the queue, and the request gains one
answer for that sector: the data deciphered under the key of the sector's epoch, or POISON where the sector is
stored poisoned. A second look of a read that decodes uncorrectable completes with POISON for that sector, and the
sector is stored poisoned from now on. CORRECTIVE_REWRITE on a stack that grants Upkeep takes the oldest rewrite,
counts it in 0x6000.07 and changes no other sector. -/
def Obligations.ReadDataAnswersItsRequest : Prop :=
  (∀ (stack : Fin 32) (pc : Fin 64) (s : State) (f : InFlight) (e : QEntry) (r : Req) (a : SectorRsp), s.packet.pulls = [] →
    (s.pc (pcNo stack.val pc.val)).inflight.find? (fun f => !f.second) = some f → s.fencedData (pcNo stack.val pc.val) = false →
      (s.pc (pcNo stack.val pc.val)).queue.find? (fun q => q.req == f.req && q.seq == f.seq) = some e → e.kind = .read →
        f.place = e.place → (s.pc (pcNo stack.val pc.val)).lanes = [] → plPcNo f.place = pcNo stack.val pc.val →
          (s.pc (pcNo stack.val pc.val)).recovery = none → s.req? e.req = some r → (s.dramAt e.place).epoch < 16 →
            (((s.dramAt e.place).poison = true ∧ a = { poison := true }) ∨
              ((s.dramAt e.place).poison = false ∧ ∃ k, s.keyOf e.region (s.dramAt e.place).epoch = some k ∧
                a = { data := openWith k e.tweak (s.dramAt e.place) })) →
              ∃ (t : State) (q : Req), exec (.readDataReturn stack pc []) s = .next t ∧ t.req? e.req = some q ∧
                q.rsp = r.rsp ++ [(e.seq, a)] ∧ q.whole = r.whole ∧ t.dram = s.dram ∧
                  ∀ y ∈ (t.pc (pcNo stack.val pc.val)).queue, y.req ≠ e.req ∨ y.seq ≠ e.seq) ∧
  (∀ (stack : Fin 32) (pc : Fin 64) (errs : List (Nat × Nat)) (s : State) (f : InFlight) (e : QEntry) (r : Req), s.packet.pulls = [] →
    (s.pc (pcNo stack.val pc.val)).inflight.find? (fun f => f.second) = some f → s.fencedData (pcNo stack.val pc.val) = false →
      (s.pc (pcNo stack.val pc.val)).queue.find? (fun q => q.req == f.req && q.seq == f.seq) = some e → e.kind = .read →
        f.place = e.place → (s.pc (pcNo stack.val pc.val)).recovery = none → s.req? e.req = some r →
          (s.decode f.place errs).finding = .uncorrectable →
            ∃ (t : State) (q : Req), exec (.secondLookResult stack pc errs) s = .next t ∧ t.req? e.req = some q ∧
              q.rsp = r.rsp ++ [(e.seq, { poison := true })] ∧ (t.dramAt f.place).poison = true ∧
                ∀ place, place ≠ f.place → t.dramAt place = s.dramAt place) ∧
  (∀ (stack : Fin 32) (s : State) (w : Rewrite) (rest : List Rewrite), Safety.Canonical s →
    (s.stack stack.val).rewrites = w :: rest → s.upkeepOn stack.val = true →
      ∃ t, exec (.correctiveRewrite stack) s = .next t ∧ (t.stack stack.val).rewrites = rest ∧
        t.obj 0x6000 7 0 = s.obj 0x6000 7 0 + 1 ∧ ∀ place, place ≠ w.place → t.dramAt place = s.dramAt place)

/-- When the frame count is a multiple of the stack's refresh window, REFRESH_WINDOW_START completes: every bank of
every pseudo-channel of the stack has an empty activate table and a spill count of 0, the neighbour threshold in
force is 0x2007.01, and the queues, reads under way and sheets are as before. At any other frame count nothing
changes. -/
def Obligations.RefreshWindowClearsActivateTables : Prop :=
  ∀ (stack : Fin 32) (s : State), Safety.Canonical s →
    (s.time.frame % s.windowFrames stack.val = 0 → ∃ t, exec (.refreshWindowStart stack) s = .next t ∧
      (t.stack stack.val).nbLimit = s.stLive stack.val 0x2007 1 0 ∧
        ∀ pc, pc < 64 → (∀ b, ((t.pc (pcNo stack.val pc)).bank b).table = [] ∧ ((t.pc (pcNo stack.val pc)).bank b).spill = 0) ∧
          { t.pc (pcNo stack.val pc) with banks := [] } = { s.pc (pcNo stack.val pc) with banks := [] }) ∧
      (s.time.frame % s.windowFrames stack.val ≠ 0 → exec (.refreshWindowStart stack) s = .next s)

/-- On a running controller outside command-path recovery SELF_REFRESH_ENTRY completes with the next phase: preparing
from this cycle when it may enter; committed, its REFab in the command log, no earlier than 20 cycles of
preparation; asleep no earlier than tRFCab after the commit, with its SRE logged and 0x2008.03 counted.
SELF_REFRESH_EXIT completes: a sleeping pseudo-channel with a request exits no earlier than tRFCab + tSR after its
commit, with its SRX logged and its first command tXS later (where the row counters of its banks stand is free, log
159); at that cycle it is awake with its idle count 0. -/
def Obligations.SelfRefreshGoesThroughItsPhases : Prop :=
  ∀ (stack : Fin 32) (pc : Fin 64) (k : Fin 1000) (s : State) (x : PcState), Safety.Canonical s →
    x = s.pc (pcNo stack.val pc.val) → s.pcRuns stack.val pc.val = true → x.recovery = none →
      (x.sr = .awake → s.mayEnter stack.val pc.val k.val = true →
        ∃ t, exec (.selfRefreshEntry stack pc k) s = .next t ∧ t.pc (pcNo stack.val pc.val) = { x with sr := .preparing (s.cycle k.val) }) ∧
      (∀ c, x.sr = .preparing c → c + 20 ≤ s.cycle k.val →
        ∃ t, exec (.selfRefreshEntry stack pc k) s = .next t ∧ t.pc (pcNo stack.val pc.val) =
          ({ x with sr := .committed (s.cycle k.val) } : PcState).logCmd { cyc := s.cycle k.val, kind := .refab }) ∧
      (∀ c, x.sr = .committed c → c + (s.timing stack.val pc.val).rfcab ≤ s.cycle k.val →
        ∃ t, exec (.selfRefreshEntry stack pc k) s = .next t ∧ t.pc (pcNo stack.val pc.val) =
          ({ x with sr := .asleep c } : PcState).logCmd { cyc := s.cycle k.val, kind := .sre } ∧
            t.stObj stack.val 0x2008 3 pc.val = s.stObj stack.val 0x2008 3 pc.val + 1) ∧
      (∀ c, x.sr = .asleep c → x.queue ≠ [] →
        c + (s.timing stack.val pc.val).rfcab + (s.timing stack.val pc.val).sr ≤ s.cycle k.val →
          ∃ t, exec (.selfRefreshExit stack pc k) s = .next t ∧
            (t.pc (pcNo stack.val pc.val)).sr = .exiting (s.cycle k.val + (s.timing stack.val pc.val).xs) ∧
              { t.pc (pcNo stack.val pc.val) with banks := [] } =
                ({ x with sr := .exiting (s.cycle k.val + (s.timing stack.val pc.val).xs), banks := [] } : PcState).logCmd
                  { cyc := s.cycle k.val, kind := .srx }) ∧
      (∀ c, x.sr = .exiting c → c ≤ s.cycle k.val →
        ∃ t, exec (.selfRefreshExit stack pc k) s = .next t ∧ t.pc (pcNo stack.val pc.val) = x.wakes (s.cycle k.val) ∧
          (t.pc (pcNo stack.val pc.val)).sr = .awake ∧ (t.pc (pcNo stack.val pc.val)).idle = 0)

/-- From an Operator session outside SAFE, STACK_SELF_REFRESH_ENTER completes: on a stack with no reservation share, no
owned cycle and no timing switch 0x2008.06 reads 1, the stack's self-refresh is asked for and the write is answered
with 0; with any of the three it is answered with a class 0x04 abort and no stack changes. STACK_WAKE_REQUEST
completes: 0x2008.06 reads 0, the request and the Gaffer's hold are gone, a gated stack's wake is asked for, other
stacks are as before, and the write is answered with 0. STACK_IDLE_EXPIRY completes: at the threshold 0x2008.07, on
a stack in service whose pseudo-channels all sleep, the stack's self-refresh is asked for and nothing else changes;
otherwise nothing changes at all. -/
def Obligations.StackSelfRefreshRequests : Prop :=
  (∀ (rq : Rq) (n : Fin 4) (stack : Fin 32) (s : State), Safety.Canonical s → Safety.Heard s rq n roleO →
    let shares := s.activeRes.any fun w => s.shareOf w stack.val != 0
    ∃ t, exec (.stackSelfRefreshEnter rq stack) s = .next t ∧
      (shares = false → s.ownedCycles stack.val = 0 → (s.stack stack.val).switch = none →
        t.stack stack.val = { s.stack stack.val with srRequest := true } ∧
          (∀ st, st ≠ stack.val → t.stack st = s.stack st) ∧ t.stObj stack.val 0x2008 6 0 = 1 ∧
            Safety.Answers rq 2 0 [] s t ∧ Safety.Changes [.objs, .stackTab, .mgmt, .outbox] s t) ∧
        (shares = true ∨ 0 < s.ownedCycles stack.val ∨ (s.stack stack.val).switch ≠ none →
          t.stackTab = s.stackTab ∧ Safety.Answers rq 2 abObjState [] s t)) ∧
  (∀ (rq : Rq) (n : Fin 4) (stack : Fin 32) (s : State), Safety.Canonical s → Safety.Heard s rq n roleO →
    ∃ t, exec (.stackWakeRequest rq stack) s = .next t ∧
      t.stack stack.val = { s.stack stack.val with
        srRequest := false, byGaffer := false
        wakeReq := (s.stack stack.val).power == .gated || (s.stack stack.val).wakeReq } ∧
        (∀ st, st ≠ stack.val → t.stack st = s.stack st) ∧ t.stObj stack.val 0x2008 6 0 = 0 ∧
          Safety.Answers rq 2 0 [] s t ∧ Safety.Changes [.objs, .stackTab, .mgmt, .outbox] s t) ∧
  (∀ (stack : Fin 32) (s : State), Safety.Canonical s →
    let n := s.stLive stack.val 0x2008 7 0
    let due : Prop := 0 < n ∧ n ≤ (s.stack stack.val).allIdle ∧ (s.stack stack.val).power = .service ∧ s.notAsleep stack.val = []
    ∃ t, exec (.stackIdleExpiry stack) s = .next t ∧
      (due → t.stack stack.val = { s.stack stack.val with srRequest := true } ∧
        (∀ st, st ≠ stack.val → t.stack st = s.stack st) ∧ Safety.Changes [.stackTab] s t) ∧ (¬ due → t = s))

/-- STACK_GATE on an entering stack that is asked to sleep, whose pseudo-channels all sleep and for which nothing waits,
completes with the stack gated and its readiness 3. STACK_WAKE on a gated stack whose wake is asked for completes
with frame w opened, its readiness 4, 0x2008.09 counted and 0x2008.06 cleared; two frames later, below T4, it
completes with every sleeping pseudo-channel exiting at cycle 400. STACK_WAKE_SERVICE with no pseudo-channel asleep
and unchanged identity codes completes with the stack in service and ready and every pseudo-channel awake: after a
full training that fails nowhere none trains on, and after a confirmation exactly those with a result of a lane
taking part that failed it do. With changed codes, or a command-bus training that failed, the stack leaves service
at the next boundary (0x6031.02 reads 2). -/
def Obligations.StackGatesAndWakes : Prop :=
  (∀ (stack : Fin 32) (s : State), (s.stack stack.val).power = .entering → (s.stack stack.val).srRequest = true →
    s.notAsleep stack.val = [] → (∀ r ∈ s.reqs, r.phase = .arb → s.reqStack r ≠ stack.val) →
      (∀ pc, pc < 64 → (s.pc (pcNo stack.val pc)).queue = []) →
        ∃ t, exec (.stackGate stack) s = .next t ∧ (t.stack stack.val).power = .gated ∧ t.readiness stack.val = 3) ∧
  (∀ (stack : Fin 32) (s : State), Safety.Canonical s → (s.stack stack.val).power = .gated → (s.stack stack.val).wakeReq = true →
    ∃ t, exec (.stackWake stack) s = .next t ∧ (t.stack stack.val).power = .waking 0 ∧ (t.stack stack.val).wakeReq = false ∧
      t.readiness stack.val = 4 ∧ t.stObj stack.val 0x2008 9 0 = s.stObj stack.val 0x2008 9 0 + 1 ∧
        t.stObj stack.val 0x2008 6 0 = 0) ∧
  (∀ (stack : Fin 32) (s : State) (w : Nat), Safety.Canonical s → (s.stack stack.val).power = .waking w → 2 ≤ w → s.level stack.val < 4 →
    ∃ t, exec (.stackWake stack) s = .next t ∧ ∀ pc c, pc < 64 → (s.pc (pcNo stack.val pc)).sr = .asleep c →
      (t.pc (pcNo stack.val pc)).sr = .exiting (s.cycle 400)) ∧
  (∀ (stack : Fin 32) (identity : BitVec 256) (res : List (Fin 64 × CalResult)) (train : TrainResult) (s : State) (w : Nat),
    Safety.Canonical s → (s.notAsleep stack.val).length = (List.range 64).countP (s.pcSheets stack.val) →
      (s.stack stack.val).loseNext = false →
        (identity.toNat = (s.stack stack.val).identity → (s.stack stack.val).power = .training → train.cmdOk = true →
          (s.fullTrain stack.val train).1 = [] → ∃ t, exec (.stackWakeService stack identity res train) s = .next t ∧
            (t.stack stack.val).power = .service ∧ t.readiness stack.val = 1 ∧ ∀ pc, pc < 64 →
              (t.pc (pcNo stack.val pc)).sr = .awake ∧ (t.pc (pcNo stack.val pc)).retraining = false) ∧
          (identity.toNat = (s.stack stack.val).identity → (s.stack stack.val).power = .waking w → 3 ≤ w →
            ∃ t, exec (.stackWakeService stack identity res train) s = .next t ∧
              (t.stack stack.val).power = .service ∧ t.readiness stack.val = 1 ∧ ∀ pc, pc < 64 →
                (t.pc (pcNo stack.val pc)).sr = .awake ∧ (t.pc (pcNo stack.val pc)).retraining =
                  s.wakeFails (pcNo stack.val pc) ((res.filter fun x => x.1.val == pc).map (·.2))) ∧
            ((s.stack stack.val).power = .training ∨ ((s.stack stack.val).power = .waking w ∧ 3 ≤ w) →
              identity.toNat ≠ (s.stack stack.val).identity ∨ ((s.stack stack.val).power = .training ∧ train.cmdOk = false) →
                ∃ t, exec (.stackWakeService stack identity res train) s = .next t ∧ (t.stack stack.val).bring = 7 ∧
                  (t.stack stack.val).loseNext = true ∧ t.obj 0x6031 2 stack.val = 2))

/-- From an Operator session that holds scope 0, no lock of which was broken, TIMING_SWITCH_REQUEST for a set that the
checks of R177 admit completes: 0x2801.01 reads the set, 0x2801.02 reads 0, the switch is under way from channel 0,
and the write is answered with 0; a set above 3 is answered with the range abort and no stack changes.
TIMING_SWITCH_CHANNEL_DONE for a channel whose cuts are placed, each of its two pseudo-channels switched or without
a call sheet, completes: 0x2801.02 counts the channel, its page predictors start anew, and after channel 31 the
stack's set in force is the target and 0x2801.03 counts one. Before the channel's cuts are placed it changes
nothing. -/
def Obligations.TimingSwitchRunsChannelByChannel : Prop :=
  (∀ (rq : Rq) (n : Fin 4) (stack : Fin 32) (set : BitVec 8) (s : State), Safety.Canonical s → Safety.Heard s rq n roleO →
    (set.toNat ≤ 3 → (s.session n.val).broken = false → 0 ∈ (s.session n.val).scopes → s.switchCheck stack.val set.toNat = 0 →
      ∃ t, exec (.timingSwitchRequest rq stack set) s = .next t ∧ (t.stack stack.val).switch = some (set.toNat, 0) ∧
        t.obj 0x2801 1 stack.val = set.toNat ∧ t.obj 0x2801 2 stack.val = 0 ∧ Safety.Answers rq 2 0 [] s t) ∧
      (3 < set.toNat → ∃ t, exec (.timingSwitchRequest rq stack set) s = .next t ∧ Safety.Answers rq 2 abRange [] s t ∧
        t.stackTab = s.stackTab)) ∧
  (∀ (stack : Fin 32) (s : State) (set c : Nat), Safety.Canonical s → (s.stack stack.val).switch = some (set, c) → c < 32 →
    (∀ n, (s.stack stack.val).switchNext = some n → c < n →
      (∀ pc, pc = 2 * c ∨ pc = 2 * c + 1 → s.pcSheets stack.val pc = false ∨ (s.pc (pcNo stack.val pc)).switched = true) →
        ∃ t, exec (.timingSwitchChannelDone stack) s = .next t ∧ t.obj 0x2801 2 stack.val = c + 1 ∧
          (∀ b, b < 64 → t.stObj stack.val 0x2004 1 (2 * c * 64 + b) = 2 ∧ t.stObj stack.val 0x2004 1 ((2 * c + 1) * 64 + b) = 2) ∧
            (c < 31 → (t.stack stack.val).switch = some (set, c + 1) ∧ t.pcs = s.pcs) ∧
              (c = 31 → (t.stack stack.val).switch = none ∧ t.stObj stack.val 0x2002 1 0 = set ∧
                (∀ pc, pc < 64 → (t.pc (pcNo stack.val pc)).switched = false) ∧ t.obj 0x2801 3 0 = s.obj 0x2801 3 0 + 1)) ∧
      ((∀ n, (s.stack stack.val).switchNext = some n → n ≤ c) → exec (.timingSwitchChannelDone stack) s = .next s))

/-- After 128 bursts on a bin, HISTOGRAM_BIN_ADVANCE completes: each lane in use has 1,024 more samples (fewer by those
taken before the histogram was last cleared) and its disagreements added to that bin, each half saturating at 32
bits, and the sampler is on the next of 64 bins. RETRAINING_APPLY with proposals pending completes: none is pending,
0x8000.01 counts the application, 0x8000.02 holds the time of this boundary, and the pseudo-channel's histogram is
cleared. PC_RETRAIN_COMPLETE for a pseudo-channel in training completes: it is marked retrained, and a reported lane
within the limits has the lower midpoints of its passing ranges. -/
def Obligations.SamplingAndCalibration : Prop :=
  (∀ (stack : Fin 32) (pc : Fin 64) (dis : List Nat) (s : State) (x : PcState), Safety.Canonical s → x = s.pc (pcNo stack.val pc.val) →
    128 ≤ x.probeBursts → x.probeBin < 64 →
      ∃ t, exec (.histogramBinAdvance stack pc dis) s = .next t ∧
        t.pc (pcNo stack.val pc.val) =
          { x with probeBin := (x.probeBin + 1) % 64, probeBursts := x.probeBursts - 128, probeLost := x.probeLost - 128 } ∧
          ∀ lane, lane < 38 → s.laneState (pcNo stack.val pc.val) lane = 0 →
            let el := (pcNo stack.val pc.val * 38 + lane) * 64 + x.probeBin
            let n := (128 - x.probeLost) * 8
            t.obj 0x8002 1 el / 2 ^ 32 = min (s.obj 0x8002 1 el / 2 ^ 32 + n) (2 ^ 32 - 1) ∧
              t.obj 0x8002 1 el % 2 ^ 32 = min (s.obj 0x8002 1 el % 2 ^ 32 + min n (dis.getD lane 0)) (2 ^ 32 - 1)) ∧
  (∀ (stack : Fin 32) (pc : Fin 64) (res : List CalResult) (s : State) (plan : List LanePlan), Safety.Canonical s →
    (s.pc (pcNo stack.val pc.val)).pendingCal = some plan →
      ∃ t, exec (.retrainingApply stack pc res) s = .next t ∧ (t.pc (pcNo stack.val pc.val)).pendingCal = none ∧
        (t.pc (pcNo stack.val pc.val)).calFrame = s.time.frame ∧
          t.obj 0x8000 1 (pcNo stack.val pc.val) = s.obj 0x8000 1 (pcNo stack.val pc.val) + 1 ∧
            t.obj 0x8000 2 (pcNo stack.val pc.val) = timeWord (s.time.frameStart / nsUnit) ∧
              ∀ i, i < 2432 → t.obj 0x8002 1 (pcNo stack.val pc.val * 2432 + i) = 0) ∧
  (∀ (stack : Fin 32) (pc : Fin 64) (e : LaneEye) (s : State), Safety.Canonical s → (s.pc (pcNo stack.val pc.val)).retraining = true →
    e.pc = pc → e.set.val = s.setOf (pcNo stack.val pc.val) → s.eyePasses e = true →
      ∃ t, exec (.pcRetrainComplete stack pc [e]) s = .next t ∧ (t.pc (pcNo stack.val pc.val)).retrained = true ∧
          lwRead (t.laneWord (pcNo stack.val pc.val) e.set.val e.lane.val) = (e.rdLo.toNat + e.rdHi.toNat) / 2 ∧
            lwWrite (t.laneWord (pcNo stack.val pc.val) e.set.val e.lane.val) = (e.wrLo.toNat + e.wrHi.toNat) / 2 ∧
              lwRef (t.laneWord (pcNo stack.val pc.val) e.set.val e.lane.val) = (e.refLo.toNat + e.refHi.toNat) / 2)

/-- CHUNK_FILL_END of a priority fill completes with its chunk WRITTEN and its entry free: with every stack's share
written, with one share left on a stack whose arbiter runs below T3, of a scratch chunk whose slices have all
written, and of a chunk that a shot's run of writes covers once that run is over. FILL_ALLOWANCE_TAKEN of a raised
background fill, when every stack of the fill has room for its share and the table an entry, completes: the fill is
a priority fill that has taken its allowance on every stack of its region, and 0x3402.02 counts one.
BACKGROUND_FILL_WRITE on a stack that grants Upkeep, with the fill enabled and one background fill that has work to
do there, completes: the sectors that the stack may write now (State.fillGo) are written; with the last share the
chunk is WRITTEN and the entry free, and else only what is left to do has changed of the fills and chunks. That the
work is granted and done in one step is log 149. -/
def Obligations.FillsMakeChunksWritten : Prop :=
  (∀ (chunk : BitVec 21) (s : State) (f : Fill), s.fill? chunk.toNat = some f → f.prio = true →
    (f.run = none ∧ f.span ≠ 0 ∧ f.stackMask = 0) ∨
      (f.run = none ∧ f.span = 0 ∧ f.stackMask = 0 ∧ s.scratchDone f = true) ∨
        (∃ shot, f.run = some shot ∧ s.runDone f shot = true) ∨
          (∃ st, st < 32 ∧ f.run = none ∧ f.span ≠ 0 ∧ f.stackMask = 2 ^ st ∧ Map.look 0 st f.wrote < f.sectors ∧
            s.arbiterRuns st = true ∧ s.level st < 3) →
      ∃ t, exec (.chunkFillEnd chunk) s = .next t ∧ t.written chunk.toNat = true ∧ t.fill? chunk.toNat = none) ∧
  (∀ (chunk : BitVec 21) (s : State) (f : Fill), Safety.Canonical s → s.fill? chunk.toNat = some f → f.prio = false → f.raised = true →
    s.fillRoom (s.slot f.region).known = true → (s.regions.fills.filter (·.prio)).length < 96 →
      ∃ t, exec (.fillAllowanceTaken chunk) s = .next t ∧
        t.fill? chunk.toNat = some { f with
          prio := true, taken := true, raised := false, share := fillShare (s.slot f.region).known, started := s.time.frame } ∧
          t.obj 0x3402 2 0 = s.obj 0x3402 2 0 + 1) ∧
  (∀ (stack : Fin 32) (s : State) (f : Fill), s.live' 0x3402 5 0 = 1 → s.upkeepOn stack.val = true → s.regions.fills = [f] →
    f.prio = false → bit f.stackMask stack.val = true → 0 < s.fillGo f stack.val →
      let wrote := Map.look 0 stack.val f.wrote + s.fillGo f stack.val
      let left := if f.sectors ≤ wrote then f.stackMask - 2 ^ stack.val else f.stackMask
      ∃ t, exec (.backgroundFillWrite stack) s = .next t ∧
        (left = 0 → t.written f.chunk = true ∧ t.regions.fills = []) ∧
          (left ≠ 0 → t.regions = { s.regions with
            fills := [{ f with wrote := Map.upd 0 stack.val (· + s.fillGo f stack.val) f.wrote, stackMask := left }] }))

/-- ENGINE_WAIT_END takes the first request that waits with its engine and whose wait has ended (State.waitEnds), with
no Stockroom pull waiting: a write whose region is gone or whose data is lost is discarded and nothing else changes;
any other leaves its engine with its operation, address and data, and nothing is stored by that; with no such
request nothing changes. VERSION_DROP of an old region version that a boundary found carried by nothing (log 156),
with no rebuild and no fill under it, completes: no old version is left, the chunks the region has no more are
BLANK, and the keys of a released region are destroyed and counted; before such a boundary nothing changes.
SHOT_TABLE_VERSION_DROP of an old entry version that a boundary found carried by nothing completes: it is gone with
its filter sets, and its Loft units are to be zeroed; before such a boundary nothing changes. -/
def Obligations.WaitsAndOldVersionsEnd : Prop :=
  (∀ (s : State) (r : Req), s.packet.pulls = [] → s.waitEnds = some r → s.req? r.id = some r →
    let e := s.entryFor r.region r.version (s.reqOff r)
    let lost := r.op.writes && s.lostWrite r.region r.version (s.reqOff r)
    (e.live = false ∨ lost = true → r.dest = .sink →
      exec .engineWaitEnd s = .next { s with reqs := s.reqs.filter fun q => q.id != r.id }) ∧
      (e.live = true → lost = false → ∃ (t : State) (q : Req), exec .engineWaitEnd s = .next t ∧ t.req? r.id = some q ∧ q.phase ≠ .wait ∧
        q.op = r.op ∧ q.addr = r.addr ∧ q.data = r.data ∧ t.dram = s.dram)) ∧
  (∀ s : State, s.waitEnds = none → exec .engineWaitEnd s = .next s) ∧
  (∀ (region : BitVec 12) (s : State) (o : RegionEntry), Safety.Canonical s → (s.slot region.toNat).old = some o →
    ((s.slot region.toNat).drained = false → exec (.versionDrop region) s = .next s) ∧
      ((s.slot region.toNat).drained = true → (s.slot region.toNat).rebuildWm = none →
        (∀ c ∈ goneChunks o (s.slot region.toNat).now, s.fill? c = none) →
          ∃ t, exec (.versionDrop region) s = .next t ∧ (t.slot region.toNat).old = none ∧
            t.regions.written = (goneChunks o (s.slot region.toNat).now).foldl (fun m c => Map.put false false c m) s.regions.written ∧
              ((s.slot region.toNat).now.live = true →
                t.slot region.toNat = { s.slot region.toNat with old := none, drained := false } ∧ t.obj 0x6801 3 0 = s.obj 0x6801 3 0) ∧
                ((s.slot region.toNat).now.live = false →
                  t.obj 0x6801 3 0 = s.obj 0x6801 3 0 + (s.slot region.toNat).keyCount))) ∧
  (∀ (entry : BitVec 12) (s : State) (o : BitVec 512), (s.tslot entry.toNat).old = some o →
    ((s.tslot entry.toNat).drained = false → exec (.shotTableVersionDrop entry) s = .next s) ∧
      ((s.tslot entry.toNat).drained = true →
        ∃ t, exec (.shotTableVersionDrop entry) s = .next t ∧
          t.shot.table = Map.upd {} entry.toNat (fun x => { x with old := none, unitsOld := [], drained := false }) s.shot.table ∧
            t.loft.zeroing = s.loft.zeroing ++ (s.tslot entry.toNat).unitsOld.map (fun u => (u.1, 256 * u.2)) ∧
              t.shot.sets = s.shot.sets.filter (fun p => p.1 != entry.toNat + 4096) ∧ t.shot.shots = s.shot.shots))

/-- LOFT_PORT_CYCLE with no user at the slice but its lanes completes: a lane that reads takes the read port and one
that writes the write port while the lanes' duty and the quadrant's allotment leave them a cycle (reckoned on 1,500
Loft cycles, log 152), each counted for the lanes of this frame. LOFT_LINE_FILL with the one fetch of a slice
answered and written completes: the fetch is tracked no more, and its sector of the line is valid with the data or
the poison that came, unless it was valid before; for a line fetched no more what came is dropped. LOFT_WRITE_BACK
with a buffer that has been copied completes: each of its sectors is asked for at its stack; with none, the first
line that must be cleaned goes to a buffer, when one is free. LOFT_PATROL_STEP, when the next word is due on a slice
in service, completes with that word: a correction counts in 0x3003.02, an uncorrectable word in 0x3003.04, and two
bad copies of a tag fail the slice. -/
def Obligations.LoftSlicesServeCleanAndPatrol : Prop :=
  (∀ (slice : Fin 64) (rd wr : Bool) (s : State), (∀ r ∈ s.reqs, r.phase = .loft → s.reqSlice r ≠ slice.val) →
    (∀ r ∈ s.reqs, ∀ k, r.dest = .line k → k / 131072 = slice.val → r.phase ≠ .done ∨ r.visible = true) →
      (∀ w ∈ s.loft.wbs, w.slice = slice.val → w.copied = true) → (∀ w ∈ s.loft.rewrites, w.slice ≠ slice.val) →
        (∀ z ∈ s.loft.zeroing, z.1 ≠ slice.val) → s.clearing slice.val = [] → s.capWaits ≠ some slice.val →
          s.withheld (32 + slice.val / 16) 4 = false → Map.look 0 slice.val s.loft.rdLane * 16 < 1500 * s.test.laneDuty →
            Map.look 0 slice.val s.loft.wrLane * 16 < 1500 * s.test.laneDuty →
              ∃ t, exec (.loftPortCycle slice { laneRead := rd, laneWrite := wr }) s = .next t ∧
                (rd = true → Map.look 0 slice.val t.loft.rdLane = Map.look 0 slice.val s.loft.rdLane + 1) ∧
                  (rd = false → t.loft.rdLane = s.loft.rdLane) ∧
                    (wr = true → Map.look 0 slice.val t.loft.wrLane = Map.look 0 slice.val s.loft.wrLane + 1) ∧
                      (wr = false → t.loft.wrLane = s.loft.wrLane) ∧ t.reqs = s.reqs ∧ t.loft.lines = s.loft.lines) ∧
  (∀ (slice : Fin 64) (s : State) (r : Req) (key : Nat) (x : SectorRsp), s.reqs = [r] → r.dest = .line key → key / 131072 = slice.val →
    r.phase = .done → r.visible = true → r.whole = none → r.rsp = [(0, x)] →
      let i := r.addr % 256 / 64
      let l := Map.look ({} : LoftLine) key s.loft.lines
      let fetched : Prop := l.busy = true ∧ l.region = r.region ∧ l.a = r.addr / 256
      ∃ t, exec (.loftLineFill slice) s = .next t ∧ t.reqs = [] ∧
        (fetched → l.valid.getLsbD i = false → t.loft.lines = Map.upd {} key (fun l =>
          { l with busy := false, valid := setBit4 l.valid i true, poison := setBit4 l.poison i x.poison, data := setSector l.data i x.data })
          s.loft.lines) ∧
          (fetched → l.valid.getLsbD i = true → t.loft.lines = Map.upd {} key (fun l => { l with busy := false }) s.loft.lines) ∧
            (¬ fetched → t.loft = s.loft)) ∧
  (∀ (slice : Fin 64) (s : State),
    (∀ w, s.loft.wbs.find? (fun w => w.slice == slice.val && w.copied && !w.asked) = some w → (s.slot w.region).now.live = true →
      (∀ off, s.lostWrite w.region (s.slot w.region).now.version off = false) →
        ∃ (t : State) (l : List Req), exec (.loftWriteBack slice) s = .next t ∧ t.reqs = s.reqs ++ l ∧
          l.map (fun q => (q.addr, q.data)) = ((List.range 4).filter (w.dirty.getLsbD ·)).map (fun i =>
            (w.a * 256 + 64 * i, some (BitVec.ofNat 2048 (sectorOf w.data i).toNat))) ∧
            (∀ q ∈ l, q.master = 0x2B ∧ q.op = .write ∧ q.region = w.region ∧ q.phase = .arb ∧ q.dest = .back w.slice) ∧
              t.loft.wbs = s.loft.wbs.map fun b => if b == w then { b with asked := true } else b) ∧
      (∀ key l, s.loft.wbs.find? (fun w => w.slice == slice.val && w.copied && !w.asked) = none →
        s.loft.lines.find? (fun p => p.1 / 131072 == slice.val && p.2.dirty != 0 && !p.2.busy && s.mustClean p.1 p.2) = some (key, l) →
          s.bufferRoom slice.val 1 false = true → Map.look {} key s.loft.lines = l → l.valid ≠ 0 →
            ∃ t, exec (.loftWriteBack slice) s = .next t ∧ t.loft.wbs.length = s.loft.wbs.length + 1 ∧
              (Map.look ({} : LoftLine) key t.loft.lines).dirty = 0)) ∧
  (∀ (slice : Fin 64) (found : WordFound) (s : State), Safety.Canonical s → s.obj 0x3005 1 slice.val = 0 → s.patrolDue slice.val = true →
    ∃ t, exec (.loftPatrolStep slice found) s = .next t ∧
      t.loft.patrolWord =
        Map.put 0 ((Map.look 0 slice.val s.loft.patrolWord + 1) % patrolWords) slice.val s.loft.patrolWord ∧
        (∀ again, found = .corrected again → t.obj 0x3003 2 slice.val = s.obj 0x3003 2 slice.val + 1) ∧
          (found = .uncorrectable ∨ found = .tagOne ∨ found = .tagBoth →
            t.obj 0x3003 4 slice.val = s.obj 0x3003 4 slice.val + 1) ∧
            (found = .tagBoth → ∃ f ∈ t.loft.failNext, f.1 = slice.val ∧ f.2 = true))

/-- PARTITION_CHANGE_EFFECT with a change that a boundary found clean, and no dirty or busy line in a way that changes
its use, completes: 0x3000.01 is the new partition, 0x3000.02 reads 0, no change is pending and those ways hold
nothing. SLICE_FAIL of a slice declared failed completes: its state 0x3005.01 is 1, every line of it that is left is
dirty, and it is being emptied. SLICE_FENCE of such a slice with nothing left to write back completes: its state is
2, its unit is fenced with its generation raised and it holds no line. SLICE_MAP_RETURN for an eligible slice whose
entry an interim slice holds clean completes with the entry its own again; while that slice holds lines of it that
are dirty or busy, they are marked to be cleaned and the entry stays. -/
def Obligations.SlicesPartitionFailAndReturn : Prop :=
  (∀ (q : Fin 4) (w : Nat) (s : State), Safety.Canonical s → Map.look none q.val s.loft.partNext = some w → q.val ∈ s.loft.partReady →
    (∀ p ∈ s.loft.lines, p.1 / 131072 / 16 = q.val → partCache w ≤ p.1 % 16 → p.2.dirty = 0 ∧ p.2.busy = false) →
      ∃ t, exec (.partitionChangeEffect q) s = .next t ∧ t.obj 0x3000 1 q.val = w ∧ t.obj 0x3000 2 q.val = 0 ∧
        t.loft.partNext = Map.put none none q.val s.loft.partNext ∧
          (∀ p ∈ t.loft.lines, p ∈ s.loft.lines ∧ ¬ (p.1 / 131072 / 16 = q.val ∧ partCache w ≤ p.1 % 16)) ∧
            ∀ p ∈ s.loft.lines, ¬ (p.1 / 131072 / 16 = q.val ∧ partCache w ≤ p.1 % 16) → p ∈ t.loft.lines) ∧
  (∀ (slice : Fin 64) (lost : Bool) (s : State), Safety.Canonical s → (∃ f ∈ s.loft.failNext, f.1 = slice.val) →
    ∃ t, exec (.sliceFail slice lost) s = .next t ∧ t.obj 0x3005 1 slice.val = 1 ∧ slice.val ∈ t.loft.evac ∧
      (∀ p ∈ t.loft.lines, p.1 / 131072 = slice.val → p.2.dirty ≠ 0)) ∧
  (∀ (slice : Fin 64) (s : State), Safety.Canonical s → slice.val ∈ s.loft.evac → (∀ w ∈ s.loft.wbs, w.slice ≠ slice.val) →
    (∀ p ∈ s.loft.lines, p.1 / 131072 = slice.val → p.2.dirty = 0 ∧ p.2.busy = false) →
      ∃ t, exec (.sliceFence slice) s = .next t ∧ t.obj 0x3005 1 slice.val = 2 ∧ t.obj 0x6040 5 (unitSlice slice.val) = 1 ∧
        t.obj 0x6040 1 (unitSlice slice.val) = (s.obj 0x6040 1 (unitSlice slice.val) + 1) % 65536 ∧
          ∀ p ∈ t.loft.lines, p.1 / 131072 ≠ slice.val) ∧
  (∀ (slice : Fin 64) (s : State), Safety.Canonical s → s.obj 0x3001 1 slice.val ≠ slice.val → s.eligible slice.val = true →
    let j := s.obj 0x3001 1 slice.val
    let held := ∃ p ∈ s.loft.lines, p.1 / 131072 = j ∧ sliceEntry p.2.a = slice.val ∧ (p.2.dirty ≠ 0 ∨ p.2.busy = true)
    ∃ t, exec (.sliceMapReturn slice) s = .next t ∧ (¬ held → t.obj 0x3001 1 slice.val = slice.val) ∧
      (held → t.obj 0x3001 1 slice.val = j ∧ (slice.val, j) ∈ t.loft.moves ∧ t.loft.lines = s.loft.lines))

/-- For REDUCE, GATHER, SCORE, PROJECT, SELECT, FILTER, CONVERT, COPY, SCAN and FILL, from an Operator session, or from
a port whose class is ready with a free tag and no request of that class held: a slate of that kind that passes the
checks of R243 completes: it is the last of its list, its context is LISTED with its epoch and tenant, and the post
is answered 0 or DONE (from a port: with the slate sent at once, nothing due before it and room under the caps). A
slot whose slate is still to come is tracked, is due one position, and waits for it, in its hold buffer while a cap
is full. A session's slate that fails is answered with its first failing check's abort, counted in 0x5000.08 under
that check, and no list or context changes. RESERVED_KIND from a session to an enabled list is refused RANGE in the
same way, under check 2. -/
def Obligations.PostsAreListedOrRefused : Prop :=
  (∀ (p : Post) (c : Instr) (k : Nat) (rq : Rq) (n : Fin 4) (list : BitVec 32) (s : State), Safety.Canonical s →
    (c, k) ∈ [(.reduce p, 1), (.gather p, 2), (.score p, 3), (.project p, 4), (.select p, 5), (.filter p, 6), (.convert p, 7), (.copy p, 8), (.scan p, 9), (.fill p, 10)] ∨ (c = .reservedKind p (BitVec.ofNat 8 k) ∧ k < 256 ∧ (k = 0 ∨ 11 ≤ k)) →
      p.origin = .host rq list → Safety.Heard s rq n roleO → list.toNat < 64 →
        let w := p.slate.toNat - slKind p.slate.toNat * 2 ^ 24 + k * 2 ^ 24
        let v := s.postCheck w list.toNat none (s.session n.val).tenant true
        ∃ t, exec c s = .next t ∧
          (v.1 = 0 → (t.list list.toNat).map (·.slate) = (s.list list.toNat).map (·.slate) ++ [BitVec.ofNat 512 w] ∧
            t.ctx (slShot w) = { state := 1, epoch := slEpoch w, flags := (s.ctx (slShot w)).flags, tenant := slTenant w, frame := s.time.frame } ∧
              Safety.Answers rq 2 0 [] s t) ∧
            (v.1 ≠ 0 → t.shot = s.shot ∧ t.obj 0x5000 8 v.1 = s.obj 0x5000 8 v.1 + 1 ∧ Safety.Answers rq 2 v.2.2 [] s t) ∧
              ((k = 0 ∨ 11 ≤ k) → bit (s.obj 0x5001 1 list.toNat) 10 = true → v.1 = 2 ∧ v.2.2 = abRange)) ∧
  (∀ (p : Post) (c : Instr) (k : Nat) (r : PortReq) (sent : Bool) (s : State), Safety.Canonical s → (c, k) ∈ [(.reduce p, 1), (.gather p, 2), (.score p, 3), (.project p, 4), (.select p, 5), (.filter p, 6), (.convert p, 7), (.copy p, 8), (.scan p, 9), (.fill p, 10)] →
    p.origin = .port r sent → s.portReady r.port.val r.cls = true → s.tagOut r.port.val r.tag.toNat = false →
      (∀ q ∈ s.reqs, q.id ≠ s.nextReq) → (s.reqs.map (·.id)).Nodup →
        (∀ q ∈ s.portReqs r.port.val, (q.cls = r.cls → q.phase ≠ .held ∨ q.reserved = true) ∧
          (q.op = .post → q.phase = .wait → q.data = none)) →
          let w := p.slate.toNat - slKind p.slate.toNat * 2 ^ 24 + k * 2 ^ 24
          let room := s.capRoom (s.newReq .post r)
          (sent = false → ∃ (t : State) (q : Req), exec c s = .next t ∧ Safety.Takes q s t ∧ q.id = s.nextReq ∧ q.op = .post ∧
            q.tag = r.tag.toNat ∧ q.whole = none ∧ q.data = none ∧ q.phase = (if room then .wait else .held) ∧ q.routed = room ∧
              t.shot = s.shot ∧ (t.port r.port.val).due = (s.port r.port.val).due ++ [{ req := s.nextReq, n := 1 }]) ∧
            (sent = true → room = true → (s.port r.port.val).due = [] → (s.port r.port.val).gathered = [] → r.addr.toNat < 64 →
              (s.postCheck w r.addr.toNat (some r.port.val) r.tenant.toNat false).1 = 0 → (slOut w = 3 → slReply w ≠ r.tag.toNat) →
                ∃ (t : State) (q : Req), exec c s = .next t ∧ Safety.Takes q s t ∧ q.op = .post ∧ q.tag = r.tag.toNat ∧
                  q.whole = some (.done, .none) ∧ q.phase = .done ∧ (t.port r.port.val).due = [] ∧
                    (t.list r.addr.toNat).map (·.slate) = (s.list r.addr.toNat).map (·.slate) ++ [BitVec.ofNat 512 w] ∧
                      t.ctx (slShot w) =
                        { state := 1, epoch := slEpoch w, flags := (s.ctx (slShot w)).flags, tenant := slTenant w, frame := s.time.frame }))

/-- At a frame from its budget end to before its final end an admitted shot is extended by SHOT_EXTEND, once in a frame,
its context EXTENDED and 0x5000.05 counted; before the budget end nothing changes. At its final end SHOT_TIME_ABORT
completes: the shot is gone and its context is ABORTED with cause TIME; before, nothing changes. LIST_HEAD_TIMEOUT
after 0x5000.07 frames at the head completes: that slate leaves its list, the rest stays in order, and its context
is ABORTED with cause 9. CONTEXT_FREE after the rest of a COMPLETE or ABORTED context completes: it is FREE, its
epoch and tenant kept. JOB_ABORT from an Operator completes: every listed and admitted shot of that tenant and job
(or of every job) is asked to abort. -/
def Obligations.ShotsExtendAbortAndRest : Prop :=
  (∀ (shot : BitVec 16) (s : State) (x : Shot), Safety.Canonical s → s.shot? shot.toNat = some x →
    (s.time.frame < x.budgetEnd → exec (.shotExtend shot) s = .next s) ∧
      (x.budgetEnd ≤ s.time.frame → s.time.frame < x.finalEnd → x.extFrame ≠ some s.time.frame →
        ∃ t, exec (.shotExtend shot) s = .next t ∧
          t.shot? shot.toNat = some { x with extended := true, extFrame := some s.time.frame } ∧
            t.obj 0x5000 5 0 = s.obj 0x5000 5 0 + 1 ∧ (x.extended = false → (t.ctx shot.toNat).state = 3))) ∧
  (∀ (shot : BitVec 16) (s : State) (x : Shot), s.shot? shot.toNat = some x →
    (s.time.frame < x.finalEnd → exec (.shotTimeAbort shot) s = .next s) ∧
      (x.finalEnd ≤ s.time.frame → ∃ t, exec (.shotTimeAbort shot) s = .next t ∧ t.shot? shot.toNat = none ∧
        (t.ctx (slShot x.slate.toNat)).state = 5 ∧ (t.ctx (slShot x.slate.toNat)).cause = 1)) ∧
  (∀ (list : Fin 64) (s : State) (h : Listed) (rest : List Listed) (f : Nat), s.list list.val = h :: rest → h.headSince = some f →
    (s.time.frame < f + s.live' 0x5000 7 0 → exec (.listHeadTimeout list) s = .next s) ∧
      (f + s.live' 0x5000 7 0 ≤ s.time.frame → ∃ t, exec (.listHeadTimeout list) s = .next t ∧
        (rest ≠ [] → (t.list list.val).map (·.slate) = rest.map (·.slate)) ∧
          (t.ctx (slShot h.slate.toNat)).state = 5 ∧ (t.ctx (slShot h.slate.toNat)).cause = 9)) ∧
  (∀ (shot : BitVec 16) (s : State), (s.ctx shot.toNat).state = 4 ∨ (s.ctx shot.toNat).state = 5 →
    (s.ctx shot.toNat).frame + s.live' 0x5000 4 0 ≤ s.time.frame →
      exec (.contextFree shot) s = .next { s with shot := { s.shot with
        ctxs := Map.upd {} shot.toNat (fun c => { c with state := 0, frame := s.time.frame }) s.shot.ctxs } }) ∧
  (∀ (rq : Rq) (n : Fin 4) (v : BitVec 32) (s : State), Safety.Heard s rq n roleO →
    let job (w : Nat) : Prop := slTenant w = bits v.toNat 9 0 ∧ (bit v.toNat 18 = true ∨ slJob w = bits v.toNat 17 10)
    ∃ t, exec (.jobAbort rq v) s = .next t ∧ Safety.Answers rq 2 0 [] s t ∧
      t.shot.shots.map (·.id) = s.shot.shots.map (·.id) ∧ (∀ y ∈ t.shot.shots, job y.slate.toNat → y.abort ≠ none) ∧
        (∀ y ∈ s.shot.shots, ¬ job y.slate.toNat → y ∈ t.shot.shots) ∧
          ∀ l, ∀ y ∈ t.list l, job y.slate.toNat → y.abort ≠ none)

/-- On a gather unit in service that may issue, of the one admitted GATHER shot: GATHER_BAG_START with the bag lengths
not known and read completes: they are known when they add up to the count, and the shot is asked to abort when they
do not. With them known and no bag begun it completes with the unit's next bag, of its first entry and length, in
progress. With a bag that has entries to issue: an index entry that has not come is asked for; one that has come and
names a row of the table is issued, with its row on its way. GATHER_ROW_DATA with the one row of a unit returned,
for a bag that wants more rows, completes: the requests of the row are tracked no more, the row is pooled into the
bag as one more entry, and the shot's progress and 0x5300.01 count it. -/
def Obligations.GatherIssuesAndPoolsRows : Prop :=
  (∀ (unit : Fin 32) (s : State) (x : Shot), s.unitState (unitGather unit.val) = 0 → s.isReady 41 = true → s.issueRoom 41 3 = true →
    s.underTest (unitGather unit.val) = false → s.shot.shots = [x] → slKind x.slate.toNat = 2 → x.ended = false → x.abort = none →
      unit.val ∈ x.work.lanesL →
        let w := x.slate.toNat
        let lensAt := slSrcOff w + slCount w * 8
        (∀ l, x.work.lens = none → gaPool w ≠ 4 → s.engHas x.id [x.part (slSrc w) lensAt (gaBags w * 4)] = true →
          s.engBytes? x.id (slSrc w) lensAt (gaBags w * 4) = some l →
            let lens := (List.range (gaBags w)).map fun i => ofLe ((l.drop (4 * i)).take 4)
            ∃ (t : State) (y : Shot), exec (.gatherBagStart unit) s = .next t ∧ t.shot.shots = [y] ∧
              (lens.sum = slCount w → y.work.lens = some lens ∧ y.abort = none) ∧ (lens.sum ≠ slCount w → y.abort ≠ none)) ∧
        (∀ lens b, x.work.lens = some lens → x.work.bags = [] → x.nextBagFor unit.val = some b → (x.bagSpan b).2 ≠ 0 →
          ∃ (t : State) (y : Shot) (g : Bag), exec (.gatherBagStart unit) s = .next t ∧ t.shot.shots = [y] ∧ y.work.bags = [g] ∧
            g.bag = b ∧ g.first = (x.bagSpan b).1 ∧ g.len = (x.bagSpan b).2 ∧ g.issued = 0 ∧ g.pooled = 0) ∧
        (∀ lens g, x.work.lens = some lens → x.work.bags = [g] → x.bagUnit g.bag = unit.val → g.issued < g.len →
          let off := slSrcOff w + (g.first + g.issued) * 8
          let need := [x.listPart (slSrcOff w) (slSrcOff w + slCount w * 8) off 8]
          (s.engHas x.id need = false →
            exec (.gatherBagStart unit) s = .next (s.engAsk (x.reader 0x24 .critical) x.id need)) ∧
            (∀ l, s.engHas x.id need = true → s.engBytes? x.id (slSrc w) off 8 = some l → ofLe (l.take 4) < tbRows x.entry →
              ∃ (t : State) (y : Shot), exec (.gatherBagStart unit) s = .next t ∧ t.shot.shots = [y] ∧
                y.work.bags = [{ g with issued := g.issued + 1, rows := g.rows ++ [(g.issued, ofLe (l.take 4), ofLe (l.drop 4))] }]))) ∧
  (∀ (unit : Fin 32) (s : State) (x : Shot) (g : Bag) (r : Req) (id b j : Nat), Safety.Canonical s → s.reqs = [r] →
    r.dest = .row unit.val id b j → r.phase = .done → s.working id [2] = some x → x.work.bags.find? (fun y => y.bag == b) = some g →
      g.pooled + 1 < g.len →
        ∃ (t : State) (y : Shot) (g2 : Bag), exec (.gatherRowData unit) s = .next t ∧ t.reqs = [] ∧ t.shot? id = some y ∧
          y.done = x.done + 1 ∧ y.work.bags.find? (fun y => y.bag == b) = some g2 ∧ g2.pooled = g.pooled + 1 ∧
            g2.rows = g.rows.filter (fun z => z.1 != j) ∧ t.obj 0x5300 1 0 = s.obj 0x5300 1 0 + 1)

/-- ARRAY_RUN on an array in service that may issue, for the shot in turn, completes: queries that have come are loaded
first; then a run whose rows have come and can be read, the select units taking entries if it passes any, advances
the shot by its rows, counted in 0x5400.02, and the turn is this shot's. SELECT_ENTRY_DEAL of a SELECT whose next
entries, 64 at most, have come and can be read completes with them dealt and counted in 0x5500.01. SELECT_MERGE
after the last entry completes: the lists are merged, the work ends, and a SELECT with output 2 sends a list of
exactly k entries. FILTER_KEY with a key that has come and can be read completes: the set is the one its step on
that key gives, the key counts in 0x5600.02, and the work ends with the last key. Each of them, where what it needs
has not come, asks for it. -/
def Obligations.ArraysSelectAndFilterAdvance : Prop :=
  (∀ (array : Fin 4) (s : State) (x : Shot), Safety.Canonical s → array.val ∈ s.arraysIn → s.issueRoom (36 + array.val) 3 = true →
    s.underTest (unitArray array.val) = false → s.arrayTurn array.val = some x → s.shot? x.id = some x →
      let w := x.slate.toNat
      let n := min (s.live' 0x5400 6 0) (slCount w - x.work.pos)
      let first := scFirst w + x.work.pos
      let need := if x.work.started then [x.rowsPart first n] else [x.part (slSrc w) (slSrcOff w) (scQ w * scStride w x.entry)]
      (s.engHas x.id need = false → exec (.arrayRun array) s = .next (s.engAsk (x.reader 0x25 (clsOf (slClass w))) x.id need)) ∧
        (∀ l, x.work.started = false → s.engHas x.id need = true →
          s.engBytes? x.id (slSrc w) (slSrcOff w) (scQ w * scStride w x.entry) = some l →
            ∃ (t : State) (y : Shot), exec (.arrayRun array) s = .next t ∧ t.shot? x.id = some y ∧ y.work.started = true ∧
              y.work.pos = x.work.pos) ∧
        (x.work.started = true → s.engHas x.id need = true → (∀ i, i < n → (s.readRow x (first + i)).isSome = true) →
          (slKind w = 3 → 0 < scK w → s.selectGo = true) →
          ∃ (t : State) (y : Shot), exec (.arrayRun array) s = .next t ∧ t.shot? x.id = some y ∧
            y.work.pos = x.work.pos + n ∧ y.done = x.done + n ∧ t.obj 0x5400 2 0 = s.obj 0x5400 2 0 + n ∧
              Map.look 0 array.val t.shot.turns = x.id + 1)) ∧
  (∀ (shot : BitVec 16) (s : State) (x : Shot), Safety.Canonical s →
    s.working shot.toNat [5] = some x → s.selectUnits ≠ [] → (∀ u ∈ s.selectUnits, s.underTest (unitSelect u) = false) →
      s.issueRoom 40 3 = true →
        let w := x.slate.toNat
        let r := slSrc w
        let p := x.work.pos
        let n := min 64 (slCount w * slSize w - p)
        let need : List EngPart :=
          [{ region := r, version := x.ver r, reads := coverReads (((List.range n).map fun i => seOff w (p + i) / 64).eraseDups) }]
        (n ≠ 0 → s.engHas x.id need = false →
          exec (.selectEntryDeal shot) s = .next (s.engAsk (x.reader 0x25 (clsOf (slClass w))) x.id need)) ∧
          (n ≠ 0 → s.engHas x.id need = true → (∀ i, i < n → (s.engBytes? x.id r (seOff w (p + i)) 8).isSome = true) →
            ∃ (t : State) (y : Shot), exec (.selectEntryDeal shot) s = .next t ∧ t.shot? shot.toNat = some y ∧
              y.work.pos = p + n ∧ t.obj 0x5500 1 0 = s.obj 0x5500 1 0 + n)) ∧
  (∀ (shot : BitVec 16) (s : State) (x : Shot) (u : Nat) (rest : List Nat), s.working shot.toNat [3, 5] = some x →
    s.selectUnits = u :: rest → s.underTest (unitSelect u) = false → x.work.merged = false → s.issueRoom 40 3 = true →
      (if slKind x.slate.toNat = 5 then seK x.slate.toNat else scK x.slate.toNat) ≠ 0 →
      (if slKind x.slate.toNat = 5 then slCount x.slate.toNat * slSize x.slate.toNat else slCount x.slate.toNat) ≤ x.work.pos →
        ∃ (t : State) (y : Shot), exec (.selectMerge shot) s = .next t ∧ t.shot? shot.toNat = some y ∧ y.ended = true ∧
          y.work.merged = true ∧ (slKind x.slate.toNat = 5 → slOut x.slate.toNat = 2 → ∃ l : List (BitVec 32 × Nat), l.length = seK x.slate.toNat ∧
            t.entry.results = s.entry.results ++ listPackets x 0 l)) ∧
  (∀ (shot : BitVec 16) (s : State) (x : Shot), Safety.Canonical s →
    s.working shot.toNat [6] = some x → x.work.pos < slCount x.slate.toNat → s.isReady 40 = true → s.issueRoom 40 3 = true →
      let w := x.slate.toNat
      let off := slSrcOff w + 8 * x.work.pos
      let lo := max (slSrcOff w) (off / 256 * 256)
      let hi := min (slSrcOff w + 8 * slCount w) (off / 256 * 256 + 256)
      let need := [x.part (slSrc w) lo (hi - lo)]
      (s.engHas x.id need = false →
        exec (.filterKey shot) s = .next (s.engAsk (x.reader 0x25 (clsOf (slClass w))) x.id need)) ∧
        (∀ b, s.engHas x.id need = true → s.engBytes? x.id (slSrc w) off 8 = some b →
          s.unitState (unitFilter (keyHash x.entry (ofLe b) % 16)) = 0 → s.underTest (unitFilter (keyHash x.entry (ofLe b) % 16)) = false →
            ∃ (t : State) (y : Shot), exec (.filterKey shot) s = .next t ∧ t.shot? shot.toNat = some y ∧
              y.work.pos = x.work.pos + 1 ∧ y.done = x.done + 1 ∧ t.obj 0x5600 2 0 = s.obj 0x5600 2 0 + 1 ∧
                t.shot.sets = Map.put {} (if fsKind x.entry = 0
                  then (Map.look ({} : FilterSet) (s.setKey x) s.shot.sets).cuckoo x.entry (ofLe b) (flOp w == 0)
                  else (Map.look ({} : FilterSet) (s.setKey x) s.shot.sets).bloom x.entry (ofLe b) (flOp w == 0)).2.1
                  (s.setKey x) s.shot.sets ∧
                  y.ended = decide (slCount w ≤ x.work.pos + 1)))

/-- CHECK_VALUE_BLOCK of a SCAN whose next block has come and can be read completes: the shot advances by the block,
0x6011.02 counts its bytes, and the last block ends the work. DOLLY_SHOT_TRANSFER with no migration under way, the
fill table having an entry for each BLANK chunk that its run covers whole, and its source come, completes: a COPY
advances by its next part (the whole of it where its extents overlap), which 0x5100.01 counts; a CONVERT by its next
256 elements or what is left, which 0x5100.02 counts. FILL_SHOT_WRITE with such room completes: the shot advances by
its next part, at most 1,024 B, which 0x5100.03 counts. A shot's work ends exactly when the last of it is done. The
first two, where what they need has not come, ask for it. -/
def Obligations.DollyScanAndFillAdvance : Prop :=
  (∀ (shot : BitVec 16) (s : State) (x : Shot), Safety.Canonical s →
    s.working shot.toNat [9] = some x → s.isReady 41 = true → s.issueRoom 41 1 = true →
      let w := x.slate.toNat
      let n := min 64 (slCount w - x.work.pos)
      let off := slSrcOff w + x.work.pos
      let lo := max (slSrcOff w) (off / 256 * 256)
      let hi := min (slSrcOff w + slCount w) (((off + n - 1) / 256 + 1) * 256)
      let need := [x.part (slSrc w) lo (hi - lo)]
      (s.engHas x.id need = false → exec (.checkValueBlock shot) s = .next (s.engAsk (x.reader 0x27 .upkeep) x.id need)) ∧
        (∀ l, s.engHas x.id need = true → s.engBytes? x.id (slSrc w) off n = some l →
          ∃ (t : State) (y : Shot), exec (.checkValueBlock shot) s = .next t ∧ t.shot? shot.toNat = some y ∧
            y.work.pos = x.work.pos + n ∧ y.done = x.done + n ∧ t.obj 0x6011 2 0 = s.obj 0x6011 2 0 + n ∧
              y.ended = decide (slCount w ≤ x.work.pos + n))) ∧
  (∀ (shot : BitVec 16) (s : State) (x : Shot), Safety.Canonical s → s.isReady 41 = true → s.working shot.toNat [7, 8] = some x →
    let w := x.slate.toNat
    let p := x.work.pos
    (slKind w = 8 → (∀ st, st < 32 → (s.stack st).mig = none) → s.issueRoom 41 1 = true →
      let src := slSrcOff w + p
      let dst := slDstOff w + p
      let whole := slSrc w == slDst w && overlaps (slSrcOff w) (slCount w) (slDstOff w) (slCount w)
      let n := if whole then slCount w - p else min (slCount w - p) (min (1024 - src % 256) (2097152 - dst % 2097152))
      s.runRoom (s.runStarts (x.req 0x26 .upkeep (slDst w)) (slDstOff w) (slDstOff w + slCount w) dst n).length = true →
        (s.engHas x.id [x.part (slSrc w) src n] = false →
          exec (.dollyShotTransfer shot) s = .next (s.engAsk (x.reader 0x26 .upkeep) x.id [x.part (slSrc w) src n])) ∧
          (s.engHas x.id [x.part (slSrc w) src n] = true →
            ∃ (t : State) (y : Shot), exec (.dollyShotTransfer shot) s = .next t ∧ t.shot? shot.toNat = some y ∧
              y.work.pos = p + n ∧ y.done = x.done + n ∧ t.obj 0x5100 1 0 = s.obj 0x5100 1 0 + n ∧
                y.ended = decide (slCount w ≤ p + n))) ∧
      (slKind w = 7 → s.issueRoom 41 (if clsOf (slClass w) == .upkeep then 1 else 6) = true →
        let n := min 256 (slCount w - p)
        let i := slIn w
        let eb := elemBits (slOutFmt w)
        let q := x.req 0x26 (clsOf (slClass w)) (slDst w)
        let fin1 := slDstOff w + slCount w * eb / 8
        let fin2 := fin1 + (if isMx (slOutFmt w) then slCount w / 32 else 0)
        let need : List EngPart :=
          [{ region := slSrc w, version := x.ver (slSrc w)
             reads := coverReads (sectorsOf (slSrcOff w + p * elemBits i / 8) (n * elemBits i / 8) ++
               sectorsOf (slSrcOff w + slCount w * elemBits i / 8 + p / 32) (if isMx i then n / 32 else 0)).eraseDups }]
        s.runRoom ((s.runStarts q (slDstOff w) fin2 (slDstOff w + p * eb / 8) (n * eb / 8)).length +
          (s.runStarts q (slDstOff w) fin2 (fin1 + p / 32) (if isMx (slOutFmt w) then n / 32 else 0)).length) = true →
          (s.engHas x.id need = false →
            exec (.dollyShotTransfer shot) s = .next (s.engAsk (x.reader 0x26 (clsOf (slClass w))) x.id need)) ∧
            (s.engHas x.id need = true →
              ∃ (t : State) (y : Shot), exec (.dollyShotTransfer shot) s = .next t ∧ t.shot? shot.toNat = some y ∧
                y.work.pos = p + n ∧ y.done = x.done + n ∧ t.obj 0x5100 2 0 = s.obj 0x5100 2 0 + n ∧
                  y.ended = decide (slCount w ≤ p + n)))) ∧
  (∀ (shot : BitVec 16) (s : State) (x : Shot), Safety.Canonical s → s.working shot.toNat [10] = some x →
    let w := x.slate.toNat
    let off := slDstOff w + x.work.pos
    let fin := slDstOff w + slCount w
    let n := min (fin - off) (1024 - off % 256)
    s.runRoom (s.runStarts (x.req 0x28 .upkeep (slDst w)) (slDstOff w) fin off n).length = true →
      ∃ (t : State) (y : Shot), exec (.fillShotWrite shot) s = .next t ∧ t.shot? shot.toNat = some y ∧
        y.work.pos = x.work.pos + n ∧ y.done = x.done + n ∧ t.obj 0x5100 3 0 = s.obj 0x5100 3 0 + n ∧
          y.ended = decide (slCount w ≤ x.work.pos + n))

/-- When the block is up, CONTRIBUTION completes. The first failing one of checks 1 to 6 (credit, kind and leaves,
context, chunk, length and beats, member) drops the packet: no shot, lane or accumulator changes, it is counted in
that check's object alone of 0x5201 (for check 1, the beats without a credit), and the credits its beats had are in
line to go back, behind those in line. A packet that fails none waits at the end of its slot's lane queue with its
header, its payload and its beats, and no credit is in line for it. -/
def Obligations.ContributionsAreCheckedAtTheEntry : Prop :=
  ∀ (pipe : Fin 32) (h : ContribHdr) (beats : Nat) (payload : List Byte) (s : State), Safety.Canonical s → s.block.boot = .up →
    let spent := Map.look 0 pipe.val s.entry.credits
    let had := min beats (128 - spent)
    let verdict : Nat :=
      if had < beats then 4
      else if h.kind.toNat ≠ 1 ∨ h.leaves.toNat = 0 ∨ 1048576 < h.leaves.toNat then 8
      else match s.reduceShot h.shot.toNat h.epoch.toNat with
        | none => 1
        | some x =>
          if slCount x.slate.toNat ≤ h.chunk.toNat then 7
          else if h.length.toNat ≠ slSize x.slate.toNat ∨ beats ≠ (64 + h.length.toNat + 511) / 512 then 5
          else if isMember x.entry h.contributor.toNat = false then 2
          else 0
    ∃ t, exec (.contribution pipe h beats payload) s = .next t ∧
      (verdict ≠ 0 → t.shot = s.shot ∧ t.entry.owed = s.entry.owed ++ List.replicate had pipe.val ∧
        ∀ sub, sub ≤ 8 → t.obj 0x5201 sub 0 =
          s.obj 0x5201 sub 0 + if sub = verdict then (if verdict = 4 then beats - had else 1) else 0) ∧
        (verdict = 0 → ∃ (x : Shot) (it : LaneItem), s.reduceShot h.shot.toNat h.epoch.toNat = some x ∧
          it.shot = x.id ∧ it.epoch = h.epoch.toNat ∧ it.slot = h.chunk.toNat % max 1 (rdWindow x.slate.toNat) ∧
            it.chunk = h.chunk.toNat ∧ it.contributor = h.contributor.toNat ∧ it.leaves = h.leaves.toNat ∧
              it.payload = payload ∧ it.pipe = pipe.val ∧ it.beats = beats ∧
                t.shot = { s.shot with lanes := Map.upd [] (x.laneOf it.slot) (· ++ [it]) s.shot.lanes } ∧
                  t.entry.owed = s.entry.owed ∧ t.objs = s.objs)

/-- On a lane not under test whose oldest contribution is for an admitted REDUCE shot of its epoch, LANE_ACCUMULATE
completes: it leaves the queue and its credits are in line. A chunk before its slot's, or a contributor whose bit is
set, is dropped and counted in 0x5201.03; a chunk after it in 0x5201.06; neither changes the shot. Otherwise it
waits, and nothing changes, while the slice has not given the lane its port cycles or the duty and allotment leave
none (State.laneRoom); with that room the contributor's bit is set, its leaves are added, the payload is accumulated
and 0x5200.04 counts one; with a member still missing no result is sent, and with the last member and a leaf sum
that passes R278 the chunk's packets are put in line for the result output. -/
def Obligations.LanesAccumulateOnce : Prop :=
  ∀ (lane : Fin 64) (s : State) (it : LaneItem) (rest : List LaneItem) (x : Shot), Safety.Canonical s →
    Map.look [] lane.val s.shot.lanes = it :: rest → s.underTest (unitRedLane lane.val) = false →
      s.reduceShot it.shot it.epoch = some x →
        let r := x.rslot it.slot
        let next := it.slot + rdWindow x.slate.toNat * r.next
        let leaves := (r.leaves + it.leaves) % 2 ^ 30
        let dropped := it.chunk ≠ next ∨ r.bitmap.getLsbD it.contributor = true
        let room := s.laneRoom lane.val (x.lanePorts r)
        (dropped ∨ room = true → ∃ t, exec (.laneAccumulate lane) s = .next t ∧
          t.entry.owed = s.entry.owed ++ List.replicate it.beats it.pipe ∧ t.shot.lanes = Map.put [] rest lane.val s.shot.lanes ∧
          (it.chunk < next ∨ (it.chunk = next ∧ r.bitmap.getLsbD it.contributor = true) →
            t.shot.shots = s.shot.shots ∧ t.obj 0x5201 3 0 = s.obj 0x5201 3 0 + 1 ∧ t.entry.results = s.entry.results) ∧
            (next < it.chunk →
              t.shot.shots = s.shot.shots ∧ t.obj 0x5201 6 0 = s.obj 0x5201 6 0 + 1 ∧ t.entry.results = s.entry.results) ∧
            (¬ dropped → ∃ y, t.shot? it.shot = some y ∧
              (y.rslot it.slot).bitmap = r.bitmap ||| BitVec.ofNat 512 (2 ^ it.contributor) ∧
                (y.rslot it.slot).arrived = r.arrived + 1 ∧ (y.rslot it.slot).leaves = leaves ∧
                  (y.rslot it.slot).acc =
                    accumulate (rdOp x.slate.toNat) (slIn x.slate.toNat) (rdElems x.slate.toNat) (r.done == 0) r.acc it.payload ∧
                    t.obj 0x5200 4 0 = s.obj 0x5200 4 0 + 1 ∧
                      (r.arrived + 1 < memberCount x.entry → t.entry.results = s.entry.results) ∧
                        (memberCount x.entry ≤ r.arrived + 1 → leaves ≤ 1048576 →
                          mbLeaves x.entry = 0 ∨ leaves = mbLeaves x.entry →
                            ∃ p, p ≠ [] ∧ t.entry.results = s.entry.results ++ p ∧
                              ∀ q ∈ p, q.ty = 1 ∧ q.shot = it.shot ∧ q.chunk = it.chunk))) ∧
          (¬ dropped → room = false → exec (.laneAccumulate lane) s = .next s)

/-- CREDIT_RETURN for a pipeline that is owed a credit completes: one credit pulse leaves, one is no longer owed, and
the pipeline may spend one beat more; with none owed no credit leaves. RESULT_SEND with packets in line completes:
the first leaves and the rest stay in line; with the last part of a chunk's result its slot advances to the next
chunk with its arrival state empty, and 0x5200.03 counts the chunk. BACK_PRESSURE_REFRESH completes: all 4,096
states leave, in port-then-priority order, and nothing else changes. -/
def Obligations.CreditsResultsAndBackPressureLeave : Prop :=
  (∀ (pipe : Fin 32) (s : State), ∃ t, exec (.creditReturn pipe) s = .next t ∧
    Safety.Changes [.objs, .entry, .test, .outbox] s t ∧
      (pipe.val ∈ s.entry.owed → Safety.Sends [.credit pipe.val] s t ∧ t.entry = { s.entry with
        owed := s.entry.owed.erase pipe.val
        credits := Map.put 0 (Map.look 0 pipe.val s.entry.credits - 1) pipe.val s.entry.credits }) ∧
        (pipe.val ∉ s.entry.owed → t.entry = s.entry ∧ t.outbox = s.outbox)) ∧
  (∀ (s : State) (p : RsPacket) (rest : List RsPacket), Safety.Canonical s → s.entry.results = p :: rest →
    ∃ t, exec .resultSend s = .next t ∧ Safety.Sends [.result p] s t ∧ t.entry.results = rest ∧
      (p.ty ≠ 1 ∨ p.last = false → t.shot = s.shot ∧ t.objs = s.objs) ∧
        (p.ty = 1 → p.last = true → t.obj 0x5200 3 0 = s.obj 0x5200 3 0 + 1 ∧
          ∀ x, s.shot? p.shot = some x → ∃ y, t.shot? p.shot = some y ∧ y.rslot p.slot = { next := (x.rslot p.slot).next + 1 } ∧
            y.done = x.work.sentChunks + 1)) ∧
  (∀ s : State, s.block.boot = .up → ∃ t, exec .backPressureRefresh s = .next t ∧ Safety.Changes [.outbox] s t ∧
    Safety.Sends ((List.range 4096).map fun el =>
      .backPressure (el / 8) (el % 8) (Map.look none el s.packet.bp).isSome) s t)

/-- While the Stockroom is enabled and powered, its input buffer has room for the longest packet and no hold of the
packet's queue has ended, SPILL_PACKET completes (without that room no packet is taken, and nothing changes): a
wrong length is discarded and counted in 0x5802.03; else a packet for an EXPIRED queue in 0x5802.06; else one beyond
the queue's threshold, or that needs a page with none free, is declined, counted in 0x5802.04, with its source's
back-pressure state on for this queue (a message leaves only if it was off); else, with a beat count that agrees, it
is the last record of its queue under the next sequence number, the occupancy grows by the record, and 0x5802.01
counts one. -/
def Obligations.SpillPacketsAreCheckedAndStored : Prop :=
  ∀ (desc : BitVec 64) (bytes : List Byte) (s : State), Safety.Canonical s → s.packet.enabled = true → s.isReady 41 = true →
    let d := desc.toNat
    let port := dsPort d
    let q := s.egress port
    let r := recordBytes (dsLen d)
    let el := dsSource d * 8 + dsPrio d
    let page := q.pages = [] ∨ 65472 < q.tail + r
    let short := 2 ^ s.live' 0x5801 1 port * s.freeBytes < 64 * (q.occ + r) ∨ (page ∧ s.freeBytes = 0)
    let bad := dsLen d = 0 ∨ 16383 < dsLen d ∨ dsBuf d < dsLen d
    (65536 < s.spillStaged + 16448 → exec (.spillPacket desc bytes) s = .next s) ∧
    (s.spillStaged + 16448 ≤ 65536 → q.link ≠ 1 ∨ s.time.frame < q.holdEnd →
      ∃ t, exec (.spillPacket desc bytes) s = .next t ∧
        (bad → t.obj 0x5802 3 0 = s.obj 0x5802 3 0 + 1 ∧ t.packet = s.packet ∧ t.dram = s.dram) ∧
          (¬ bad → q.link = 2 → t.obj 0x5802 6 0 = s.obj 0x5802 6 0 + 1 ∧ t.packet = s.packet ∧ t.dram = s.dram) ∧
            (¬ bad → q.link ≠ 2 → short → t.obj 0x5802 4 0 = s.obj 0x5802 4 0 + 1 ∧ Map.look none el t.packet.bp = some port ∧
              t.packet.queues = s.packet.queues ∧ t.dram = s.dram ∧
                Safety.Sends (if (Map.look none el s.packet.bp).isSome then [] else [.backPressure (el / 8) (el % 8) true]) s t) ∧
              (¬ bad → q.link ≠ 2 → ¬ short → (bytes.length + 511) / 512 = (dsLen d + 511) / 512 →
                t.obj 0x5802 1 0 = s.obj 0x5802 1 0 + 1 ∧
                  (∃ x, (t.egress port).recs = q.recs ++ [x] ∧ x.desc = d ∧ x.frame = s.time.frame ∧ x.seq = q.seq ∧ x.bytes = r) ∧
                    (t.egress port).occ = q.occ + r ∧ (t.egress port).seq = (q.seq + 1) % 2 ^ 32))

/-- When the block is up and no pull waits, SPILL_PULL of a queue that is HELD, EXPIRED or empty completes with the
empty answer; of an UP queue it asks for what it needs of the oldest record, and the pull waits until that has come;
when all of it is there and can be read, it completes with that packet's descriptor and its bytes, and the packets
behind it stay queued in order. LINK_STATUS down on an UP queue with packets completes with it HELD until the hold
time 0x5800.03 is over, with no packet with it EXPIRED, and on a HELD queue changes nothing; up completes with it UP
and its packets as they were. HOLD_EXPIRY at the end of a hold completes with every packet discarded, counted in
0x5802.05, and the queue EXPIRED. -/
def Obligations.PullsAndLinkStates : Prop :=
  (∀ (port : BitVec 9) (s : State), s.block.boot = .up → s.packet.pulls = [] →
    (s.egress port.toNat).link ≠ 1 ∨ s.time.frame < (s.egress port.toNat).holdEnd →
      ((s.egress port.toNat).link ≠ 0 ∨ (s.egress port.toNat).recs = [] →
        ∃ t, exec (.spillPull port) s = .next t ∧ Safety.Sends [.spillEmpty port.toNat] s t ∧ t.dram = s.dram) ∧
        (∀ x rest, s.packet.enabled = true → (s.egress port.toNat).link = 0 → (s.egress port.toNat).recs = x :: rest →
          let part := s.pullPart (s.egress port.toNat) x
          let u := ({ s with packet := { s.packet with pulls := [port.toNat] } } : State).engAsk s.stockReq (pullReader port.toNat) [part]
          (u.engHas (pullReader port.toNat) [part] = false → exec (.spillPull port) s = .next u) ∧
            ∀ l, u.engHas (pullReader port.toNat) [part] = true → u.readRecord port.toNat (s.egress port.toNat) x = .ok l →
              ∃ t, exec (.spillPull port) s = .next t ∧ t.packet.pulls = [] ∧
                t.outbox.getLast? = some (.spill port.toNat x.desc ((l.drop 32).take (dsLen x.desc))) ∧
                  (rest ≠ [] → (t.egress port.toNat).recs.map (fun y => (y.desc, y.frame, y.seq, y.bytes)) =
                    rest.map fun y => (y.desc, y.frame, y.seq, y.bytes)))) ∧
  (∀ (port : BitVec 9) (s : State), (s.egress port.toNat).link = 0 → ∃ t, exec (.linkStatus port false) s = .next t ∧
    t.egress port.toNat =
      if (s.egress port.toNat).recs = [] then { s.egress port.toNat with link := 2 }
      else { s.egress port.toNat with link := 1, holdEnd := s.time.frame + 1 + 1000 * s.live' 0x5800 3 0 }) ∧
  (∀ (port : BitVec 9) (s : State), (s.egress port.toNat).link = 1 → s.time.frame < (s.egress port.toNat).holdEnd →
    exec (.linkStatus port false) s = .next s) ∧
  (∀ (port : BitVec 9) (s : State), (s.egress port.toNat).link ≠ 1 ∨ s.time.frame < (s.egress port.toNat).holdEnd →
    exec (.linkStatus port true) s = .next { s with packet := { s.packet with
      queues := Map.upd {} port.toNat (fun q => { q with link := 0, holdEnd := 0 }) s.packet.queues } }) ∧
  (∀ (port : BitVec 9) (s : State), Safety.Canonical s → (s.egress port.toNat).link = 1 → (s.egress port.toNat).holdEnd ≤ s.time.frame →
    ∃ t, exec (.holdExpiry port) s = .next t ∧ (t.egress port.toNat).recs = [] ∧ (t.egress port.toNat).link = 2 ∧
      t.obj 0x5802 5 0 = s.obj 0x5802 5 0 + (s.egress port.toNat).recs.length)

/-- With the block up and a powered ring, CAPTURE_HEADER completes: with 64 records staged the header is discarded and
counted in 0x5901.04; under stop with the ring full it is discarded and counted in 0x5901.03; else the capture
writer has one record more, staged or asked for. CAPTURE_READ_INDEX from an Operator completes: a value between the
read and the write index is written and answered 0, any other is answered with a class 0x03 abort. STOCKROOM_ENABLE
from an Operator, with a region that fits and units granted, completes: it is in force from the next boundary and
0x5800.02 reads 1. STOCKROOM_DISABLE by a write completes the other way; when a slice of the bitmap failed, the
Stockroom is off at once with every packet discarded and counted in 0x5802.07. -/
def Obligations.CaptureAndStockroomControl : Prop :=
  (∀ (port : BitVec 9) (queue len : BitVec 8) (hdr : BitVec 1792) (s : State), Safety.Canonical s → s.block.boot = .up →
    crPlace s.capRing ≠ 0 → s.isReady 41 = true →
      let held := s.packet.capNext + s.packet.capStage.length
      let full := crStop s.capRing = true ∧ crRecords s.capRing ≤ held - s.obj 0x5900 4 0
      ∃ t, exec (.captureHeader port queue len hdr) s = .next t ∧
        (64 ≤ s.capStaged → t.obj 0x5901 4 0 = s.obj 0x5901 4 0 + 1 ∧ t.packet = s.packet) ∧
          (s.capStaged < 64 → full → t.obj 0x5901 3 0 = s.obj 0x5901 3 0 + 1 ∧ t.packet = s.packet) ∧
            (s.capStaged < 64 → ¬ full → t.packet.capNext + t.packet.capStage.length = held + 1 ∧
              t.obj 0x5901 3 0 = s.obj 0x5901 3 0 ∧ t.obj 0x5901 4 0 = s.obj 0x5901 4 0)) ∧
  (∀ (rq : Rq) (n : Fin 4) (v : BitVec 64) (s : State), Safety.Canonical s → Safety.Heard s rq n roleO →
    ∃ t, exec (.captureReadIndex rq v) s = .next t ∧
      (s.obj 0x5900 4 0 ≤ v.toNat → v.toNat ≤ s.obj 0x5900 3 0 → t.obj 0x5900 4 0 = v.toNat ∧ Safety.Answers rq 2 0 [] s t) ∧
        (v.toNat < s.obj 0x5900 4 0 ∨ s.obj 0x5900 3 0 < v.toNat →
          t.obj 0x5900 4 0 = s.obj 0x5900 4 0 ∧ Safety.Answers rq 2 abRange [] s t)) ∧
  (∀ (rq : Rq) (n : Fin 4) (units : List (Nat × Nat)) (s : State), Safety.Canonical s → Safety.Heard s rq n roleO →
    s.packet.enabled = false → s.packet.enableReq = none → s.spillFits = true → s.packet.units = [] →
      s.unitsAscending s.bitmapUnits = some units →
        ∃ t, exec (.stockroomEnable rq) s = .next t ∧ t.packet = { s.packet with enableReq := some true, units := units } ∧
          t.obj 0x5800 2 0 = 1 ∧ Safety.Answers rq 2 0 [] s t) ∧
  (∀ (rq : Rq) (n : Fin 4) (s : State), Safety.Canonical s → Safety.Heard s rq n roleO →
    s.packet.enabled = true → s.packet.enableReq = none →
      ∃ t, exec (.stockroomDisable (some rq)) s = .next t ∧ t.packet = { s.packet with enableReq := some false } ∧
        t.obj 0x5800 2 0 = 0 ∧ Safety.Answers rq 2 0 [] s t) ∧
  (∀ s : State, Safety.Canonical s → s.packet.enabled = true → (∃ u ∈ s.packet.units, s.obj 0x3005 1 u.1 ≠ 0) →
    ∃ t, exec (.stockroomDisable none) s = .next t ∧ t.packet.enabled = false ∧ t.packet.units = [] ∧ t.obj 0x5800 2 0 = 0 ∧
      t.obj 0x5802 7 0 = (List.range 512).foldl (fun n p => n + (s.egress p).recs.length) (s.obj 0x5802 7 0))

/-- PATROL_STEP that is enabled, due and not slowed, on a stack that grants Upkeep, completes: the next step is in
0x6001.03, after the last step of a pass the first again with 0x6001.04 counted, and the stack takes no other in
this frame. BUCKET_LEAK at its boundary completes: every bucket that is not empty has lost one. SPLICE_LINE_COPY of
a line that needs no copy, or that its stack can copy, completes with the line marked moved in its entry.
LOST_LINE_REWRITE for a lost unit with a destination completes: its next line, when a live region holds it WRITTEN
and nothing has been written there, is stored poisoned, all four sectors, and the line after it is next, until the
unit is done. -/
def Obligations.PatrolLeaksSplicesAndLostLines : Prop :=
  (∀ (stack : Fin 32) (e : ReadErrs) (s : State), Safety.Canonical s → s.live' 0x6001 2 0 = 1 → s.upkeepOn stack.val = true →
    s.test.trimStep = 0 → (s.stack stack.val).trim = 0 → (s.stack stack.val).patrolLast ≤ s.time.frame → s.obj 0x6001 3 stack.val < 134217728 →
      (s.stack stack.val).patrolStart + s.obj 0x6001 3 stack.val * patrolGap (s.stack stack.val).patrolFor ≤ s.time.frame →
        ∃ t, exec (.patrolStep stack e) s = .next t ∧ t.obj 0x6001 3 stack.val = (s.obj 0x6001 3 stack.val + 1) % 134217728 ∧
          (t.stack stack.val).patrolLast = s.time.frame + 1 ∧
            t.obj 0x6001 4 stack.val = s.obj 0x6001 4 stack.val + if s.obj 0x6001 3 stack.val = 134217727 then 1 else 0) ∧
  (∀ s : State, Safety.Canonical s → s.test.boundaryLeak = true → ∃ t, exec .bucketLeak s = .next t ∧ t.test.boundaryLeak = false ∧
    ∀ p, p < 2048 → t.obj 0x6002 1 p = s.obj 0x6002 1 p - 1) ∧
  (∀ (stack : Fin 32) (e : ReadErrs) (s : State) (c : SpliceCopy) (rest : List SpliceCopy), Safety.Canonical s →
    (s.stack stack.val).copies = c :: rest → c.line < 4 →
      let w := s.obj 0x6020 1 (stack.val * 256 + c.entry)
      let need := s.lineNeed (mkPlace stack.val (spPc w) (c.entry / 64) (spBank w) (spRow w) (4 * c.line))
      (need = .wait → exec (.spliceLineCopy stack e) s = .next s) ∧
        (need = .skip ∨ (need = .copy ∧ s.stackServes stack.val .critical = true) →
          ∃ t, exec (.spliceLineCopy stack e) s = .next t ∧ bit (t.obj 0x6020 1 (stack.val * 256 + c.entry)) (48 + c.line) = true)) ∧
  (∀ (stack : Fin 32) (s : State) (u : LostUnit) (d : Nat), Safety.Canonical s → s.upkeepOn stack.val = true →
    (s.stack stack.val).lostUnits = [u] → u.dst = some d →
      ∃ t, exec (.lostLineRewrite stack) s = .next t ∧
        (t.stack stack.val).lostUnits = (if u.last ≤ u.next + 1 then [] else [{ u with next := u.next + 1 }]) ∧
          ∀ r off, u.next ∉ u.done →
            let p := unitLinePlace stack.val (s.rankMap stack.val u.el) u.next
            s.placeRegion p = some (r, off) → s.written (chunkOf (s.slot r).now off) = true →
              ∀ i, i < 4 → (t.dramAt (s.physical (sectorAt p i))).poison = true)

/-- MIGRATION_START of the first queued unit in service, at a stack that a boundary let start, with a free spare, below
eight running, completes: the unit is migrating to the lowest free spare and leaves the queue; with no spare a
planned one leaves the queue and the unit stays. MIGRATION_LINE_COPY at a line that must be copied, with Upkeep
granted and budget left, completes: the watermark passes that line and the budget of the frame is used.
MIGRATION_COMMIT completes: the map names the destination, which is in service, the source is retired and fenced,
and 0x6030.04 counts one. REBUILD_LINE_COPY of a line whose old stack is lost completes: all four sectors at the new
place are poisoned and the watermark passes; past the last line the rebuild ends. -/
def Obligations.MigrationsAndRebuildsMove : Prop :=
  (∀ (stack : Fin 32) (s : State) (ru : Nat) (urgent blind : Bool) (rest : List (Nat × Bool × Bool)), Safety.Canonical s →
    (s.stack stack.val).mig = none → (s.stack stack.val).migQ = (ru, urgent, blind) :: rest → (s.stack stack.val).migGo = true → s.rankState stack.val ru = 0 →
      (∀ d, s.lowSpare stack.val = some d → ((List.range 32).filter fun i => (s.stack i).mig.isSome).length < 8 →
        (s.stack stack.val).power = .service → ∃ t, exec (.migrationStart stack) s = .next t ∧
          (t.stack stack.val).mig = some { src := ru, dst := d, urgent, blind } ∧ (t.stack stack.val).migQ = rest ∧
            t.rankState stack.val ru = 1) ∧
        (s.lowSpare stack.val = none → urgent = false → ∃ t, exec (.migrationStart stack) s = .next t ∧
          (t.stack stack.val).migQ = rest ∧ (t.stack stack.val).mig = none ∧ t.rankState stack.val ru = 0)) ∧
  (∀ (stack : Fin 32) (e : ReadErrs) (s : State) (m : Migration), Safety.Canonical s → (s.stack stack.val).mig = some m →
    m.wanted = [] → m.pulled = [] → m.wm < 2097152 → s.stackHolds stack.val = true → s.lineNeed (m.line stack.val m.wm) = .copy →
      s.upkeepOn stack.val = true → (s.stack stack.val).dollyUsed + 4 ≤ s.live' 0x6030 1 0 →
        ∃ t, exec (.migrationLineCopy stack e) s = .next t ∧ (t.stack stack.val).mig = some { m with wm := m.wm + 1 } ∧
          (t.stack stack.val).dollyUsed = (s.stack stack.val).dollyUsed + 4) ∧
  (∀ (stack : Fin 32) (s : State) (m : Migration), Safety.Canonical s → (s.stack stack.val).mig = some m →
    (s.stack stack.val).migCommit = true → (s.stack stack.val).evacuate = [] → m.src ≠ m.dst → m.src < 256 → m.dst < 256 →
      ∃ t, exec (.migrationCommit stack) s = .next t ∧ (t.stack stack.val).mig = none ∧ (t.stack stack.val).migCommit = false ∧
        t.rankState stack.val m.dst = 0 ∧ t.rankState stack.val m.src = 2 ∧ t.unitState (unitRank stack.val m.src) = 1 ∧
          t.obj 0x6030 4 0 = s.obj 0x6030 4 0 + 1 ∧
            ∀ el, firstIdx (fun el => s.rankMap stack.val el == m.src) (List.range 252) = some el → t.rankMap stack.val el = m.dst) ∧
  (∀ (region : BitVec 12) (e : ReadErrs) (s : State) (wm : Nat) (o : RegionEntry), Safety.Canonical s →
    (s.slot region.toNat).rebuildWm = some wm → (s.slot region.toNat).old = some o →
      (o.size * 8192 ≤ wm → ∃ t, exec (.rebuildLineCopy region e) s = .next t ∧ (t.slot region.toNat).rebuildWm = none) ∧
        (wm < o.size * 8192 → s.rebuildPull region.toNat = none → (s.slot region.toNat).pulled = [] →
          s.fill? (chunkOf o (wm * 256)) = none → s.written (chunkOf o (wm * 256)) = true →
            s.obj 0x6031 2 (s.stackOf o (wm * 256)) ≠ 0 → s.upkeepOn (s.stackOf (s.slot region.toNat).now (wm * 256)) = true →
              ∃ t, exec (.rebuildLineCopy region e) s = .next t ∧ (t.slot region.toNat).rebuildWm = some (wm + 1) ∧
                ∀ i, i < 4 →
                  (t.dramAt (s.physical (s.mappedPlace (s.slot region.toNat).now (wm * 256 + i * 64)))).poison = true))

/-- From an Operator session outside SAFE: DECLARE_DEAD of a unit number below 88,328 completes: the unit is declared
for the next boundary and the write is answered 0; another number is answered with a class 0x03 abort. READMIT of a
fenced unit that may be tested, in SERVICE or TEST with none under test, completes: its state is testing.
READMIT_RESULT completes: a unit that passes has its generation raised and is in standby, one that fails is fenced
again. RETIREMENT_READ_INDEX between the read and the write index is written; any other is answered with a class
0x03 abort. -/
def Obligations.UnitsAreDeclaredDeadAndReadmitted : Prop :=
  (∀ (rq : Rq) (n : Fin 4) (unit : BitVec 32) (s : State), Safety.Heard s rq n roleO → ∃ t, exec (.declareDead rq unit) s = .next t ∧
    (unit.toNat < 88328 → unit.toNat ∈ t.test.dead ∧ (∀ u ∈ s.test.dead, u ∈ t.test.dead) ∧ Safety.Answers rq 2 0 [] s t) ∧
      (88328 ≤ unit.toNat → t.test = s.test ∧ Safety.Answers rq 2 abRange [] s t)) ∧
  (∀ (rq : Rq) (n : Fin 4) (unit : BitVec 32) (s : State), Safety.Canonical s → Safety.Heard s rq n roleO →
    s.block.state = .service ∨ s.block.state = .test → unit.toNat < 88228 → s.unitState unit.toNat = 1 → s.test.readmit = none →
      ∃ t, exec (.readmit rq unit) s = .next t ∧ t.unitState unit.toNat = 2 ∧ t.test.readmit = some unit.toNat ∧
        Safety.Answers rq 2 0 [] s t) ∧
  (∀ (pass : Bool) (s : State) (u : Nat), Safety.Canonical s → s.test.readmit = some u → u < 88328 →
    ∃ t, exec (.readmitResult pass) s = .next t ∧ t.test.readmit = none ∧ t.unitState u = (if pass then 3 else 1) ∧
      t.obj 0x6040 1 u = if pass then (s.obj 0x6040 1 u + 1) % 65536 else s.obj 0x6040 1 u) ∧
  (∀ (rq : Rq) (n : Fin 4) (v : BitVec 64) (s : State), Safety.Canonical s → Safety.Heard s rq n roleO →
    ∃ t, exec (.retirementReadIndex rq v) s = .next t ∧
      (s.obj 0x6050 3 0 ≤ v.toNat → v.toNat ≤ s.obj 0x6050 2 0 → t.obj 0x6050 3 0 = v.toNat ∧ Safety.Answers rq 2 0 [] s t) ∧
        (v.toNat < s.obj 0x6050 3 0 ∨ s.obj 0x6050 2 0 < v.toNat →
          t.obj 0x6050 3 0 = s.obj 0x6050 3 0 ∧ Safety.Answers rq 2 abRange [] s t))

/-- With the self-test on, room for a slice and trimming below step 4, SELF_TEST_SLICE_REQUEST with nothing to run again
completes: the next slice of the pass that may run is under way and the pass goes on behind it. SELF_TEST_SLICE_END
of a slice whose cut is over completes: fewer patterns than the full count are INCOMPLETE (0x8801.01 reads 3), else
the signature decides PASS (1) or FAIL (2), each counted. COUNTER_SAMPLE with a record captured completes: it enters
the ring under the next number and the capture register is free. COUNTER_GRANT from an Operator completes with
0x9004.01 written, and SAMPLE_READ_INDEX as the ring's indices allow. -/
def Obligations.SelfTestSlicesAndCounterSamples : Prop :=
  (∀ (s : State) (p : Nat), s.block.state = .service ∨ s.block.state = .drain ∨ s.block.state = .test → s.live' 0x8800 1 0 = 1 →
    s.test.slices.length < s.live' 0x8800 2 0 → s.test.trimStep < 4 → s.test.reruns = [] → s.test.passPos < passSlices →
      s.nextSlice (passSlices - s.test.passPos) s.test.passPos = some p →
        ∃ t, exec .selfTestSliceRequest s = .next t ∧ t.test.passPos = p + 1 ∧
          t.test.slices = s.test.slices ++
            [{ kind := (passSlice p).1, unit := (passSlice p).2.1, index := (passSlice p).2.2, frame := s.time.frame }]) ∧
  (∀ (unit : Nat) (r : SliceResult) (s : State) (x : Slice), Safety.Canonical s → s.test.slices.find? (fun x => x.unit == unit) = some x →
    unit < 2 ^ 32 → (x.kind = 0 →
      (s.pc (pcNo (rankPlace x.unit).1 (rankPlace x.unit).2.1)).sliceWaits = false) →
      ∃ t, exec (.selfTestSliceEnd unit r) s = .next t ∧
        (r.count.toNat < fullCount x.kind → t.obj 0x8801 1 unit = 3 ∧ t.obj 0x8801 4 0 = s.obj 0x8801 4 0 + 1) ∧
          (fullCount x.kind ≤ r.count.toNat → r.sigOk = true → t.obj 0x8801 1 unit = 1 ∧ t.obj 0x8801 2 0 = s.obj 0x8801 2 0 + 1) ∧
            (fullCount x.kind ≤ r.count.toNat → r.sigOk = false → t.obj 0x8801 1 unit = 2 ∧ t.obj 0x8801 3 0 = s.obj 0x8801 3 0 + 1)) ∧
  (∀ (counter : Fin 1088) (s : State) (w : Nat), Safety.Canonical s → (Map.look ({} : CapReg) counter.val s.test.capture).held = some w →
    ∃ t, exec (.counterSample counter) s = .next t ∧ t.obj 0x9003 2 0 = s.obj 0x9003 2 0 + 1 ∧
      t.obj 0x9003 1 (s.obj 0x9003 2 0 % 256) = finishSample s.compat w (s.obj 0x9003 2 0) ∧
        t.test.capture =
          Map.put {} { Map.look ({} : CapReg) counter.val s.test.capture with held := none } counter.val s.test.capture) ∧
  (∀ (rq : Rq) (n : Fin 4) (elem : Fin 1088) (v : BitVec 16) (s : State), Safety.Canonical s → Safety.Heard s rq n roleO →
    ∃ t, exec (.counterGrant rq elem v) s = .next t ∧
      t.obj 0x9004 1 elem.val = v.toNat % 1024 + (if v.getLsbD 15 then 32768 else 0) ∧ Safety.Answers rq 2 0 [] s t) ∧
  (∀ (rq : Rq) (n : Fin 4) (v : BitVec 64) (s : State), Safety.Canonical s → Safety.Heard s rq n roleO →
    ∃ t, exec (.sampleReadIndex rq v) s = .next t ∧
      (s.obj 0x9003 3 0 ≤ v.toNat → v.toNat ≤ s.obj 0x9003 2 0 → t.obj 0x9003 3 0 = v.toNat ∧ Safety.Answers rq 2 0 [] s t) ∧
        (v.toNat < s.obj 0x9003 3 0 ∨ s.obj 0x9003 2 0 < v.toNat →
          t.obj 0x9003 3 0 = s.obj 0x9003 3 0 ∧ Safety.Answers rq 2 abRange [] s t))

/-- KEY_ROTATE by a Keeper of a live stack-backed region that is not being swept, with a healthy generator, completes: a
fresh key of the next epoch waits for the boundary. SWEEP_STEP completes: it takes the stack's next sector of the
region at the pace allowed, or marks the stack finished. SWEEP_COMPLETE destroys the previous key and counts it in
0x6801.03. KEY_ERASE of a live region no shot names completes: its requests are refused from now on. ERASE_EFFECT,
once a boundary has found nothing of the region outstanding, completes: its keys are destroyed and counted, its
chunks BLANK, no Loft line of it is left, and a fresh key of epoch 0 is current. ENTROPY_HEALTH_CHANGE and
DRBG_RESEED set the health 0x6800.04 and the seed as R408 and R409 say. -/
def Obligations.KeysRotateSweepAndErase : Prop :=
  (∀ (rq : Rq) (n : Fin 4) (region : BitVec 16) (s : State), Safety.Heard s rq n roleK → region.toNat < 4096 →
    (s.slot region.toNat).now.live = true → (s.slot region.toNat).now.loft ≠ 2 → (s.slot region.toNat).sweep = none →
      (s.slot region.toNat).keyNext = none → s.obj 0x6800 4 0 = 0 →
        ∃ t, exec (.keyRotate rq region) s = .next t ∧ (t.slot region.toNat).keyNext =
          some { epoch := (((s.slot region.toNat).cur.getD {}).epoch + 1) % 16, handle := s.keys.nextHandle } ∧
            t.keys.nextHandle = s.keys.nextHandle + 1 ∧ Safety.Answers rq 2 0 [] s t) ∧
  (∀ (stack : Fin 32) (region : BitVec 12) (e : ReadErrs) (s : State) (sw : Sweep), Safety.Canonical s →
    (s.slot region.toNat).sweep = some sw → bit sw.stackMask stack.val = true → bit sw.done stack.val = false →
      s.upkeepOn stack.val = true → (s.stack stack.val).sweepUsed < s.live' 0x6802 4 0 →
        let r := region.toNat
        let en := (s.slot r).now
        let pos := Map.look 0 r (s.stack stack.val).sweepPos
        let off := pos * 64
        (pos % 4 ≠ 0 → s.blindAt (s.mappedPlace (s.entryFor r en.version off) off) = false →
          s.sectorBusy (s.sectorPlace r en.version off) = false →
            ∃ t, exec (.sweepStep stack region e) s = .next t ∧ Map.look 0 r (t.stack stack.val).sweepPos = pos + 1 ∧
              (t.stack stack.val).sweepUsed = (s.stack stack.val).sweepUsed + 1) ∧
          (pos % 4 = 0 → s.nextSweepLine r stack.val en (en.size * 8192 - pos / 4) (pos / 4) = none →
            ∃ t, exec (.sweepStep stack region e) s = .next t ∧
              (t.slot r).sweep = some { sw with done := sw.done ||| 2 ^ stack.val })) ∧
  (∀ (region : BitVec 12) (s : State) (w : Sweep) (k : KeyRec), Safety.Canonical s → (s.slot region.toNat).sweep = some w →
    w.destroy = true → (s.slot region.toNat).prev = some k → ∃ t, exec (.sweepComplete region) s = .next t ∧
      t.regions.slots = Map.upd {} region.toNat (fun sl => { sl with sweep := none, prev := none }) s.regions.slots ∧
        t.obj 0x6801 3 0 = s.obj 0x6801 3 0 + 1) ∧
  (∀ (rq : Rq) (n : Fin 4) (region : BitVec 16) (s : State), Safety.Heard s rq n roleK → region.toNat < 4096 →
    (s.slot region.toNat).now.live = true → s.shotNames region.toNat = false → (s.slot region.toNat).next = none →
      (s.slot region.toNat).old = none → (∀ x ∈ s.regions.slots, x.2.erasing = false) → s.obj 0x6800 4 0 = 0 →
        ∃ t, exec (.keyErase rq region) s = .next t ∧ (t.slot region.toNat).erasing = true ∧ Safety.Answers rq 2 0 [] s t) ∧
  (∀ (region : BitVec 12) (s : State), Safety.Canonical s → (s.slot region.toNat).erasing = true →
    (s.slot region.toNat).eraseNow = true → (s.slot region.toNat).now.live = true → (s.slot region.toNat).now.loft ≠ 2 →
      s.obj 0x6800 4 0 = 0 →
        ∃ t, exec (.eraseEffect region) s = .next t ∧ (t.slot region.toNat).erasing = false ∧
          (t.slot region.toNat).dirtySlices = 0 ∧ (t.slot region.toNat).lostG = [] ∧
          (t.slot region.toNat).cur = some { epoch := 0, handle := s.keys.nextHandle } ∧ (t.slot region.toNat).prev = none ∧
            t.obj 0x6801 3 0 = s.obj 0x6801 3 0 + (s.slot region.toNat).keyCount ∧
              t.regions.written = ((List.range (s.slot region.toNat).now.size).map ((s.slot region.toNat).now.chunkBase + ·)).foldl
                (fun m c => Map.put false false c m) s.regions.written ∧
                ∀ p ∈ t.loft.lines, p.2.region ≠ region.toNat) ∧
  (∀ (h : HealthChange) (s : State), Safety.Canonical s → ∃ t, exec (.entropyHealthChange h) s = .next t ∧
    (∀ test, h = .fails test → t.obj 0x6800 4 0 = 1 ∧ t.keys.goodRun = 0) ∧
      (∀ m, h = .passes m → s.obj 0x6800 4 0 ≠ 0 → t.obj 0x6800 4 0 = 2 ∧ t.keys.goodRun = min 1024 (s.keys.goodRun + m)) ∧
        (h = .seed → s.obj 0x6800 4 0 = 2 → 1024 ≤ s.keys.goodRun → t.obj 0x6800 4 0 = 0 ∧ t.keys.seeded = true ∧ t.keys.calls = 0)) ∧
  (∀ s : State, s.obj 0x6800 4 0 = 0 → exec .drbgReseed s =
    .next { s with keys := { s.keys with seeded := true, calls := 0, seedFrame := s.time.frame } })

/-- MICROCODE_SEGMENT that ends an image completes: with a good signature and a version not below the minimum it is
staged (0x6810.02 reads 2), else rejected (3) with the signature's or the version's abort. RAISE_MINIMUM_VERSION
below the running version completes: the minimum is the running version, one raise fewer left. SCAN_REQUEST
completes: the block is in SAFE with cause 4, no shot is admitted and every port request is ABORTED with EPOCH;
SCAN_CLEAR_COMPLETE then zeroes Loft lines, scratch, contexts and lane queues. A reset pulse below 20 ns changes
nothing, one above 40 ns is a full reset that keeps stack ciphertext and fuses, one between is either. RESET_RELEASE
samples the straps at the rising edge, at time and frame 0. CORE_POWER_LOSS leaves what a full reset leaves. -/
def Obligations.MicrocodeScanAndReset : Prop :=
  (∀ (rq : Rq) (n : Fin 4) (segment : BitVec 32) (ok : Bool) (v : BitVec 16) (s : State), Safety.Canonical s → Safety.Heard s rq n roleK →
    ∃ t, exec (.microcodeSegment rq segment true ok v) s = .next t ∧
      (ok = true → s.keys.minimum ≤ v.toNat → t.obj 0x6810 2 0 = 2 ∧ t.keys.stagedVersion = some v.toNat ∧ Safety.Answers rq 2 0 [] s t) ∧
        (ok = false → t.obj 0x6810 2 0 = 3 ∧ t.keys.stagedVersion = none ∧ Safety.Answers rq 2 abSignature [] s t) ∧
          (ok = true → v.toNat < s.keys.minimum →
            t.obj 0x6810 2 0 = 3 ∧ t.keys.stagedVersion = none ∧ Safety.Answers rq 2 abVersion [] s t)) ∧
  (∀ (rq : Rq) (n : Fin 4) (s : State), Safety.Heard s rq n roleK → s.keys.minimum < s.keys.running → 0 < s.keys.raises →
    ∃ t, exec (.raiseMinimumVersion rq) s = .next t ∧ t.keys = { s.keys with minimum := s.keys.running, raises := s.keys.raises - 1 } ∧
      Safety.Answers rq 2 0 [] s t) ∧
  (∀ s : State, s.block.scanEn = false → s.block.rstLow = false → ∃ t, exec .scanRequest s = .next t ∧ t.block.state = .safe ∧
    t.block.safeCause = 4 ∧ t.block.scanEn = true ∧ t.block.scanRdy = false ∧ t.shot.shots = [] ∧
      ∀ q ∈ t.reqs, q.dest = .port → q.whole = some (.aborted, .epoch)) ∧
  (∀ (ok : Bool) (s : State), s.block.scanStep = 2 → ∃ t, exec (.scanClearComplete ok) s = .next t ∧ t.loft.lines = [] ∧
    t.loft.scratch = [] ∧ t.shot.ctxs = [] ∧ t.shot.lanes = [] ∧ t.block.scanRdy = ok) ∧
  (∀ (low : Nat) (s : State), (low < 20 → exec (.resetAssert low) s = .next s) ∧
    (40 < low → ∃ t, exec (.resetAssert low) s = .next t ∧ t.block.state = .off ∧ t.block.rstLow = true ∧ t.reqs = [] ∧
      t.shot.shots = [] ∧ t.mgmt.events = [] ∧ (∀ m, (t.session m).isOpen = false) ∧ t.regions = {} ∧ t.dram = s.dram ∧
        t.keys.identity = false ∧ t.keys.minimum = s.keys.minimum ∧ t.keys.raises = s.keys.raises ∧ t.time.frame = 0) ∧
      (20 ≤ low → low ≤ 40 → exec (.resetAssert low) s = .next { s with free := s.free + 1 } ∨
        exec (.resetAssert low) s = exec (.resetAssert 41) { s with free := s.free + 1 })) ∧
  (∀ (profile : BitVec 2) (compat : Bool) (s : State), s.block.rstLow = true → ∃ t, exec (.resetRelease profile compat) s = .next t ∧
    t.block = { profile := profile.toNat, compat := compat } ∧ t.time = {} ∧ t.dram = s.dram ∧ t.keys.minimum = s.keys.minimum) ∧
  (∀ s : State, exec .corePowerLoss s = exec (.resetAssert 41) s)

/-- CORE_SELF_TEST_DONE completes: a pass goes on to the image, a failure holds the block in SAFE with cause 1.
MICROCODE_IMAGE completes: a bad signature or a version below the minimum holds it in SAFE with cause 2, else the
boundary is awaited with the identity key derived and every object in force. DICTIONARY_REACHABLE opens frame r: the
dictionary answers and every stack starts its first step. STACK_BRING_UP_STEP_DONE ends the step under way: the next
one runs, or the stack has failed; a stack that does not answer has failed. HARDWARE_FILL_DONE completes: every
sector of the stack reads as its fill, other stacks' sectors are as before, and it has passed.
LOFT_QUADRANT_TEST_DONE and ENGINE_SELF_TEST_DONE complete with their results, a failed unit declared dead. -/
def Obligations.BringUpRunsInOrder : Prop :=
  (∀ (pass : Bool) (s : State), s.block.boot = .coreTest → ∃ t, exec (.coreSelfTestDone pass) s = .next t ∧
    t.block = if pass then { s.block with boot := .image } else { s.block with state := .safe, safeCause := 1, boot := .held }) ∧
  (∀ (img : BootImage) (s : State), s.block.boot = .image → ∃ t, exec (.microcodeImage img) s = .next t ∧
    (img.sigOk = false ∨ img.version.toNat < s.keys.minimum →
      t.block = { s.block with state := .safe, safeCause := 2, boot := .held }) ∧
      (img.sigOk = true → s.keys.minimum ≤ img.version.toNat → t.block.boot = .boundary ∧ t.keys.identity = true ∧
        t.keys.seeded = true ∧ t.keys.running = img.version.toNat ∧ t.live = t.objs ∧ t.live2 = t.objs)) ∧
  (∀ s : State, s.block.boot = .boundary → ∃ t, exec .dictionaryReachable s = .next t ∧ t.block.boot = .up ∧
    t.block.state = .bringUp ∧ ∀ st, st < 32 → (t.stack st).power = .bringUp ∧ (t.stack st).bring = 1) ∧
  (∀ (stack : Fin 32) (r : BringResult) (s : State), Safety.Canonical s → (s.stack stack.val).power = .bringUp →
    let b := (s.stack stack.val).bring
    (r.answered = false → b < 5 → ∃ t, exec (.stackBringUpStepDone stack r) s = .next t ∧ (t.stack stack.val).bring = 7 ∧
      t.obj 0x6031 2 stack.val = 2 ∧ t.obj 0x8801 5 stack.val = 2) ∧
      (∀ c, r.answered = true → b = 1 → r.reading = some c → -320 ≤ c → c ≤ 1200 → c < s.threshold 4 → (s.stack stack.val).hotStart = false →
        (s.pcsLost stack.val).length ≤ 4 →
          ∃ t, exec (.stackBringUpStepDone stack r) s = .next t ∧ (t.stack stack.val).bring = 2) ∧
      (r.answered = true → 2 ≤ b → b ≤ 4 → ∃ t, exec (.stackBringUpStepDone stack r) s = .next t ∧
        ((t.stack stack.val).bring = b + 1 ∨ ((t.stack stack.val).bring = 7 ∧ t.obj 0x6031 2 stack.val = 2))) ∧
      (r.answered = true → b = 3 → r.rows = [] → r.badPcs = [] → (s.pcsLost stack.val).length ≤ 4 →
        ∃ t, exec (.stackBringUpStepDone stack r) s = .next t ∧ (t.stack stack.val).bring = 4)) ∧
  (∀ (stack : Fin 32) (s : State), Safety.Canonical s → (s.stack stack.val).power = .bringUp → (s.stack stack.val).bring = 5 →
    ∃ t, exec (.hardwareFillDone stack) s = .next t ∧ (t.stack stack.val).power = .service ∧ t.obj 0x8801 5 stack.val = 1 ∧
      (stack.val, 1) ∈ t.block.readyNext ∧
        ∀ p, t.dramAt p = if plStack p = stack.val then fillSector p else s.dramAt p) ∧
  (∀ (q : Fin 4) (bad : List (List Nat)) (s : State), Safety.Canonical s → s.block.boot = .up → s.readiness (32 + q.val) = 0 →
    s.obj 0x8801 5 (32 + q.val) = 0 → (∀ l ∈ bad, l.length ≤ 16) → (∃ i, i < 16 ∧ s.obj 0x3005 1 (q.val * 16 + i) = 0) →
      ∃ t, exec (.loftQuadrantTestDone q bad) s = .next t ∧ t.obj 0x8801 5 (32 + q.val) = 1 ∧
        (∀ p ∈ t.loft.lines, p.1 / 131072 / 16 ≠ q.val)) ∧
  (∀ (a : Fin 4) (pass : Bool) (s : State), Safety.Canonical s → s.block.boot = .up → s.obj 0x8801 5 (36 + a.val) = 0 → s.test.tested = [] →
    ∃ t, exec (.engineSelfTestDone (unitArray a.val) pass) s = .next t ∧ t.test.tested = [(unitArray a.val, pass)] ∧
      t.obj 0x8801 5 (36 + a.val) = (if pass then 1 else 2) ∧ (pass = false → unitArray a.val ∈ t.test.dead))

/-- DOMAIN_GATE_REQUEST from an Operator for domains 32 to 41 that nothing needs completes: it is gated from the next
boundary, and a write of 0 takes it back; one that is needed is answered with a class 0x04 abort.
DOMAIN_WAKE_COMPLETE makes a waking domain ready, a Loft quadrant once its memory has been tested and filled.
POWER_TELEMETRY reports the energy of the 43 domains, of the 32 stack rails and their total, and a rail over its
share is trimmed next once the share applies. TEMPERATURE_READ on a powered stack reports a good reading and the
level it decides, a change counted, or counts a failed read. STACK_T4_GATE after 100 reels at T4 gates the stack for
the Gaffer. THERMAL_SLIP_RECORD at the end of a run sends its record and counts it. -/
def Obligations.PowerAndHeatCommands : Prop :=
  (∀ (rq : Rq) (n : Fin 4) (domain : Fin 43) (v : BitVec 8) (s : State), Safety.Canonical s → Safety.Heard s rq n roleO →
    32 ≤ domain.val → domain.val ≤ 41 → v.toNat ≤ 1 →
      ∃ t, exec (.domainGateRequest rq domain v) s = .next t ∧
        (v.toNat = 1 → s.gateHeld domain.val = true → t.test = s.test ∧ Safety.Answers rq 2 abObjState [] s t) ∧
          (v.toNat = 1 → s.gateHeld domain.val = false → s.readiness domain.val = 1 →
            domain.val ∈ t.test.gateReq ∧ t.obj 0x7001 3 domain.val = 1 ∧ Safety.Answers rq 2 0 [] s t) ∧
            (v.toNat = 0 → domain.val ∉ t.test.gateReq ∧ t.obj 0x7001 3 domain.val = 0 ∧ Safety.Answers rq 2 0 [] s t)) ∧
  (∀ (domain : Fin 43) (s : State), Safety.Canonical s → 32 ≤ domain.val → domain.val ≤ 41 → s.readiness domain.val = 4 →
    (domain.val < 36 → s.loft.retested.contains (domain.val - 32) = true) →
    ∃ t, exec (.domainWakeComplete domain) s = .next t ∧ t.readiness domain.val = 1 ∧ t.obj 0x7001 3 domain.val = 0) ∧
  (∀ (domains rails : List Nat) (s : State), Safety.Canonical s → ∃ t, exec (.powerTelemetry domains rails) s = .next t ∧
    (∀ d, d < 43 → t.obj 0x7001 1 d = domains.getD d 0) ∧ (∀ st, st < 32 → t.obj 0x7002 3 st = rails.getD st 0) ∧
      t.obj 0x7000 3 0 = (List.range 43).foldl (fun n d => n + domains.getD d 0) 0 ∧
        ∀ st, st < 32 → s.live' 0x7002 2 st * 100 < rails.getD st 0 → (s.stack st).power ≠ .bringUp →
          (s.stack st).shareFrom < s.time.frame → (t.stack st).trimNext = 1) ∧
  (∀ (stack : Fin 32) (reading : Option Int) (s : State), Safety.Canonical s → (s.stack stack.val).power = .service →
    ∃ t, exec (.temperatureRead stack reading) s = .next t ∧
      (∀ c, reading = some c → -320 ≤ c → c ≤ 1200 → t.obj 0x7011 1 stack.val = ofInt 32 c ∧ (t.stack stack.val).fails = 0 ∧
        t.obj 0x7011 2 stack.val = s.nextLevel stack.val c ∧
          t.obj 0x7011 3 stack.val =
            s.obj 0x7011 3 stack.val + if s.obj 0x7011 2 stack.val = s.nextLevel stack.val c then 0 else 1) ∧
        (reading = none → t.obj 0x7011 4 stack.val = s.obj 0x7011 4 stack.val + 1)) ∧
  (∀ (stack : Fin 32) (s : State) (f : Nat), Safety.Canonical s → (s.stack stack.val).t4Since = some f → f + 100000 ≤ s.time.frame →
    (s.stack stack.val).power = .entering → s.notAsleep stack.val = [] →
      ∃ t, exec (.stackT4Gate stack) s = .next t ∧ (t.stack stack.val).power = .gated ∧ (t.stack stack.val).byGaffer = true ∧
        t.readiness stack.val = 3) ∧
  (∀ (shot : BitVec 16) (s : State) (x : Shot) (r : Nat), Safety.Canonical s → s.shot? shot.toNat = some x → x.runSince = some r →
    (∀ y ∈ s.shot.tails, y.id ≠ shot.toNat) → x.affected = false → x.slipFrame ≠ some s.time.frame →
      ∃ t, exec (.thermalSlipRecord shot) s = .next t ∧
        t.shot? shot.toNat = some { x with slipFrame := some s.time.frame, runSince := none } ∧
          (slGroup x.slate.toNat ≠ 0 → t.obj 0x7013 1 0 = s.obj 0x7013 1 0 + 1 ∧ t.entry.results.length = s.entry.results.length + 1))

/-- A state request of an Operator session that the block hears, in each state but SAFE. SERVICE is allowed from
BRING-UP when every domain's readiness is not 0, and from DRAIN and TEST; DRAIN from SERVICE; TEST from BRING-UP,
SERVICE and DRAIN with no shot listed or admitted; SAFE from any state but OFF. An allowed request completes: it is
kept for the next boundary and answered with code 0. Any other is answered 0x04000001 and leaves the block state as
it was. The next FRAME_BOUNDARY of a block that is up completes: the state asked for is the block's state, the
request is gone, and SAFE entered so has cause 3; with no request the state is as before. -/
def Obligations.StateRequestsFollowTheTable : Prop :=
  (∀ (rq : Rq) (n : Fin 4) (c : Instr) (goal : BlkState) (s : State), Safety.Heard s rq n roleO →
    (c, goal) ∈ [(Instr.stateRequestService rq, BlkState.service), (.stateRequestDrain rq, .drain),
      (.stateRequestTest rq, .test), (.stateRequestSafe rq, .safe)] →
      let b := s.block.state
      let idle := s.shot.shots = [] ∧ ∀ x ∈ s.shot.lists, x.2 = []
      let allowed : Prop :=
        (goal = .service ∧ ((b = .bringUp ∧ ∀ d, d < 43 → s.readiness d ≠ 0) ∨ b = .drain ∨ b = .test)) ∨
          (goal = .drain ∧ b = .service) ∨ (goal = .test ∧ (b = .bringUp ∨ b = .service ∨ b = .drain) ∧ idle) ∨
            (goal = .safe ∧ b ≠ .off)
      (allowed → ∃ t, exec c s = .next t ∧ t.block = { s.block with request := some goal } ∧ Safety.Answers rq 2 0 [] s t) ∧
        (¬ allowed → ∃ t, exec c s = .next t ∧ t.block = s.block ∧ Safety.Answers rq 2 0x04000001 [] s t)) ∧
  (∀ s : State, s.block.boot = .up → ∃ t, exec .frameBoundary s = .next t ∧ t.block.request = none ∧
    (∀ g, s.block.request = some g → t.block.state = g ∧ (g = .safe → t.block.safeCause = 3)) ∧
      (s.block.request = none → t.block.state = s.block.state ∧ t.block.safeCause = s.block.safeCause))

/-- For a session the block hears, no lock of it broken. LOCK of 1 to 8 valid scopes its roles allow completes: with
none held by another session it holds them besides its own, takes the next lock number, returned as 4 B, and its
lease runs 1,000 frames per reel of 0x1200.02; with one held elsewhere nothing is granted and the code is
0x05000001. With locks held, COMMIT completes: its staged writes are gone and its locks released in either case;
when all of them pass (or none is staged) it is answered 0, and a commit that applies something is counted in
0x1200.07 and its lock number kept in 0x1200.06. DISCARD drops both; RENEW restarts the lease. SESSION_RESET is
answered and the session ends; a reserved operation is answered 0x02000005. LEASE_EXPIRY at or after the lease's end
breaks the locks, counted in 0x1200.08; SESSION_TIMEOUT after two heartbeat periods ends the session. -/
def Obligations.LocksAreAllOrNoneAndEndWithTheSession : Prop :=
  (∀ (rq : Rq) (n : Fin 4) (scopes : List (BitVec 16)) (s : State), Safety.Heard s rq n roleAll → (s.session n.val).broken = false →
    1 ≤ scopes.length → scopes.length ≤ 8 →
      (∀ k ∈ scopes, (k.toNat < 8 ∨ (0x100 ≤ k.toNat ∧ k.toNat < 0x500)) ∧ scopeRole (s.session n.val) k.toNat = 0) →
      ((∀ m : Fin 4, m ≠ n → ∀ k ∈ scopes, k.toNat ∉ (s.session m.val).scopes) →
        ∃ t, exec (.lock rq scopes) s = .next t ∧
          (t.session n.val).scopes = ((s.session n.val).scopes ++ scopes.map (·.toNat)).eraseDups ∧
            (t.session n.val).lockNo = (s.mgmt.lockCount + 1) % 2 ^ 32 ∧
              (t.session n.val).leaseEnd = s.time.frame + 1000 * s.live' 0x1200 2 0 ∧
                Safety.Answers rq 3 0 (leBytes 4 ((s.mgmt.lockCount + 1) % 2 ^ 32)) s t) ∧
      (∀ m : Fin 4, m ≠ n → ∀ k ∈ scopes, k.toNat ∈ (s.session m.val).scopes →
        ∃ (t : State) (d : List Byte), exec (.lock rq scopes) s = .next t ∧ (∀ j, (t.session j).scopes = (s.session j).scopes) ∧
          Safety.Answers rq 3 0x05000001 d s t)) ∧
  (∀ (rq : Rq) (n : Fin 4) (s : State), Safety.Canonical s → Safety.Heard s rq n roleAll → (s.session n.val).broken = false →
    (s.session n.val).scopes ≠ [] →
      (∃ (t : State) (code : Nat) (d : List Byte), exec (.commit rq) s = .next t ∧ (t.session n.val).scopes = [] ∧
        (t.session n.val).staged = [] ∧ Safety.Answers rq 4 code d s t) ∧
        ((s.session n.val).staged = [] → ∃ t, exec (.commit rq) s = .next t ∧ Safety.Answers rq 4 0 [] s t) ∧
        (∀ u : State, (((s.modSession n.val fun x => { x with lastMsg := s.time.frame }).modSession n.val fun x => { x with broken := false }).asks
              commitKey n.val).commitStaged
            (s.session n.val).staged = .ok u → (s.session n.val).staged ≠ [] →
          ∃ t, exec (.commit rq) s = .next t ∧ t.obj 0x1200 6 n.val = (u.session n.val).lockNo ∧
            t.obj 0x1200 7 0 = u.obj 0x1200 7 0 + 1 ∧ t.regions = u.regions ∧ t.shot = u.shot ∧
              Safety.Answers rq 4 0 [] u t) ∧
        (∃ t, exec (.discard rq) s = .next t ∧ (t.session n.val).scopes = [] ∧ (t.session n.val).staged = [] ∧
          Safety.Answers rq 5 0 [] s t) ∧
        (∃ t, exec (.renew rq) s = .next t ∧ (t.session n.val).scopes = (s.session n.val).scopes ∧
          (t.session n.val).staged = (s.session n.val).staged ∧
            (t.session n.val).leaseEnd = s.time.frame + 1000 * s.live' 0x1200 2 0 ∧ Safety.Answers rq 6 0 [] s t)) ∧
  (∀ (rq : Rq) (n : Fin 4) (op : BitVec 8) (s : State), Safety.Heard s rq n roleAll →
    (∃ t, exec (.sessionReset rq) s = .next t ∧ (t.session n.val).ending = true ∧ Safety.Answers rq 7 0 [] s t) ∧
      (∃ t, exec (.reservedDictionaryOp rq op) s = .next t ∧ Safety.Answers rq op.toNat 0x02000005 [] s t)) ∧
  (∀ (n : Fin 4) (s : State), Safety.Canonical s → (s.session n.val).isOpen = true →
    ((s.session n.val).scopes ≠ [] → (s.session n.val).leaseEnd ≤ s.time.frame →
      ∃ t, exec (.leaseExpiry n) s = .next t ∧ (t.session n.val).scopes = [] ∧ (t.session n.val).staged = [] ∧
        (t.session n.val).broken = true ∧ t.obj 0x1200 8 0 = s.obj 0x1200 8 0 + 1) ∧
      ((s.session n.val).lastMsg + 2 * (s.session n.val).hbFrames ≤ s.time.frame →
        ∃ t, exec (.sessionTimeout n) s = .next t ∧ (t.session n.val).ending = true))

/-- For a message the block hears. DICTIONARY_READ completes: of 0x1100.01 it answers the block state's code, of
0x7800.02 the frame count in 8 B, of any object what the object reads as, or the first failed check's code. Outside
a session all indices but 0x1000 and 0x1100 are answered with code 0x07000003. DICTIONARY_WRITE of one element of a
locked object whose scopes it holds completes: it is staged, the lease restarts, no object changes. A
DICTIONARY_WRITE of one element of a direct object, other than the state code, the event registers and objects with
a command of their own, that passes its range and state checks completes: the object holds the value, reserved bits
zero. EVENT_ACKNOWLEDGE between the session's read index and the write index moves the read index. MAILBOX_DOORBELL
takes the packet in the request window, and the last one of a message puts the request in service, while which a
doorbell is counted in 0x1311.04; MANAGEMENT_PACKET over 9,216 B is counted in 0x1311.05, a shorter one changes
nothing by itself. -/
def Obligations.DictionaryReadsWritesAndTransports : Prop :=
  (∀ (rq : Rq) (n : Fin 4) (o : Obj) (staged : Bool) (length : Nat) (s : State), Safety.Heard s rq n roleAll →
    (o = ⟨0x1100, 1, 0⟩ → staged = false → length = 1 → ∃ t, exec (.dictionaryRead rq o staged length) s = .next t ∧
      Safety.Answers rq 1 0 (leBytes 1 s.block.state.code) s t) ∧
    (o = ⟨0x7800, 2, 0⟩ → staged = false → length = 8 → ∃ t, exec (.dictionaryRead rq o staged length) s = .next t ∧
      Safety.Answers rq 1 0 (leBytes 8 s.time.frame) s t) ∧
    (∃ t, exec (.dictionaryRead rq o staged length) s = .next t ∧
      let r := (s.modSession n.val fun x => { x with lastMsg := s.time.frame }).readObject (some n.val)
        (aliasIx s.compat o.index.toNat) o.sub.toNat o.elem.toNat staged length
      Safety.Answers rq 1 r.1 (if r.1 = 0 then r.2 else []) s t)) ∧
  (∀ (rq : Rq) (o : Obj) (staged : Bool) (length : Nat) (s : State), s.block.boot = .up → rq.session = none →
    aliasIx s.compat o.index.toNat ≠ 0x1000 → aliasIx s.compat o.index.toNat ≠ 0x1100 →
      ∃ t, exec (.dictionaryRead rq o staged length) s = .next t ∧ Safety.Answers rq 1 0x07000003 [] s t) ∧
  (∀ (rq : Rq) (n : Fin 4) (o : Obj) (v : Nat) (r : ObjRow) (s : State), Safety.Canonical s →
    let ix := aliasIx s.compat o.index.toNat
    let sub := o.sub.toNat
    let el := o.elem.toNat
    let x := s.session n.val
    Safety.Heard s rq n (writers ix sub) → objRow? ix sub = some r → r.acc ≠ 0 → el < r.elems → 0 < r.size → r.size ≤ 65536 →
      v < 2 ^ (8 * r.size) → ix ≠ 0x1F01 → ix ≠ 0x1301 → ix ≠ 0x1100 → s.writeTenant x n.val ix el v = 0 →
        (r.locked = true → x.broken = false → s.lockedShape ix sub el v = 0 →
          (∀ k ∈ s.scopesFor ix sub el v, k ∈ x.scopes) →
            let y := x.stage { index := ix, sub, elem := el, value := v, bytes := r.size }
            y.stagedBytes ≤ 262144 →
              ∃ t, exec (.dictionaryWrite rq o (leBytes r.size v)) s = .next t ∧ (t.session n.val).staged = y.staged ∧
                (t.session n.val).leaseEnd = s.time.frame + 1000 * s.live' 0x1200 2 0 ∧ t.objs = s.objs ∧
                  t.regions = s.regions ∧ Safety.Answers rq 2 0 [] s t) ∧
        (r.locked = false → (∀ u : State, u.ownCommand rq ix sub el v = none) → s.directRange ix sub [(el, v)] el v = 0 →
          s.directState ix sub el = 0 →
            ∃ t, exec (.dictionaryWrite rq o (leBytes r.size v)) s = .next t ∧ t.obj ix sub el = directValue ix v ∧
              Safety.Answers rq 2 0 [] s t)) ∧
  (∀ (rq : Rq) (n : Fin 4) (v : BitVec 64) (s : State), Safety.Canonical s → Safety.Heard s rq n roleAll →
    s.obj 0x1301 1 n.val ≤ v.toNat → v.toNat ≤ s.obj 0x1300 2 0 →
      ∃ t, exec (.eventAcknowledge rq v) s = .next t ∧ t.obj 0x1301 1 n.val = v.toNat ∧ Safety.Answers rq 2 0 [] s t) ∧
  (∀ (rq : Rq) (n : Nat) (packet : List Byte) (last : Bool) (s : State), Safety.Canonical s → s.block.rstLow = false →
    (s.mgmt.mbBusy = true → ∃ t, exec (.mailboxDoorbell packet last) s = .next t ∧
      t.obj 0x1311 4 0 = s.obj 0x1311 4 0 + 1 ∧ t.mgmt = s.mgmt) ∧
      (s.mgmt.mbBusy = false → exec (.mailboxDoorbell packet last) s =
        .next { s with mgmt := { s.mgmt with mbBusy := last, mbRequest := packet.take 4096 } }) ∧
        (9216 < n → ∃ t, exec (.managementPacket rq n) s = .next t ∧ t.obj 0x1311 5 0 = s.obj 0x1311 5 0 + 1) ∧
          (n ≤ 9216 → exec (.managementPacket rq n) s = .next s))

/-- Outside a session, the block up, not in SAFE, its identity known: each SPDM request completes with its response, and
one not supported or out of range with an error. KEY_EXCHANGE answers with the heartbeat period offered when a
session number is free, else with the limit error. FINISH of the handshake in progress with a good leaf completes:
the lowest free number is a session bound to this transport and endpoint, with the role its root allows and its read
index at the write index. Inside a session HEARTBEAT and KEY_UPDATE are acknowledged and END_SESSION ends it. Out of
reset: ENTDAA gives the I3C address and RSTDAA takes it, and both end the I3C sessions; ENEC, DISEC, SETMRL and
SETMWL set what they name; the five GET codes answer at an assigned address. I3C_MCTP_TRANSFER adds its bytes to its
endpoint's message, which its last packet ends. The error numbers (log 45), the I3C limits and the transmission unit
(log 12) are the model's. -/
def Obligations.SessionsFormOverSpdmAndTheSidebandAnswers : Prop :=
  (∀ (rq : Rq) (s : State), s.block.boot = .up → s.keys.identity = true → s.block.state ≠ .safe → rq.session = none →
    (∀ (c : Instr) (r : SpdmRsp),
      (c, r) ∈ [(Instr.getVersion rq, SpdmRsp.version), (.getCapabilities rq, .capabilities (s.obj 0x1200 3 0)),
        (.negotiateAlgorithms rq true, .algorithms), (.negotiateAlgorithms rq false, .error spInvalid), (.getDigests rq, .digests),
        (.getMeasurements rq 0, .measurements 0 s.time.frame []),
        (.getMeasurements rq 0xFF, .measurements 0xFF s.time.frame ([1, 2, 3, 4, 5].map s.measure)),
        (.heartbeat rq, .error spUnexpected), (.keyUpdate rq, .error spUnexpected), (.endSession rq, .error spUnexpected)] →
          ∃ t, exec c s = .next t ∧ t.mgmt.sessions = s.mgmt.sessions ∧ Safety.Replies rq r s t) ∧
    (∀ (slot : BitVec 4) (off len : BitVec 16) (nonce : BitVec 256) (code i : BitVec 8),
      (∃ t, exec (.getCertificate rq slot off len) s = .next t ∧
        Safety.Replies rq (if slot = 0 then .certificate off.toNat len.toNat else .error spInvalid) s t) ∧
      (∃ t, exec (.challenge rq slot nonce) s = .next t ∧
        Safety.Replies rq (if slot = 0 then .challengeAuth nonce else .error spInvalid) s t) ∧
      (∃ t, exec (.unsupportedSpdmRequest rq code) s = .next t ∧ Safety.Replies rq (.error spUnsupported) s t) ∧
      (1 ≤ i.toNat → i.toNat ≤ 5 → ∃ t, exec (.getMeasurements rq i) s = .next t ∧
        Safety.Replies rq (.measurements i.toNat s.time.frame [s.measure i.toNat]) s t)) ∧
    ((∀ k : Fin 4, (s.session k.val).isOpen = true) →
      ∃ t, exec (.keyExchange rq) s = .next t ∧ Safety.Replies rq (.error spLimit) s t) ∧
    (∀ k : Fin 4, (s.session k.val).isOpen = false → (∀ j : Fin 4, j < k → (s.session j.val).isOpen = true) →
      (∃ t, exec (.keyExchange rq) s = .next t ∧ t.mgmt.sessions = s.mgmt.sessions ∧
        t.mgmt.handshake = some { transport := rq.transport.val, endpoint := rq.endpoint.toNat } ∧
          Safety.Replies rq (.keyExchange (s.obj 0x1200 3 0)) s t) ∧
      (∀ leaf : LeafCert, Safety.Canonical s → leaf.ok = true →
        s.mgmt.handshake = some { transport := rq.transport.val, endpoint := rq.endpoint.toNat } →
          ∃ t, exec (.finish rq leaf) s = .next t ∧ (t.session k.val).isOpen = true ∧
            (t.session k.val).transport = rq.transport.val ∧ (t.session k.val).endpoint = rq.endpoint.toNat ∧
              (t.session k.val).tenant = leaf.tenant.toNat ∧ (t.session k.val).scopes = [] ∧
                (t.session k.val).roles = (if bit leaf.roles.toNat leaf.root.val then 2 ^ leaf.root.val else 0) ∧
                  t.obj 0x1301 1 k.val = s.obj 0x1300 2 0 ∧ t.obj 0x1301 2 k.val = 0x7FE ∧ t.mgmt.handshake = none ∧
                    Safety.Replies rq (.finished k.val) s t))) ∧
  (∀ (rq : Rq) (n : Fin 4) (s : State), Safety.Heard s rq n roleAll → s.keys.identity = true →
    (∃ t, exec (.heartbeat rq) s = .next t ∧ (t.session n.val).lastMsg = s.time.frame ∧ Safety.Replies rq .heartbeatAck s t) ∧
      (∃ t, exec (.keyUpdate rq) s = .next t ∧
        t.mgmt.keyUpdates = Map.upd 0 n.val (· + 1) s.mgmt.keyUpdates ∧ Safety.Replies rq .keyUpdateAck s t) ∧
        (∃ t, exec (.endSession rq) s = .next t ∧ (t.session n.val).ending = true ∧ Safety.Replies rq .endSessionAck s t)) ∧
  (∀ (addr : BitVec 7) (mask : BitVec 8) (v : BitVec 16) (s : State), s.block.rstLow = false →
    (∃ t, exec (.entdaa addr) s = .next t ∧ t.mgmt.i3cAddr = some addr.toNat ∧
      ∀ k : Fin 4, (s.session k.val).isOpen = true → (s.session k.val).transport = 0 → (t.session k.val).ending = true) ∧
    (∃ t, exec .rstdaa s = .next t ∧ t.mgmt.i3cAddr = none ∧
      ∀ k : Fin 4, (s.session k.val).isOpen = true → (s.session k.val).transport = 0 → (t.session k.val).ending = true) ∧
    exec (.enec mask) s = .next { s with mgmt := { s.mgmt with i3cEvents := s.mgmt.i3cEvents ||| mask.toNat } } ∧
    exec (.disec mask) s = .next { s with mgmt := { s.mgmt with i3cEvents := s.mgmt.i3cEvents &&& (255 - mask.toNat) } } ∧
    exec (.setmrl v) s = .next { s with mgmt := { s.mgmt with i3cMrl := v.toNat } } ∧
    exec (.setmwl v) s = .next { s with mgmt := { s.mgmt with i3cMwl := v.toNat } } ∧
    (s.mgmt.i3cAddr ≠ none → ∀ (c : Instr) (l : List Nat),
      (c, l) ∈ [(Instr.getpid, Config.i3cPid), (.getbcr, [Config.i3cBcr]), (.getdcr, [Config.i3cDcr]),
        (.getmrl, [s.mgmt.i3cMrl / 256, s.mgmt.i3cMrl % 256]), (.getmwl, [s.mgmt.i3cMwl / 256, s.mgmt.i3cMwl % 256])] →
          exec c s = .next { s with outbox := s.outbox ++ [.i3c l] })) ∧
  (∀ (rq : Rq) (bytes : Nat) (last : Bool) (s : State), s.block.rstLow = false →
    (s.mgmt.i3cAddr = none → exec (.i3cMctpTransfer rq bytes last) s = .next s) ∧
      (s.mgmt.i3cAddr ≠ none → exec (.i3cMctpTransfer rq bytes last) s =
        let n := if last = true ∨ s.mctpUnit < bytes then 0 else Map.look 0 rq.endpoint.toNat s.mgmt.i3cParts + bytes
        .next { s with mgmt := { s.mgmt with i3cParts := Map.put 0 n rq.endpoint.toNat s.mgmt.i3cParts } }))

/-- For every state that meets Safety.SafeHeld (a block in SAFE is up or held in reset, and the only change it may have
been asked for is SAFE itself; no change is asked for before the dictionary answers) and every command: the next
state meets SafeHeld too, and a block in SAFE is in SAFE still unless the command is RESET_ASSERT, RESET_RELEASE or
CORE_POWER_LOSS. No request, boundary, scan or bring-up event leaves SAFE. State.reset meets SafeHeld. -/
def Obligations.SafeIsLeftOnlyThroughReset : Prop :=
  Safety.SafeHeld State.reset ∧ ∀ (c : Instr) (s t : State), Safety.SafeHeld s → exec c s = .next t →
    Safety.SafeHeld t ∧ (s.block.state = .safe → t.block.state = .safe ∨ (∃ n, c = .resetAssert n) ∨
      (∃ p k, c = .resetRelease p k) ∨ c = .corePowerLoss)

/-- For every set entry and every 64-bit key, the hash is mix(key xor seed) modulo 2^64, mix being three xors with a
right shift of 30, 27 and 31 and two multiplications by the two constants of the rule. -/
def Obligations.KeysAreHashedAsStated : Prop :=
  ∀ (entry : Nat) (key : BitVec 64),
    let x0 := key ^^^ BitVec.ofNat 64 (fsSeed entry)
    let x1 := x0 ^^^ (x0 >>> 30)
    let x2 := x1 * 0xBF58476D1CE4E5B9
    let x3 := x2 ^^^ (x2 >>> 27)
    let x4 := x3 * 0x94D049BB133111EB
    let x5 := x4 ^^^ (x4 >>> 31)
    keyHash entry key.toNat = x5.toNat
end

