-- ==== Sys2Proof/Laws/Tables.lean ====
section
/-! SUPPORT. Tables.lean: the laws of the sparse tables of Machine/Ops.lean: what a read after a write gives, and that every
operation keeps the canonical form. -/
namespace Sys2Proof.Machine

variable {V : Type} [DecidableEq V]

theorem Map.above_mono {dflt : Nat → V} {lo hi : Nat} (h : lo ≤ hi) :
    ∀ m : Map V, Map.above dflt hi m = true → Map.above dflt lo m = true
  | [], _ => rfl
  | (a, v) :: m, hm => by
    simp only [Map.above, Bool.and_eq_true, decide_eq_true_eq] at hm ⊢
    exact ⟨⟨by omega, hm.1.2⟩, hm.2⟩

/-- A key below the first one listed reads as the default. -/
theorem Map.look_below {dflt : Nat → V} {d : V} {k lo : Nat} (hk : k < lo) :
    ∀ m : Map V, Map.above dflt lo m = true → Map.look d k m = d
  | [], _ => rfl
  | (a, v) :: m, hm => by
    simp only [Map.above, Bool.and_eq_true, decide_eq_true_eq] at hm
    have : a ≠ k := by omega
    simp only [Map.look, this, if_false]
    exact Map.look_below (by omega) m hm.2

/-- A write keeps the canonical form above a bound. -/
theorem Map.put_above {dflt : Nat → V} (v : V) {k : Nat} :
    ∀ (lo : Nat) (m : Map V), lo ≤ k → Map.above dflt lo m = true → Map.above dflt lo (Map.put (dflt k) v k m) = true
  | lo, [], h, _ => by
    by_cases hv : v = dflt k <;> simp [Map.put, Map.above, hv, h]
  | lo, (a, w) :: m, h, hm => by
    simp only [Map.above, Bool.and_eq_true, decide_eq_true_eq] at hm
    unfold Map.put
    by_cases h1 : k < a
    · by_cases hv : v = dflt k
      · simp [h1, hv, Map.above, hm.1.1, hm.1.2, hm.2]
      · simp [h1, hv, Map.above, h, hm.1.2, hm.2]
    · by_cases h2 : a = k
      · subst h2
        by_cases hv : v = dflt a
        · simp only [lt_irrefl, if_false, if_true, hv]
          exact Map.above_mono (by omega) m hm.2
        · simp [hv, Map.above, hm.1.1, hm.2]
      · simp only [h1, h2, if_false, Map.above, Bool.and_eq_true, decide_eq_true_eq]
        exact ⟨hm.1, Map.put_above v (a + 1) m (by omega) hm.2⟩

/-- A write keeps the canonical form. -/
theorem Map.put_wf {dflt : Nat → V} (v : V) (k : Nat) (m : Map V) (h : Map.wf dflt m = true) :
    Map.wf dflt (Map.put (dflt k) v k m) = true := Map.put_above v 0 m (Nat.zero_le k) h

/-- A change of one key keeps the canonical form. -/
theorem Map.upd_wf {d : V} (k : Nat) (f : V → V) (m : Map V) (h : Map.wf (fun _ => d) m = true) :
    Map.wf (fun _ => d) (Map.upd d k f m) = true := Map.put_wf (dflt := fun _ => d) _ k m h

/-- Leaving entries out keeps the canonical form above a bound. -/
theorem Map.filter_above {dflt : Nat → V} (p : Nat × V → Bool) :
    ∀ (lo : Nat) (m : Map V), Map.above dflt lo m = true → Map.above dflt lo (m.filter p) = true
  | _, [], _ => rfl
  | lo, (a, v) :: m, hm => by
    simp only [Map.above, Bool.and_eq_true, decide_eq_true_eq] at hm
    have ih := Map.filter_above p (a + 1) m hm.2
    by_cases hp : p (a, v) = true
    · simp only [List.filter_cons, hp, if_true, Map.above, Bool.and_eq_true, decide_eq_true_eq]
      exact ⟨hm.1, ih⟩
    · simp only [List.filter_cons, hp]
      exact Map.above_mono (by omega) _ ih

/-- Leaving entries out keeps the canonical form. -/
theorem Map.filter_wf {dflt : Nat → V} (p : Nat × V → Bool) (m : Map V) (h : Map.wf dflt m = true) :
    Map.wf dflt (m.filter p) = true := Map.filter_above p 0 m h

/-- Changing every value, with those that become the default left out, keeps the canonical form above a bound. -/
theorem Map.mapped_above {d : V} (f : Nat × V → V) :
    ∀ (lo : Nat) (m : Map V), Map.above (fun _ => d) lo m = true →
      Map.above (fun _ => d) lo ((m.map fun x => (x.1, f x)).filter fun x => decide (x.2 ≠ d)) = true
  | _, [], _ => rfl
  | lo, (a, v) :: m, hm => by
    simp only [Map.above, Bool.and_eq_true, decide_eq_true_eq] at hm
    have ih := Map.mapped_above f (a + 1) m hm.2
    by_cases hp : f (a, v) = d
    · simp only [List.map_cons, List.filter_cons, hp, ne_eq, not_true_eq_false, decide_false, Bool.false_eq_true, if_false]
      exact Map.above_mono (by omega) _ ih
    · simp only [List.map_cons, List.filter_cons, hp, ne_eq, not_false_eq_true, decide_true, if_true, Map.above,
        Bool.and_eq_true, decide_eq_true_eq]
      exact ⟨⟨hm.1.1, trivial⟩, ih⟩

/-- Changing every value keeps the canonical form. -/
theorem Map.vals_wf {d : V} (f : V → V) (m : Map V) (h : Map.wf (fun _ => d) m = true) :
    Map.wf (fun _ => d) (Map.vals d f m) = true := Map.mapped_above (fun x => f x.2) 0 m h

/-- What is written is read back from a canonical table. -/
theorem Map.risingFrom_mono {lo hi : Nat} (h : lo ≤ hi) :
    ∀ {m : Map V}, Map.risingFrom hi m = true → Map.risingFrom lo m = true
  | [], _ => rfl
  | (a, v) :: m, g => by
    simp only [Map.risingFrom, Bool.and_eq_true, decide_eq_true_eq] at g ⊢
    exact ⟨by omega, g.2⟩

theorem Map.put_risingFrom {d v : V} {k : Nat} :
    ∀ {lo : Nat} {m : Map V}, lo ≤ k → Map.risingFrom lo m = true → Map.risingFrom lo (Map.put d v k m) = true
  | lo, [], hk, _ => by
    unfold Map.put
    split
    · rfl
    · simp [Map.risingFrom, hk]
  | lo, (a, w) :: m, hk, g => by
    simp only [Map.risingFrom, Bool.and_eq_true, decide_eq_true_eq] at g
    unfold Map.put
    split
    · rename_i h
      split
      · simp only [Map.risingFrom, Bool.and_eq_true, decide_eq_true_eq]; exact ⟨g.1, g.2⟩
      · simp only [Map.risingFrom, Bool.and_eq_true, decide_eq_true_eq]; exact ⟨hk, by omega, g.2⟩
    · split
      · rename_i h e
        split
        · exact Map.risingFrom_mono (by omega) g.2
        · simp only [Map.risingFrom, Bool.and_eq_true, decide_eq_true_eq]; exact ⟨hk, by subst e; exact g.2⟩
      · rename_i h e
        simp only [Map.risingFrom, Bool.and_eq_true, decide_eq_true_eq]
        exact ⟨g.1, Map.put_risingFrom (by omega) g.2⟩

/-- A write keeps a table's keys rising. -/
theorem Map.put_rising {d v : V} {k : Nat} {m : Map V} (h : Map.rising m = true) : Map.rising (Map.put d v k m) = true :=
  Map.put_risingFrom (Nat.zero_le _) h

theorem Map.filter_risingFrom (p : Nat × V → Bool) :
    ∀ {lo : Nat} {m : Map V}, Map.risingFrom lo m = true → Map.risingFrom lo (m.filter p) = true
  | _, [], _ => rfl
  | lo, (a, w) :: m, g => by
    simp only [Map.risingFrom, Bool.and_eq_true, decide_eq_true_eq] at g
    rw [List.filter_cons]
    split
    · simp only [Map.risingFrom, Bool.and_eq_true, decide_eq_true_eq]
      exact ⟨g.1, Map.filter_risingFrom p g.2⟩
    · exact Map.risingFrom_mono (by omega) (Map.filter_risingFrom p g.2)

/-- Leaving entries out keeps a table's keys rising. -/
theorem Map.filter_rising (p : Nat × V → Bool) {m : Map V} (h : Map.rising m = true) : Map.rising (m.filter p) = true :=
  Map.filter_risingFrom p h

theorem Map.look_risingBelow {d : V} {k : Nat} :
    ∀ {lo : Nat} {m : Map V}, Map.risingFrom lo m = true → k < lo → Map.look d k m = d
  | _, [], _, _ => rfl
  | lo, (a, w) :: m, g, hk => by
    simp only [Map.risingFrom, Bool.and_eq_true, decide_eq_true_eq] at g
    unfold Map.look
    rw [if_neg (by omega)]
    exact Map.look_risingBelow g.2 (by omega)

/-- What was written is read, where the keys rise. -/
theorem Map.look_put_rising {d v : V} {k : Nat} :
    ∀ {lo : Nat} {m : Map V}, Map.risingFrom lo m = true → Map.look d k (Map.put d v k m) = v
  | _, [], _ => by
    unfold Map.put
    split
    · rename_i h; simp [Map.look, h]
    · simp [Map.look]
  | lo, (a, w) :: m, g => by
    simp only [Map.risingFrom, Bool.and_eq_true, decide_eq_true_eq] at g
    unfold Map.put
    split
    · rename_i h
      split
      · rename_i e
        unfold Map.look
        rw [if_neg (by omega), e]
        exact Map.look_risingBelow g.2 (by omega)
      · simp [Map.look]
    · split
      · rename_i h e
        split
        · rename_i hv
          rw [hv]; exact Map.look_risingBelow g.2 (by omega)
        · simp [Map.look]
      · rename_i h e
        unfold Map.look
        rw [if_neg e]
        exact Map.look_put_rising g.2

theorem Map.look_put {dflt : Nat → V} (v : V) (k : Nat) :
    ∀ (lo : Nat) (m : Map V), Map.above dflt lo m = true → Map.look (dflt k) k (Map.put (dflt k) v k m) = v
  | _, [], _ => by
    by_cases hv : v = dflt k <;> simp [Map.put, Map.look, hv]
  | lo, (a, w) :: m, hm => by
    simp only [Map.above, Bool.and_eq_true, decide_eq_true_eq] at hm
    unfold Map.put
    by_cases h1 : k < a
    · by_cases hv : v = dflt k
      · simp only [h1, hv, if_true, Map.look, show a ≠ k by omega, if_false]
        exact Map.look_below (lo := a + 1) (by omega) m hm.2
      · simp [h1, hv, Map.look]
    · by_cases h2 : a = k
      · subst h2
        by_cases hv : v = dflt a
        · simp only [lt_irrefl, if_false, if_true, hv]
          exact Map.look_below (lo := a + 1) (by omega) m hm.2
        · simp [hv, Map.look]
      · simp only [h1, h2, if_false, Map.look]
        exact Map.look_put v k (a + 1) m hm.2

/-- A write leaves every other key alone. -/
theorem Map.look_put_ne {d e v : V} {k j : Nat} (h : j ≠ k) :
    ∀ m : Map V, Map.look e j (Map.put d v k m) = Map.look e j m
  | [] => by by_cases hv : v = d <;> simp [Map.put, Map.look, hv, h.symm]
  | (a, w) :: m => by
    unfold Map.put
    by_cases h1 : k < a
    · by_cases hv : v = d
      · simp [h1, hv]
      · simp [h1, hv, Map.look, h.symm]
    · by_cases h2 : a = k
      · subst h2
        by_cases hv : v = d <;> simp [hv, Map.look, h.symm]
      · simp only [h1, h2, if_false, Map.look]
        rw [Map.look_put_ne h m]

/-- What a changed key holds afterwards. -/
theorem Map.look_upd {d : V} (k : Nat) (f : V → V) (m : Map V) (h : Map.wf (fun _ => d) m = true) :
    Map.look d k (Map.upd d k f m) = f (Map.look d k m) := Map.look_put (dflt := fun _ => d) _ k 0 m h

/-- A changed key leaves every other one alone. -/
theorem Map.look_upd_ne {d : V} {k j : Nat} (h : j ≠ k) (f : V → V) (m : Map V) :
    Map.look d j (Map.upd d k f m) = Map.look d j m := Map.look_put_ne h m

/-- A value other than the default is read back from any table, canonical or not. -/
theorem Map.look_put_listed {d v : V} {k : Nat} (h : v ≠ d) : ∀ m : Map V, Map.look d k (Map.put d v k m) = v
  | [] => by simp [Map.put, Map.look, h]
  | (a, w) :: m => by
    unfold Map.put
    by_cases h1 : k < a
    · simp [h1, h, Map.look]
    · by_cases h2 : a = k
      · simp [h2, h, Map.look]
      · simp only [h1, h2, if_false, Map.look]
        exact Map.look_put_listed h m

/-- A sector is read back from memory as it was written (R355). -/
theorem dramAt_dramPut (s : State) (p : Nat) (v : StoredSector) (h : Memory.wf s.dram = true) :
    (s.dramPut p v).dramAt p = v := Map.look_put (dflt := fillSector) v p 0 s.dram h

/-- A write of one sector leaves every other sector alone. -/
theorem dramAt_dramPut_ne (s : State) {p q : Nat} (v : StoredSector) (h : q ≠ p) :
    (s.dramPut p v).dramAt q = s.dramAt q := Map.look_put_ne h s.dram

/-- A write of one sector keeps memory in its canonical form. -/
theorem dramPut_wf (s : State) (p : Nat) (v : StoredSector) (h : Memory.wf s.dram = true) :
    Memory.wf (s.dramPut p v).dram = true := Map.put_wf (dflt := fillSector) v p s.dram h

end Sys2Proof.Machine
end

