-- ==== Sys2Proof/Laws/Only.lean ====
section
/-! SUPPORT. Only.lean: everything an operation can do to the parts of the state. The parts are numbered in the order of
State's fields, 0 time to 23 pending; number 24 is the frame count and 25 the block's state, boot step and requested state.
`Only m s t` says that from `s` to `t` nothing changed but parts whose bit is set in `m`, that the trace of outputs only grew,
that no free value was taken twice, and that tables in canonical form stay so. The lemma of an operation X is `X_only`: it adds
X, with the least set of parts it may change, to a chain that starts at a state `a`. -/

-- theorems one after another: many at once would ask for too many threads
set_option Elab.async false

namespace Sys2Proof.Laws

open Sys2Proof.Machine Sys2Proof.Safety

/-- A set of parts within another. -/
abbrev Sub (p m : Nat) : Prop := p &&& m = p

/-- The block's state, boot step and requested state are as before. -/
abbrev SameBlock (s t : State) : Prop :=
  t.block.state = s.block.state ∧ t.block.boot = s.block.boot ∧ t.block.request = s.block.request

/-- From `s` to `t` nothing changed but the parts of `m`; outputs are added, free values taken in turn, tables canonical. -/
structure Only (m : Nat) (s t : State) : Prop where
  time : m.testBit 0 = true ∨ t.time = s.time
  block : m.testBit 1 = true ∨ t.block = s.block
  mgmt : m.testBit 2 = true ∨ t.mgmt = s.mgmt
  objs : m.testBit 3 = true ∨ t.objs = s.objs
  live : m.testBit 4 = true ∨ t.live = s.live
  live2 : m.testBit 5 = true ∨ t.live2 = s.live2
  regions : m.testBit 6 = true ∨ t.regions = s.regions
  dram : m.testBit 7 = true ∨ t.dram = s.dram
  reqs : m.testBit 8 = true ∨ t.reqs = s.reqs
  nextReq : m.testBit 9 = true ∨ t.nextReq = s.nextReq
  ports : m.testBit 10 = true ∨ t.ports = s.ports
  stackTab : m.testBit 11 = true ∨ t.stackTab = s.stackTab
  pcs : m.testBit 12 = true ∨ t.pcs = s.pcs
  loft : m.testBit 13 = true ∨ t.loft = s.loft
  shot : m.testBit 14 = true ∨ t.shot = s.shot
  entry : m.testBit 15 = true ∨ t.entry = s.entry
  packet : m.testBit 16 = true ∨ t.packet = s.packet
  seqNo : m.testBit 17 = true ∨ t.seqNo = s.seqNo
  keys : m.testBit 18 = true ∨ t.keys = s.keys
  test : m.testBit 19 = true ∨ t.test = s.test
  tokens : m.testBit 20 = true ∨ t.tokens = s.tokens
  free : m.testBit 21 = true ∨ t.free = s.free
  outbox : m.testBit 22 = true ∨ t.outbox = s.outbox
  pending : m.testBit 23 = true ∨ t.pending = s.pending
  frame : m.testBit 24 = true ∨ t.time.frame = s.time.frame
  state : m.testBit 25 = true ∨ SameBlock s t
  trace : s.outbox <+: t.outbox
  fresh : s.free ≤ t.free
  canon : Canonical s → Canonical t

variable {a s : State} {m p : Nat}

theorem Sub.bit (h : Sub p m) {i : Nat} (b : p.testBit i = true) : m.testBit i = true := by
  rw [← h, Nat.testBit_land, Bool.and_eq_true] at b
  exact b.2

/-- Sets of parts within sets. -/
theorem Sub.trans {q : Nat} (h : q &&& p = q) (g : Sub p m) : Sub q m := by
  unfold Sub at *
  rw [← h, Nat.land_assoc, g]

theorem or_step {A : Type} {i : Nat} {x y z : A} (h : Sub p m) (f : m.testBit i = true ∨ y = x)
    (g : p.testBit i = true ∨ z = y) : m.testBit i = true ∨ z = x := by
  rcases f with f | f
  · exact .inl f
  · rcases g with g | g
    · exact .inl (h.bit g)
    · exact .inr (g.trans f)

theorem Only.refl (s : State) : Only m s s :=
  ⟨.inr rfl, .inr rfl, .inr rfl, .inr rfl, .inr rfl, .inr rfl, .inr rfl, .inr rfl, .inr rfl, .inr rfl, .inr rfl, .inr rfl, .inr rfl, .inr rfl, .inr rfl, .inr rfl, .inr rfl, .inr rfl, .inr rfl, .inr rfl, .inr rfl, .inr rfl, .inr rfl, .inr rfl, .inr rfl, .inr ⟨rfl, rfl, rfl⟩, List.prefix_rfl, le_rfl, id⟩

/-- A change of parts of `m` goes on from one of parts of `m`. -/
theorem Only.step {s t : State} (h : Only m a s) (hm : Sub p m) (g : Only p s t) : Only m a t :=
  ⟨or_step hm h.time g.time, or_step hm h.block g.block, or_step hm h.mgmt g.mgmt, or_step hm h.objs g.objs, or_step hm h.live g.live, or_step hm h.live2 g.live2, or_step hm h.regions g.regions, or_step hm h.dram g.dram, or_step hm h.reqs g.reqs, or_step hm h.nextReq g.nextReq, or_step hm h.ports g.ports, or_step hm h.stackTab g.stackTab, or_step hm h.pcs g.pcs, or_step hm h.loft g.loft, or_step hm h.shot g.shot, or_step hm h.entry g.entry, or_step hm h.packet g.packet, or_step hm h.seqNo g.seqNo, or_step hm h.keys g.keys, or_step hm h.test g.test, or_step hm h.tokens g.tokens, or_step hm h.free g.free, or_step hm h.outbox g.outbox, or_step hm h.pending g.pending, or_step hm h.frame g.frame,
    by
      rcases h.state with f | f
      · exact .inl f
      · rcases g.state with k | k
        · exact .inl (hm.bit k)
        · exact .inr ⟨k.1.trans f.1, k.2.1.trans f.2.1, k.2.2.trans f.2.2⟩,
    h.trace.trans g.trace, h.fresh.trans g.fresh, fun c => g.canon (h.canon c)⟩

/-- A wider set. -/
theorem Only.mono {s t : State} (g : Only p s t) (hm : Sub p m) : Only m s t := (Only.refl s).step hm g

theorem Only.time_eq {s t : State} (h : Only m s t) (b : m.testBit 0 = false := by decide) : t.time = s.time :=
  h.time.resolve_left (by simp [b])
theorem Only.block_eq {s t : State} (h : Only m s t) (b : m.testBit 1 = false := by decide) : t.block = s.block :=
  h.block.resolve_left (by simp [b])
theorem Only.mgmt_eq {s t : State} (h : Only m s t) (b : m.testBit 2 = false := by decide) : t.mgmt = s.mgmt :=
  h.mgmt.resolve_left (by simp [b])
theorem Only.objs_eq {s t : State} (h : Only m s t) (b : m.testBit 3 = false := by decide) : t.objs = s.objs :=
  h.objs.resolve_left (by simp [b])
theorem Only.live_eq {s t : State} (h : Only m s t) (b : m.testBit 4 = false := by decide) : t.live = s.live :=
  h.live.resolve_left (by simp [b])
theorem Only.live2_eq {s t : State} (h : Only m s t) (b : m.testBit 5 = false := by decide) : t.live2 = s.live2 :=
  h.live2.resolve_left (by simp [b])
theorem Only.regions_eq {s t : State} (h : Only m s t) (b : m.testBit 6 = false := by decide) : t.regions = s.regions :=
  h.regions.resolve_left (by simp [b])
theorem Only.dram_eq {s t : State} (h : Only m s t) (b : m.testBit 7 = false := by decide) : t.dram = s.dram :=
  h.dram.resolve_left (by simp [b])
theorem Only.reqs_eq {s t : State} (h : Only m s t) (b : m.testBit 8 = false := by decide) : t.reqs = s.reqs :=
  h.reqs.resolve_left (by simp [b])
theorem Only.nextReq_eq {s t : State} (h : Only m s t) (b : m.testBit 9 = false := by decide) : t.nextReq = s.nextReq :=
  h.nextReq.resolve_left (by simp [b])
theorem Only.ports_eq {s t : State} (h : Only m s t) (b : m.testBit 10 = false := by decide) : t.ports = s.ports :=
  h.ports.resolve_left (by simp [b])
theorem Only.stackTab_eq {s t : State} (h : Only m s t) (b : m.testBit 11 = false := by decide) : t.stackTab = s.stackTab :=
  h.stackTab.resolve_left (by simp [b])
theorem Only.pcs_eq {s t : State} (h : Only m s t) (b : m.testBit 12 = false := by decide) : t.pcs = s.pcs :=
  h.pcs.resolve_left (by simp [b])
theorem Only.loft_eq {s t : State} (h : Only m s t) (b : m.testBit 13 = false := by decide) : t.loft = s.loft :=
  h.loft.resolve_left (by simp [b])
theorem Only.shot_eq {s t : State} (h : Only m s t) (b : m.testBit 14 = false := by decide) : t.shot = s.shot :=
  h.shot.resolve_left (by simp [b])
theorem Only.entry_eq {s t : State} (h : Only m s t) (b : m.testBit 15 = false := by decide) : t.entry = s.entry :=
  h.entry.resolve_left (by simp [b])
theorem Only.packet_eq {s t : State} (h : Only m s t) (b : m.testBit 16 = false := by decide) : t.packet = s.packet :=
  h.packet.resolve_left (by simp [b])
theorem Only.seqNo_eq {s t : State} (h : Only m s t) (b : m.testBit 17 = false := by decide) : t.seqNo = s.seqNo :=
  h.seqNo.resolve_left (by simp [b])
theorem Only.keys_eq {s t : State} (h : Only m s t) (b : m.testBit 18 = false := by decide) : t.keys = s.keys :=
  h.keys.resolve_left (by simp [b])
theorem Only.test_eq {s t : State} (h : Only m s t) (b : m.testBit 19 = false := by decide) : t.test = s.test :=
  h.test.resolve_left (by simp [b])
theorem Only.tokens_eq {s t : State} (h : Only m s t) (b : m.testBit 20 = false := by decide) : t.tokens = s.tokens :=
  h.tokens.resolve_left (by simp [b])
theorem Only.free_eq {s t : State} (h : Only m s t) (b : m.testBit 21 = false := by decide) : t.free = s.free :=
  h.free.resolve_left (by simp [b])
theorem Only.outbox_eq {s t : State} (h : Only m s t) (b : m.testBit 22 = false := by decide) : t.outbox = s.outbox :=
  h.outbox.resolve_left (by simp [b])
theorem Only.pending_eq {s t : State} (h : Only m s t) (b : m.testBit 23 = false := by decide) : t.pending = s.pending :=
  h.pending.resolve_left (by simp [b])
theorem Only.frame_eq {s t : State} (h : Only m s t) (b : m.testBit 24 = false := by decide) : t.time.frame = s.time.frame :=
  h.frame.resolve_left (by simp [b])
theorem Only.state_eq {s t : State} (h : Only m s t) (b : m.testBit 25 = false := by decide) : SameBlock s t :=
  h.state.resolve_left (by simp [b])

/-- A change of fields that neither the frame count, the block, the trace, the free values nor a table lies in. -/
theorem Only.raw {t : State} (m : Nat) (time : m.testBit 0 = true ∨ t.time = s.time) (block : m.testBit 1 = true ∨ t.block = s.block) (mgmt : m.testBit 2 = true ∨ t.mgmt = s.mgmt) (objs : m.testBit 3 = true ∨ t.objs = s.objs) (live : m.testBit 4 = true ∨ t.live = s.live) (live2 : m.testBit 5 = true ∨ t.live2 = s.live2) (regions : m.testBit 6 = true ∨ t.regions = s.regions) (dram : m.testBit 7 = true ∨ t.dram = s.dram) (reqs : m.testBit 8 = true ∨ t.reqs = s.reqs) (nextReq : m.testBit 9 = true ∨ t.nextReq = s.nextReq) (ports : m.testBit 10 = true ∨ t.ports = s.ports) (stackTab : m.testBit 11 = true ∨ t.stackTab = s.stackTab) (pcs : m.testBit 12 = true ∨ t.pcs = s.pcs) (loft : m.testBit 13 = true ∨ t.loft = s.loft) (shot : m.testBit 14 = true ∨ t.shot = s.shot) (entry : m.testBit 15 = true ∨ t.entry = s.entry) (packet : m.testBit 16 = true ∨ t.packet = s.packet) (seqNo : m.testBit 17 = true ∨ t.seqNo = s.seqNo) (keys : m.testBit 18 = true ∨ t.keys = s.keys) (test : m.testBit 19 = true ∨ t.test = s.test) (tokens : m.testBit 20 = true ∨ t.tokens = s.tokens) (free : m.testBit 21 = true ∨ t.free = s.free) (outbox : m.testBit 22 = true ∨ t.outbox = s.outbox) (pending : m.testBit 23 = true ∨ t.pending = s.pending)
    (e0 : t.time = s.time := by rfl) (e1 : t.block = s.block := by rfl) (e2 : t.outbox = s.outbox := by rfl)
    (e3 : t.free = s.free := by rfl) (e4 : t.dram = s.dram := by rfl) (e5 : t.pcs = s.pcs := by rfl)
    (e6 : t.ports = s.ports := by rfl) (e7 : t.stackTab = s.stackTab := by rfl) (e8 : t.tokens = s.tokens := by rfl)
    (e9 : t.objs = s.objs := by rfl) (e10 : t.live = s.live := by rfl) (e11 : t.live2 = s.live2 := by rfl) : Only m s t := by
  refine ⟨time, block, mgmt, objs, live, live2, regions, dram, reqs, nextReq, ports, stackTab, pcs, loft, shot, entry, packet, seqNo, keys, test, tokens, free, outbox, pending, .inr (by rw [e0]), .inr ⟨by rw [e1], by rw [e1], by rw [e1]⟩, by rw [e2],
    by rw [e3], fun c => ?_⟩
  obtain ⟨h1, h2, h3, h4, h5, h6, h7, h8⟩ := c
  exact ⟨e4 ▸ h1, e5 ▸ h2, e6 ▸ h3, e7 ▸ h4, e8 ▸ h5, e9 ▸ h6, e10 ▸ h7, e11 ▸ h8⟩

theorem ite_only {c : Prop} [Decidable c] {x y : State} (hx : Only m a x) (hy : Only m a y) : Only m a (if c then x else y) := by
  split <;> assumption

theorem pair_only {B : Type} {x : B} {y : State} (h : Only m a y) : Only m a ((x, y) : B × State).2 := h

theorem ite_only_snd {B : Type} {c : Prop} [Decidable c] {x y : B × State} (hx : Only m a x.2) (hy : Only m a y.2) :
    Only m a (if c then x else y).2 := by
  split <;> assumption

theorem snd_only {A : Type} {p : A × State} {x : A} {y : State} (e : p = (x, y)) (h : Only m a p.2) : Only m a y := by
  subst e; exact h

theorem fst_only {A : Type} {p : State × A} {x : A} {y : State} (e : p = (y, x)) (h : Only m a p.1) : Only m a y := by
  subst e; exact h

theorem foldl_only {A : Type} (f : State → A → State) (hf : ∀ t x, Only m a t → Only m a (f t x)) :
    ∀ (l : List A) {s : State}, Only m a s → Only m a (l.foldl f s)
  | [], _, h => h
  | _ :: l, _, h => foldl_only f hf l (hf _ _ h)

theorem foldl_only_snd {A B : Type} (f : B × State → A → B × State) (hf : ∀ p x, Only m a p.2 → Only m a (f p x).2) :
    ∀ (l : List A) {p : B × State}, Only m a p.2 → Only m a (l.foldl f p).2
  | [], _, h => h
  | _ :: l, _, h => foldl_only_snd f hf l (hf _ _ h)

theorem foldl_only_snd3 {A B C : Type} (f : B × C × State → A → B × C × State)
    (hf : ∀ p x, Only m a p.2.2 → Only m a (f p x).2.2) :
    ∀ (l : List A) {p : B × C × State}, Only m a p.2.2 → Only m a (l.foldl f p).2.2
  | [], _, h => h
  | _ :: l, _, h => foldl_only_snd3 f hf l (hf _ _ h)

theorem foldl_only_fst {A B : Type} (f : State × B → A → State × B) (hf : ∀ p x, Only m a p.1 → Only m a (f p x).1) :
    ∀ (l : List A) {p : State × B}, Only m a p.1 → Only m a (l.foldl f p).1
  | [], _, h => h
  | _ :: l, _, h => foldl_only_fst f hf l (hf _ _ h)

theorem each_only {A : Type} {f : State → A → State} (hf : ∀ t x, Only m a t → Only m a (f t x)) (l : List A)
    (h : Only m a s) : Only m a (s.each l f) := foldl_only f hf l h

theorem when_only {f : State → State} {c : Bool} (hf : ∀ t, Only m a t → Only m a (f t)) (h : Only m a s) :
    Only m a (s.when c f) := by
  unfold State.when; split
  · exact hf _ h
  · exact h

/-- The next state of an outcome, if it has one, differs from `a` only in parts of `m`. -/
structure Runs (m : Nat) (a : State) (o : Host.Outcome State Fault Refusal) : Prop where
  only : ∀ t, o = .next t → Only m a t

theorem runs_intro {t : State} (h : Only m a t) : Runs m a (.next t) :=
  ⟨fun u e => by cases e; exact h⟩

theorem runs_ite {c : Prop} [Decidable c] {x y : Host.Outcome State Fault Refusal} (hx : Runs m a x) (hy : Runs m a y) : Runs m a (if c then x else y) := by
  split <;> assumption

/-- The state answered, if one is, differs from `a` only in parts of `m`. -/
structure Gives (m : Nat) (a : State) (o : Option State) : Prop where
  only : ∀ t, o = some t → Only m a t

theorem gives_intro {t : State} (h : Only m a t) : Gives m a (some t) :=
  ⟨fun u e => by cases e; exact h⟩

theorem gives_ite {c : Prop} [Decidable c] {x y : Option State} (hx : Gives m a x) (hy : Gives m a y) : Gives m a (if c then x else y) := by
  split <;> assumption

theorem runs_fault {f : Fault} : Runs m a (.fault f) :=
  ⟨fun t e => by cases e⟩
theorem runs_refused {r : Refusal} : Runs m a (.refused r) :=
  ⟨fun t e => by cases e⟩
theorem gives_none : Gives m a none :=
  ⟨fun t e => by cases e⟩

theorem outState_only {o : Host.Outcome State Fault Refusal} (h : Only m a s) (ho : Runs m a o) : Only m a (outState s o) := by
  cases o with
  | next t => exact ho.only t rfl
  | fault r => exact h
  | refused r => exact h

theorem emit_only (h : Only m a s) (o : Output) (hm : Sub 4194304 m := by decide) : Only m a (s.emit o) :=
  h.step hm ⟨.inr rfl, .inr rfl, .inr rfl, .inr rfl, .inr rfl, .inr rfl, .inr rfl, .inr rfl, .inr rfl, .inr rfl, .inr rfl, .inr rfl, .inr rfl, .inr rfl, .inr rfl, .inr rfl, .inr rfl, .inr rfl, .inr rfl, .inr rfl, .inr rfl, .inr rfl, .inl rfl, .inr rfl, .inr rfl, .inr ⟨rfl, rfl, rfl⟩, List.prefix_append _ _, le_rfl, id⟩

theorem takeFree_only (h : Only m a s) (hm : Sub 2097152 m := by decide) : Only m a (s.takeFree.2) :=
  h.step hm ⟨.inr rfl, .inr rfl, .inr rfl, .inr rfl, .inr rfl, .inr rfl, .inr rfl, .inr rfl, .inr rfl, .inr rfl, .inr rfl, .inr rfl, .inr rfl, .inr rfl, .inr rfl, .inr rfl, .inr rfl, .inr rfl, .inr rfl, .inr rfl, .inr rfl, .inl rfl, .inr rfl, .inr rfl, .inr rfl, .inr ⟨rfl, rfl, rfl⟩, List.prefix_rfl, Nat.le_succ _, id⟩

theorem modPc_only (h : Only m a s) (p : Nat) (f : PcState → PcState) (hm : Sub 4096 m := by decide) : Only m a (s.modPc p f) :=
  h.step hm ⟨.inr rfl, .inr rfl, .inr rfl, .inr rfl, .inr rfl, .inr rfl, .inr rfl, .inr rfl, .inr rfl, .inr rfl, .inr rfl, .inr rfl, .inl rfl, .inr rfl, .inr rfl, .inr rfl, .inr rfl, .inr rfl, .inr rfl, .inr rfl, .inr rfl, .inr rfl, .inr rfl, .inr rfl, .inr rfl, .inr ⟨rfl, rfl, rfl⟩, List.prefix_rfl, le_rfl, fun c =>
    let ⟨h1, h2, h3⟩ := c; ⟨h1, Map.upd_wf p f _ h2, h3⟩⟩

theorem eachPc_only (h : Only m a s) (f : PcState → PcState) (hm : Sub 4096 m := by decide) : Only m a (s.eachPc f) :=
  h.step hm ⟨.inr rfl, .inr rfl, .inr rfl, .inr rfl, .inr rfl, .inr rfl, .inr rfl, .inr rfl, .inr rfl, .inr rfl, .inr rfl, .inr rfl, .inl rfl, .inr rfl, .inr rfl, .inr rfl, .inr rfl, .inr rfl, .inr rfl, .inr rfl, .inr rfl, .inr rfl, .inr rfl, .inr rfl, .inr rfl, .inr ⟨rfl, rfl, rfl⟩, List.prefix_rfl, le_rfl, fun c =>
    let ⟨h1, h2, h3⟩ := c; ⟨h1, Map.vals_wf f _ h2, h3⟩⟩

theorem modPort_only (h : Only m a s) (p : Nat) (f : PortState → PortState) (hm : Sub 1024 m := by decide) : Only m a (s.modPort p f) :=
  h.step hm ⟨.inr rfl, .inr rfl, .inr rfl, .inr rfl, .inr rfl, .inr rfl, .inr rfl, .inr rfl, .inr rfl, .inr rfl, .inl rfl, .inr rfl, .inr rfl, .inr rfl, .inr rfl, .inr rfl, .inr rfl, .inr rfl, .inr rfl, .inr rfl, .inr rfl, .inr rfl, .inr rfl, .inr rfl, .inr rfl, .inr ⟨rfl, rfl, rfl⟩, List.prefix_rfl, le_rfl, fun c =>
    let ⟨h1, h2, h3, h4⟩ := c; ⟨h1, h2, Map.upd_wf p f _ h3, h4⟩⟩

theorem modStack_only (h : Only m a s) (p : Nat) (f : StackState → StackState) (hm : Sub 2048 m := by decide) : Only m a (s.modStack p f) :=
  h.step hm ⟨.inr rfl, .inr rfl, .inr rfl, .inr rfl, .inr rfl, .inr rfl, .inr rfl, .inr rfl, .inr rfl, .inr rfl, .inr rfl, .inl rfl, .inr rfl, .inr rfl, .inr rfl, .inr rfl, .inr rfl, .inr rfl, .inr rfl, .inr rfl, .inr rfl, .inr rfl, .inr rfl, .inr rfl, .inr rfl, .inr ⟨rfl, rfl, rfl⟩, List.prefix_rfl, le_rfl, fun c =>
    let ⟨h1, h2, h3, h4, h5⟩ := c; ⟨h1, h2, h3, Map.upd_wf p f _ h4, h5⟩⟩

theorem dramPut_only (h : Only m a s) (p : Nat) (v : StoredSector) (hm : Sub 128 m := by decide) : Only m a (s.dramPut p v) :=
  h.step hm ⟨.inr rfl, .inr rfl, .inr rfl, .inr rfl, .inr rfl, .inr rfl, .inr rfl, .inl rfl, .inr rfl, .inr rfl, .inr rfl, .inr rfl, .inr rfl, .inr rfl, .inr rfl, .inr rfl, .inr rfl, .inr rfl, .inr rfl, .inr rfl, .inr rfl, .inr rfl, .inr rfl, .inr rfl, .inr rfl, .inr ⟨rfl, rfl, rfl⟩, List.prefix_rfl, le_rfl, fun c =>
    let ⟨h1, h2⟩ := c; ⟨Map.put_wf (dflt := fillSector) v p _ h1, h2⟩⟩

theorem dramFilter_only (h : Only m a s) (q : Nat × StoredSector → Bool) (hm : Sub 128 m := by decide) : Only m a ({ s with dram := s.dram.filter q }) :=
  h.step hm ⟨.inr rfl, .inr rfl, .inr rfl, .inr rfl, .inr rfl, .inr rfl, .inr rfl, .inl rfl, .inr rfl, .inr rfl, .inr rfl, .inr rfl, .inr rfl, .inr rfl, .inr rfl, .inr rfl, .inr rfl, .inr rfl, .inr rfl, .inr rfl, .inr rfl, .inr rfl, .inr rfl, .inr rfl, .inr rfl, .inr ⟨rfl, rfl, rfl⟩, List.prefix_rfl, le_rfl, fun c =>
    let ⟨h1, h2⟩ := c; ⟨Map.filter_wf (dflt := fillSector) q _ h1, h2⟩⟩

theorem setObj_only (h : Only m a s) (ix sub el v : Nat) (hm : Sub 8 m := by decide) : Only m a (s.setObj ix sub el v) :=
  h.step hm ⟨.inr rfl, .inr rfl, .inr rfl, .inl rfl, .inr rfl, .inr rfl, .inr rfl, .inr rfl, .inr rfl, .inr rfl, .inr rfl, .inr rfl, .inr rfl, .inr rfl, .inr rfl, .inr rfl, .inr rfl, .inr rfl, .inr rfl, .inr rfl, .inr rfl, .inr rfl, .inr rfl, .inr rfl, .inr rfl, .inr ⟨rfl, rfl, rfl⟩, List.prefix_rfl, le_rfl, fun c =>
    let ⟨h1, h2, h3, h4, h5, h6, h7⟩ := c; ⟨h1, h2, h3, h4, h5, Map.put_rising h6, h7⟩⟩

theorem setNow_only (h : Only m a s) (ix sub el v : Nat) (hm : Sub 24 m := by decide) : Only m a (s.setNow ix sub el v) :=
  h.step hm ⟨.inr rfl, .inr rfl, .inr rfl, .inl rfl, .inl rfl, .inr rfl, .inr rfl, .inr rfl, .inr rfl, .inr rfl, .inr rfl, .inr rfl, .inr rfl, .inr rfl, .inr rfl, .inr rfl, .inr rfl, .inr rfl, .inr rfl, .inr rfl, .inr rfl, .inr rfl, .inr rfl, .inr rfl, .inr rfl, .inr ⟨rfl, rfl, rfl⟩, List.prefix_rfl, le_rfl, fun c =>
    let ⟨h1, h2, h3, h4, h5, h6, h7, h8⟩ := c
    ⟨h1, h2, h3, h4, h5, Map.put_rising h6, Map.put_rising h7, h8⟩⟩

theorem clearHistogram_only (h : Only m a s) (p : Nat) (hm : Sub 8 m := by decide) : Only m a (s.clearHistogram p) :=
  h.step hm ⟨.inr rfl, .inr rfl, .inr rfl, .inl rfl, .inr rfl, .inr rfl, .inr rfl, .inr rfl, .inr rfl, .inr rfl, .inr rfl, .inr rfl, .inr rfl, .inr rfl, .inr rfl, .inr rfl, .inr rfl, .inr rfl, .inr rfl, .inr rfl, .inr rfl, .inr rfl, .inr rfl, .inr rfl, .inr rfl, .inr ⟨rfl, rfl, rfl⟩, List.prefix_rfl, le_rfl, fun c =>
    let ⟨h1, h2, h3, h4, h5, h6, h7⟩ := c; ⟨h1, h2, h3, h4, h5, Map.filter_rising _ h6, h7⟩⟩

theorem tokens_only (h : Only m a s) (x : Map Nat)
    (hx : Map.wf (fun _ => (0 : Nat)) s.tokens = true → Map.wf (fun _ => (0 : Nat)) x = true) (hm : Sub 1048576 m := by decide) :
    Only m a { s with tokens := x } :=
  h.step hm ⟨.inr rfl, .inr rfl, .inr rfl, .inr rfl, .inr rfl, .inr rfl, .inr rfl, .inr rfl, .inr rfl, .inr rfl, .inr rfl, .inr rfl, .inr rfl, .inr rfl, .inr rfl, .inr rfl, .inr rfl, .inr rfl, .inr rfl, .inr rfl, .inl rfl, .inr rfl, .inr rfl, .inr rfl, .inr rfl, .inr ⟨rfl, rfl, rfl⟩, List.prefix_rfl, le_rfl, fun c =>
    let ⟨h1, h2, h3, h4, h5, h6⟩ := c; ⟨h1, h2, h3, h4, hx h5, h6⟩⟩

theorem modTime_only (h : Only m a s) (f : TimeState → TimeState) (hf : ∀ t, (f t).frame = t.frame) (hm : Sub 1 m := by decide) : Only m a (s.modTime f) :=
  h.step hm ⟨.inl rfl, .inr rfl, .inr rfl, .inr rfl, .inr rfl, .inr rfl, .inr rfl, .inr rfl, .inr rfl, .inr rfl, .inr rfl, .inr rfl, .inr rfl, .inr rfl, .inr rfl, .inr rfl, .inr rfl, .inr rfl, .inr rfl, .inr rfl, .inr rfl, .inr rfl, .inr rfl, .inr rfl, .inr (hf _), .inr ⟨rfl, rfl, rfl⟩, List.prefix_rfl, le_rfl, id⟩

theorem modBlock_only (h : Only m a s) (f : BlockState → BlockState)
    (hf : ∀ b, (f b).state = b.state ∧ (f b).boot = b.boot ∧ (f b).request = b.request) (hm : Sub 2 m := by decide) : Only m a (s.modBlock f) :=
  h.step hm ⟨.inr rfl, .inl rfl, .inr rfl, .inr rfl, .inr rfl, .inr rfl, .inr rfl, .inr rfl, .inr rfl, .inr rfl, .inr rfl, .inr rfl, .inr rfl, .inr rfl, .inr rfl, .inr rfl, .inr rfl, .inr rfl, .inr rfl, .inr rfl, .inr rfl, .inr rfl, .inr rfl, .inr rfl, .inr rfl, .inr (hf _), List.prefix_rfl, le_rfl, id⟩

theorem modMgmt_only (h : Only m a s) (f : MgmtState → MgmtState) (hm : Sub 4 m := by decide) : Only m a (s.modMgmt f) :=
  h.step hm ⟨.inr rfl, .inr rfl, .inl rfl, .inr rfl, .inr rfl, .inr rfl, .inr rfl, .inr rfl, .inr rfl, .inr rfl, .inr rfl, .inr rfl, .inr rfl, .inr rfl, .inr rfl, .inr rfl, .inr rfl, .inr rfl, .inr rfl, .inr rfl, .inr rfl, .inr rfl, .inr rfl, .inr rfl, .inr rfl, .inr ⟨rfl, rfl, rfl⟩, List.prefix_rfl, le_rfl, id⟩

theorem modLoft_only (h : Only m a s) (f : LoftState → LoftState) (hm : Sub 8192 m := by decide) : Only m a (s.modLoft f) :=
  h.step hm ⟨.inr rfl, .inr rfl, .inr rfl, .inr rfl, .inr rfl, .inr rfl, .inr rfl, .inr rfl, .inr rfl, .inr rfl, .inr rfl, .inr rfl, .inr rfl, .inl rfl, .inr rfl, .inr rfl, .inr rfl, .inr rfl, .inr rfl, .inr rfl, .inr rfl, .inr rfl, .inr rfl, .inr rfl, .inr rfl, .inr ⟨rfl, rfl, rfl⟩, List.prefix_rfl, le_rfl, id⟩

theorem modShotS_only (h : Only m a s) (f : ShotState → ShotState) (hm : Sub 16384 m := by decide) : Only m a (s.modShotS f) :=
  h.step hm ⟨.inr rfl, .inr rfl, .inr rfl, .inr rfl, .inr rfl, .inr rfl, .inr rfl, .inr rfl, .inr rfl, .inr rfl, .inr rfl, .inr rfl, .inr rfl, .inr rfl, .inl rfl, .inr rfl, .inr rfl, .inr rfl, .inr rfl, .inr rfl, .inr rfl, .inr rfl, .inr rfl, .inr rfl, .inr rfl, .inr ⟨rfl, rfl, rfl⟩, List.prefix_rfl, le_rfl, id⟩

theorem modEntry_only (h : Only m a s) (f : EntryState → EntryState) (hm : Sub 32768 m := by decide) : Only m a (s.modEntry f) :=
  h.step hm ⟨.inr rfl, .inr rfl, .inr rfl, .inr rfl, .inr rfl, .inr rfl, .inr rfl, .inr rfl, .inr rfl, .inr rfl, .inr rfl, .inr rfl, .inr rfl, .inr rfl, .inr rfl, .inl rfl, .inr rfl, .inr rfl, .inr rfl, .inr rfl, .inr rfl, .inr rfl, .inr rfl, .inr rfl, .inr rfl, .inr ⟨rfl, rfl, rfl⟩, List.prefix_rfl, le_rfl, id⟩

theorem modPacket_only (h : Only m a s) (f : PacketState → PacketState) (hm : Sub 65536 m := by decide) : Only m a (s.modPacket f) :=
  h.step hm ⟨.inr rfl, .inr rfl, .inr rfl, .inr rfl, .inr rfl, .inr rfl, .inr rfl, .inr rfl, .inr rfl, .inr rfl, .inr rfl, .inr rfl, .inr rfl, .inr rfl, .inr rfl, .inr rfl, .inl rfl, .inr rfl, .inr rfl, .inr rfl, .inr rfl, .inr rfl, .inr rfl, .inr rfl, .inr rfl, .inr ⟨rfl, rfl, rfl⟩, List.prefix_rfl, le_rfl, id⟩

theorem modKeys_only (h : Only m a s) (f : KeyState → KeyState) (hm : Sub 262144 m := by decide) : Only m a (s.modKeys f) :=
  h.step hm ⟨.inr rfl, .inr rfl, .inr rfl, .inr rfl, .inr rfl, .inr rfl, .inr rfl, .inr rfl, .inr rfl, .inr rfl, .inr rfl, .inr rfl, .inr rfl, .inr rfl, .inr rfl, .inr rfl, .inr rfl, .inr rfl, .inl rfl, .inr rfl, .inr rfl, .inr rfl, .inr rfl, .inr rfl, .inr rfl, .inr ⟨rfl, rfl, rfl⟩, List.prefix_rfl, le_rfl, id⟩

theorem modTest_only (h : Only m a s) (f : TestState → TestState) (hm : Sub 524288 m := by decide) : Only m a (s.modTest f) :=
  h.step hm ⟨.inr rfl, .inr rfl, .inr rfl, .inr rfl, .inr rfl, .inr rfl, .inr rfl, .inr rfl, .inr rfl, .inr rfl, .inr rfl, .inr rfl, .inr rfl, .inr rfl, .inr rfl, .inr rfl, .inr rfl, .inr rfl, .inr rfl, .inl rfl, .inr rfl, .inr rfl, .inr rfl, .inr rfl, .inr rfl, .inr ⟨rfl, rfl, rfl⟩, List.prefix_rfl, le_rfl, id⟩

theorem modRegions_only (h : Only m a s) (f : RegionState → RegionState) (hm : Sub 64 m := by decide) : Only m a (s.modRegions f) :=
  h.step hm ⟨.inr rfl, .inr rfl, .inr rfl, .inr rfl, .inr rfl, .inr rfl, .inl rfl, .inr rfl, .inr rfl, .inr rfl, .inr rfl, .inr rfl, .inr rfl, .inr rfl, .inr rfl, .inr rfl, .inr rfl, .inr rfl, .inr rfl, .inr rfl, .inr rfl, .inr rfl, .inr rfl, .inr rfl, .inr rfl, .inr ⟨rfl, rfl, rfl⟩, List.prefix_rfl, le_rfl, id⟩

/-- A change of the time of day's state with the frame count. -/
theorem modTime_frames (h : Only m a s) (f : TimeState → TimeState) (hm : Sub 16777217 m := by decide) : Only m a (s.modTime f) :=
  h.step hm ⟨.inl rfl, .inr rfl, .inr rfl, .inr rfl, .inr rfl, .inr rfl, .inr rfl, .inr rfl, .inr rfl, .inr rfl, .inr rfl, .inr rfl, .inr rfl, .inr rfl, .inr rfl, .inr rfl, .inr rfl, .inr rfl, .inr rfl, .inr rfl, .inr rfl, .inr rfl, .inr rfl, .inr rfl, .inl rfl, .inr ⟨rfl, rfl, rfl⟩, List.prefix_rfl, le_rfl, id⟩

/-- A change of the block's state. -/
theorem modBlock_states (h : Only m a s) (f : BlockState → BlockState) (hm : Sub 33554434 m := by decide) : Only m a (s.modBlock f) :=
  h.step hm ⟨.inr rfl, .inl rfl, .inr rfl, .inr rfl, .inr rfl, .inr rfl, .inr rfl, .inr rfl, .inr rfl, .inr rfl, .inr rfl, .inr rfl, .inr rfl, .inr rfl, .inr rfl, .inr rfl, .inr rfl, .inr rfl, .inr rfl, .inr rfl, .inr rfl, .inr rfl, .inr rfl, .inr rfl, .inr rfl, .inl rfl, List.prefix_rfl, le_rfl, id⟩

theorem upd256_only (h : Only m a s) (x_reqs) (hm : Sub 256 m := by decide) :
    Only m a { s with reqs := x_reqs } :=
  h.step hm (Only.raw 256 (.inr rfl) (.inr rfl) (.inr rfl) (.inr rfl) (.inr rfl) (.inr rfl) (.inr rfl) (.inr rfl) (.inl rfl) (.inr rfl) (.inr rfl) (.inr rfl) (.inr rfl) (.inr rfl) (.inr rfl) (.inr rfl) (.inr rfl) (.inr rfl) (.inr rfl) (.inr rfl) (.inr rfl) (.inr rfl) (.inr rfl) (.inr rfl))

theorem upd768_only (h : Only m a s) (x_reqs x_nextReq) (hm : Sub 768 m := by decide) :
    Only m a { s with reqs := x_reqs, nextReq := x_nextReq } :=
  h.step hm (Only.raw 768 (.inr rfl) (.inr rfl) (.inr rfl) (.inr rfl) (.inr rfl) (.inr rfl) (.inr rfl) (.inr rfl) (.inl rfl) (.inl rfl) (.inr rfl) (.inr rfl) (.inr rfl) (.inr rfl) (.inr rfl) (.inr rfl) (.inr rfl) (.inr rfl) (.inr rfl) (.inr rfl) (.inr rfl) (.inr rfl) (.inr rfl) (.inr rfl))

theorem upd8448_only (h : Only m a s) (x_reqs x_loft) (hm : Sub 8448 m := by decide) :
    Only m a { s with reqs := x_reqs, loft := x_loft } :=
  h.step hm (Only.raw 8448 (.inr rfl) (.inr rfl) (.inr rfl) (.inr rfl) (.inr rfl) (.inr rfl) (.inr rfl) (.inr rfl) (.inl rfl) (.inr rfl) (.inr rfl) (.inr rfl) (.inr rfl) (.inl rfl) (.inr rfl) (.inr rfl) (.inr rfl) (.inr rfl) (.inr rfl) (.inr rfl) (.inr rfl) (.inr rfl) (.inr rfl) (.inr rfl))

theorem upd33024_only (h : Only m a s) (x_reqs x_entry) (hm : Sub 33024 m := by decide) :
    Only m a { s with reqs := x_reqs, entry := x_entry } :=
  h.step hm (Only.raw 33024 (.inr rfl) (.inr rfl) (.inr rfl) (.inr rfl) (.inr rfl) (.inr rfl) (.inr rfl) (.inr rfl) (.inl rfl) (.inr rfl) (.inr rfl) (.inr rfl) (.inr rfl) (.inr rfl) (.inr rfl) (.inl rfl) (.inr rfl) (.inr rfl) (.inr rfl) (.inr rfl) (.inr rfl) (.inr rfl) (.inr rfl) (.inr rfl))

theorem upd65792_only (h : Only m a s) (x_reqs x_packet) (hm : Sub 65792 m := by decide) :
    Only m a { s with reqs := x_reqs, packet := x_packet } :=
  h.step hm (Only.raw 65792 (.inr rfl) (.inr rfl) (.inr rfl) (.inr rfl) (.inr rfl) (.inr rfl) (.inr rfl) (.inr rfl) (.inl rfl) (.inr rfl) (.inr rfl) (.inr rfl) (.inr rfl) (.inr rfl) (.inr rfl) (.inr rfl) (.inl rfl) (.inr rfl) (.inr rfl) (.inr rfl) (.inr rfl) (.inr rfl) (.inr rfl) (.inr rfl))

theorem upd131072_only (h : Only m a s) (x_seqNo) (hm : Sub 131072 m := by decide) :
    Only m a { s with seqNo := x_seqNo } :=
  h.step hm (Only.raw 131072 (.inr rfl) (.inr rfl) (.inr rfl) (.inr rfl) (.inr rfl) (.inr rfl) (.inr rfl) (.inr rfl) (.inr rfl) (.inr rfl) (.inr rfl) (.inr rfl) (.inr rfl) (.inr rfl) (.inr rfl) (.inr rfl) (.inr rfl) (.inl rfl) (.inr rfl) (.inr rfl) (.inr rfl) (.inr rfl) (.inr rfl) (.inr rfl))

end Sys2Proof.Laws
end

