-- ==== Sys2Proof/Laws/Only1.lean ====
section
/-! SUPPORT. Only1.lean: everything each shared operation and command can do to the parts of the state, operations before
those that use them (1 of 6). -/

-- theorems one after another: many at once would ask for too many threads
set_option Elab.async false

namespace Sys2Proof.Laws

open Sys2Proof.Machine Sys2Proof.Safety

set_option linter.unreachableTactic false
set_option linter.unusedTactic false

variable {a s : State} {m : Nat}

theorem bump_only (h : Only m a s) : ∀ x1 x2 x3 x4, (hm : Sub 8 m := by decide) → Only m a (State.bump s x1 x2 x3 x4) := by
  intro x1 x2 x3 x4 hm
  refine h.step hm ?_
  replace h : Only 8 s s := .refl s
  unfold State.bump
  try dsimp only
  repeat' (first | with_reducible assumption | decide | intro _ | with_reducible refine setObj_only ?_ _ _ _ _ ?_
                 | with_reducible apply ite_only | with_reducible apply foldl_only
                 | with_reducible apply foldl_only_snd | refine snd_only ‹_ = _› ?_ | refine fst_only ‹_ = _› ?_
                 | split)

theorem declareFailed_only (h : Only m a s) : ∀ x1 x2, (hm : Sub 8192 m := by decide) → Only m a (State.declareFailed s x1 x2) := by
  intro x1 x2 hm
  refine h.step hm ?_
  replace h : Only 8192 s s := .refl s
  unfold State.declareFailed
  try dsimp only
  repeat' (first | with_reducible assumption | decide | intro _ | with_reducible refine modLoft_only ?_ _ ?_
                 | with_reducible apply ite_only | with_reducible apply foldl_only
                 | with_reducible apply foldl_only_snd | refine snd_only ‹_ = _› ?_ | refine fst_only ‹_ = _› ?_
                 | split)

theorem hardWord_only (h : Only m a s) : ∀ x1 x2, (hm : Sub 8192 m := by decide) → Only m a (State.hardWord s x1 x2) := by
  intro x1 x2 hm
  refine h.step hm ?_
  replace h : Only 8192 s s := .refl s
  unfold State.hardWord
  try dsimp only
  repeat' (first | with_reducible assumption | decide | intro _ | with_reducible refine declareFailed_only ?_ _ _ ?_
                 | with_reducible refine modLoft_only ?_ _ ?_ | with_reducible apply ite_only
                 | with_reducible apply foldl_only | with_reducible apply foldl_only_snd | refine snd_only ‹_ = _› ?_
                 | refine fst_only ‹_ = _› ?_ | split)

theorem modLine_only (h : Only m a s) : ∀ x1 x2, (hm : Sub 8192 m := by decide) → Only m a (State.modLine s x1 x2) := by
  intro x1 x2 hm
  refine h.step hm ?_
  replace h : Only 8192 s s := .refl s
  unfold State.modLine
  try dsimp only
  repeat' (first | with_reducible assumption | decide | intro _ | with_reducible refine modLoft_only ?_ _ ?_
                 | with_reducible apply ite_only | with_reducible apply foldl_only
                 | with_reducible apply foldl_only_snd | refine snd_only ‹_ = _› ?_ | refine fst_only ‹_ = _› ?_
                 | split)

theorem count_only (h : Only m a s) : ∀ x1 x2, (hm : Sub 8 m := by decide) → Only m a (State.count s x1 x2) := by
  intro x1 x2 hm
  refine h.step hm ?_
  replace h : Only 8 s s := .refl s
  unfold State.count
  try dsimp only
  repeat' (first | with_reducible assumption | decide | intro _ | with_reducible refine bump_only ?_ _ _ _ _ ?_
                 | with_reducible apply ite_only | with_reducible apply foldl_only
                 | with_reducible apply foldl_only_snd | refine snd_only ‹_ = _› ?_ | refine fst_only ‹_ = _› ?_
                 | split)

theorem callStack_only (h : Only m a s) : ∀ x1, (hm : Sub 2048 m := by decide) → Only m a (State.callStack s x1) := by
  intro x1 hm
  refine h.step hm ?_
  replace h : Only 2048 s s := .refl s
  unfold State.callStack
  try dsimp only
  repeat' (first | with_reducible assumption | decide | intro _ | with_reducible refine modStack_only ?_ _ _ ?_
                 | with_reducible apply ite_only | with_reducible apply foldl_only
                 | with_reducible apply foldl_only_snd | refine snd_only ‹_ = _› ?_ | refine fst_only ‹_ = _› ?_
                 | split)

theorem raiseWbs_only (h : Only m a s) : ∀ x1, (hm : Sub 8448 m := by decide) → Only m a (State.raiseWbs s x1) := by
  intro x1 hm
  refine h.step hm ?_
  replace h : Only 8448 s s := .refl s
  unfold State.raiseWbs
  try dsimp only
  repeat' (first | with_reducible assumption | decide | intro _ | with_reducible apply ite_only
                 | with_reducible apply foldl_only | with_reducible apply foldl_only_snd | refine snd_only ‹_ = _› ?_
                 | refine fst_only ‹_ = _› ?_ | fail_if_no_progress (with_reducible refine upd8448_only ?_ _ _ ?_)
                 | split)

theorem fetch_only (h : Only m a s) : ∀ x1 x2 x3, (hm : Sub 11008 m := by decide) → Only m a (State.fetch s x1 x2 x3) := by
  intro x1 x2 x3 hm
  refine h.step hm ?_
  replace h : Only 11008 s s := .refl s
  unfold State.fetch
  try dsimp only
  repeat' (first | with_reducible assumption | decide | intro _ | with_reducible apply each_only
                 | with_reducible refine callStack_only ?_ _ ?_ | with_reducible refine raiseWbs_only ?_ _ ?_
                 | with_reducible refine modLine_only ?_ _ _ ?_ | with_reducible apply ite_only
                 | with_reducible apply foldl_only | with_reducible apply foldl_only_snd | refine snd_only ‹_ = _› ?_
                 | refine fst_only ‹_ = _› ?_ | fail_if_no_progress (with_reducible refine upd768_only ?_ _ _ ?_)
                 | split)

theorem modShot_only (h : Only m a s) : ∀ x1 x2, (hm : Sub 16384 m := by decide) → Only m a (State.modShot s x1 x2) := by
  intro x1 x2 hm
  refine h.step hm ?_
  replace h : Only 16384 s s := .refl s
  unfold State.modShot
  try dsimp only
  repeat' (first | with_reducible assumption | decide | intro _ | with_reducible refine modShotS_only ?_ _ ?_
                 | with_reducible apply ite_only | with_reducible apply foldl_only
                 | with_reducible apply foldl_only_snd | refine snd_only ‹_ = _› ?_ | refine fst_only ‹_ = _› ?_
                 | split)

theorem askAbort_only (h : Only m a s) : ∀ x1 x2 x3, (hm : Sub 16384 m := by decide) → Only m a (State.askAbort s x1 x2 x3) := by
  intro x1 x2 x3 hm
  refine h.step hm ?_
  replace h : Only 16384 s s := .refl s
  unfold State.askAbort
  try dsimp only
  repeat' (first | with_reducible assumption | decide | intro _ | with_reducible refine modShot_only ?_ _ _ ?_
                 | with_reducible apply ite_only | with_reducible apply foldl_only
                 | with_reducible apply foldl_only_snd | refine snd_only ‹_ = _› ?_ | refine fst_only ‹_ = _› ?_
                 | split)

theorem damageSet_only (h : Only m a s) : ∀ x1 x2, (hm : Sub 16384 m := by decide) → Only m a (State.damageSet s x1 x2) := by
  intro x1 x2 hm
  refine h.step hm ?_
  replace h : Only 16384 s s := .refl s
  unfold State.damageSet
  try dsimp only
  repeat' (first | with_reducible assumption | decide | intro _ | with_reducible refine modShotS_only ?_ _ ?_
                 | with_reducible apply each_only | with_reducible refine askAbort_only ?_ _ _ _ ?_
                 | with_reducible apply ite_only | with_reducible apply foldl_only
                 | with_reducible apply foldl_only_snd | refine snd_only ‹_ = _› ?_ | refine fst_only ‹_ = _› ?_
                 | split)

theorem wordLost_only (h : Only m a s) : ∀ x1 x2, (hm : Sub 27400 m := by decide) → Only m a (State.wordLost s x1 x2) := by
  intro x1 x2 hm
  refine h.step hm ?_
  replace h : Only 27400 s s := .refl s
  unfold State.wordLost
  try dsimp only
  repeat' (first | with_reducible assumption | decide | intro _ | with_reducible refine modLine_only ?_ _ _ ?_
                 | with_reducible refine count_only ?_ _ _ ?_ | with_reducible refine fetch_only ?_ _ _ _ ?_
                 | with_reducible refine modLoft_only ?_ _ ?_ | with_reducible refine askAbort_only ?_ _ _ _ ?_
                 | with_reducible refine damageSet_only ?_ _ _ ?_ | with_reducible apply ite_only
                 | with_reducible apply foldl_only | with_reducible apply foldl_only_snd | refine snd_only ‹_ = _› ?_
                 | refine fst_only ‹_ = _› ?_ | split)

theorem countLost_only (h : Only m a s) : ∀ x1, (hm : Sub 8200 m := by decide) → Only m a (State.countLost s x1) := by
  intro x1 hm
  refine h.step hm ?_
  replace h : Only 8200 s s := .refl s
  unfold State.countLost
  try dsimp only
  repeat' (first | with_reducible assumption | decide | intro _ | with_reducible refine modLoft_only ?_ _ ?_
                 | with_reducible refine bump_only ?_ _ _ _ _ ?_ | with_reducible refine declareFailed_only ?_ _ _ ?_
                 | with_reducible apply ite_only | with_reducible apply foldl_only
                 | with_reducible apply foldl_only_snd | refine snd_only ‹_ = _› ?_ | refine fst_only ‹_ = _› ?_
                 | split)

theorem meetWord_only (h : Only m a s) : ∀ x1 x2 x3, (hm : Sub 27400 m := by decide) → Only m a (State.meetWord s x1 x2 x3) := by
  intro x1 x2 x3 hm
  refine h.step hm ?_
  replace h : Only 27400 s s := .refl s
  unfold State.meetWord
  try dsimp only
  repeat' (first | with_reducible assumption | decide | intro _ | with_reducible refine bump_only ?_ _ _ _ _ ?_
                 | with_reducible refine hardWord_only ?_ _ _ ?_ | with_reducible refine modLoft_only ?_ _ ?_
                 | with_reducible refine wordLost_only ?_ _ _ ?_ | with_reducible refine countLost_only ?_ _ ?_
                 | with_reducible refine declareFailed_only ?_ _ _ ?_ | with_reducible apply ite_only
                 | with_reducible apply foldl_only | with_reducible apply foldl_only_snd | refine snd_only ‹_ = _› ?_
                 | refine fst_only ‹_ = _› ?_ | split)

theorem meetFound_only (h : Only m a s) : ∀ x1 x2 x3, (hm : Sub 27400 m := by decide) → Only m a (State.meetFound s x1 x2 x3) := by
  intro x1 x2 x3 hm
  refine h.step hm ?_
  replace h : Only 27400 s s := .refl s
  unfold State.meetFound
  try dsimp only
  repeat' (first | with_reducible assumption | decide | intro _ | with_reducible apply each_only
                 | with_reducible refine meetWord_only ?_ _ _ _ ?_ | with_reducible apply ite_only
                 | with_reducible apply foldl_only | with_reducible apply foldl_only_snd | refine snd_only ‹_ = _› ?_
                 | refine fst_only ‹_ = _› ?_ | split)

theorem modReq_only (h : Only m a s) : ∀ x1 x2, (hm : Sub 256 m := by decide) → Only m a (State.modReq s x1 x2) := by
  intro x1 x2 hm
  refine h.step hm ?_
  replace h : Only 256 s s := .refl s
  unfold State.modReq
  try dsimp only
  repeat' (first | with_reducible assumption | decide | intro _ | with_reducible apply ite_only
                 | with_reducible apply foldl_only | with_reducible apply foldl_only_snd | refine snd_only ‹_ = _› ?_
                 | refine fst_only ‹_ = _› ?_ | fail_if_no_progress (with_reducible refine upd256_only ?_ _ ?_)
                 | split)

theorem answerRead_only (h : Only m a s) : ∀ x1 x2, (hm : Sub 131328 m := by decide) → Only m a (State.answerRead s x1 x2) := by
  intro x1 x2 hm
  refine h.step hm ?_
  replace h : Only 131328 s s := .refl s
  unfold State.answerRead
  try dsimp only
  repeat' (first | with_reducible assumption | decide | intro _ | with_reducible refine modReq_only ?_ _ _ ?_
                 | with_reducible apply ite_only | with_reducible apply foldl_only
                 | with_reducible apply foldl_only_snd | refine snd_only ‹_ = _› ?_ | refine fst_only ‹_ = _› ?_
                 | fail_if_no_progress (with_reducible refine upd131072_only ?_ _ ?_) | split)

theorem capStep_only (h : Only m a s) : (hm : Sub 8 m := by decide) → Only m a (State.capStep s) := by
  intro hm
  refine h.step hm ?_
  replace h : Only 8 s s := .refl s
  unfold State.capStep
  try dsimp only
  repeat' (first | with_reducible assumption | decide | intro _ | with_reducible refine count_only ?_ _ _ ?_
                 | with_reducible refine setObj_only ?_ _ _ _ _ ?_ | with_reducible apply ite_only
                 | with_reducible apply foldl_only | with_reducible apply foldl_only_snd | refine snd_only ‹_ = _› ?_
                 | refine fst_only ‹_ = _› ?_ | split)

theorem capAdvance_only (h : Only m a s) : (hm : Sub 8 m := by decide) → Only m a (State.capAdvance s) := by
  intro hm
  refine h.step hm ?_
  replace h : Only 8 s s := .refl s
  unfold State.capAdvance
  try dsimp only
  repeat' (first | with_reducible assumption | decide | intro _ | with_reducible apply each_only
                 | with_reducible refine capStep_only ?_ ?_ | with_reducible apply ite_only
                 | with_reducible apply foldl_only | with_reducible apply foldl_only_snd | refine snd_only ‹_ = _› ?_
                 | refine fst_only ‹_ = _› ?_ | split)

theorem countOn_only (h : Only m a s) : ∀ x1 x2 x3 x4 x5 x6, (hm : Sub 524296 m := by decide) → Only m a (State.countOn s x1 x2 x3 x4 x5 x6) := by
  intro x1 x2 x3 x4 x5 x6 hm
  refine h.step hm ?_
  replace h : Only 524296 s s := .refl s
  unfold State.countOn
  try dsimp only
  repeat' (first | with_reducible assumption | decide | intro _ | with_reducible refine setObj_only ?_ _ _ _ _ ?_
                 | with_reducible refine modTest_only ?_ _ ?_ | with_reducible apply ite_only
                 | with_reducible apply foldl_only | with_reducible apply foldl_only_snd | refine snd_only ‹_ = _› ?_
                 | refine fst_only ‹_ = _› ?_ | split)

theorem tallyBlock_only (h : Only m a s) : ∀ x1 x2 x3, (hm : Sub 524296 m := by decide) → Only m a (State.tallyBlock s x1 x2 x3) := by
  intro x1 x2 x3 hm
  refine h.step hm ?_
  replace h : Only 524296 s s := .refl s
  unfold State.tallyBlock
  try dsimp only
  repeat' (first | with_reducible assumption | decide | intro _ | with_reducible apply each_only
                 | with_reducible refine countOn_only ?_ _ _ _ _ _ _ ?_ | with_reducible apply ite_only
                 | with_reducible apply foldl_only | with_reducible apply foldl_only_snd | refine snd_only ‹_ = _› ?_
                 | refine fst_only ‹_ = _› ?_ | split)

theorem wbSector_only (h : Only m a s) : ∀ x1 x2 x3 x4, (hm : Sub 532488 m := by decide) → Only m a (State.wbSector s x1 x2 x3 x4) := by
  intro x1 x2 x3 x4 hm
  refine h.step hm ?_
  replace h : Only 532488 s s := .refl s
  unfold State.wbSector
  try dsimp only
  repeat' (first | with_reducible assumption | decide | intro _ | with_reducible refine tallyBlock_only ?_ _ _ _ ?_
                 | with_reducible refine count_only ?_ _ _ ?_ | with_reducible refine modLoft_only ?_ _ ?_
                 | with_reducible apply ite_only | with_reducible apply foldl_only
                 | with_reducible apply foldl_only_snd | refine snd_only ‹_ = _› ?_ | refine fst_only ‹_ = _› ?_
                 | split)

theorem settle_only (h : Only m a s) : ∀ x1 x2 x3, (hm : Sub 532744 m := by decide) → Only m a (State.settle s x1 x2 x3) := by
  intro x1 x2 x3 hm
  refine h.step hm ?_
  replace h : Only 532744 s s := .refl s
  unfold State.settle
  split
  · exact h
  · rename_i r _
    have g : Only 532744 s { s with reqs := s.reqs.filter fun q => q.id != x1 } := upd256_only h _
    dsimp only
    split
    · exact ite_only (capAdvance_only g) g
    · exact wbSector_only g _ _ _ _
    · exact modReq_only h _ _

theorem wordsWritten_only (h : Only m a s) : ∀ x1 x2, (hm : Sub 8192 m := by decide) → Only m a (State.wordsWritten s x1 x2) := by
  intro x1 x2 hm
  refine h.step hm ?_
  replace h : Only 8192 s s := .refl s
  unfold State.wordsWritten
  try dsimp only
  repeat' (first | with_reducible assumption | decide | intro _ | with_reducible refine modLoft_only ?_ _ ?_
                 | with_reducible apply ite_only | with_reducible apply foldl_only
                 | with_reducible apply foldl_only_snd | refine snd_only ‹_ = _› ?_ | refine fst_only ‹_ = _› ?_
                 | split)

theorem scratchWrite_only (h : Only m a s) : ∀ x1 x2 x3 x4 x5 x6, (hm : Sub 8192 m := by decide) → Only m a (State.scratchWrite s x1 x2 x3 x4 x5 x6) := by
  intro x1 x2 x3 x4 x5 x6 hm
  refine h.step hm ?_
  replace h : Only 8192 s s := .refl s
  unfold State.scratchWrite
  try dsimp only
  repeat' (first | with_reducible assumption | decide | intro _ | with_reducible refine modLoft_only ?_ _ ?_
                 | with_reducible apply ite_only | with_reducible apply foldl_only
                 | with_reducible apply foldl_only_snd | refine snd_only ‹_ = _› ?_ | refine fst_only ‹_ = _› ?_
                 | split)

theorem answerWrite_only (h : Only m a s) : ∀ x1, (hm : Sub 532744 m := by decide) → Only m a (State.answerWrite s x1) := by
  intro x1 hm
  refine h.step hm ?_
  replace h : Only 532744 s s := .refl s
  exact settle_only (modReq_only h _ _) _ _ _

theorem answerAtomic_only (h : Only m a s) : ∀ x1 x2, (hm : Sub 256 m := by decide) → Only m a (State.answerAtomic s x1 x2) := by
  intro x1 x2 hm
  refine h.step hm ?_
  replace h : Only 256 s s := .refl s
  unfold State.answerAtomic
  try dsimp only
  repeat' (first | with_reducible assumption | decide | intro _ | with_reducible refine modReq_only ?_ _ _ ?_
                 | with_reducible apply ite_only | with_reducible apply foldl_only
                 | with_reducible apply foldl_only_snd | refine snd_only ‹_ = _› ?_ | refine fst_only ‹_ = _› ?_
                 | split)

theorem scratchAct_only (h : Only m a s) : ∀ x1, ∀ t, State.scratchAct s x1 = some t → (hm : Sub 663816 m := by decide) → Only m a t := by
  intro x1 t e hm
  refine h.step hm ?_
  replace h : Only 663816 s s := .refl s
  suffices g : Gives 663816 s (State.scratchAct s x1) from g.only t e
  clear e t
  unfold State.scratchAct
  try dsimp only
  repeat' (first | with_reducible assumption | decide | with_reducible refine gives_intro ?_
                 | with_reducible apply gives_ite | with_reducible exact gives_none | intro _
                 | with_reducible refine answerRead_only ?_ _ _ ?_ | with_reducible refine settle_only ?_ _ _ _ ?_
                 | with_reducible refine wordsWritten_only ?_ _ _ ?_
                 | with_reducible refine scratchWrite_only ?_ _ _ _ _ _ _ ?_
                 | with_reducible refine answerWrite_only ?_ _ ?_ | with_reducible apply each_only
                 | with_reducible refine answerAtomic_only ?_ _ _ ?_ | with_reducible apply ite_only
                 | with_reducible apply foldl_only | with_reducible apply foldl_only_snd | refine snd_only ‹_ = _› ?_
                 | refine fst_only ‹_ = _› ?_ | split)

theorem poisonLine_only (h : Only m a s) : ∀ x1 x2 x3, (hm : Sub 128 m := by decide) → Only m a (State.poisonLine s x1 x2 x3) := by
  intro x1 x2 x3 hm
  refine h.step hm ?_
  replace h : Only 128 s s := .refl s
  unfold State.poisonLine
  try dsimp only
  repeat' (first | with_reducible assumption | decide | intro _ | with_reducible apply each_only
                 | with_reducible refine dramPut_only ?_ _ _ ?_ | with_reducible apply ite_only
                 | with_reducible apply foldl_only | with_reducible apply foldl_only_snd | refine snd_only ‹_ = _› ?_
                 | refine fst_only ‹_ = _› ?_ | split)

theorem modSlot_only (h : Only m a s) : ∀ x1 x2, (hm : Sub 64 m := by decide) → Only m a (State.modSlot s x1 x2) := by
  intro x1 x2 hm
  refine h.step hm ?_
  replace h : Only 64 s s := .refl s
  unfold State.modSlot
  try dsimp only
  repeat' (first | with_reducible assumption | decide | intro _ | with_reducible refine modRegions_only ?_ _ ?_
                 | with_reducible apply ite_only | with_reducible apply foldl_only
                 | with_reducible apply foldl_only_snd | refine snd_only ‹_ = _› ?_ | refine fst_only ‹_ = _› ?_
                 | split)

theorem claimLine_only (h : Only m a s) : ∀ x1 x2 x3, (hm : Sub 2240 m := by decide) → Only m a (State.claimLine s x1 x2 x3) := by
  intro x1 x2 x3 hm
  refine h.step hm ?_
  replace h : Only 2240 s s := .refl s
  unfold State.claimLine
  try dsimp only
  repeat' (first | with_reducible assumption | decide | intro _ | with_reducible refine modStack_only ?_ _ _ ?_
                 | with_reducible refine poisonLine_only ?_ _ _ _ ?_ | with_reducible refine modSlot_only ?_ _ _ ?_
                 | with_reducible apply ite_only | with_reducible apply foldl_only
                 | with_reducible apply foldl_only_snd | refine snd_only ‹_ = _› ?_ | refine fst_only ‹_ = _› ?_
                 | split)

theorem countHits_only (h : Only m a s) : ∀ x1 x2 x3, (hm : Sub 524296 m := by decide) → Only m a (State.countHits s x1 x2 x3) := by
  intro x1 x2 x3 hm
  refine h.step hm ?_
  replace h : Only 524296 s s := .refl s
  unfold State.countHits
  try dsimp only
  repeat' (first | with_reducible assumption | decide | intro _ | with_reducible refine tallyBlock_only ?_ _ _ _ ?_
                 | with_reducible refine bump_only ?_ _ _ _ _ ?_ | with_reducible apply ite_only
                 | with_reducible apply foldl_only | with_reducible apply foldl_only_snd | refine snd_only ‹_ = _› ?_
                 | refine fst_only ‹_ = _› ?_ | split)

theorem touch_only (h : Only m a s) : ∀ x1 x2 x3, (hm : Sub 8192 m := by decide) → Only m a (State.touch s x1 x2 x3) := by
  intro x1 x2 x3 hm
  refine h.step hm ?_
  replace h : Only 8192 s s := .refl s
  unfold State.touch
  try dsimp only
  repeat' (first | with_reducible assumption | decide | intro _ | with_reducible refine modLine_only ?_ _ _ ?_
                 | with_reducible apply each_only | with_reducible apply ite_only | with_reducible apply foldl_only
                 | with_reducible apply foldl_only_snd | refine snd_only ‹_ = _› ?_ | refine fst_only ‹_ = _› ?_
                 | split)

theorem lineWrite_only (h : Only m a s) : ∀ x1 x2 x3 x4 x5 x6, (hm : Sub 8256 m := by decide) → Only m a (State.lineWrite s x1 x2 x3 x4 x5 x6) := by
  intro x1 x2 x3 x4 x5 x6 hm
  refine h.step hm ?_
  replace h : Only 8256 s s := .refl s
  unfold State.lineWrite
  try dsimp only
  repeat' (first | with_reducible assumption | decide | intro _ | with_reducible refine modSlot_only ?_ _ _ ?_
                 | with_reducible refine modLine_only ?_ _ _ ?_ | with_reducible refine wordsWritten_only ?_ _ _ ?_
                 | with_reducible apply ite_only | with_reducible apply foldl_only
                 | with_reducible apply foldl_only_snd | refine snd_only ‹_ = _› ?_ | refine fst_only ‹_ = _› ?_
                 | split)

theorem lineServe_only (h : Only m a s) : ∀ x1 x2, (hm : Sub 663880 m := by decide) → Only m a (State.lineServe s x1 x2) := by
  intro x1 x2 hm
  refine h.step hm ?_
  replace h : Only 663880 s s := .refl s
  unfold State.lineServe
  try dsimp only
  repeat' (first | with_reducible assumption | decide | intro _ | with_reducible refine touch_only ?_ _ _ _ ?_
                 | with_reducible refine answerRead_only ?_ _ _ ?_ | with_reducible refine answerWrite_only ?_ _ ?_
                 | with_reducible apply each_only | with_reducible refine lineWrite_only ?_ _ _ _ _ _ _ ?_
                 | with_reducible refine answerAtomic_only ?_ _ _ ?_ | with_reducible apply ite_only
                 | with_reducible apply foldl_only | with_reducible apply foldl_only_snd | refine snd_only ‹_ = _› ?_
                 | refine fst_only ‹_ = _› ?_ | split)

theorem lineMeets_only (h : Only m a s) : ∀ x1 x2, ∀ t, State.lineMeets s x1 x2 = some t → (hm : Sub 666440 m := by decide) → Only m a t := by
  intro x1 x2 t e hm
  refine h.step hm ?_
  replace h : Only 666440 s s := .refl s
  unfold State.lineMeets at e
  dsimp only at e
  split at e
  · cases e; exact lineServe_only (countHits_only h _ _ _) _ _
  · split at e
    · cases e
    · cases e; exact modReq_only (fetch_only (countHits_only h _ _ _) _ _ _) _ _

theorem pushWb_only (h : Only m a s) : ∀ x1 x2 x3, (hm : Sub 8448 m := by decide) → Only m a (State.pushWb s x1 x2 x3) := by
  intro x1 x2 x3 hm
  refine h.step hm ?_
  replace h : Only 8448 s s := .refl s
  unfold State.pushWb
  try dsimp only
  repeat' (first | with_reducible assumption | decide | intro _ | with_reducible refine raiseWbs_only ?_ _ ?_
                 | with_reducible refine modLoft_only ?_ _ ?_ | with_reducible apply ite_only
                 | with_reducible apply foldl_only | with_reducible apply foldl_only_snd | refine snd_only ‹_ = _› ?_
                 | refine fst_only ‹_ = _› ?_ | split)

theorem allocLine_only (h : Only m a s) : ∀ x1 x2 p, State.allocLine s x1 x2 = some p → (hm : Sub 8448 m := by decide) → Only m a p.2 := by
  intro x1 x2 p e hm
  refine h.step hm ?_
  replace h : Only 8448 s s := .refl s
  unfold State.allocLine at e
  dsimp only at e
  repeat' (split at e)
  all_goals first
    | cases e; done
    | (cases e
       repeat' (first | with_reducible assumption | decide | intro _ | with_reducible refine pushWb_only ?_ _ _ _ ?_
                      | with_reducible refine touch_only ?_ _ _ _ ?_ | with_reducible refine modLine_only ?_ _ _ ?_
                      | with_reducible apply ite_only | with_reducible apply foldl_only
                      | with_reducible apply foldl_only_snd | refine snd_only ‹_ = _› ?_ | refine fst_only ‹_ = _› ?_
                      | split))

theorem goArb_only (h : Only m a s) : ∀ x1 x2 x3, (hm : Sub 2304 m := by decide) → Only m a (State.goArb s x1 x2 x3) := by
  intro x1 x2 x3 hm
  refine h.step hm ?_
  replace h : Only 2304 s s := .refl s
  unfold State.goArb
  try dsimp only
  repeat' (first | with_reducible assumption | decide | intro _ | with_reducible refine callStack_only ?_ _ ?_
                 | with_reducible refine modReq_only ?_ _ _ ?_ | with_reducible apply ite_only
                 | with_reducible apply foldl_only | with_reducible apply foldl_only_snd | refine snd_only ‹_ = _› ?_
                 | refine fst_only ‹_ = _› ?_ | split)

theorem cacheAct_only (h : Only m a s) : ∀ x1, ∀ t, State.cacheAct s x1 = some t → (hm : Sub 666568 m := by decide) → Only m a t := by
  intro r t e hm
  refine h.step hm ?_
  replace h : Only 666568 s s := .refl s
  unfold State.cacheAct at e
  extract_lets off b s' held at e
  split at e
  · cases e; exact answerRead_only h _ _
  split at e
  · cases e; exact settle_only h _ _ _
  have g : Only 666568 s s' := ite_only (claimLine_only h _ _ _) h
  clear_value held
  clear_value s'
  split at e
  · exact lineMeets_only g _ _ _ e
  split at e
  · split at e
    · cases e
    · rename_i key s1 hx
      exact lineMeets_only (allocLine_only g _ _ _ hx) _ _ _ e
  split at e
  · rw [← Option.some.inj e]; with_reducible exact goArb_only g _ _ _
  split at e
  · have e2 := Option.some.inj e
    clear e
    subst e2
    apply answerRead_only g
  · cases e

theorem rewriteWord_only (h : Only m a s) : ∀ x1, (hm : Sub 8192 m := by decide) → Only m a (State.rewriteWord s x1) := by
  intro x1 hm
  refine h.step hm ?_
  replace h : Only 8192 s s := .refl s
  unfold State.rewriteWord
  try dsimp only
  repeat' (first | with_reducible assumption | decide | intro _ | with_reducible refine modLoft_only ?_ _ ?_
                 | with_reducible refine hardWord_only ?_ _ _ ?_ | with_reducible apply ite_only
                 | with_reducible apply foldl_only | with_reducible apply foldl_only_snd | refine snd_only ‹_ = _› ?_
                 | refine fst_only ‹_ = _› ?_ | split)

theorem capStore_only (h : Only m a s) : (hm : Sub 65544 m := by decide) → Only m a (State.capStore s) := by
  intro hm
  refine h.step hm ?_
  replace h : Only 65544 s s := .refl s
  unfold State.capStore
  try dsimp only
  repeat' (first | with_reducible assumption | decide | intro _ | with_reducible refine capStep_only ?_ ?_
                 | with_reducible refine setObj_only ?_ _ _ _ _ ?_ | with_reducible refine modPacket_only ?_ _ ?_
                 | with_reducible apply ite_only | with_reducible apply foldl_only
                 | with_reducible apply foldl_only_snd | refine snd_only ‹_ = _› ?_ | refine fst_only ‹_ = _› ?_
                 | split)

theorem portUse_only (h : Only m a s) : ∀ x1 x2 x3, ∀ t, State.portUse s x1 x2 x3 = some t → (hm : Sub 748488 m := by decide) → Only m a t := by
  intro x1 x2 x3 t e hm
  refine h.step hm ?_
  have h : Only 748488 s (s.meetFound x1 x2 x3) := meetFound_only (.refl s) _ _ _
  unfold State.portUse at e
  dsimp only at e
  generalize s.meetFound x1 x2 x3 = s1 at h e
  split at e
  · cases e; exact h
  · split at e
    · cases e
    · split at e
      · exact scratchAct_only h _ _ e
      · exact cacheAct_only h _ _ e
  · cases e; exact modReq_only h _ _
  · cases e; exact modLoft_only h _
  · cases e; exact modLoft_only h _
  · cases e; exact rewriteWord_only h _
  · cases e; exact modRegions_only h _
  · cases e; exact capStore_only h

theorem PortCycle_offer_only (slice : Nat) (found : List (Nat × WordFound)) (p : PortCycle) (w : PortWant) (h : Only m a p.s)
    (hm : Sub 748488 m := by decide) : Only m a (p.offer slice found w).s := by
  refine h.step hm ?_
  have h : Only 748488 p.s p.s := .refl _
  unfold PortCycle.offer
  extract_lets l free room
  split
  · exact h
  · split
    · exact h
    · rename_i s1 e
      extract_lets s2 s3 s4
      have g : Only 748488 p.s s1 := portUse_only h _ _ _ _ e
      have g2 : Only 748488 p.s s2 := modLoft_only g _
      have g3 : Only 748488 p.s s3 := ite_only (tallyBlock_only g2 _ _ _) g2
      exact (ite_only (tallyBlock_only g3 _ _ _) g3 : Only 748488 p.s s4)

theorem overtake_only (h : Only m a s) : ∀ x1, (hm : Sub 8 m := by decide) → Only m a (State.overtake s x1) := by
  intro x1 hm
  refine h.step hm ?_
  replace h : Only 8 s s := .refl s
  unfold State.overtake
  try dsimp only
  repeat' (first | with_reducible assumption | decide | intro _ | with_reducible refine bump_only ?_ _ _ _ _ ?_
                 | with_reducible refine setObj_only ?_ _ _ _ _ ?_ | with_reducible apply ite_only
                 | with_reducible apply foldl_only | with_reducible apply foldl_only_snd | refine snd_only ‹_ = _› ?_
                 | refine fst_only ‹_ = _› ?_ | split)

theorem logEvent_only (h : Only m a s) : ∀ x1 x2 x3 x4 x5 x6, (hm : Sub 12 m := by decide) → Only m a (State.logEvent s x1 x2 x3 x4 x5 x6) := by
  intro x1 x2 x3 x4 x5 x6 hm
  refine h.step hm ?_
  replace h : Only 12 s s := .refl s
  unfold State.logEvent
  try dsimp only
  repeat' (first | with_reducible assumption | decide | intro _ | with_reducible refine setObj_only ?_ _ _ _ _ ?_
                 | with_reducible refine modMgmt_only ?_ _ ?_ | with_reducible apply each_only
                 | with_reducible refine overtake_only ?_ _ ?_ | with_reducible apply ite_only
                 | with_reducible apply foldl_only | with_reducible apply foldl_only_snd | refine snd_only ‹_ = _› ?_
                 | refine fst_only ‹_ = _› ?_ | split)

theorem answerHeldOn_only (h : Only m a s) : ∀ x1 x2, (hm : Sub 663816 m := by decide) → Only m a (State.answerHeldOn s x1 x2) := by
  intro x1 x2 hm
  refine h.step hm ?_
  replace h : Only 663816 s s := .refl s
  unfold State.answerHeldOn
  dsimp only
  exact ite_only (settle_only h _ _ _) (ite_only (answerRead_only h _ _) (ite_only (modReq_only h _ _) (settle_only h _ _ _)))

theorem dropFill_only (h : Only m a s) : ∀ x1 x2, (hm : Sub 663880 m := by decide) → Only m a (State.dropFill s x1 x2) := by
  intro x1 x2 hm
  refine h.step hm ?_
  replace h : Only 663880 s s := .refl s
  unfold State.dropFill
  try dsimp only
  repeat' (first | with_reducible assumption | decide | intro _ | with_reducible refine modRegions_only ?_ _ ?_
                 | with_reducible apply each_only | with_reducible refine answerHeldOn_only ?_ _ _ ?_
                 | with_reducible refine modReq_only ?_ _ _ ?_ | with_reducible apply ite_only
                 | with_reducible apply foldl_only | with_reducible apply foldl_only_snd | refine snd_only ‹_ = _› ?_
                 | refine fst_only ‹_ = _› ?_ | split)

theorem abandonFill_only (h : Only m a s) : ∀ x1 x2 x3, (hm : Sub 663884 m := by decide) → Only m a (State.abandonFill s x1 x2 x3) := by
  intro x1 x2 x3 hm
  refine h.step hm ?_
  replace h : Only 663884 s s := .refl s
  unfold State.abandonFill
  try dsimp only
  repeat' (first | with_reducible assumption | decide | intro _
                 | with_reducible refine logEvent_only ?_ _ _ _ _ _ _ ?_ | with_reducible refine count_only ?_ _ _ ?_
                 | with_reducible refine dropFill_only ?_ _ _ ?_ | with_reducible apply ite_only
                 | with_reducible apply foldl_only | with_reducible apply foldl_only_snd | refine snd_only ‹_ = _› ?_
                 | refine fst_only ‹_ = _› ?_ | split)

theorem abandonOn_only (h : Only m a s) : ∀ x1 x2 x3, (hm : Sub 663884 m := by decide) → Only m a (State.abandonOn s x1 x2 x3) := by
  intro x1 x2 x3 hm
  refine h.step hm ?_
  replace h : Only 663884 s s := .refl s
  unfold State.abandonOn
  try dsimp only
  repeat' (first | with_reducible assumption | decide | intro _ | with_reducible apply each_only
                 | with_reducible refine abandonFill_only ?_ _ _ _ ?_ | with_reducible apply ite_only
                 | with_reducible apply foldl_only | with_reducible apply foldl_only_snd | refine snd_only ‹_ = _› ?_
                 | refine fst_only ‹_ = _› ?_ | split)

theorem abortEvent_only (h : Only m a s) : ∀ x1 x2 x3, (hm : Sub 12 m := by decide) → Only m a (State.abortEvent s x1 x2 x3) := by
  intro x1 x2 x3 hm
  refine h.step hm ?_
  replace h : Only 12 s s := .refl s
  unfold State.abortEvent
  try dsimp only
  repeat' (first | with_reducible assumption | decide | intro _
                 | with_reducible refine logEvent_only ?_ _ _ _ _ _ _ ?_ | with_reducible apply ite_only
                 | with_reducible apply foldl_only | with_reducible apply foldl_only_snd | refine snd_only ‹_ = _› ?_
                 | refine fst_only ‹_ = _› ?_ | split)

theorem setList_only (h : Only m a s) : ∀ x1 x2, (hm : Sub 16384 m := by decide) → Only m a (State.setList s x1 x2) := by
  intro x1 x2 hm
  refine h.step hm ?_
  replace h : Only 16384 s s := .refl s
  unfold State.setList
  try dsimp only
  repeat' (first | with_reducible assumption | decide | intro _ | with_reducible refine modShotS_only ?_ _ ?_
                 | with_reducible apply ite_only | with_reducible apply foldl_only
                 | with_reducible apply foldl_only_snd | refine snd_only ‹_ = _› ?_ | refine fst_only ‹_ = _› ?_
                 | split)

theorem stampHead_only (h : Only m a s) : ∀ x1, (hm : Sub 16384 m := by decide) → Only m a (State.stampHead s x1) := by
  intro x1 hm
  refine h.step hm ?_
  replace h : Only 16384 s s := .refl s
  unfold State.stampHead
  try dsimp only
  repeat' (first | with_reducible assumption | decide | intro _ | with_reducible refine setList_only ?_ _ _ ?_
                 | with_reducible apply ite_only | with_reducible apply foldl_only
                 | with_reducible apply foldl_only_snd | refine snd_only ‹_ = _› ?_ | refine fst_only ‹_ = _› ?_
                 | split)

theorem modCtx_only (h : Only m a s) : ∀ x1 x2, (hm : Sub 16384 m := by decide) → Only m a (State.modCtx s x1 x2) := by
  intro x1 x2 hm
  refine h.step hm ?_
  replace h : Only 16384 s s := .refl s
  unfold State.modCtx
  try dsimp only
  repeat' (first | with_reducible assumption | decide | intro _ | with_reducible refine modShotS_only ?_ _ ?_
                 | with_reducible apply ite_only | with_reducible apply foldl_only
                 | with_reducible apply foldl_only_snd | refine snd_only ‹_ = _› ?_ | refine fst_only ‹_ = _› ?_
                 | split)

theorem sendReply_only (h : Only m a s) : ∀ x1 x2 x3 x4 x5, (hm : Sub 768 m := by decide) → Only m a (State.sendReply s x1 x2 x3 x4 x5) := by
  intro x1 x2 x3 x4 x5 hm
  refine h.step hm ?_
  replace h : Only 768 s s := .refl s
  unfold State.sendReply
  split
  · split
    · exact upd768_only h _ _
    · exact h
  · exact h

theorem send_only (h : Only m a s) : ∀ x1, (hm : Sub 32768 m := by decide) → Only m a (State.send s x1) := by
  intro x1 hm
  refine h.step hm ?_
  replace h : Only 32768 s s := .refl s
  unfold State.send
  try dsimp only
  repeat' (first | with_reducible assumption | decide | intro _ | with_reducible refine modEntry_only ?_ _ ?_
                 | with_reducible apply ite_only | with_reducible apply foldl_only
                 | with_reducible apply foldl_only_snd | refine snd_only ‹_ = _› ?_ | refine fst_only ‹_ = _› ?_
                 | split)

theorem sendRecord_only (h : Only m a s) : ∀ x1 x2 x3, (hm : Sub 32768 m := by decide) → Only m a (State.sendRecord s x1 x2 x3) := by
  intro x1 x2 x3 hm
  refine h.step hm ?_
  replace h : Only 32768 s s := .refl s
  unfold State.sendRecord
  try dsimp only
  repeat' (first | with_reducible assumption | decide | intro _ | with_reducible refine send_only ?_ _ ?_
                 | with_reducible apply ite_only | with_reducible apply foldl_only
                 | with_reducible apply foldl_only_snd | refine snd_only ‹_ = _› ?_ | refine fst_only ‹_ = _› ?_
                 | split)

theorem abortTell_only (h : Only m a s) : ∀ x1 x2 x3 x4 x5 x6, (hm : Sub 574220 m := by decide) → Only m a (State.abortTell s x1 x2 x3 x4 x5 x6) := by
  intro x1 x2 x3 x4 x5 x6 hm
  refine h.step hm ?_
  replace h : Only 574220 s s := .refl s
  unfold State.abortTell
  extract_lets s1 s2 s3
  have g2 : Only 574220 s s2 := sendReply_only (modCtx_only h _ _) _ _ _ _ _
  have g3 : Only 574220 s s3 := ite_only g2 (sendRecord_only g2 _ _ _)
  exact tallyBlock_only (bump_only (abortEvent_only g3 _ _ _) _ _ _ _) _ _ _

theorem abortListed_only (h : Only m a s) : (hm : Sub 574220 m := by decide) → Only m a (State.abortListed s) := by
  intro hm
  refine h.step hm ?_
  replace h : Only 574220 s s := .refl s
  unfold State.abortListed
  try dsimp only
  repeat' (first | with_reducible assumption | decide | intro _ | with_reducible apply each_only
                 | with_reducible refine setList_only ?_ _ _ ?_ | with_reducible refine stampHead_only ?_ _ ?_
                 | with_reducible refine abortTell_only ?_ _ _ _ _ _ _ ?_ | with_reducible apply ite_only
                 | with_reducible apply foldl_only | with_reducible apply foldl_only_snd | refine snd_only ‹_ = _› ?_
                 | refine fst_only ‹_ = _› ?_ | split)

theorem abortPorts_only (h : Only m a s) : ∀ x1, (hm : Sub 4352 m := by decide) → Only m a (State.abortPorts s x1) := by
  intro x1 hm
  refine h.step hm ?_
  replace h : Only 4352 s s := .refl s
  unfold State.abortPorts
  try dsimp only
  repeat' (first | with_reducible assumption | decide | intro _ | with_reducible refine eachPc_only ?_ _ ?_
                 | with_reducible apply ite_only | with_reducible apply foldl_only
                 | with_reducible apply foldl_only_snd | refine snd_only ‹_ = _› ?_ | refine fst_only ‹_ = _› ?_
                 | fail_if_no_progress (with_reducible refine upd256_only ?_ _ ?_) | split)

theorem dropShotWork_only (h : Only m a s) : ∀ x1, (hm : Sub 700744 m := by decide) → Only m a (State.dropShotWork s x1) := by
  intro x1 hm
  refine h.step hm ?_
  replace h : Only 700744 s s := .refl s
  unfold State.dropShotWork
  try dsimp only
  repeat' (first | with_reducible assumption | decide | intro _ | with_reducible apply when_only
                 | with_reducible refine eachPc_only ?_ _ ?_ | with_reducible apply each_only
                 | with_reducible refine dropFill_only ?_ _ _ ?_ | with_reducible apply ite_only
                 | with_reducible apply foldl_only | with_reducible apply foldl_only_snd | refine snd_only ‹_ = _› ?_
                 | refine fst_only ‹_ = _› ?_ | fail_if_no_progress (with_reducible refine upd33024_only ?_ _ _ ?_)
                 | split)

theorem freeUnits_only (h : Only m a s) : ∀ x1, (hm : Sub 8192 m := by decide) → Only m a (State.freeUnits s x1) := by
  intro x1 hm
  refine h.step hm ?_
  replace h : Only 8192 s s := .refl s
  unfold State.freeUnits
  try dsimp only
  repeat' (first | with_reducible assumption | decide | intro _ | with_reducible refine modLoft_only ?_ _ ?_
                 | with_reducible apply ite_only | with_reducible apply foldl_only
                 | with_reducible apply foldl_only_snd | refine snd_only ‹_ = _› ?_ | refine fst_only ‹_ = _› ?_
                 | split)

theorem abortShot_only (h : Only m a s) : ∀ x1 x2 x3, (hm : Sub 717644 m := by decide) → Only m a (State.abortShot s x1 x2 x3) := by
  intro x1 x2 x3 hm
  refine h.step hm ?_
  replace h : Only 717644 s s := .refl s
  unfold State.abortShot
  try dsimp only
  repeat' (first | with_reducible assumption | decide | intro _ | with_reducible refine modShotS_only ?_ _ ?_
                 | with_reducible refine dropShotWork_only ?_ _ ?_
                 | with_reducible refine abortTell_only ?_ _ _ _ _ _ _ ?_
                 | with_reducible refine freeUnits_only ?_ _ ?_ | with_reducible apply ite_only
                 | with_reducible apply foldl_only | with_reducible apply foldl_only_snd | refine snd_only ‹_ = _› ?_
                 | refine fst_only ‹_ = _› ?_ | split)

theorem pushReq_only (h : Only m a s) : ∀ x1, (hm : Sub 1792 m := by decide) → Only m a (State.pushReq s x1) := by
  intro x1 hm
  refine h.step hm ?_
  replace h : Only 1792 s s := .refl s
  unfold State.pushReq
  try dsimp only
  repeat' (first | with_reducible assumption | decide | intro _ | with_reducible refine modPort_only ?_ _ _ ?_
                 | with_reducible apply ite_only | with_reducible apply foldl_only
                 | with_reducible apply foldl_only_snd | refine snd_only ‹_ = _› ?_ | refine fst_only ‹_ = _› ?_
                 | fail_if_no_progress (with_reducible refine upd768_only ?_ _ _ ?_) | split)

theorem refuseReq_only (h : Only m a s) : ∀ x1 x2, (hm : Sub 1792 m := by decide) → Only m a (State.refuseReq s x1 x2) := by
  intro x1 x2 hm
  refine h.step hm ?_
  replace h : Only 1792 s s := .refl s
  unfold State.refuseReq
  try dsimp only
  repeat' (first | with_reducible assumption | decide | intro _ | with_reducible refine pushReq_only ?_ _ ?_
                 | with_reducible apply ite_only | with_reducible apply foldl_only
                 | with_reducible apply foldl_only_snd | refine snd_only ‹_ = _› ?_ | refine fst_only ‹_ = _› ?_
                 | split)

theorem raiseFill_only (h : Only m a s) : ∀ x1, (hm : Sub 64 m := by decide) → Only m a (State.raiseFill s x1) := by
  intro x1 hm
  refine h.step hm ?_
  replace h : Only 64 s s := .refl s
  unfold State.raiseFill
  try dsimp only
  repeat' (first | with_reducible assumption | decide | intro _ | with_reducible refine modRegions_only ?_ _ ?_
                 | with_reducible apply ite_only | with_reducible apply foldl_only
                 | with_reducible apply foldl_only_snd | refine snd_only ‹_ = _› ?_ | refine fst_only ‹_ = _› ?_
                 | split)

theorem startFill_only (h : Only m a s) : ∀ x1 x2 x3, (hm : Sub 72 m := by decide) → Only m a (State.startFill s x1 x2 x3) := by
  intro x1 x2 x3 hm
  refine h.step hm ?_
  replace h : Only 72 s s := .refl s
  unfold State.startFill
  try dsimp only
  repeat' (first | with_reducible assumption | decide | intro _ | with_reducible refine modRegions_only ?_ _ ?_
                 | with_reducible refine count_only ?_ _ _ ?_ | with_reducible apply ite_only
                 | with_reducible apply foldl_only | with_reducible apply foldl_only_snd | refine snd_only ‹_ = _› ?_
                 | refine fst_only ‹_ = _› ?_ | split)

theorem takeChunk_only (h : Only m a s) : ∀ x1 x2 x3, (hm : Sub 524360 m := by decide) → Only m a (State.takeChunk s x1 x2 x3).2 := by
  intro x1 x2 x3 hm
  refine h.step hm ?_
  replace h : Only 524360 s s := .refl s
  unfold State.takeChunk
  try dsimp only
  repeat' (first | with_reducible assumption | decide | intro _ | with_reducible refine raiseFill_only ?_ _ ?_
                 | with_reducible refine tallyBlock_only ?_ _ _ _ ?_
                 | with_reducible refine startFill_only ?_ _ _ _ ?_ | with_reducible apply ite_only
                 | with_reducible apply foldl_only | with_reducible apply foldl_only_snd | refine snd_only ‹_ = _› ?_
                 | refine fst_only ‹_ = _› ?_ | split)

theorem asks_only (h : Only m a s) : ∀ x1 x2, (hm : Sub 4 m := by decide) → Only m a (State.asks s x1 x2) := by
  intro x1 x2 hm
  refine h.step hm ?_
  replace h : Only 4 s s := .refl s
  unfold State.asks
  try dsimp only
  repeat' (first | with_reducible assumption | decide | intro _ | with_reducible refine modMgmt_only ?_ _ ?_
                 | with_reducible apply ite_only | with_reducible apply foldl_only
                 | with_reducible apply foldl_only_snd | refine snd_only ‹_ = _› ?_ | refine fst_only ‹_ = _› ?_
                 | split)

theorem logAsked_only (h : Only m a s) : ∀ x1 x2 x3 x4, (hm : Sub 12 m := by decide) → Only m a (State.logAsked s x1 x2 x3 x4) := by
  intro x1 x2 x3 x4 hm
  refine h.step hm ?_
  replace h : Only 12 s s := .refl s
  unfold State.logAsked
  try dsimp only
  repeat' (first | with_reducible assumption | decide | intro _ | with_reducible refine asks_only ?_ _ _ ?_
                 | with_reducible refine logEvent_only ?_ _ _ _ _ _ _ ?_ | with_reducible apply ite_only
                 | with_reducible apply foldl_only | with_reducible apply foldl_only_snd | refine snd_only ‹_ = _› ?_
                 | refine fst_only ‹_ = _› ?_ | split)

theorem setReady_only (h : Only m a s) : ∀ x1 x2, (hm : Sub 14 m := by decide) → Only m a (State.setReady s x1 x2) := by
  intro x1 x2 hm
  refine h.step hm ?_
  replace h : Only 14 s s := .refl s
  unfold State.setReady
  try dsimp only
  repeat' (first | with_reducible assumption | decide | exact ⟨rfl, rfl, rfl⟩ | intro _
                 | with_reducible refine logAsked_only ?_ _ _ _ _ ?_ | with_reducible refine modBlock_only ?_ _ ?_ ?_
                 | with_reducible apply ite_only | with_reducible apply foldl_only
                 | with_reducible apply foldl_only_snd | refine snd_only ‹_ = _› ?_ | refine fst_only ‹_ = _› ?_
                 | split)

theorem startWake_only (h : Only m a s) : ∀ x1 x2 x3 x4, (hm : Sub 2062 m := by decide) → Only m a (State.startWake s x1 x2 x3 x4) := by
  intro x1 x2 x3 x4 hm
  refine h.step hm ?_
  replace h : Only 2062 s s := .refl s
  unfold State.startWake
  try dsimp only
  repeat' (first | with_reducible assumption | decide | intro _ | with_reducible refine setReady_only ?_ _ _ ?_
                 | with_reducible refine callStack_only ?_ _ ?_ | with_reducible apply ite_only
                 | with_reducible apply foldl_only | with_reducible apply foldl_only_snd | refine snd_only ‹_ = _› ?_
                 | refine fst_only ‹_ = _› ?_ | split)

theorem acceptAccess_only (h : Only m a s) : ∀ x1 x2, (hm : Sub 659278 m := by decide) → Only m a (State.acceptAccess s x1 x2) := by
  intro x1 x2 hm
  refine h.step hm ?_
  replace h : Only 659278 s s := .refl s
  unfold State.acceptAccess
  try dsimp only
  repeat' (first | with_reducible assumption | decide | intro _ | with_reducible refine tallyBlock_only ?_ _ _ _ ?_
                 | with_reducible refine refuseReq_only ?_ _ _ ?_ | with_reducible refine count_only ?_ _ _ ?_
                 | with_reducible refine answerRead_only ?_ _ _ ?_ | with_reducible refine pushReq_only ?_ _ ?_
                 | with_reducible refine takeChunk_only ?_ _ _ _ ?_
                 | with_reducible refine startWake_only ?_ _ _ _ _ ?_ | with_reducible apply ite_only
                 | with_reducible apply foldl_only | with_reducible apply foldl_only_snd | refine snd_only ‹_ = _› ?_
                 | refine fst_only ‹_ = _› ?_ | split)

theorem addAnswer_only (h : Only m a s) : ∀ x1 x2 x3, (hm : Sub 131328 m := by decide) → Only m a (State.addAnswer s x1 x2 x3) := by
  intro x1 x2 x3 hm
  refine h.step hm ?_
  replace h : Only 131328 s s := .refl s
  unfold State.addAnswer
  try dsimp only
  repeat' (first | with_reducible assumption | decide | intro _ | with_reducible refine modReq_only ?_ _ _ ?_
                 | with_reducible apply ite_only | with_reducible apply foldl_only
                 | with_reducible apply foldl_only_snd | refine snd_only ‹_ = _› ?_ | refine fst_only ‹_ = _› ?_
                 | fail_if_no_progress (with_reducible refine upd131072_only ?_ _ ?_) | split)

theorem engDone_only (h : Only m a s) : ∀ x1, (hm : Sub 256 m := by decide) → Only m a (State.engDone s x1) := by
  intro x1 hm
  refine h.step hm ?_
  replace h : Only 256 s s := .refl s
  unfold State.engDone
  try dsimp only
  repeat' (first | with_reducible assumption | decide | intro _ | with_reducible apply ite_only
                 | with_reducible apply foldl_only | with_reducible apply foldl_only_snd | refine snd_only ‹_ = _› ?_
                 | refine fst_only ‹_ = _› ?_ | fail_if_no_progress (with_reducible refine upd256_only ?_ _ ?_)
                 | split)

theorem commitShot_only (h : Only m a s) : ∀ x1, (hm : Sub 582408 m := by decide) → Only m a (State.commitShot s x1) := by
  intro x1 hm
  refine h.step hm ?_
  replace h : Only 582408 s s := .refl s
  unfold State.commitShot
  try dsimp only
  repeat' (first | with_reducible assumption | decide | intro _
                 | with_reducible refine sendReply_only ?_ _ _ _ _ _ ?_
                 | with_reducible refine sendRecord_only ?_ _ _ _ ?_ | with_reducible refine freeUnits_only ?_ _ ?_
                 | with_reducible refine modShotS_only ?_ _ ?_ | with_reducible refine engDone_only ?_ _ ?_
                 | with_reducible refine modCtx_only ?_ _ _ ?_ | with_reducible refine setObj_only ?_ _ _ _ _ ?_
                 | with_reducible refine tallyBlock_only ?_ _ _ _ ?_ | with_reducible refine count_only ?_ _ _ ?_
                 | with_reducible apply ite_only | with_reducible apply foldl_only
                 | with_reducible apply foldl_only_snd | refine snd_only ‹_ = _› ?_ | refine fst_only ‹_ = _› ?_
                 | split)

theorem tryAdmit_only (h : Only m a s) : ∀ x1 x2 t, State.tryAdmit s x1 x2 = .take t → (hm : Sub 582408 m := by decide) → Only m a t := by
  intro x1 x2 t e hm
  refine h.step hm ?_
  replace h : Only 582408 s s := .refl s
  unfold State.tryAdmit at e
  extract_lets w ent resident room at e
  split at e
  · cases e
  split at e
  · cases e
  split at e
  · cases e
  extract_lets x s1 s2 at e
  have g1 : Only 582408 s s1 := modCtx_only (modShotS_only h _) _ _
  have g2 : Only 582408 s s2 := tallyBlock_only (count_only g1 _ _) _ _ _
  clear_value s2
  split at e
  · rw [← Admit.take.inj e]; exact commitShot_only g2 _
  · rw [← Admit.take.inj e]; exact ite_only (sendRecord_only g2 _ _ _) g2

theorem admitList_only (h : Only m a s) : ∀ x1 x2 x3, (hm : Sub 582412 m := by decide) → Only m a (State.admitList s x1 x2 x3).2 := by
  intro x1 x2 x3 hm
  induction x3 generalizing s x2 with
  | zero => exact h
  | succ n ih =>
    unfold State.admitList
    split
    · exact h
    · split
      · exact h
      · split
        · exact stampHead_only h _ (.trans (by decide) hm)
        · exact ih (stampHead_only (abortTell_only (setList_only h _ _ (.trans (by decide) hm)) _ _ _ _ _ _ (.trans (by decide) hm)) _
            (.trans (by decide) hm)) _
        · rename_i e
          exact ih (stampHead_only (setList_only (tryAdmit_only h _ _ _ e (.trans (by decide) hm)) _ _ (.trans (by decide) hm)) _
            (.trans (by decide) hm)) _

theorem admitAll_only (h : Only m a s) : (hm : Sub 582412 m := by decide) → Only m a (State.admitAll s) := by
  intro hm
  refine h.step hm ?_
  replace h : Only 582412 s s := .refl s
  unfold State.admitAll
  try dsimp only
  repeat' (first | with_reducible assumption | decide | intro _ | with_reducible refine admitList_only ?_ _ _ _ ?_
                 | with_reducible refine modShotS_only ?_ _ ?_ | with_reducible apply ite_only
                 | with_reducible apply foldl_only | with_reducible apply foldl_only_snd | refine snd_only ‹_ = _› ?_
                 | refine fst_only ‹_ = _› ?_ | split)

theorem allotPlace_only (h : Only m a s) : ∀ x1, ∀ t, State.allotPlace s x1 = some t → (hm : Sub 8192 m := by decide) → Only m a t := by
  intro x1 t e hm
  refine h.step hm ?_
  replace h : Only 8192 s s := .refl s
  unfold State.allotPlace at e
  split at e
  · cases e; exact modLoft_only h _
  · cases e

theorem allotPlaces_only (h : Only m a s) : ∀ x1, ∀ t, State.allotPlaces s x1 = some t → (hm : Sub 8192 m := by decide) → Only m a t := by
  intro x1
  induction x1 generalizing s with
  | nil => intro t e _; cases e; exact h
  | cons c l ih =>
    intro t e hm
    unfold State.allotPlaces at e
    cases ht : s.allotPlace c with
    | none => rw [ht] at e; cases e
    | some u => rw [ht] at e; exact ih (allotPlace_only h _ _ ht hm) _ e hm

theorem mailboxDone_only (h : Only m a s) : ∀ x1, (hm : Sub 4194308 m := by decide) → Only m a (State.mailboxDone s x1) := by
  intro x1 hm
  refine h.step hm ?_
  replace h : Only 4194308 s s := .refl s
  unfold State.mailboxDone
  try dsimp only
  repeat' (first | with_reducible assumption | decide | intro _ | with_reducible refine modMgmt_only ?_ _ ?_
                 | with_reducible refine emit_only ?_ _ ?_ | with_reducible apply ite_only
                 | with_reducible apply foldl_only | with_reducible apply foldl_only_snd | refine snd_only ‹_ = _› ?_
                 | refine fst_only ‹_ = _› ?_ | split)

theorem signalPending_only (h : Only m a s) : ∀ x1, (hm : Sub 4194304 m := by decide) → Only m a (State.signalPending s x1) := by
  intro x1 hm
  refine h.step hm ?_
  replace h : Only 4194304 s s := .refl s
  unfold State.signalPending
  try dsimp only
  repeat' (first | with_reducible assumption | decide | intro _ | with_reducible refine emit_only ?_ _ ?_
                 | with_reducible apply ite_only | with_reducible apply foldl_only
                 | with_reducible apply foldl_only_snd | refine snd_only ‹_ = _› ?_ | refine fst_only ‹_ = _› ?_
                 | split)

theorem answer_only (h : Only m a s) : ∀ x1 x2 x3 x4, (hm : Sub 4194308 m := by decide) → Only m a (State.answer s x1 x2 x3 x4) := by
  intro x1 x2 x3 x4 hm
  refine h.step hm ?_
  replace h : Only 4194308 s s := .refl s
  unfold State.answer
  try dsimp only
  repeat' (first | with_reducible assumption | decide | intro _ | with_reducible refine mailboxDone_only ?_ _ ?_
                 | with_reducible refine emit_only ?_ _ ?_ | with_reducible refine signalPending_only ?_ _ ?_
                 | with_reducible refine modMgmt_only ?_ _ ?_ | with_reducible apply ite_only
                 | with_reducible apply foldl_only | with_reducible apply foldl_only_snd | refine snd_only ‹_ = _› ?_
                 | refine fst_only ‹_ = _› ?_ | split)

theorem answerHeld_only (h : Only m a s) : ∀ x1 x2, (hm : Sub 256 m := by decide) → Only m a (State.answerHeld s x1 x2) := by
  intro x1 x2 hm
  refine h.step hm ?_
  replace h : Only 256 s s := .refl s
  unfold State.answerHeld
  try dsimp only
  repeat' (first | with_reducible assumption | decide | intro _ | with_reducible refine modReq_only ?_ _ _ ?_
                 | with_reducible apply ite_only | with_reducible apply foldl_only
                 | with_reducible apply foldl_only_snd | refine snd_only ‹_ = _› ?_ | refine fst_only ‹_ = _› ?_
                 | split)

theorem answerLost_only (h : Only m a s) : ∀ x1, (hm : Sub 256 m := by decide) → Only m a (State.answerLost s x1) := by
  intro x1 hm
  refine h.step hm ?_
  replace h : Only 256 s s := .refl s
  unfold State.answerLost
  try dsimp only
  repeat' (first | with_reducible assumption | decide | intro _ | with_reducible refine answerHeld_only ?_ _ _ ?_
                 | with_reducible apply ite_only | with_reducible apply foldl_only
                 | with_reducible apply foldl_only_snd | refine snd_only ‹_ = _› ?_ | refine fst_only ‹_ = _› ?_
                 | split)

theorem modLane_only (h : Only m a s) : ∀ x1 x2 x3, (hm : Sub 4096 m := by decide) → Only m a (State.modLane s x1 x2 x3) := by
  intro x1 x2 x3 hm
  refine h.step hm ?_
  replace h : Only 4096 s s := .refl s
  unfold State.modLane
  try dsimp only
  repeat' (first | with_reducible assumption | decide | intro _ | with_reducible refine modPc_only ?_ _ _ ?_
                 | with_reducible apply ite_only | with_reducible apply foldl_only
                 | with_reducible apply foldl_only_snd | refine snd_only ‹_ = _› ?_ | refine fst_only ‹_ = _› ?_
                 | split)

theorem setLaneState_only (h : Only m a s) : ∀ x1 x2 x3 x4, (hm : Sub 8 m := by decide) → Only m a (State.setLaneState s x1 x2 x3 x4) := by
  intro x1 x2 x3 x4 hm
  refine h.step hm ?_
  replace h : Only 8 s s := .refl s
  unfold State.setLaneState
  try dsimp only
  repeat' (first | with_reducible assumption | decide | intro _ | with_reducible apply each_only
                 | with_reducible refine setObj_only ?_ _ _ _ _ ?_ | with_reducible apply ite_only
                 | with_reducible apply foldl_only | with_reducible apply foldl_only_snd | refine snd_only ‹_ = _› ?_
                 | refine fst_only ‹_ = _› ?_ | split)

theorem laneEvent_only (h : Only m a s) : ∀ x1 x2 x3 x4, (hm : Sub 2097164 m := by decide) → Only m a (State.laneEvent s x1 x2 x3 x4) := by
  intro x1 x2 x3 x4 hm
  refine h.step hm ?_
  replace h : Only 2097164 s s := .refl s
  unfold State.laneEvent
  try dsimp only
  repeat' (first | with_reducible assumption | decide | intro _ | with_reducible refine takeFree_only ?_ ?_
                 | with_reducible refine logEvent_only ?_ _ _ _ _ _ _ ?_ | with_reducible apply ite_only
                 | with_reducible apply foldl_only | with_reducible apply foldl_only_snd | refine snd_only ‹_ = _› ?_
                 | refine fst_only ‹_ = _› ?_ | split)

theorem replaceLane_only (h : Only m a s) : ∀ x1 x2 x3, (hm : Sub 2101260 m := by decide) → Only m a (State.replaceLane s x1 x2 x3) := by
  intro x1 x2 x3 hm
  refine h.step hm ?_
  replace h : Only 2101260 s s := .refl s
  unfold State.replaceLane
  try dsimp only
  repeat' (first | with_reducible assumption | decide | intro _ | with_reducible refine modLane_only ?_ _ _ _ ?_
                 | with_reducible refine bump_only ?_ _ _ _ _ ?_
                 | with_reducible refine setLaneState_only ?_ _ _ _ _ ?_
                 | with_reducible refine laneEvent_only ?_ _ _ _ _ ?_ | with_reducible apply ite_only
                 | with_reducible apply foldl_only | with_reducible apply foldl_only_snd | refine snd_only ‹_ = _› ?_
                 | refine fst_only ‹_ = _› ?_ | split)

theorem queueMigration_only (h : Only m a s) : ∀ x1 x2 x3 x4, (hm : Sub 2048 m := by decide) → Only m a (State.queueMigration s x1 x2 x3 x4) := by
  intro x1 x2 x3 x4 hm
  refine h.step hm ?_
  replace h : Only 2048 s s := .refl s
  unfold State.queueMigration
  try dsimp only
  repeat' (first | with_reducible assumption | decide | intro _ | with_reducible refine modStack_only ?_ _ _ ?_
                 | with_reducible apply ite_only | with_reducible apply foldl_only
                 | with_reducible apply foldl_only_snd | refine snd_only ‹_ = _› ?_ | refine fst_only ‹_ = _› ?_
                 | split)

theorem evacuatePc_only (h : Only m a s) : ∀ x1, (hm : Sub 2056 m := by decide) → Only m a (State.evacuatePc s x1) := by
  intro x1 hm
  refine h.step hm ?_
  replace h : Only 2056 s s := .refl s
  unfold State.evacuatePc
  try dsimp only
  repeat' (first | with_reducible assumption | decide | intro _ | with_reducible refine modStack_only ?_ _ _ ?_
                 | with_reducible refine setObj_only ?_ _ _ _ _ ?_ | with_reducible apply each_only
                 | with_reducible refine queueMigration_only ?_ _ _ _ _ ?_ | with_reducible apply ite_only
                 | with_reducible apply foldl_only | with_reducible apply foldl_only_snd | refine snd_only ‹_ = _› ?_
                 | refine fst_only ‹_ = _› ?_ | split)

theorem repairLane_only (h : Only m a s) : ∀ x1 x2 x3, (hm : Sub 2103308 m := by decide) → Only m a (State.repairLane s x1 x2 x3).2 := by
  intro x1 x2 x3 hm
  refine h.step hm ?_
  replace h : Only 2103308 s s := .refl s
  unfold State.repairLane
  try dsimp only
  repeat' (first | with_reducible assumption | decide | intro _ | with_reducible refine replaceLane_only ?_ _ _ _ ?_
                 | with_reducible refine evacuatePc_only ?_ _ ?_ | with_reducible apply ite_only
                 | with_reducible apply foldl_only | with_reducible apply foldl_only_snd | refine snd_only ‹_ = _› ?_
                 | refine fst_only ‹_ = _› ?_ | split)

theorem failTake_only (h : Only m a s) : ∀ x1 x2, (hm : Sub 4104 m := by decide) → Only m a (State.failTake s x1 x2) := by
  intro x1 x2 hm
  refine h.step hm ?_
  replace h : Only 4104 s s := .refl s
  unfold State.failTake
  try dsimp only
  repeat' (first | with_reducible assumption | decide | intro _ | with_reducible refine modLane_only ?_ _ _ _ ?_
                 | with_reducible refine bump_only ?_ _ _ _ _ ?_ | with_reducible apply ite_only
                 | with_reducible apply foldl_only | with_reducible apply foldl_only_snd | refine snd_only ‹_ = _› ?_
                 | refine fst_only ‹_ = _› ?_ | split)

theorem applyLane_only (h : Only m a s) : ∀ x1 x2 x3 x4 x5 x6, (hm : Sub 2103308 m := by decide) → Only m a (State.applyLane s x1 x2 x3 x4 x5 x6).2.2 := by
  intro x1 x2 x3 x4 x5 x6 hm
  refine h.step hm ?_
  replace h : Only 2103308 s s := .refl s
  unfold State.applyLane
  try dsimp only
  repeat' (first | with_reducible assumption | decide | intro _ | with_reducible refine repairLane_only ?_ _ _ _ ?_
                 | with_reducible refine setObj_only ?_ _ _ _ _ ?_ | with_reducible refine modLane_only ?_ _ _ _ ?_
                 | with_reducible refine failTake_only ?_ _ _ ?_ | with_reducible apply ite_only
                 | with_reducible apply foldl_only | with_reducible apply foldl_only_snd | refine snd_only ‹_ = _› ?_
                 | refine fst_only ‹_ = _› ?_ | split)

theorem noteCal_only (h : Only m a s) : ∀ x1, (hm : Sub 4104 m := by decide) → Only m a (State.noteCal s x1) := by
  intro x1 hm
  refine h.step hm ?_
  replace h : Only 4104 s s := .refl s
  unfold State.noteCal
  try dsimp only
  repeat' (first | with_reducible assumption | decide | intro _ | with_reducible refine clearHistogram_only ?_ _ ?_
                 | with_reducible refine setObj_only ?_ _ _ _ _ ?_ | with_reducible refine bump_only ?_ _ _ _ _ ?_
                 | with_reducible refine modPc_only ?_ _ _ ?_ | with_reducible apply ite_only
                 | with_reducible apply foldl_only | with_reducible apply foldl_only_snd | refine snd_only ‹_ = _› ?_
                 | refine fst_only ‹_ = _› ?_ | split)

theorem applyCal_only (h : Only m a s) : ∀ x1 x2 x3, (hm : Sub 2103308 m := by decide) → Only m a (State.applyCal s x1 x2 x3) := by
  intro x1 x2 x3 hm
  refine h.step hm ?_
  replace h : Only 2103308 s s := .refl s
  unfold State.applyCal
  extract_lets set part down up r el c c1 unfilled s1 s2
  have g : Only 2103308 s r.2.2 := by
    refine foldl_only_snd3 (m := 2103308) (fun (acc : Bool × Bool × State) lane =>
      let x := acc.2.2.applyLane x1 set (down || up) x2 x3 lane
      (acc.1 || x.1, acc.2.1 || x.2.1, x.2.2)) (fun p x k => ?_) (upTo 38) (p := (false, false, s)) h
    exact applyLane_only k _ _ _ _ _ _
  have g1 : Only 2103308 s s1 := setObj_only g _ _ _ _
  have g2 : Only 2103308 s s2 := ite_only g1 (bump_only g1 _ _ _ _)
  exact noteCal_only (setObj_only g2 _ _ _ _) _

theorem applyHeld_only (h : Only m a s) : ∀ x1, (hm : Sub 384 m := by decide) → Only m a (State.applyHeld s x1) := by
  intro x1 hm
  refine h.step hm ?_
  replace h : Only 384 s s := .refl s
  unfold State.applyHeld
  try dsimp only
  repeat' (first | with_reducible assumption | decide | intro _ | with_reducible refine dramPut_only ?_ _ _ ?_
                 | with_reducible refine answerHeld_only ?_ _ _ ?_ | with_reducible apply ite_only
                 | with_reducible apply foldl_only | with_reducible apply foldl_only_snd | refine snd_only ‹_ = _› ?_
                 | refine fst_only ‹_ = _› ?_ | split)

theorem applyHeldWhere_only (h : Only m a s) : ∀ x1 x2, (hm : Sub 2432 m := by decide) → Only m a (State.applyHeldWhere s x1 x2) := by
  intro x1 x2 hm
  refine h.step hm ?_
  replace h : Only 2432 s s := .refl s
  unfold State.applyHeldWhere
  try dsimp only
  repeat' (first | with_reducible assumption | decide | intro _ | with_reducible apply each_only
                 | with_reducible refine modStack_only ?_ _ _ ?_ | with_reducible refine applyHeld_only ?_ _ ?_
                 | with_reducible apply ite_only | with_reducible apply foldl_only
                 | with_reducible apply foldl_only_snd | refine snd_only ‹_ = _› ?_ | refine fst_only ‹_ = _› ?_
                 | split)

theorem grantTakes_only (h : Only m a s) : ∀ x1 x2 x3, (hm : Sub 1050624 m := by decide) → Only m a (State.grantTakes s x1 x2 x3) := by
  intro x1 x2 x3 hm
  refine h.step hm ?_
  replace h : Only 1050624 s s := .refl s
  unfold State.grantTakes
  dsimp only
  refine modStack_only ?_ _ _
  exact ite_only (tokens_only h _ fun c => Map.put_wf (dflt := fun _ => 0) _ _ _ c) h

theorem tallyStack_only (h : Only m a s) : ∀ x1 x2 x3 x4, (hm : Sub 524296 m := by decide) → Only m a (State.tallyStack s x1 x2 x3 x4) := by
  intro x1 x2 x3 x4 hm
  refine h.step hm ?_
  replace h : Only 524296 s s := .refl s
  unfold State.tallyStack
  try dsimp only
  repeat' (first | with_reducible assumption | decide | intro _ | with_reducible apply each_only
                 | with_reducible refine countOn_only ?_ _ _ _ _ _ _ ?_ | with_reducible apply ite_only
                 | with_reducible apply foldl_only | with_reducible apply foldl_only_snd | refine snd_only ‹_ = _› ?_
                 | refine fst_only ‹_ = _› ?_ | split)

theorem charge_only (h : Only m a s) : ∀ x1 x2, (hm : Sub 524288 m := by decide) → Only m a (State.charge s x1 x2) := by
  intro x1 x2 hm
  refine h.step hm ?_
  replace h : Only 524288 s s := .refl s
  unfold State.charge
  try dsimp only
  repeat' (first | with_reducible assumption | decide | intro _ | with_reducible refine modTest_only ?_ _ ?_
                 | with_reducible apply ite_only | with_reducible apply foldl_only
                 | with_reducible apply foldl_only_snd | refine snd_only ‹_ = _› ?_ | refine fst_only ‹_ = _› ?_
                 | split)

theorem ownWork_only (h : Only m a s) : ∀ x1 x2 x3 x4 x5, (hm : Sub 1579016 m := by decide) → Only m a (State.ownWork s x1 x2 x3 x4 x5) := by
  intro x1 x2 x3 x4 x5 hm
  refine h.step hm ?_
  replace h : Only 1579016 s s := .refl s
  unfold State.ownWork
  try dsimp only
  repeat' (first | with_reducible assumption | decide | intro _ | with_reducible refine grantTakes_only ?_ _ _ _ ?_
                 | with_reducible refine modPc_only ?_ _ _ ?_ | with_reducible refine tallyStack_only ?_ _ _ _ _ ?_
                 | with_reducible refine charge_only ?_ _ _ ?_ | with_reducible apply ite_only
                 | with_reducible apply foldl_only | with_reducible apply foldl_only_snd | refine snd_only ‹_ = _› ?_
                 | refine fst_only ‹_ = _› ?_ | split)

theorem loseLine_only (h : Only m a s) : ∀ x1, (hm : Sub 1579144 m := by decide) → Only m a (State.loseLine s x1) := by
  intro x1 hm
  refine h.step hm ?_
  replace h : Only 1579144 s s := .refl s
  unfold State.loseLine
  try dsimp only
  repeat' (first | with_reducible assumption | decide | intro _ | with_reducible apply each_only
                 | with_reducible refine ownWork_only ?_ _ _ _ _ _ ?_ | with_reducible refine dramPut_only ?_ _ _ ?_
                 | with_reducible apply ite_only | with_reducible apply foldl_only
                 | with_reducible apply foldl_only_snd | refine snd_only ‹_ = _› ?_ | refine fst_only ‹_ = _› ?_
                 | split)

theorem applyMoved_only (h : Only m a s) : ∀ x1 x2, (hm : Sub 1579400 m := by decide) → Only m a (State.applyMoved s x1 x2) := by
  intro x1 x2 hm
  refine h.step hm ?_
  replace h : Only 1579400 s s := .refl s
  unfold State.applyMoved
  try dsimp only
  repeat' (first | with_reducible assumption | decide | intro _ | with_reducible refine applyHeld_only ?_ _ ?_
                 | with_reducible refine answerLost_only ?_ _ ?_ | with_reducible refine modStack_only ?_ _ _ ?_
                 | with_reducible refine loseLine_only ?_ _ ?_ | with_reducible apply ite_only
                 | with_reducible apply foldl_only | with_reducible apply foldl_only_snd | refine snd_only ‹_ = _› ?_
                 | refine fst_only ‹_ = _› ?_ | split)

theorem newKey_only (h : Only m a s) : ∀ x1, (hm : Sub 262152 m := by decide) → Only m a (State.newKey s x1).2 := by
  intro x1 hm
  refine h.step hm ?_
  replace h : Only 262152 s s := .refl s
  unfold State.newKey
  try dsimp only
  repeat' (first | with_reducible assumption | decide | intro _ | with_reducible refine modKeys_only ?_ _ ?_
                 | with_reducible refine count_only ?_ _ _ ?_ | with_reducible apply ite_only
                 | with_reducible apply foldl_only | with_reducible apply foldl_only_snd | refine snd_only ‹_ = _› ?_
                 | refine fst_only ‹_ = _› ?_ | split)

theorem createRegion_only (h : Only m a s) : ∀ x1 x2, (hm : Sub 270408 m := by decide) → Only m a (State.createRegion s x1 x2).2 := by
  intro x1 x2 hm
  refine h.step hm ?_
  replace h : Only 270408 s s := .refl s
  have key (b : Bool) (l : List Nat) (t : State) (g : (if b = true then s.allotPlaces l else some s) = some t) : Only 270408 s t := by
    cases b
    · cases g; exact h
    · exact allotPlaces_only h _ _ g
  unfold State.createRegion
  dsimp only
  split
  · exact h
  split
  · exact h
  split
  · exact h
  split
  · split
    · exact h
    · have ht := key _ _ _ ‹_›
      split
      · exact h
      · refine modSlot_only ?_ _ _
        cases x2.loft == 2
        · exact newKey_only ht 0
        · exact ht
  · exact h

theorem applyTemplate_go_only (h : Only m a s) (x1 : Nat) : ∀ x2, ∀ t, State.applyTemplate.go x1 s x2 = .ok t →
    (hm : Sub 270408 m := by decide) → Only m a t := by
  intro x2
  induction x2 generalizing s with
  | nil => intro t e _; cases e; exact h
  | cons i l ih =>
    intro t e hm
    unfold State.applyTemplate.go at e
    dsimp only at e
    split at e
    · cases e
    · exact ih (modSlot_only (createRegion_only h _ _ (.trans (by decide) hm)) _ _ (.trans (by decide) hm)) _ e hm

theorem applyTemplate_only (h : Only m a s) : ∀ x1, ∀ t, State.applyTemplate s x1 = .ok t → (hm : Sub 270408 m := by decide) → Only m a t :=
  fun _ t e hm => applyTemplate_go_only h _ _ t e hm

theorem arrive_only (h : Only m a s) : ∀ x1 x2, (hm : Sub 4096 m := by decide) → Only m a (State.arrive s x1 x2) := by
  intro x1 x2 hm
  refine h.step hm ?_
  replace h : Only 4096 s s := .refl s
  unfold State.arrive
  try dsimp only
  repeat' (first | with_reducible assumption | decide | intro _ | with_reducible refine modPc_only ?_ _ _ ?_
                 | with_reducible apply ite_only | with_reducible apply foldl_only
                 | with_reducible apply foldl_only_snd | refine snd_only ‹_ = _› ?_ | refine fst_only ‹_ = _› ?_
                 | split)

theorem askAborts_only (h : Only m a s) : ∀ x1 x2 x3, (hm : Sub 16384 m := by decide) → Only m a (State.askAborts s x1 x2 x3) := by
  intro x1 x2 x3 hm
  refine h.step hm ?_
  replace h : Only 16384 s s := .refl s
  unfold State.askAborts
  try dsimp only
  repeat' (first | with_reducible assumption | decide | intro _ | with_reducible refine modShotS_only ?_ _ ?_
                 | with_reducible apply ite_only | with_reducible apply foldl_only
                 | with_reducible apply foldl_only_snd | refine snd_only ‹_ = _› ?_ | refine fst_only ‹_ = _› ?_
                 | split)

theorem askBack_only (h : Only m a s) : ∀ x1, (hm : Sub 535304 m := by decide) → Only m a (State.askBack s x1) := by
  intro x1 hm
  refine h.step hm ?_
  replace h : Only 535304 s s := .refl s
  unfold State.askBack
  try dsimp only
  repeat' (first | with_reducible assumption | decide | intro _ | with_reducible refine modLoft_only ?_ _ ?_
                 | with_reducible apply each_only | with_reducible refine wbSector_only ?_ _ _ _ _ ?_
                 | with_reducible refine callStack_only ?_ _ ?_ | with_reducible apply ite_only
                 | with_reducible apply foldl_only | with_reducible apply foldl_only_snd | refine snd_only ‹_ = _› ?_
                 | refine fst_only ‹_ = _› ?_ | fail_if_no_progress (with_reducible refine upd768_only ?_ _ _ ?_)
                 | split)

theorem askPulls_only (h : Only m a s) : ∀ x1, (hm : Sub 2048 m := by decide) → Only m a (State.askPulls s x1) := by
  intro x1 hm
  refine h.step hm ?_
  replace h : Only 2048 s s := .refl s
  unfold State.askPulls
  try dsimp only
  repeat' (first | with_reducible assumption | decide | intro _ | with_reducible apply each_only
                 | with_reducible refine modStack_only ?_ _ _ ?_ | with_reducible apply ite_only
                 | with_reducible apply foldl_only | with_reducible apply foldl_only_snd | refine snd_only ‹_ = _› ?_
                 | refine fst_only ‹_ = _› ?_ | split)

theorem damage_only (h : Only m a s) : ∀ x1 x2, (hm : Sub 2097152 m := by decide) → Only m a (State.damage s x1 x2).2 := by
  intro x1 x2 hm
  refine h.step hm ?_
  replace h : Only 2097152 s s := .refl s
  unfold State.damage
  try dsimp only
  repeat' (first | with_reducible assumption | decide | intro _ | with_reducible refine takeFree_only ?_ ?_
                 | with_reducible apply ite_only | with_reducible apply foldl_only
                 | with_reducible apply foldl_only_snd | refine snd_only ‹_ = _› ?_ | refine fst_only ‹_ = _› ?_
                 | split)

theorem bake_only (h : Only m a s) : ∀ x1 x2, (hm : Sub 2097152 m := by decide) → Only m a (State.bake s x1 x2).2 := by
  intro x1 x2 hm
  refine h.step hm ?_
  replace h : Only 2097152 s s := .refl s
  unfold State.bake
  try dsimp only
  repeat' (first | with_reducible assumption | decide | intro _ | with_reducible refine damage_only ?_ _ _ ?_
                 | with_reducible apply ite_only | with_reducible apply foldl_only
                 | with_reducible apply foldl_only_snd | refine snd_only ‹_ = _› ?_ | refine fst_only ‹_ = _› ?_
                 | split)

theorem biteEvent_only (h : Only m a s) : ∀ x1 x2 x3, (hm : Sub 12 m := by decide) → Only m a (State.biteEvent s x1 x2 x3) := by
  intro x1 x2 x3 hm
  refine h.step hm ?_
  replace h : Only 12 s s := .refl s
  unfold State.biteEvent
  try dsimp only
  repeat' (first | with_reducible assumption | decide | intro _
                 | with_reducible refine logEvent_only ?_ _ _ _ _ _ _ ?_ | with_reducible refine count_only ?_ _ _ ?_
                 | with_reducible apply ite_only | with_reducible apply foldl_only
                 | with_reducible apply foldl_only_snd | refine snd_only ‹_ = _› ?_ | refine fst_only ‹_ = _› ?_
                 | split)

theorem reseed_only (h : Only m a s) : (hm : Sub 262144 m := by decide) → Only m a (State.reseed s) := by
  intro hm
  refine h.step hm ?_
  replace h : Only 262144 s s := .refl s
  unfold State.reseed
  try dsimp only
  repeat' (first | with_reducible assumption | decide | intro _ | with_reducible refine modKeys_only ?_ _ ?_
                 | with_reducible apply ite_only | with_reducible apply foldl_only
                 | with_reducible apply foldl_only_snd | refine snd_only ‹_ = _› ?_ | refine fst_only ‹_ = _› ?_
                 | split)

theorem bootKeys_only (h : Only m a s) : ∀ x1, (hm : Sub 264200 m := by decide) → Only m a (State.bootKeys s x1) := by
  intro x1 hm
  refine h.step hm ?_
  replace h : Only 264200 s s := .refl s
  unfold State.bootKeys
  try dsimp only
  repeat' (first | with_reducible assumption | decide | intro _ | with_reducible apply each_only
                 | with_reducible refine reseed_only ?_ ?_ | with_reducible refine newKey_only ?_ _ ?_
                 | with_reducible refine modStack_only ?_ _ _ ?_ | with_reducible refine modKeys_only ?_ _ ?_
                 | with_reducible apply ite_only | with_reducible apply foldl_only
                 | with_reducible apply foldl_only_snd | refine snd_only ‹_ = _› ?_ | refine fst_only ‹_ = _› ?_
                 | split)

theorem setProfile_only (h : Only m a s) : ∀ x1, (hm : Sub 8 m := by decide) → Only m a (State.setProfile s x1) := by
  intro x1 hm
  refine h.step hm ?_
  replace h : Only 8 s s := .refl s
  unfold State.setProfile
  try dsimp only
  repeat' (first | with_reducible assumption | decide | intro _ | with_reducible apply each_only
                 | with_reducible refine setObj_only ?_ _ _ _ _ ?_ | with_reducible apply ite_only
                 | with_reducible apply foldl_only | with_reducible apply foldl_only_snd | refine snd_only ‹_ = _› ?_
                 | refine fst_only ‹_ = _› ?_ | split)

theorem stSet_only (h : Only m a s) : ∀ x1 x2 x3 x4 x5, (hm : Sub 8 m := by decide) → Only m a (State.stSet s x1 x2 x3 x4 x5) := by
  intro x1 x2 x3 x4 x5 hm
  refine h.step hm ?_
  replace h : Only 8 s s := .refl s
  unfold State.stSet
  try dsimp only
  repeat' (first | with_reducible assumption | decide | intro _ | with_reducible refine setObj_only ?_ _ _ _ _ ?_
                 | with_reducible apply ite_only | with_reducible apply foldl_only
                 | with_reducible apply foldl_only_snd | refine snd_only ‹_ = _› ?_ | refine fst_only ‹_ = _› ?_
                 | split)

theorem bootProfile_only (h : Only m a s) : (hm : Sub 270412 m := by decide) → Only m a (State.bootProfile s) := by
  intro hm
  refine h.step hm ?_
  replace h : Only 270412 s s := .refl s
  unfold State.bootProfile
  try dsimp only
  repeat' (first | with_reducible assumption | decide | intro _
                 | with_reducible refine logEvent_only ?_ _ _ _ _ _ _ ?_
                 | with_reducible refine setObj_only ?_ _ _ _ _ ?_ | with_reducible apply each_only
                 | with_reducible refine setProfile_only ?_ _ ?_ | with_reducible refine stSet_only ?_ _ _ _ _ _ ?_
                 | refine applyTemplate_only ?_ _ _ ‹_ = Except.ok _› ?_ | with_reducible apply ite_only
                 | with_reducible apply foldl_only | with_reducible apply foldl_only_snd | refine snd_only ‹_ = _› ?_
                 | refine fst_only ‹_ = _› ?_ | split)

theorem trimReport_only (h : Only m a s) : (hm : Sub 8 m := by decide) → Only m a (State.trimReport s) := by
  intro hm
  refine h.step hm ?_
  replace h : Only 8 s s := .refl s
  unfold State.trimReport
  try dsimp only
  repeat' (first | with_reducible assumption | decide | intro _ | with_reducible refine bump_only ?_ _ _ _ _ ?_
                 | with_reducible refine setObj_only ?_ _ _ _ _ ?_ | with_reducible apply ite_only
                 | with_reducible apply foldl_only | with_reducible apply foldl_only_snd | refine snd_only ‹_ = _› ?_
                 | refine fst_only ‹_ = _› ?_ | split)

theorem gaffer_only (h : Only m a s) : (hm : Sub 526348 m := by decide) → Only m a (State.gaffer s) := by
  intro hm
  refine h.step hm ?_
  replace h : Only 526348 s s := .refl s
  unfold State.gaffer
  try dsimp only
  repeat' (first | with_reducible assumption | decide | intro _ | with_reducible refine modTest_only ?_ _ ?_
                 | with_reducible apply each_only | with_reducible refine setObj_only ?_ _ _ _ _ ?_
                 | with_reducible refine modStack_only ?_ _ _ ?_
                 | with_reducible refine logEvent_only ?_ _ _ _ _ _ _ ?_ | with_reducible apply ite_only
                 | with_reducible apply foldl_only | with_reducible apply foldl_only_snd | refine snd_only ‹_ = _› ?_
                 | refine fst_only ‹_ = _› ?_ | split)

end Sys2Proof.Laws
end

