-- ==== Sys2Proof/Laws/Only2.lean ====
section
/-! SUPPORT. Only2.lean: everything each shared operation and command can do to the parts of the state, operations before
those that use them (2 of 6). -/

-- theorems one after another: many at once would ask for too many threads
set_option Elab.async false

namespace Sys2Proof.Laws

open Sys2Proof.Machine Sys2Proof.Safety

set_option linter.unreachableTactic false
set_option linter.unusedTactic false

variable {a s : State} {m : Nat}

theorem trimStack_only (h : Only m a s) : ∀ x1, (hm : Sub 2060 m := by decide) → Only m a (State.trimStack s x1) := by
  intro x1 hm
  refine h.step hm ?_
  replace h : Only 2060 s s := .refl s
  unfold State.trimStack
  try dsimp only
  repeat' (first | with_reducible assumption | decide | intro _ | with_reducible refine modStack_only ?_ _ _ ?_
                 | with_reducible refine logEvent_only ?_ _ _ _ _ _ _ ?_ | with_reducible apply ite_only
                 | with_reducible apply foldl_only | with_reducible apply foldl_only_snd | refine snd_only ‹_ = _› ?_
                 | refine fst_only ‹_ = _› ?_ | split)

theorem deficitBoundary_only (h : Only m a s) : ∀ x1, (hm : Sub 2060 m := by decide) → Only m a (State.deficitBoundary s x1) := by
  intro x1 hm
  refine h.step hm ?_
  replace h : Only 2060 s s := .refl s
  unfold State.deficitBoundary
  try dsimp only
  repeat' (first | with_reducible assumption | decide | intro _ | with_reducible refine modStack_only ?_ _ _ ?_
                 | with_reducible refine bump_only ?_ _ _ _ _ ?_
                 | with_reducible refine logEvent_only ?_ _ _ _ _ _ _ ?_ | with_reducible apply ite_only
                 | with_reducible apply foldl_only | with_reducible apply foldl_only_snd | refine snd_only ‹_ = _› ?_
                 | refine fst_only ‹_ = _› ?_ | split)

theorem refill_only (h : Only m a s) : (hm : Sub 1581056 m := by decide) → Only m a (State.refill s) := by
  intro hm
  refine h.step hm ?_
  replace h : Only 1581056 s s := .refl s
  unfold State.refill
  dsimp only
  refine modTest_only (modLoft_only (tokens_only h _ fun _ => ?_) _) _
  generalize upTo 256 = l
  have : ∀ (l : List Nat) (m : Map Nat), Map.wf (fun _ => (0 : Nat)) m = true →
      Map.wf (fun _ => (0 : Nat)) (l.foldl (fun (m : Map Nat) i => Map.put 0
        (s.live' 0x4001 5 i - (s.live2' 0x4001 5 i - Map.look 0 i s.tokens + s.live' 0x4001 4 i)) i m) m) = true := by
    intro l
    induction l with
    | nil => intro m c; exact c
    | cons i l ih => intro m c; exact ih _ (Map.put_wf (dflt := fun _ => 0) _ _ _ c)
  exact this _ _ rfl

theorem creditBoundary_only (h : Only m a s) : ∀ x1, (hm : Sub 2056 m := by decide) → Only m a (State.creditBoundary s x1) := by
  intro x1 hm
  refine h.step hm ?_
  replace h : Only 2056 s s := .refl s
  unfold State.creditBoundary
  try dsimp only
  repeat' (first | with_reducible assumption | decide | intro _ | with_reducible refine setObj_only ?_ _ _ _ _ ?_
                 | with_reducible refine modStack_only ?_ _ _ ?_ | with_reducible apply ite_only
                 | with_reducible apply foldl_only | with_reducible apply foldl_only_snd | refine snd_only ‹_ = _› ?_
                 | refine fst_only ‹_ = _› ?_ | split)

theorem boundaryAllot_only (h : Only m a s) : (hm : Sub 1583116 m := by decide) → Only m a (State.boundaryAllot s) := by
  intro hm
  refine h.step hm ?_
  replace h : Only 1583116 s s := .refl s
  unfold State.boundaryAllot
  try dsimp only
  repeat' (first | with_reducible assumption | decide | intro _ | with_reducible refine trimReport_only ?_ ?_
                 | with_reducible apply each_only | with_reducible refine gaffer_only ?_ ?_
                 | with_reducible refine trimStack_only ?_ _ ?_ | with_reducible refine deficitBoundary_only ?_ _ ?_
                 | with_reducible refine refill_only ?_ ?_ | with_reducible refine creditBoundary_only ?_ _ ?_
                 | with_reducible apply ite_only | with_reducible apply foldl_only
                 | with_reducible apply foldl_only_snd | refine snd_only ‹_ = _› ?_ | refine fst_only ‹_ = _› ?_
                 | split)

theorem stateBoundary_only (h : Only m a s) : (hm : Sub 33570830 m := by decide) → Only m a (State.stateBoundary s).2 := by
  intro hm
  refine h.step hm ?_
  replace h : Only 33570830 s s := .refl s
  unfold State.stateBoundary
  split
  · exact h
  · extract_lets old s1 n
    have g : Only 33570830 s s1 := logAsked_only (modBlock_states h _) _ _ _ _
    clear_value s1 n
    split
    · exact pair_only (askAborts_only (asks_only g _ _) _ _ _)
    · split
      · exact pair_only (asks_only g _ _)
      · exact pair_only g

theorem objectBoundary_only (h : Only m a s) : (hm : Sub 1572920 m := by decide) → Only m a (State.objectBoundary s) := by
  intro hm
  refine h.step hm ?_
  replace h : Only 1572920 s s := .refl s
  unfold State.objectBoundary
  dsimp only
  refine modTest_only (each_only (fun t x g => modTest_only (ite_only (setObj_only g _ _ _ _) (setObj_only g _ _ _ _)) _) _ ?_) _
  refine ⟨.inr rfl, .inr rfl, .inr rfl, .inl rfl, .inl rfl, .inl rfl, .inr rfl, .inr rfl, .inr rfl, .inr rfl, .inr rfl, .inr rfl, .inr rfl, .inr rfl, .inr rfl, .inr rfl, .inr rfl, .inr rfl, .inr rfl, .inl rfl, .inl rfl, .inr rfl, .inr rfl, .inr rfl, .inr rfl, .inr ⟨rfl, rfl, rfl⟩, List.prefix_rfl, le_rfl, fun c => ?_⟩
  obtain ⟨h1, h2, h3, h4, h5, h6, h7, h8⟩ := c
  refine ⟨h1, h2, h3, h4, ?_, h6, h6, h7⟩
  show Map.wf _ (if _ then _ else _) = true
  split
  · rfl
  · exact h5

theorem jump_only (h : Only m a s) : ∀ x1 x2, (hm : Sub 13 m := by decide) → Only m a (State.jump s x1 x2) := by
  intro x1 x2 hm
  refine h.step hm ?_
  replace h : Only 13 s s := .refl s
  unfold State.jump
  try dsimp only
  repeat' (first | with_reducible assumption | decide | exact rfl | intro _
                 | with_reducible refine modTime_only ?_ _ ?_ ?_ | with_reducible refine logAsked_only ?_ _ _ _ _ ?_
                 | with_reducible apply ite_only | with_reducible apply foldl_only
                 | with_reducible apply foldl_only_snd | refine snd_only ‹_ = _› ?_ | refine fst_only ‹_ = _› ?_
                 | split)

theorem selectTrack_only (h : Only m a s) : (hm : Sub 25 m := by decide) → Only m a (State.selectTrack s) := by
  intro hm
  refine h.step hm ?_
  replace h : Only 25 s s := .refl s
  unfold State.selectTrack
  try dsimp only
  repeat' (first | with_reducible assumption | decide | exact rfl | intro _
                 | with_reducible refine setNow_only ?_ _ _ _ _ ?_ | with_reducible refine modTime_only ?_ _ ?_ ?_
                 | with_reducible apply ite_only | with_reducible apply foldl_only
                 | with_reducible apply foldl_only_snd | refine snd_only ‹_ = _› ?_ | refine fst_only ‹_ = _› ?_
                 | split)

theorem timeBoundary_only (h : Only m a s) : ∀ x1, (hm : Sub 20971549 m := by decide) → Only m a (State.timeBoundary s x1) := by
  intro x1 hm
  refine h.step hm ?_
  replace h : Only 20971549 s s := .refl s
  unfold State.timeBoundary
  extract_lets s1 s2 asked s3 s4
  have g1 : Only 20971549 s s1 := modTime_frames h _
  have g2 : Only 20971549 s s2 := by
    unfold s2
    split
    · exact setObj_only (jump_only (modTime_frames g1 _) _ _) _ _ _ _
    · exact g1
  clear_value asked s2
  have g3 : Only 20971549 s s3 := by
    unfold s3
    split
    · exact ite_only (setNow_only g2 _ _ _ _) g2
    · split
      · exact selectTrack_only g2
      · exact modTime_frames g2 _
  clear_value s3
  have g4 : Only 20971549 s s4 := by
    unfold s4
    split
    · exact jump_only (modTime_frames g3 _) _ _
    · exact g3
  exact emit_only (modTime_frames g4 _) _

theorem destroyKeys_only (h : Only m a s) : ∀ x1, (hm : Sub 72 m := by decide) → Only m a (State.destroyKeys s x1) := by
  intro x1 hm
  refine h.step hm ?_
  replace h : Only 72 s s := .refl s
  unfold State.destroyKeys
  try dsimp only
  repeat' (first | with_reducible assumption | decide | intro _ | with_reducible refine modSlot_only ?_ _ _ ?_
                 | with_reducible refine bump_only ?_ _ _ _ _ ?_ | with_reducible apply ite_only
                 | with_reducible apply foldl_only | with_reducible apply foldl_only_snd | refine snd_only ‹_ = _› ?_
                 | refine fst_only ‹_ = _› ?_ | split)

theorem modSession_only (h : Only m a s) : ∀ x1 x2, (hm : Sub 4 m := by decide) → Only m a (State.modSession s x1 x2) := by
  intro x1 x2 hm
  refine h.step hm ?_
  replace h : Only 4 s s := .refl s
  unfold State.modSession
  try dsimp only
  repeat' (first | with_reducible assumption | decide | intro _ | with_reducible refine modMgmt_only ?_ _ ?_
                 | with_reducible apply ite_only | with_reducible apply foldl_only
                 | with_reducible apply foldl_only_snd | refine snd_only ‹_ = _› ?_ | refine fst_only ‹_ = _› ?_
                 | split)

theorem breakLocks_only (h : Only m a s) : ∀ x1 x2, (hm : Sub 12 m := by decide) → Only m a (State.breakLocks s x1 x2) := by
  intro x1 x2 hm
  refine h.step hm ?_
  replace h : Only 12 s s := .refl s
  unfold State.breakLocks
  try dsimp only
  repeat' (first | with_reducible assumption | decide | intro _ | with_reducible refine modSession_only ?_ _ _ ?_
                 | with_reducible refine logAsked_only ?_ _ _ _ _ ?_ | with_reducible refine count_only ?_ _ _ ?_
                 | with_reducible apply ite_only | with_reducible apply foldl_only
                 | with_reducible apply foldl_only_snd | refine snd_only ‹_ = _› ?_ | refine fst_only ‹_ = _› ?_
                 | split)

theorem dropSession_only (h : Only m a s) : ∀ x1, (hm : Sub 12 m := by decide) → Only m a (State.dropSession s x1) := by
  intro x1 hm
  refine h.step hm ?_
  replace h : Only 12 s s := .refl s
  unfold State.dropSession
  try dsimp only
  repeat' (first | with_reducible assumption | decide | intro _ | with_reducible refine asks_only ?_ _ _ ?_
                 | with_reducible refine bump_only ?_ _ _ _ _ ?_ | with_reducible refine breakLocks_only ?_ _ _ ?_
                 | with_reducible refine modSession_only ?_ _ _ ?_ | with_reducible refine modMgmt_only ?_ _ ?_
                 | with_reducible apply ite_only | with_reducible apply foldl_only
                 | with_reducible apply foldl_only_snd | refine snd_only ‹_ = _› ?_ | refine fst_only ‹_ = _› ?_
                 | split)

theorem scanBoundary_only (h : Only m a s) : (hm : Sub 264270 m := by decide) → Only m a (State.scanBoundary s) := by
  intro hm
  refine h.step hm ?_
  replace h : Only 264270 s s := .refl s
  unfold State.scanBoundary
  try dsimp only
  repeat' (first | with_reducible assumption | decide | exact ⟨rfl, rfl, rfl⟩ | intro _
                 | with_reducible apply each_only | with_reducible refine destroyKeys_only ?_ _ ?_
                 | with_reducible refine modStack_only ?_ _ _ ?_ | with_reducible refine count_only ?_ _ _ ?_
                 | with_reducible refine modKeys_only ?_ _ ?_ | with_reducible refine dropSession_only ?_ _ ?_
                 | with_reducible refine modBlock_only ?_ _ ?_ ?_ | with_reducible refine modMgmt_only ?_ _ ?_
                 | with_reducible apply ite_only | with_reducible apply foldl_only
                 | with_reducible apply foldl_only_snd | refine snd_only ‹_ = _› ?_ | refine fst_only ‹_ = _› ?_
                 | split)

theorem retrainBoundary_only (h : Only m a s) : (hm : Sub 4104 m := by decide) → Only m a (State.retrainBoundary s) := by
  intro hm
  refine h.step hm ?_
  replace h : Only 4104 s s := .refl s
  unfold State.retrainBoundary
  try dsimp only
  repeat' (first | with_reducible assumption | decide | intro _ | with_reducible apply each_only
                 | with_reducible refine modPc_only ?_ _ _ ?_ | with_reducible refine noteCal_only ?_ _ ?_
                 | with_reducible apply ite_only | with_reducible apply foldl_only
                 | with_reducible apply foldl_only_snd | refine snd_only ‹_ = _› ?_ | refine fst_only ‹_ = _› ?_
                 | split)

theorem sheetBoundary_only (h : Only m a s) : (hm : Sub 6144 m := by decide) → Only m a (State.sheetBoundary s) := by
  intro hm
  refine h.step hm ?_
  replace h : Only 6144 s s := .refl s
  unfold State.sheetBoundary
  try dsimp only
  repeat' (first | with_reducible assumption | decide | intro _ | with_reducible apply each_only
                 | with_reducible refine eachPc_only ?_ _ ?_ | with_reducible refine modStack_only ?_ _ _ ?_
                 | with_reducible apply ite_only | with_reducible apply foldl_only
                 | with_reducible apply foldl_only_snd | refine snd_only ‹_ = _› ?_ | refine fst_only ‹_ = _› ?_
                 | split)

theorem reelBoundary_only (h : Only m a s) : (hm : Sub 536576 m := by decide) → Only m a (State.reelBoundary s) := by
  intro hm
  refine h.step hm ?_
  replace h : Only 536576 s s := .refl s
  unfold State.reelBoundary
  try dsimp only
  repeat' (first | with_reducible assumption | decide | intro _ | with_reducible refine modTest_only ?_ _ ?_
                 | with_reducible refine modLoft_only ?_ _ ?_ | with_reducible refine eachPc_only ?_ _ ?_
                 | with_reducible apply ite_only | with_reducible apply foldl_only
                 | with_reducible apply foldl_only_snd | refine snd_only ‹_ = _› ?_ | refine fst_only ‹_ = _› ?_
                 | split)

theorem noteCuts_only (h : Only m a s) : ∀ x1 x2, (hm : Sub 4096 m := by decide) → Only m a (State.noteCuts s x1 x2) := by
  intro x1 x2 hm
  refine h.step hm ?_
  replace h : Only 4096 s s := .refl s
  unfold State.noteCuts
  try dsimp only
  repeat' (first | with_reducible assumption | decide | intro _ | with_reducible apply each_only
                 | with_reducible refine modPc_only ?_ _ _ ?_ | with_reducible apply ite_only
                 | with_reducible apply foldl_only | with_reducible apply foldl_only_snd | refine snd_only ‹_ = _› ?_
                 | refine fst_only ‹_ = _› ?_ | split)

theorem cutBoundary_only (h : Only m a s) : (hm : Sub 4096 m := by decide) → Only m a (State.cutBoundary s) := by
  intro hm
  refine h.step hm ?_
  replace h : Only 4096 s s := .refl s
  unfold State.cutBoundary
  try dsimp only
  repeat' (first | with_reducible assumption | decide | intro _ | with_reducible apply each_only
                 | with_reducible refine noteCuts_only ?_ _ _ ?_ | with_reducible apply ite_only
                 | with_reducible apply foldl_only | with_reducible apply foldl_only_snd | refine snd_only ‹_ = _› ?_
                 | refine fst_only ‹_ = _› ?_ | split)

theorem pauseWaits_only (h : Only m a s) : (hm : Sub 256 m := by decide) → Only m a (State.pauseWaits s) := by
  intro hm
  refine h.step hm ?_
  replace h : Only 256 s s := .refl s
  unfold State.pauseWaits
  try dsimp only
  repeat' (first | with_reducible assumption | decide | intro _ | with_reducible apply ite_only
                 | with_reducible apply foldl_only | with_reducible apply foldl_only_snd | refine snd_only ‹_ = _› ?_
                 | refine fst_only ‹_ = _› ?_ | fail_if_no_progress (with_reducible refine upd256_only ?_ _ ?_)
                 | split)

theorem moveEntries_only (h : Only m a s) : ∀ x1, (hm : Sub 8 m := by decide) → Only m a (State.moveEntries s x1) := by
  intro x1 hm
  refine h.step hm ?_
  replace h : Only 8 s s := .refl s
  unfold State.moveEntries
  try dsimp only
  repeat' (first | with_reducible assumption | decide | intro _ | with_reducible apply each_only
                 | with_reducible refine setObj_only ?_ _ _ _ _ ?_ | with_reducible apply ite_only
                 | with_reducible apply foldl_only | with_reducible apply foldl_only_snd | refine snd_only ‹_ = _› ?_
                 | refine fst_only ‹_ = _› ?_ | split)

theorem readyBoundary_only (h : Only m a s) : (hm : Sub 14 m := by decide) → Only m a (State.readyBoundary s) := by
  intro hm
  refine h.step hm ?_
  replace h : Only 14 s s := .refl s
  unfold State.readyBoundary
  try dsimp only
  repeat' (first | with_reducible assumption | decide | exact ⟨rfl, rfl, rfl⟩ | intro _
                 | with_reducible apply each_only | with_reducible refine modBlock_only ?_ _ ?_ ?_
                 | with_reducible refine setReady_only ?_ _ _ ?_ | with_reducible refine moveEntries_only ?_ _ ?_
                 | with_reducible apply ite_only | with_reducible apply foldl_only
                 | with_reducible apply foldl_only_snd | refine snd_only ‹_ = _› ?_ | refine fst_only ‹_ = _› ?_
                 | split)

theorem sessionBoundary_only (h : Only m a s) : (hm : Sub 12 m := by decide) → Only m a (State.sessionBoundary s) := by
  intro hm
  refine h.step hm ?_
  replace h : Only 12 s s := .refl s
  unfold State.sessionBoundary
  try dsimp only
  repeat' (first | with_reducible assumption | decide | intro _ | with_reducible apply each_only
                 | with_reducible refine dropSession_only ?_ _ ?_ | with_reducible apply ite_only
                 | with_reducible apply foldl_only | with_reducible apply foldl_only_snd | refine snd_only ‹_ = _› ?_
                 | refine fst_only ‹_ = _› ?_ | split)

theorem patrolBoundary_only (h : Only m a s) : (hm : Sub 2056 m := by decide) → Only m a (State.patrolBoundary s) := by
  intro hm
  refine h.step hm ?_
  replace h : Only 2056 s s := .refl s
  unfold State.patrolBoundary
  try dsimp only
  repeat' (first | with_reducible assumption | decide | intro _ | with_reducible apply each_only
                 | with_reducible refine modStack_only ?_ _ _ ?_ | with_reducible refine setObj_only ?_ _ _ _ _ ?_
                 | with_reducible apply ite_only | with_reducible apply foldl_only
                 | with_reducible apply foldl_only_snd | refine snd_only ‹_ = _› ?_ | refine fst_only ‹_ = _› ?_
                 | split)

theorem boundaryOpen_only (h : Only m a s) : (hm : Sub 56392063 m := by decide) → Only m a (State.boundaryOpen s) := by
  intro hm
  refine h.step hm ?_
  replace h : Only 56392063 s s := .refl s
  unfold State.boundaryOpen
  try dsimp only
  repeat' (first | with_reducible assumption | decide | intro _ | with_reducible refine stateBoundary_only ?_ ?_
                 | with_reducible refine objectBoundary_only ?_ ?_ | with_reducible refine timeBoundary_only ?_ _ ?_
                 | with_reducible refine scanBoundary_only ?_ ?_ | with_reducible refine retrainBoundary_only ?_ ?_
                 | with_reducible refine sheetBoundary_only ?_ ?_ | with_reducible refine reelBoundary_only ?_ ?_
                 | with_reducible refine cutBoundary_only ?_ ?_ | with_reducible refine pauseWaits_only ?_ ?_
                 | with_reducible refine readyBoundary_only ?_ ?_ | with_reducible refine sessionBoundary_only ?_ ?_
                 | with_reducible refine patrolBoundary_only ?_ ?_ | with_reducible apply ite_only
                 | with_reducible apply foldl_only | with_reducible apply foldl_only_snd | refine snd_only ‹_ = _› ?_
                 | refine fst_only ‹_ = _› ?_ | split)

theorem modEgress_only (h : Only m a s) : ∀ x1 x2, (hm : Sub 65536 m := by decide) → Only m a (State.modEgress s x1 x2) := by
  intro x1 x2 hm
  refine h.step hm ?_
  replace h : Only 65536 s s := .refl s
  unfold State.modEgress
  try dsimp only
  repeat' (first | with_reducible assumption | decide | intro _ | with_reducible refine modPacket_only ?_ _ ?_
                 | with_reducible apply ite_only | with_reducible apply foldl_only
                 | with_reducible apply foldl_only_snd | refine snd_only ‹_ = _› ?_ | refine fst_only ‹_ = _› ?_
                 | split)

theorem dropPages_only (h : Only m a s) : ∀ x1, (hm : Sub 65536 m := by decide) → Only m a (State.dropPages s x1) := by
  intro x1 hm
  refine h.step hm ?_
  replace h : Only 65536 s s := .refl s
  unfold State.dropPages
  try dsimp only
  repeat' (first | with_reducible assumption | decide | intro _ | with_reducible refine modEgress_only ?_ _ _ ?_
                 | with_reducible refine modPacket_only ?_ _ ?_ | with_reducible apply ite_only
                 | with_reducible apply foldl_only | with_reducible apply foldl_only_snd | refine snd_only ‹_ = _› ?_
                 | refine fst_only ‹_ = _› ?_ | split)

theorem dropQueue_only (h : Only m a s) : ∀ x1 x2, (hm : Sub 65544 m := by decide) → Only m a (State.dropQueue s x1 x2) := by
  intro x1 x2 hm
  refine h.step hm ?_
  replace h : Only 65544 s s := .refl s
  unfold State.dropQueue
  try dsimp only
  repeat' (first | with_reducible assumption | decide | intro _ | with_reducible refine dropPages_only ?_ _ ?_
                 | with_reducible refine modEgress_only ?_ _ _ ?_ | with_reducible refine bump_only ?_ _ _ _ _ ?_
                 | with_reducible apply ite_only | with_reducible apply foldl_only
                 | with_reducible apply foldl_only_snd | refine snd_only ‹_ = _› ?_ | refine fst_only ‹_ = _› ?_
                 | split)

theorem setBp_only (h : Only m a s) : ∀ x1 x2, (hm : Sub 4259840 m := by decide) → Only m a (State.setBp s x1 x2) := by
  intro x1 x2 hm
  refine h.step hm ?_
  replace h : Only 4259840 s s := .refl s
  unfold State.setBp
  try dsimp only
  repeat' (first | with_reducible assumption | decide | intro _ | with_reducible refine modPacket_only ?_ _ ?_
                 | with_reducible refine emit_only ?_ _ ?_ | with_reducible apply ite_only
                 | with_reducible apply foldl_only | with_reducible apply foldl_only_snd | refine snd_only ‹_ = _› ?_
                 | refine fst_only ‹_ = _› ?_ | split)

theorem stay_only (h : Only m a s) : ∀ x1 x2, (hm : Sub 256 m := by decide) → Only m a (State.stay s x1 x2) := by
  intro x1 x2 hm
  refine h.step hm ?_
  replace h : Only 256 s s := .refl s
  unfold State.stay
  try dsimp only
  repeat' (first | with_reducible assumption | decide | intro _ | with_reducible refine modReq_only ?_ _ _ ?_
                 | with_reducible apply ite_only | with_reducible apply foldl_only
                 | with_reducible apply foldl_only_snd | refine snd_only ‹_ = _› ?_ | refine fst_only ‹_ = _› ?_
                 | split)

theorem slipOn_only (h : Only m a s) : ∀ x1 x2, (hm : Sub 16384 m := by decide) → Only m a (State.slipOn s x1 x2) := by
  intro x1 x2 hm
  refine h.step hm ?_
  replace h : Only 16384 s s := .refl s
  unfold State.slipOn
  try dsimp only
  repeat' (first | with_reducible assumption | decide | intro _ | with_reducible refine modShot_only ?_ _ _ ?_
                 | with_reducible apply ite_only | with_reducible apply foldl_only
                 | with_reducible apply foldl_only_snd | refine snd_only ‹_ = _› ?_ | refine fst_only ‹_ = _› ?_
                 | split)

theorem reach_only (h : Only m a s) : ∀ x1, (hm : Sub 147712 m := by decide) → Only m a (State.reach s x1) := by
  intro x1 hm
  refine h.step hm ?_
  replace h : Only 147712 s s := .refl s
  unfold State.reach
  extract_lets s0 s1
  have g : Only 147712 s s1 := Only.step (modReq_only h _ _ : Only 147712 s s0) (by decide) (Only.raw 131072 (.inr rfl) (.inr rfl) (.inr rfl) (.inr rfl) (.inr rfl) (.inr rfl) (.inr rfl) (.inr rfl) (.inr rfl) (.inr rfl) (.inr rfl) (.inr rfl) (.inr rfl) (.inr rfl) (.inr rfl) (.inr rfl) (.inr rfl) (.inl rfl) (.inr rfl) (.inr rfl) (.inr rfl) (.inr rfl) (.inr rfl) (.inr rfl))
  split
  · split
    · exact slipOn_only g _ _
    · exact g
  · exact g

theorem route_only (h : Only m a s) : ∀ x1, (hm : Sub 682248 m := by decide) → Only m a (State.route s x1) := by
  intro x1 hm
  refine h.step hm ?_
  replace h : Only 682248 s s := .refl s
  unfold State.route
  try dsimp only
  repeat' (first | with_reducible assumption | decide | intro _ | with_reducible refine reach_only ?_ _ ?_
                 | with_reducible refine answerRead_only ?_ _ _ ?_ | with_reducible refine settle_only ?_ _ _ _ ?_
                 | with_reducible refine goArb_only ?_ _ _ _ ?_ | with_reducible apply ite_only
                 | with_reducible apply foldl_only | with_reducible apply foldl_only_snd | refine snd_only ‹_ = _› ?_
                 | refine fst_only ‹_ = _› ?_ | split)

theorem leaveEngine_only (h : Only m a s) : ∀ x1, (hm : Sub 682248 m := by decide) → Only m a (State.leaveEngine s x1) := by
  intro x1 hm
  refine h.step hm ?_
  replace h : Only 682248 s s := .refl s
  unfold State.leaveEngine
  try dsimp only
  repeat' (first | with_reducible assumption | decide | intro _ | with_reducible refine modReq_only ?_ _ _ ?_
                 | with_reducible refine route_only ?_ _ ?_ | with_reducible apply ite_only
                 | with_reducible apply foldl_only | with_reducible apply foldl_only_snd | refine snd_only ‹_ = _› ?_
                 | refine fst_only ‹_ = _› ?_ | split)

theorem engGo_only (h : Only m a s) : ∀ x1, (hm : Sub 682318 m := by decide) → Only m a (State.engGo s x1) := by
  intro x1 hm
  refine h.step hm ?_
  replace h : Only 682318 s s := .refl s
  unfold State.engGo
  try dsimp only
  repeat' (first | with_reducible assumption | decide | intro _ | with_reducible refine settle_only ?_ _ _ _ ?_
                 | with_reducible refine stay_only ?_ _ _ ?_ | with_reducible refine answerRead_only ?_ _ _ ?_
                 | with_reducible refine takeChunk_only ?_ _ _ _ ?_
                 | with_reducible refine startWake_only ?_ _ _ _ _ ?_
                 | with_reducible refine tallyBlock_only ?_ _ _ _ ?_ | with_reducible refine count_only ?_ _ _ ?_
                 | with_reducible refine leaveEngine_only ?_ _ ?_ | with_reducible apply ite_only
                 | with_reducible apply foldl_only | with_reducible apply foldl_only_snd | refine snd_only ‹_ = _› ?_
                 | refine fst_only ‹_ = _› ?_ | split)

theorem engIssue_only (h : Only m a s) : ∀ x1, (hm : Sub 682830 m := by decide) → Only m a (State.engIssue s x1) := by
  intro x1 hm
  refine h.step hm ?_
  replace h : Only 682830 s s := .refl s
  unfold State.engIssue
  try dsimp only
  repeat' (first | with_reducible assumption | decide | intro _ | with_reducible refine engGo_only ?_ _ ?_
                 | with_reducible apply ite_only | with_reducible apply foldl_only
                 | with_reducible apply foldl_only_snd | refine snd_only ‹_ = _› ?_ | refine fst_only ‹_ = _› ?_
                 | fail_if_no_progress (with_reducible refine upd768_only ?_ _ _ ?_) | split)

theorem engAsk_only (h : Only m a s) : ∀ x1 x2 x3, (hm : Sub 682830 m := by decide) → Only m a (State.engAsk s x1 x2 x3) := by
  intro x1 x2 x3 hm
  refine h.step hm ?_
  replace h : Only 682830 s s := .refl s
  unfold State.engAsk
  try dsimp only
  repeat' (first | with_reducible assumption | decide | intro _ | with_reducible apply each_only
                 | with_reducible refine engIssue_only ?_ _ ?_ | with_reducible apply ite_only
                 | with_reducible apply foldl_only | with_reducible apply foldl_only_snd | refine snd_only ‹_ = _› ?_
                 | refine fst_only ‹_ = _› ?_ | split)

theorem pullDone_only (h : Only m a s) : ∀ x1 x2 x3, (hm : Sub 4260096 m := by decide) → Only m a (State.pullDone s x1 x2 x3) := by
  intro x1 x2 x3 hm
  refine h.step hm ?_
  replace h : Only 4260096 s s := .refl s
  unfold State.pullDone
  try dsimp only
  repeat' (first | with_reducible assumption | decide | intro _ | with_reducible refine emit_only ?_ _ ?_
                 | with_reducible refine modPacket_only ?_ _ ?_ | with_reducible refine engDone_only ?_ _ ?_
                 | with_reducible apply ite_only | with_reducible apply foldl_only
                 | with_reducible apply foldl_only_snd | refine snd_only ‹_ = _› ?_ | refine fst_only ‹_ = _› ?_
                 | split)

theorem popRecord_only (h : Only m a s) : ∀ x1 x2, (hm : Sub 65536 m := by decide) → Only m a (State.popRecord s x1 x2) := by
  intro x1 x2 hm
  refine h.step hm ?_
  replace h : Only 65536 s s := .refl s
  unfold State.popRecord
  try dsimp only
  repeat' (first | with_reducible assumption | decide | intro _ | with_reducible refine dropPages_only ?_ _ ?_
                 | with_reducible refine modEgress_only ?_ _ _ ?_ | with_reducible apply ite_only
                 | with_reducible apply foldl_only | with_reducible apply foldl_only_snd | refine snd_only ‹_ = _› ?_
                 | refine fst_only ‹_ = _› ?_ | split)

theorem servePulls_only (h : Only m a s) : ∀ x1, (hm : Sub 4942670 m := by decide) → Only m a (State.servePulls s x1) := by
  intro x1 hm
  induction x1 generalizing s with
  | zero => exact h
  | succ n ih =>
    unfold State.servePulls
    split
    · exact h
    · rename_i port rest _
      dsimp only
      have up : ∀ {t}, Only 4942670 s t → Only m a t := fun g => h.step hm g
      replace h : Only 4942670 s s := .refl s
      split
      · rename_i x _ _ _
        have g1 : Only 4942670 s (s.engAsk s.stockReq (pullReader port) [s.pullPart (s.egress port) x]) := engAsk_only h _ _ _
        split
        · exact up g1
        · split
          · exact ih (up (pullDone_only (count_only (popRecord_only g1 _ _) _ _) _ _ _))
          · exact ih (up (logEvent_only (popRecord_only (count_only (engDone_only g1 _) _ _) _ _) _ _ _ _ _ _))
          · exact ih (up (pullDone_only (logEvent_only (dropQueue_only g1 _ _) _ _ _ _ _ _) _ _ _))
      · exact ih (up (pullDone_only h _ _ _))

theorem pulled_only (h : Only m a s) : (hm : Sub 4942670 m := by decide) → Only m a (State.pulled s) := by
  intro hm
  refine h.step hm ?_
  replace h : Only 4942670 s s := .refl s
  unfold State.pulled
  try dsimp only
  repeat' (first | with_reducible assumption | decide | intro _ | with_reducible refine servePulls_only ?_ _ ?_
                 | with_reducible apply ite_only | with_reducible apply foldl_only
                 | with_reducible apply foldl_only_snd | refine snd_only ‹_ = _› ?_ | refine fst_only ‹_ = _› ?_
                 | split)

theorem stockroomOff_only (h : Only m a s) : ∀ x1, (hm : Sub 4942686 m := by decide) → Only m a (State.stockroomOff s x1) := by
  intro x1 hm
  refine h.step hm ?_
  replace h : Only 4942686 s s := .refl s
  unfold State.stockroomOff
  try dsimp only
  repeat' (first | with_reducible assumption | decide | intro _ | with_reducible apply each_only
                 | with_reducible refine dropQueue_only ?_ _ _ ?_ | with_reducible refine setBp_only ?_ _ _ ?_
                 | with_reducible refine modPacket_only ?_ _ ?_ | with_reducible refine freeUnits_only ?_ _ ?_
                 | with_reducible refine pulled_only ?_ ?_ | with_reducible refine logAsked_only ?_ _ _ _ _ ?_
                 | with_reducible refine setNow_only ?_ _ _ _ _ ?_ | with_reducible apply ite_only
                 | with_reducible apply foldl_only | with_reducible apply foldl_only_snd | refine snd_only ‹_ = _› ?_
                 | refine fst_only ‹_ = _› ?_ | fail_if_no_progress (with_reducible refine upd256_only ?_ _ ?_)
                 | split)

theorem capForget_only (h : Only m a s) : (hm : Sub 65792 m := by decide) → Only m a (State.capForget s) := by
  intro hm
  refine h.step hm ?_
  replace h : Only 65792 s s := .refl s
  unfold State.capForget
  try dsimp only
  repeat' (first | with_reducible assumption | decide | intro _ | with_reducible apply ite_only
                 | with_reducible apply foldl_only | with_reducible apply foldl_only_snd | refine snd_only ‹_ = _› ?_
                 | refine fst_only ‹_ = _› ?_ | fail_if_no_progress (with_reducible refine upd65792_only ?_ _ _ ?_)
                 | split)

theorem captureOff_only (h : Only m a s) : ∀ x1, (hm : Sub 74012 m := by decide) → Only m a (State.captureOff s x1) := by
  intro x1 hm
  refine h.step hm ?_
  replace h : Only 74012 s s := .refl s
  unfold State.captureOff
  try dsimp only
  repeat' (first | with_reducible assumption | decide | intro _
                 | with_reducible refine logEvent_only ?_ _ _ _ _ _ _ ?_
                 | with_reducible refine modPacket_only ?_ _ ?_ | with_reducible refine freeUnits_only ?_ _ ?_
                 | with_reducible refine setNow_only ?_ _ _ _ _ ?_ | with_reducible refine capForget_only ?_ ?_
                 | with_reducible apply ite_only | with_reducible apply foldl_only
                 | with_reducible apply foldl_only_snd | refine snd_only ‹_ = _› ?_ | refine fst_only ‹_ = _› ?_
                 | split)

theorem unfetch_only (h : Only m a s) : ∀ x1, (hm : Sub 8448 m := by decide) → Only m a (State.unfetch s x1) := by
  intro x1 hm
  refine h.step hm ?_
  replace h : Only 8448 s s := .refl s
  unfold State.unfetch
  try dsimp only
  repeat' (first | with_reducible assumption | decide | intro _ | with_reducible apply each_only
                 | with_reducible refine modLine_only ?_ _ _ ?_ | with_reducible refine modReq_only ?_ _ _ ?_
                 | with_reducible apply ite_only | with_reducible apply foldl_only
                 | with_reducible apply foldl_only_snd | refine snd_only ‹_ = _› ?_ | refine fst_only ‹_ = _› ?_
                 | fail_if_no_progress (with_reducible refine upd256_only ?_ _ ?_) | split)

theorem gateQuadrant_only (h : Only m a s) : ∀ x1, (hm : Sub 4942686 m := by decide) → Only m a (State.gateQuadrant s x1) := by
  intro x1 hm
  refine h.step hm ?_
  replace h : Only 4942686 s s := .refl s
  unfold State.gateQuadrant
  try dsimp only
  repeat' (first | with_reducible assumption | decide | intro _ | with_reducible refine stockroomOff_only ?_ _ ?_
                 | with_reducible refine captureOff_only ?_ _ ?_ | with_reducible refine modLoft_only ?_ _ ?_
                 | with_reducible refine unfetch_only ?_ _ ?_ | with_reducible apply each_only
                 | with_reducible refine setObj_only ?_ _ _ _ _ ?_ | with_reducible refine damageSet_only ?_ _ _ ?_
                 | with_reducible refine moveEntries_only ?_ _ ?_ | with_reducible apply ite_only
                 | with_reducible apply foldl_only | with_reducible apply foldl_only_snd | refine snd_only ‹_ = _› ?_
                 | refine fst_only ‹_ = _› ?_ | split)

theorem gateBoundary_only (h : Only m a s) : (hm : Sub 4942686 m := by decide) → Only m a (State.gateBoundary s) := by
  intro hm
  refine h.step hm ?_
  replace h : Only 4942686 s s := .refl s
  unfold State.gateBoundary
  try dsimp only
  repeat' (first | with_reducible assumption | decide | intro _ | with_reducible refine modTest_only ?_ _ ?_
                 | with_reducible apply each_only | with_reducible refine setReady_only ?_ _ _ ?_
                 | with_reducible refine gateQuadrant_only ?_ _ ?_ | with_reducible apply ite_only
                 | with_reducible apply foldl_only | with_reducible apply foldl_only_snd | refine snd_only ‹_ = _› ?_
                 | refine fst_only ‹_ = _› ?_ | split)

theorem enterT4_only (h : Only m a s) : ∀ x1, (hm : Sub 682316 m := by decide) → Only m a (State.enterT4 s x1) := by
  intro x1 hm
  refine h.step hm ?_
  replace h : Only 682316 s s := .refl s
  unfold State.enterT4
  try dsimp only
  repeat' (first | with_reducible assumption | decide | intro _ | with_reducible refine abandonOn_only ?_ _ _ _ ?_
                 | with_reducible apply each_only | with_reducible refine count_only ?_ _ _ ?_
                 | with_reducible refine askAbort_only ?_ _ _ _ ?_ | with_reducible refine modStack_only ?_ _ _ ?_
                 | with_reducible apply ite_only | with_reducible apply foldl_only
                 | with_reducible apply foldl_only_snd | refine snd_only ‹_ = _› ?_ | refine fst_only ‹_ = _› ?_
                 | split)

theorem refuseHot_only (h : Only m a s) : ∀ x1, (hm : Sub 256 m := by decide) → Only m a (State.refuseHot s x1) := by
  intro x1 hm
  refine h.step hm ?_
  replace h : Only 256 s s := .refl s
  unfold State.refuseHot
  try dsimp only
  repeat' (first | with_reducible assumption | decide | intro _ | with_reducible apply ite_only
                 | with_reducible apply foldl_only | with_reducible apply foldl_only_snd | refine snd_only ‹_ = _› ?_
                 | refine fst_only ‹_ = _› ?_ | fail_if_no_progress (with_reducible refine upd256_only ?_ _ ?_)
                 | split)

theorem thermalBoundary_only (h : Only m a s) : ∀ x1, (hm : Sub 682316 m := by decide) → Only m a (State.thermalBoundary s x1) := by
  intro x1 hm
  refine h.step hm ?_
  replace h : Only 682316 s s := .refl s
  unfold State.thermalBoundary
  try dsimp only
  repeat' (first | with_reducible assumption | decide | intro _ | with_reducible refine stSet_only ?_ _ _ _ _ _ ?_
                 | with_reducible refine modStack_only ?_ _ _ ?_ | with_reducible refine enterT4_only ?_ _ ?_
                 | with_reducible refine refuseHot_only ?_ _ ?_ | with_reducible apply ite_only
                 | with_reducible apply foldl_only | with_reducible apply foldl_only_snd | refine snd_only ‹_ = _› ?_
                 | refine fst_only ‹_ = _› ?_ | split)

theorem sleepBoundary_only (h : Only m a s) : ∀ x1, (hm : Sub 6144 m := by decide) → Only m a (State.sleepBoundary s x1) := by
  intro x1 hm
  refine h.step hm ?_
  replace h : Only 6144 s s := .refl s
  unfold State.sleepBoundary
  try dsimp only
  repeat' (first | with_reducible assumption | decide | intro _ | with_reducible apply when_only
                 | with_reducible apply each_only | with_reducible refine modPc_only ?_ _ _ ?_
                 | with_reducible refine modStack_only ?_ _ _ ?_ | with_reducible apply ite_only
                 | with_reducible apply foldl_only | with_reducible apply foldl_only_snd | refine snd_only ‹_ = _› ?_
                 | refine fst_only ‹_ = _› ?_ | split)

theorem boundaryPower_only (h : Only m a s) : (hm : Sub 4946782 m := by decide) → Only m a (State.boundaryPower s) := by
  intro hm
  refine h.step hm ?_
  replace h : Only 4946782 s s := .refl s
  unfold State.boundaryPower
  try dsimp only
  repeat' (first | with_reducible assumption | decide | intro _ | with_reducible refine gateBoundary_only ?_ ?_
                 | with_reducible apply each_only | with_reducible refine thermalBoundary_only ?_ _ ?_
                 | with_reducible refine sleepBoundary_only ?_ _ ?_ | with_reducible apply ite_only
                 | with_reducible apply foldl_only | with_reducible apply foldl_only_snd | refine snd_only ‹_ = _› ?_
                 | refine fst_only ‹_ = _› ?_ | split)

theorem partBoundary_only (h : Only m a s) : (hm : Sub 8192 m := by decide) → Only m a (State.partBoundary s) := by
  intro hm
  refine h.step hm ?_
  replace h : Only 8192 s s := .refl s
  unfold State.partBoundary
  try dsimp only
  repeat' (first | with_reducible assumption | decide | intro _ | with_reducible refine modLoft_only ?_ _ ?_
                 | with_reducible apply ite_only | with_reducible apply foldl_only
                 | with_reducible apply foldl_only_snd | refine snd_only ‹_ = _› ?_ | refine fst_only ‹_ = _› ?_
                 | split)

theorem commitDue_only (h : Only m a s) : (hm : Sub 2048 m := by decide) → Only m a (State.commitDue s) := by
  intro hm
  refine h.step hm ?_
  replace h : Only 2048 s s := .refl s
  unfold State.commitDue
  try dsimp only
  repeat' (first | with_reducible assumption | decide | intro _ | with_reducible apply each_only
                 | with_reducible refine modStack_only ?_ _ _ ?_ | with_reducible apply ite_only
                 | with_reducible apply foldl_only | with_reducible apply foldl_only_snd | refine snd_only ‹_ = _› ?_
                 | refine fst_only ‹_ = _› ?_ | split)

theorem startRebuild_only (h : Only m a s) : ∀ x1 x2, ∀ t, State.startRebuild s x1 x2 = some t → (hm : Sub 64 m := by decide) → Only m a t := by
  intro x1 x2 t e hm
  refine h.step hm ?_
  replace h : Only 64 s s := .refl s
  unfold State.startRebuild at e
  dsimp only at e
  split at e
  · cases e
  · obtain ⟨x, -, e⟩ := Option.map_eq_some_iff.1 e
    cases e; exact modSlot_only h _ _

theorem rebuildBoundary_only (h : Only m a s) : (hm : Sub 524364 m := by decide) → Only m a (State.rebuildBoundary s) := by
  intro hm
  refine h.step hm ?_
  replace h : Only 524364 s s := .refl s
  unfold State.rebuildBoundary
  try dsimp only
  repeat' (first | with_reducible assumption | decide | intro _ | with_reducible refine modTest_only ?_ _ ?_
                 | refine startRebuild_only ?_ _ _ _ ‹_ = some _› ?_
                 | with_reducible refine logEvent_only ?_ _ _ _ _ _ _ ?_
                 | with_reducible refine modSlot_only ?_ _ _ ?_ | with_reducible apply each_only
                 | with_reducible refine setObj_only ?_ _ _ _ _ ?_ | with_reducible apply ite_only
                 | with_reducible apply foldl_only | with_reducible apply foldl_only_snd | refine snd_only ‹_ = _› ?_
                 | refine fst_only ‹_ = _› ?_ | split)

theorem modTslot_only (h : Only m a s) : ∀ x1 x2, (hm : Sub 16384 m := by decide) → Only m a (State.modTslot s x1 x2) := by
  intro x1 x2 hm
  refine h.step hm ?_
  replace h : Only 16384 s s := .refl s
  unfold State.modTslot
  try dsimp only
  repeat' (first | with_reducible assumption | decide | intro _ | with_reducible refine modShotS_only ?_ _ ?_
                 | with_reducible apply ite_only | with_reducible apply foldl_only
                 | with_reducible apply foldl_only_snd | refine snd_only ‹_ = _› ?_ | refine fst_only ‹_ = _› ?_
                 | split)

theorem noteDrained_only (h : Only m a s) : (hm : Sub 16448 m := by decide) → Only m a (State.noteDrained s) := by
  intro hm
  refine h.step hm ?_
  replace h : Only 16448 s s := .refl s
  unfold State.noteDrained
  try dsimp only
  repeat' (first | with_reducible assumption | decide | intro _ | with_reducible apply each_only
                 | with_reducible refine modSlot_only ?_ _ _ ?_ | with_reducible refine modTslot_only ?_ _ _ ?_
                 | with_reducible apply ite_only | with_reducible apply foldl_only
                 | with_reducible apply foldl_only_snd | refine snd_only ‹_ = _› ?_ | refine fst_only ‹_ = _› ?_
                 | split)

theorem settleLost_only (h : Only m a s) : ∀ x1, (hm : Sub 663816 m := by decide) → Only m a (State.settleLost s x1) := by
  intro x1 hm
  refine h.step hm ?_
  replace h : Only 663816 s s := .refl s
  unfold State.settleLost
  try dsimp only
  repeat' (first | with_reducible assumption | decide | intro _ | with_reducible apply each_only
                 | with_reducible refine settle_only ?_ _ _ _ ?_ | with_reducible refine answerRead_only ?_ _ _ ?_
                 | with_reducible apply ite_only | with_reducible apply foldl_only
                 | with_reducible apply foldl_only_snd | refine snd_only ‹_ = _› ?_ | refine fst_only ‹_ = _› ?_
                 | split)

theorem unfetchRegion_only (h : Only m a s) : ∀ x1, (hm : Sub 8448 m := by decide) → Only m a (State.unfetchRegion s x1) := by
  intro x1 hm
  refine h.step hm ?_
  replace h : Only 8448 s s := .refl s
  unfold State.unfetchRegion
  try dsimp only
  repeat' (first | with_reducible assumption | decide | intro _ | with_reducible refine unfetch_only ?_ _ ?_
                 | with_reducible apply ite_only | with_reducible apply foldl_only
                 | with_reducible apply foldl_only_snd | refine snd_only ‹_ = _› ?_ | refine fst_only ‹_ = _› ?_
                 | split)

theorem releaseBoundary_only (h : Only m a s) : ∀ x1, (hm : Sub 532824 m := by decide) → Only m a (State.releaseBoundary s x1) := by
  intro x1 hm
  refine h.step hm ?_
  replace h : Only 532824 s s := .refl s
  unfold State.releaseBoundary
  try dsimp only
  repeat' (first | with_reducible assumption | decide | intro _ | with_reducible refine modLoft_only ?_ _ ?_
                 | with_reducible refine unfetchRegion_only ?_ _ ?_ | with_reducible apply each_only
                 | with_reducible refine setNow_only ?_ _ _ _ _ ?_ | with_reducible refine setObj_only ?_ _ _ _ _ ?_
                 | with_reducible refine modTest_only ?_ _ ?_ | with_reducible refine modSlot_only ?_ _ _ ?_
                 | with_reducible apply ite_only | with_reducible apply foldl_only
                 | with_reducible apply foldl_only_snd | refine snd_only ‹_ = _› ?_ | refine fst_only ‹_ = _› ?_
                 | fail_if_no_progress (with_reducible refine upd256_only ?_ _ ?_) | split)

theorem switchRegion_only (h : Only m a s) : ∀ x1, (hm : Sub 663896 m := by decide) → Only m a (State.switchRegion s x1) := by
  intro x1 hm
  refine h.step hm ?_
  replace h : Only 663896 s s := .refl s
  unfold State.switchRegion
  try dsimp only
  repeat' (first | with_reducible assumption | decide | intro _ | with_reducible refine modSlot_only ?_ _ _ ?_
                 | with_reducible apply each_only | with_reducible refine settleLost_only ?_ _ ?_
                 | with_reducible refine releaseBoundary_only ?_ _ ?_ | with_reducible refine modLoft_only ?_ _ ?_
                 | with_reducible refine unfetchRegion_only ?_ _ ?_ | with_reducible apply ite_only
                 | with_reducible apply foldl_only | with_reducible apply foldl_only_snd | refine snd_only ‹_ = _› ?_
                 | refine fst_only ‹_ = _› ?_ | split)

theorem switchEntry_only (h : Only m a s) : ∀ x1, (hm : Sub 16384 m := by decide) → Only m a (State.switchEntry s x1) := by
  intro x1 hm
  refine h.step hm ?_
  replace h : Only 16384 s s := .refl s
  unfold State.switchEntry
  try dsimp only
  repeat' (first | with_reducible assumption | decide | intro _ | with_reducible refine modTslot_only ?_ _ _ ?_
                 | with_reducible refine modShotS_only ?_ _ ?_ | with_reducible apply ite_only
                 | with_reducible apply foldl_only | with_reducible apply foldl_only_snd | refine snd_only ‹_ = _› ?_
                 | refine fst_only ‹_ = _› ?_ | split)

theorem startSweep_only (h : Only m a s) : ∀ x1, (hm : Sub 2112 m := by decide) → Only m a (State.startSweep s x1) := by
  intro x1 hm
  refine h.step hm ?_
  replace h : Only 2112 s s := .refl s
  unfold State.startSweep
  try dsimp only
  repeat' (first | with_reducible assumption | decide | intro _ | with_reducible refine modSlot_only ?_ _ _ ?_
                 | with_reducible apply each_only | with_reducible refine modStack_only ?_ _ _ ?_
                 | with_reducible apply ite_only | with_reducible apply foldl_only
                 | with_reducible apply foldl_only_snd | refine snd_only ‹_ = _› ?_ | refine fst_only ‹_ = _› ?_
                 | split)

theorem takeKey_only (h : Only m a s) : ∀ x1, (hm : Sub 2112 m := by decide) → Only m a (State.takeKey s x1) := by
  intro x1 hm
  refine h.step hm ?_
  replace h : Only 2112 s s := .refl s
  unfold State.takeKey
  try dsimp only
  repeat' (first | with_reducible assumption | decide | intro _ | with_reducible refine startSweep_only ?_ _ ?_
                 | with_reducible refine modSlot_only ?_ _ _ ?_ | with_reducible apply ite_only
                 | with_reducible apply foldl_only | with_reducible apply foldl_only_snd | refine snd_only ‹_ = _› ?_
                 | refine fst_only ‹_ = _› ?_ | split)

theorem eraseBoundary_only (h : Only m a s) : (hm : Sub 64 m := by decide) → Only m a (State.eraseBoundary s) := by
  intro hm
  refine h.step hm ?_
  replace h : Only 64 s s := .refl s
  unfold State.eraseBoundary
  try dsimp only
  repeat' (first | with_reducible assumption | decide | intro _ | with_reducible apply each_only
                 | with_reducible refine modSlot_only ?_ _ _ ?_ | with_reducible apply ite_only
                 | with_reducible apply foldl_only | with_reducible apply foldl_only_snd | refine snd_only ‹_ = _› ?_
                 | refine fst_only ‹_ = _› ?_ | split)

theorem versionBoundary_only (h : Only m a s) : (hm : Sub 682328 m := by decide) → Only m a (State.versionBoundary s) := by
  intro hm
  refine h.step hm ?_
  replace h : Only 682328 s s := .refl s
  unfold State.versionBoundary
  try dsimp only
  repeat' (first | with_reducible assumption | decide | intro _ | with_reducible refine noteDrained_only ?_ ?_
                 | with_reducible apply each_only | with_reducible refine switchRegion_only ?_ _ ?_
                 | with_reducible refine switchEntry_only ?_ _ ?_ | with_reducible refine takeKey_only ?_ _ ?_
                 | with_reducible refine eraseBoundary_only ?_ ?_ | with_reducible refine modSlot_only ?_ _ _ ?_
                 | with_reducible apply ite_only | with_reducible apply foldl_only
                 | with_reducible apply foldl_only_snd | refine snd_only ‹_ = _› ?_ | refine fst_only ‹_ = _› ?_
                 | split)

theorem takeOut_only (h : Only m a s) : ∀ x1 x2, (hm : Sub 4352 m := by decide) → Only m a (State.takeOut s x1 x2).2 := by
  intro x1 x2 hm
  refine h.step hm ?_
  replace h : Only 4352 s s := .refl s
  unfold State.takeOut
  try dsimp only
  repeat' (first | with_reducible assumption | decide | intro _ | with_reducible refine modPc_only ?_ _ _ ?_
                 | with_reducible apply each_only | with_reducible refine modReq_only ?_ _ _ ?_
                 | with_reducible apply ite_only | with_reducible apply foldl_only
                 | with_reducible apply foldl_only_snd | refine snd_only ‹_ = _› ?_ | refine fst_only ‹_ = _› ?_
                 | split)

theorem stopPc_only (h : Only m a s) : ∀ x1, (hm : Sub 4352 m := by decide) → Only m a (State.stopPc s x1).2 := by
  intro x1 hm
  refine h.step hm ?_
  replace h : Only 4352 s s := .refl s
  unfold State.stopPc
  try dsimp only
  repeat' (first | with_reducible assumption | decide | intro _ | with_reducible refine takeOut_only ?_ _ _ ?_
                 | with_reducible refine modPc_only ?_ _ _ ?_ | with_reducible apply ite_only
                 | with_reducible apply foldl_only | with_reducible apply foldl_only_snd | refine snd_only ‹_ = _› ?_
                 | refine fst_only ‹_ = _› ?_ | split)

theorem raiseGen_only (h : Only m a s) : ∀ x1, (hm : Sub 8 m := by decide) → Only m a (State.raiseGen s x1) := by
  intro x1 hm
  refine h.step hm ?_
  replace h : Only 8 s s := .refl s
  unfold State.raiseGen
  try dsimp only
  repeat' (first | with_reducible assumption | decide | intro _ | with_reducible refine setObj_only ?_ _ _ _ _ ?_
                 | with_reducible apply ite_only | with_reducible apply foldl_only
                 | with_reducible apply foldl_only_snd | refine snd_only ‹_ = _› ?_ | refine fst_only ‹_ = _› ?_
                 | split)

theorem fenceUnit_only (h : Only m a s) : ∀ x1, (hm : Sub 8 m := by decide) → Only m a (State.fenceUnit s x1) := by
  intro x1 hm
  refine h.step hm ?_
  replace h : Only 8 s s := .refl s
  unfold State.fenceUnit
  try dsimp only
  repeat' (first | with_reducible assumption | decide | intro _ | with_reducible refine setObj_only ?_ _ _ _ _ ?_
                 | with_reducible refine raiseGen_only ?_ _ ?_ | with_reducible apply ite_only
                 | with_reducible apply foldl_only | with_reducible apply foldl_only_snd | refine snd_only ‹_ = _› ?_
                 | refine fst_only ‹_ = _› ?_ | split)

theorem regionLoses_only (h : Only m a s) : ∀ x1 x2 x3, (hm : Sub 4942686 m := by decide) → Only m a (State.regionLoses s x1 x2 x3) := by
  intro x1 x2 x3 hm
  refine h.step hm ?_
  replace h : Only 4942686 s s := .refl s
  unfold State.regionLoses
  try dsimp only
  repeat' (first | with_reducible assumption | decide | intro _
                 | with_reducible refine logEvent_only ?_ _ _ _ _ _ _ ?_
                 | with_reducible refine setObj_only ?_ _ _ _ _ ?_ | with_reducible apply each_only
                 | with_reducible refine askAbort_only ?_ _ _ _ ?_ | with_reducible refine stockroomOff_only ?_ _ ?_
                 | with_reducible refine captureOff_only ?_ _ ?_ | with_reducible apply ite_only
                 | with_reducible apply foldl_only | with_reducible apply foldl_only_snd | refine snd_only ‹_ = _› ?_
                 | refine fst_only ‹_ = _› ?_ | split)

theorem loseStack_only (h : Only m a s) : ∀ x1, (hm : Sub 4946782 m := by decide) → Only m a (State.loseStack s x1) := by
  intro x1 hm
  refine h.step hm ?_
  replace h : Only 4946782 s s := .refl s
  unfold State.loseStack
  try dsimp only
  repeat' (first | with_reducible assumption | decide | intro _ | with_reducible apply each_only
                 | with_reducible refine stopPc_only ?_ _ ?_ | with_reducible refine answerLost_only ?_ _ ?_
                 | with_reducible refine modStack_only ?_ _ _ ?_ | with_reducible refine setObj_only ?_ _ _ _ _ ?_
                 | with_reducible refine fenceUnit_only ?_ _ ?_ | with_reducible refine setReady_only ?_ _ _ ?_
                 | with_reducible refine modTest_only ?_ _ ?_ | with_reducible refine modSlot_only ?_ _ _ ?_
                 | with_reducible refine regionLoses_only ?_ _ _ _ ?_
                 | with_reducible refine askAbort_only ?_ _ _ _ ?_ | with_reducible refine settleLost_only ?_ _ ?_
                 | with_reducible refine abandonOn_only ?_ _ _ _ ?_ | with_reducible apply ite_only
                 | with_reducible apply foldl_only | with_reducible apply foldl_only_snd | refine snd_only ‹_ = _› ?_
                 | refine fst_only ‹_ = _› ?_ | split)

theorem setRank_only (h : Only m a s) : ∀ x1 x2 x3, (hm : Sub 8 m := by decide) → Only m a (State.setRank s x1 x2 x3) := by
  intro x1 x2 x3 hm
  refine h.step hm ?_
  replace h : Only 8 s s := .refl s
  unfold State.setRank
  try dsimp only
  repeat' (first | with_reducible assumption | decide | intro _ | with_reducible refine setObj_only ?_ _ _ _ _ ?_
                 | with_reducible apply ite_only | with_reducible apply foldl_only
                 | with_reducible apply foldl_only_snd | refine snd_only ‹_ = _› ?_ | refine fst_only ‹_ = _› ?_
                 | split)

theorem failSpares_only (h : Only m a s) : ∀ x1 x2, (hm : Sub 8 m := by decide) → Only m a (State.failSpares s x1 x2) := by
  intro x1 x2 hm
  refine h.step hm ?_
  replace h : Only 8 s s := .refl s
  unfold State.failSpares
  try dsimp only
  repeat' (first | with_reducible assumption | decide | intro _ | with_reducible apply each_only
                 | with_reducible refine setRank_only ?_ _ _ _ ?_ | with_reducible apply ite_only
                 | with_reducible apply foldl_only | with_reducible apply foldl_only_snd | refine snd_only ‹_ = _› ?_
                 | refine fst_only ‹_ = _› ?_ | split)

theorem fencePc_only (h : Only m a s) : ∀ x1 x2, (hm : Sub 8 m := by decide) → Only m a (State.fencePc s x1 x2) := by
  intro x1 x2 hm
  refine h.step hm ?_
  replace h : Only 8 s s := .refl s
  unfold State.fencePc
  try dsimp only
  repeat' (first | with_reducible assumption | decide | intro _ | with_reducible refine failSpares_only ?_ _ _ ?_
                 | with_reducible refine setObj_only ?_ _ _ _ _ ?_ | with_reducible refine fenceUnit_only ?_ _ ?_
                 | with_reducible apply ite_only | with_reducible apply foldl_only
                 | with_reducible apply foldl_only_snd | refine snd_only ‹_ = _› ?_ | refine fst_only ‹_ = _› ?_
                 | split)

theorem noSpare_only (h : Only m a s) : ∀ x1, (hm : Sub 2060 m := by decide) → Only m a (State.noSpare s x1) := by
  intro x1 hm
  refine h.step hm ?_
  replace h : Only 2060 s s := .refl s
  unfold State.noSpare
  try dsimp only
  repeat' (first | with_reducible assumption | decide | intro _
                 | with_reducible refine logEvent_only ?_ _ _ _ _ _ _ ?_
                 | with_reducible refine modStack_only ?_ _ _ ?_ | with_reducible apply ite_only
                 | with_reducible apply foldl_only | with_reducible apply foldl_only_snd | refine snd_only ‹_ = _› ?_
                 | refine fst_only ‹_ = _› ?_ | split)

theorem loseDestination_only (h : Only m a s) : ∀ x1 x2 x3, (hm : Sub 1579404 m := by decide) → Only m a (State.loseDestination s x1 x2 x3) := by
  intro x1 x2 x3 hm
  refine h.step hm ?_
  replace h : Only 1579404 s s := .refl s
  unfold State.loseDestination
  try dsimp only
  repeat' (first | with_reducible assumption | decide | intro _ | with_reducible refine modStack_only ?_ _ _ ?_
                 | with_reducible refine noSpare_only ?_ _ ?_ | with_reducible apply each_only
                 | with_reducible refine loseLine_only ?_ _ ?_ | with_reducible refine applyHeldWhere_only ?_ _ _ ?_
                 | with_reducible refine setRank_only ?_ _ _ _ ?_ | with_reducible apply ite_only
                 | with_reducible apply foldl_only | with_reducible apply foldl_only_snd | refine snd_only ‹_ = _› ?_
                 | refine fst_only ‹_ = _› ?_ | split)

theorem loseHost_only (h : Only m a s) : ∀ x1 x2, (hm : Sub 2056 m := by decide) → Only m a (State.loseHost s x1 x2) := by
  intro x1 x2 hm
  refine h.step hm ?_
  replace h : Only 2056 s s := .refl s
  unfold State.loseHost
  try dsimp only
  repeat' (first | with_reducible assumption | decide | intro _ | with_reducible apply each_only
                 | with_reducible refine setRank_only ?_ _ _ _ ?_ | with_reducible refine modStack_only ?_ _ _ ?_
                 | with_reducible refine setObj_only ?_ _ _ _ _ ?_ | with_reducible apply ite_only
                 | with_reducible apply foldl_only | with_reducible apply foldl_only_snd | refine snd_only ‹_ = _› ?_
                 | refine fst_only ‹_ = _› ?_ | split)

theorem freeEntries_only (h : Only m a s) : ∀ x1 x2, (hm : Sub 2056 m := by decide) → Only m a (State.freeEntries s x1 x2) := by
  intro x1 x2 hm
  refine h.step hm ?_
  replace h : Only 2056 s s := .refl s
  unfold State.freeEntries
  try dsimp only
  repeat' (first | with_reducible assumption | decide | intro _ | with_reducible refine modStack_only ?_ _ _ ?_
                 | with_reducible apply each_only | with_reducible refine setObj_only ?_ _ _ _ _ ?_
                 | with_reducible apply ite_only | with_reducible apply foldl_only
                 | with_reducible apply foldl_only_snd | refine snd_only ‹_ = _› ?_ | refine fst_only ‹_ = _› ?_
                 | split)

theorem pointTo_only (h : Only m a s) : ∀ x1 x2 x3, (hm : Sub 8 m := by decide) → Only m a (State.pointTo s x1 x2 x3) := by
  intro x1 x2 x3 hm
  refine h.step hm ?_
  replace h : Only 8 s s := .refl s
  unfold State.pointTo
  try dsimp only
  repeat' (first | with_reducible assumption | decide | intro _ | with_reducible refine stSet_only ?_ _ _ _ _ _ ?_
                 | with_reducible apply ite_only | with_reducible apply foldl_only
                 | with_reducible apply foldl_only_snd | refine snd_only ‹_ = _› ?_ | refine fst_only ‹_ = _› ?_
                 | split)

theorem loseRank_only (h : Only m a s) : ∀ x1 x2, (hm : Sub 2060 m := by decide) → Only m a (State.loseRank s x1 x2) := by
  intro x1 x2 hm
  refine h.step hm ?_
  replace h : Only 2060 s s := .refl s
  unfold State.loseRank
  try dsimp only
  repeat' (first | with_reducible assumption | decide | intro _ | with_reducible refine modStack_only ?_ _ _ ?_
                 | with_reducible refine freeEntries_only ?_ _ _ ?_ | with_reducible refine setRank_only ?_ _ _ _ ?_
                 | with_reducible refine pointTo_only ?_ _ _ _ ?_ | with_reducible refine noSpare_only ?_ _ ?_
                 | with_reducible apply ite_only | with_reducible apply foldl_only
                 | with_reducible apply foldl_only_snd | refine snd_only ‹_ = _› ?_ | refine fst_only ‹_ = _› ?_
                 | split)

theorem losePc_only (h : Only m a s) : ∀ x1 x2, (hm : Sub 5995486 m := by decide) → Only m a (State.losePc s x1 x2) := by
  intro x1 x2 hm
  refine h.step hm ?_
  replace h : Only 5995486 s s := .refl s
  unfold State.losePc
  try dsimp only
  repeat' (first | with_reducible assumption | decide | intro _ | with_reducible refine stopPc_only ?_ _ ?_
                 | with_reducible refine modStack_only ?_ _ _ ?_ | with_reducible refine fencePc_only ?_ _ _ ?_
                 | with_reducible refine loseDestination_only ?_ _ _ _ ?_ | with_reducible apply each_only
                 | with_reducible refine loseHost_only ?_ _ _ ?_ | with_reducible refine loseRank_only ?_ _ _ ?_
                 | with_reducible refine applyMoved_only ?_ _ _ ?_ | with_reducible refine abandonOn_only ?_ _ _ _ ?_
                 | with_reducible refine regionLoses_only ?_ _ _ _ ?_ | with_reducible apply ite_only
                 | with_reducible apply foldl_only | with_reducible apply foldl_only_snd | refine snd_only ‹_ = _› ?_
                 | refine fst_only ‹_ = _› ?_ | split)

theorem fenceEngine_only (h : Only m a s) : ∀ x1, (hm : Sub 540680 m := by decide) → Only m a (State.fenceEngine s x1) := by
  intro x1 hm
  refine h.step hm ?_
  replace h : Only 540680 s s := .refl s
  unfold State.fenceEngine
  try dsimp only
  repeat' (first | with_reducible assumption | decide | intro _ | with_reducible refine fenceUnit_only ?_ _ ?_
                 | with_reducible apply each_only | with_reducible refine askAbort_only ?_ _ _ _ ?_
                 | with_reducible refine modTest_only ?_ _ ?_ | with_reducible refine setObj_only ?_ _ _ _ _ ?_
                 | with_reducible apply ite_only | with_reducible apply foldl_only
                 | with_reducible apply foldl_only_snd | refine snd_only ‹_ = _› ?_ | refine fst_only ‹_ = _› ?_
                 | split)

theorem resetPort_only (h : Only m a s) : ∀ x1, (hm : Sub 5384 m := by decide) → Only m a (State.resetPort s x1) := by
  intro x1 hm
  refine h.step hm ?_
  replace h : Only 5384 s s := .refl s
  unfold State.resetPort
  try dsimp only
  repeat' (first | with_reducible assumption | decide | intro _ | with_reducible refine eachPc_only ?_ _ ?_
                 | with_reducible refine modPort_only ?_ _ _ ?_ | with_reducible refine raiseGen_only ?_ _ ?_
                 | with_reducible apply ite_only | with_reducible apply foldl_only
                 | with_reducible apply foldl_only_snd | refine snd_only ‹_ = _› ?_ | refine fst_only ‹_ = _› ?_
                 | fail_if_no_progress (with_reducible refine upd256_only ?_ _ ?_) | split)

theorem unitDies_only (h : Only m a s) : ∀ x1, (hm : Sub 8093662 m := by decide) → Only m a (State.unitDies s x1) := by
  intro x1 hm
  refine h.step hm ?_
  replace h : Only 8093662 s s := .refl s
  unfold State.unitDies
  try dsimp only
  repeat' (first | with_reducible assumption | decide | intro _ | with_reducible refine loseStack_only ?_ _ ?_
                 | with_reducible refine losePc_only ?_ _ _ ?_ | with_reducible refine fenceUnit_only ?_ _ ?_
                 | with_reducible refine repairLane_only ?_ _ _ _ ?_
                 | with_reducible refine setLaneState_only ?_ _ _ _ _ ?_
                 | with_reducible refine loseDestination_only ?_ _ _ _ ?_
                 | with_reducible refine setRank_only ?_ _ _ _ ?_ | with_reducible apply each_only
                 | with_reducible refine loseHost_only ?_ _ _ ?_ | with_reducible refine regionLoses_only ?_ _ _ _ ?_
                 | with_reducible refine takeOut_only ?_ _ _ ?_ | with_reducible refine loseRank_only ?_ _ _ ?_
                 | with_reducible refine modStack_only ?_ _ _ ?_ | with_reducible refine applyMoved_only ?_ _ _ ?_
                 | with_reducible refine fenceEngine_only ?_ _ ?_
                 | with_reducible refine declareFailed_only ?_ _ _ ?_ | with_reducible refine resetPort_only ?_ _ ?_
                 | with_reducible apply ite_only | with_reducible apply foldl_only
                 | with_reducible apply foldl_only_snd | refine snd_only ‹_ = _› ?_ | refine fst_only ‹_ = _› ?_
                 | split)

theorem lossBoundary_only (h : Only m a s) : (hm : Sub 8093662 m := by decide) → Only m a (State.lossBoundary s) := by
  intro hm
  refine h.step hm ?_
  replace h : Only 8093662 s s := .refl s
  unfold State.lossBoundary
  try dsimp only
  repeat' (first | with_reducible assumption | decide | intro _ | with_reducible apply each_only
                 | with_reducible refine modTest_only ?_ _ ?_ | with_reducible refine unitDies_only ?_ _ ?_
                 | with_reducible refine loseStack_only ?_ _ ?_ | with_reducible refine losePc_only ?_ _ _ ?_
                 | with_reducible apply ite_only | with_reducible apply foldl_only
                 | with_reducible apply foldl_only_snd | refine snd_only ‹_ = _› ?_ | refine fst_only ‹_ = _› ?_
                 | split)

theorem decideShots_only (h : Only m a s) : (hm : Sub 717644 m := by decide) → Only m a (State.decideShots s) := by
  intro hm
  refine h.step hm ?_
  replace h : Only 717644 s s := .refl s
  unfold State.decideShots
  try dsimp only
  repeat' (first | with_reducible assumption | decide | intro _ | with_reducible apply each_only
                 | with_reducible refine commitShot_only ?_ _ ?_ | with_reducible refine abortShot_only ?_ _ _ _ ?_
                 | with_reducible apply ite_only | with_reducible apply foldl_only
                 | with_reducible apply foldl_only_snd | refine snd_only ‹_ = _› ?_ | refine fst_only ‹_ = _› ?_
                 | split)

theorem clearBp_only (h : Only m a s) : (hm : Sub 4259840 m := by decide) → Only m a (State.clearBp s) := by
  intro hm
  refine h.step hm ?_
  replace h : Only 4259840 s s := .refl s
  unfold State.clearBp
  try dsimp only
  repeat' (first | with_reducible assumption | decide | intro _ | with_reducible apply each_only
                 | with_reducible refine setBp_only ?_ _ _ ?_ | with_reducible apply ite_only
                 | with_reducible apply foldl_only | with_reducible apply foldl_only_snd | refine snd_only ‹_ = _› ?_
                 | refine fst_only ‹_ = _› ?_ | split)

theorem packetBoundary_only (h : Only m a s) : (hm : Sub 4942686 m := by decide) → Only m a (State.packetBoundary s) := by
  intro hm
  refine h.step hm ?_
  replace h : Only 4942686 s s := .refl s
  unfold State.packetBoundary
  try dsimp only
  repeat' (first | with_reducible assumption | decide | intro _ | with_reducible refine modPacket_only ?_ _ ?_
                 | with_reducible refine stockroomOff_only ?_ _ ?_ | with_reducible refine pulled_only ?_ ?_
                 | with_reducible refine clearBp_only ?_ ?_ | with_reducible apply ite_only
                 | with_reducible apply foldl_only | with_reducible apply foldl_only_snd | refine snd_only ‹_ = _› ?_
                 | refine fst_only ‹_ = _› ?_ | split)

theorem slipBoundary_only (h : Only m a s) : (hm : Sub 16384 m := by decide) → Only m a (State.slipBoundary s) := by
  intro hm
  refine h.step hm ?_
  replace h : Only 16384 s s := .refl s
  unfold State.slipBoundary
  try dsimp only
  repeat' (first | with_reducible assumption | decide | intro _ | with_reducible refine modShotS_only ?_ _ ?_
                 | with_reducible apply ite_only | with_reducible apply foldl_only
                 | with_reducible apply foldl_only_snd | refine snd_only ‹_ = _› ?_ | refine fst_only ‹_ = _› ?_
                 | split)

theorem boundaryWork_only (h : Only m a s) : (hm : Sub 8126430 m := by decide) → Only m a (State.boundaryWork s) := by
  intro hm
  refine h.step hm ?_
  replace h : Only 8126430 s s := .refl s
  unfold State.boundaryWork
  try dsimp only
  repeat' (first | with_reducible assumption | decide | intro _ | with_reducible refine partBoundary_only ?_ ?_
                 | with_reducible refine commitDue_only ?_ ?_ | with_reducible refine rebuildBoundary_only ?_ ?_
                 | with_reducible refine versionBoundary_only ?_ ?_ | with_reducible refine lossBoundary_only ?_ ?_
                 | with_reducible refine decideShots_only ?_ ?_ | with_reducible refine abortListed_only ?_ ?_
                 | with_reducible refine admitAll_only ?_ ?_ | with_reducible refine packetBoundary_only ?_ ?_
                 | with_reducible refine slipBoundary_only ?_ ?_ | with_reducible apply ite_only
                 | with_reducible apply foldl_only | with_reducible apply foldl_only_snd | refine snd_only ‹_ = _› ?_
                 | refine fst_only ‹_ = _› ?_ | split)

theorem bringEvent_only (h : Only m a s) : ∀ x1 x2 x3, (hm : Sub 12 m := by decide) → Only m a (State.bringEvent s x1 x2 x3) := by
  intro x1 x2 x3 hm
  refine h.step hm ?_
  replace h : Only 12 s s := .refl s
  unfold State.bringEvent
  try dsimp only
  repeat' (first | with_reducible assumption | decide | intro _
                 | with_reducible refine logEvent_only ?_ _ _ _ _ _ _ ?_ | with_reducible apply ite_only
                 | with_reducible apply foldl_only | with_reducible apply foldl_only_snd | refine snd_only ‹_ = _› ?_
                 | refine fst_only ‹_ = _› ?_ | split)

theorem domainResult_only (h : Only m a s) : ∀ x1 x2, (hm : Sub 14 m := by decide) → Only m a (State.domainResult s x1 x2) := by
  intro x1 x2 hm
  refine h.step hm ?_
  replace h : Only 14 s s := .refl s
  unfold State.domainResult
  try dsimp only
  repeat' (first | with_reducible assumption | decide | exact ⟨rfl, rfl, rfl⟩ | intro _
                 | with_reducible refine bringEvent_only ?_ _ _ _ ?_ | with_reducible refine modBlock_only ?_ _ ?_ ?_
                 | with_reducible refine setObj_only ?_ _ _ _ _ ?_ | with_reducible apply ite_only
                 | with_reducible apply foldl_only | with_reducible apply foldl_only_snd | refine snd_only ‹_ = _› ?_
                 | refine fst_only ‹_ = _› ?_ | split)

theorem bringFail_only (h : Only m a s) : ∀ x1, (hm : Sub 2062 m := by decide) → Only m a (State.bringFail s x1) := by
  intro x1 hm
  refine h.step hm ?_
  replace h : Only 2062 s s := .refl s
  unfold State.bringFail
  try dsimp only
  repeat' (first | with_reducible assumption | decide | intro _ | with_reducible refine domainResult_only ?_ _ _ ?_
                 | with_reducible refine setObj_only ?_ _ _ _ _ ?_ | with_reducible refine modStack_only ?_ _ _ ?_
                 | with_reducible apply ite_only | with_reducible apply foldl_only
                 | with_reducible apply foldl_only_snd | refine snd_only ‹_ = _› ?_ | refine fst_only ‹_ = _› ?_
                 | split)

theorem bringLane_only (h : Only m a s) : ∀ x1 x2, (hm : Sub 2101260 m := by decide) → Only m a (State.bringLane s x1 x2) := by
  intro x1 x2 hm
  refine h.step hm ?_
  replace h : Only 2101260 s s := .refl s
  unfold State.bringLane
  try dsimp only
  repeat' (first | with_reducible assumption | decide | intro _ | with_reducible refine replaceLane_only ?_ _ _ _ ?_
                 | with_reducible apply ite_only | with_reducible apply foldl_only
                 | with_reducible apply foldl_only_snd | refine snd_only ‹_ = _› ?_ | refine fst_only ‹_ = _› ?_
                 | split)

theorem quarantine_only (h : Only m a s) : ∀ x1, (hm : Sub 2048 m := by decide) → Only m a (State.quarantine s x1) := by
  intro x1 hm
  refine h.step hm ?_
  replace h : Only 2048 s s := .refl s
  unfold State.quarantine
  try dsimp only
  repeat' (first | with_reducible assumption | decide | intro _ | with_reducible refine modStack_only ?_ _ _ ?_
                 | with_reducible apply ite_only | with_reducible apply foldl_only
                 | with_reducible apply foldl_only_snd | refine snd_only ‹_ = _› ?_ | refine fst_only ‹_ = _› ?_
                 | split)

theorem bringLosePc_only (h : Only m a s) : ∀ x1 x2, (hm : Sub 2060 m := by decide) → Only m a (State.bringLosePc s x1 x2) := by
  intro x1 x2 hm
  refine h.step hm ?_
  replace h : Only 2060 s s := .refl s
  unfold State.bringLosePc
  try dsimp only
  repeat' (first | with_reducible assumption | decide | intro _ | with_reducible refine bringEvent_only ?_ _ _ _ ?_
                 | with_reducible refine quarantine_only ?_ _ ?_ | with_reducible apply ite_only
                 | with_reducible apply foldl_only | with_reducible apply foldl_only_snd | refine snd_only ‹_ = _› ?_
                 | refine fst_only ‹_ = _› ?_ | split)

theorem decideLevel_only (h : Only m a s) : ∀ x1 x2, (hm : Sub 2060 m := by decide) → Only m a (State.decideLevel s x1 x2) := by
  intro x1 x2 hm
  refine h.step hm ?_
  replace h : Only 2060 s s := .refl s
  unfold State.decideLevel
  try dsimp only
  repeat' (first | with_reducible assumption | decide | intro _
                 | with_reducible refine logEvent_only ?_ _ _ _ _ _ _ ?_
                 | with_reducible refine modStack_only ?_ _ _ ?_ | with_reducible refine bump_only ?_ _ _ _ _ ?_
                 | with_reducible refine setObj_only ?_ _ _ _ _ ?_ | with_reducible apply ite_only
                 | with_reducible apply foldl_only | with_reducible apply foldl_only_snd | refine snd_only ‹_ = _› ?_
                 | refine fst_only ‹_ = _› ?_ | split)

theorem execTemperatureRead_only (h : Only m a s) : ∀ x1 x2, ∀ t, execTemperatureRead x1 x2 s = Host.Outcome.next t → (hm : Sub 2060 m := by decide) → Only m a t := by
  intro x1 x2 t e hm
  refine h.step hm ?_
  replace h : Only 2060 s s := .refl s
  suffices g : Runs 2060 s (execTemperatureRead x1 x2 s) from g.only t e
  clear e t
  unfold execTemperatureRead
  try dsimp only
  repeat' (first | with_reducible assumption | decide | with_reducible refine runs_intro ?_
                 | with_reducible apply runs_ite | with_reducible exact runs_refused
                 | with_reducible exact runs_fault | intro _ | with_reducible refine modStack_only ?_ _ _ ?_
                 | with_reducible refine setObj_only ?_ _ _ _ _ ?_ | with_reducible refine decideLevel_only ?_ _ _ ?_
                 | with_reducible refine bump_only ?_ _ _ _ _ ?_
                 | with_reducible refine logEvent_only ?_ _ _ _ _ _ _ ?_ | with_reducible apply ite_only
                 | with_reducible apply foldl_only | with_reducible apply foldl_only_snd | refine snd_only ‹_ = _› ?_
                 | refine fst_only ‹_ = _› ?_ | split)

theorem bringStep_only (h : Only m a s) : ∀ x1 x2, (hm : Sub 2062 m := by decide) → Only m a (State.bringStep s x1 x2) := by
  intro x1 x2 hm
  refine h.step hm ?_
  replace h : Only 2062 s s := .refl s
  unfold State.bringStep
  try dsimp only
  repeat' (first | with_reducible assumption | decide | intro _ | with_reducible refine bringFail_only ?_ _ ?_
                 | with_reducible refine modStack_only ?_ _ _ ?_ | with_reducible apply ite_only
                 | with_reducible apply foldl_only | with_reducible apply foldl_only_snd | refine snd_only ‹_ = _› ?_
                 | refine fst_only ‹_ = _› ?_ | split)

theorem bringRead_only (h : Only m a s) : ∀ x1 x2, (hm : Sub 2062 m := by decide) → Only m a (State.bringRead s x1 x2) := by
  intro x1 x2 hm
  refine h.step hm ?_
  replace h : Only 2062 s s := .refl s
  unfold State.bringRead
  try dsimp only
  repeat' (first | with_reducible assumption | decide | intro _ | with_reducible refine stSet_only ?_ _ _ _ _ _ ?_
                 | with_reducible refine modStack_only ?_ _ _ ?_
                 | refine execTemperatureRead_only ?_ _ _ _ ‹_ = Host.Outcome.next _› ?_
                 | with_reducible refine bringFail_only ?_ _ ?_ | with_reducible refine bringStep_only ?_ _ _ ?_
                 | with_reducible apply ite_only | with_reducible apply foldl_only
                 | with_reducible apply foldl_only_snd | refine snd_only ‹_ = _› ?_ | refine fst_only ‹_ = _› ?_
                 | split)

theorem holdOut_only (h : Only m a s) : ∀ x1 x2, (hm : Sub 2060 m := by decide) → Only m a (State.holdOut s x1 x2) := by
  intro x1 x2 hm
  refine h.step hm ?_
  replace h : Only 2060 s s := .refl s
  unfold State.holdOut
  try dsimp only
  repeat' (first | with_reducible assumption | decide | intro _ | with_reducible refine setRank_only ?_ _ _ _ ?_
                 | with_reducible refine bringEvent_only ?_ _ _ _ ?_ | with_reducible refine fenceUnit_only ?_ _ ?_
                 | with_reducible refine pointTo_only ?_ _ _ _ ?_ | with_reducible refine bringLosePc_only ?_ _ _ ?_
                 | with_reducible refine noSpare_only ?_ _ ?_ | with_reducible apply ite_only
                 | with_reducible apply foldl_only | with_reducible apply foldl_only_snd | refine snd_only ‹_ = _› ?_
                 | refine fst_only ‹_ = _› ?_ | split)

theorem pprRow_only (h : Only m a s) : ∀ x1 x2 x3 x4 x5, (hm : Sub 8 m := by decide) → Only m a (State.pprRow s x1 x2 x3 x4 x5) := by
  intro x1 x2 x3 x4 x5 hm
  refine h.step hm ?_
  replace h : Only 8 s s := .refl s
  unfold State.pprRow
  try dsimp only
  repeat' (first | with_reducible assumption | decide | intro _ | with_reducible refine bump_only ?_ _ _ _ _ ?_
                 | with_reducible refine setObj_only ?_ _ _ _ _ ?_ | with_reducible apply ite_only
                 | with_reducible apply foldl_only | with_reducible apply foldl_only_snd | refine snd_only ‹_ = _› ?_
                 | refine fst_only ‹_ = _› ?_ | split)

theorem takeSubstitute_only (h : Only m a s) : ∀ x1, (hm : Sub 8 m := by decide) → Only m a (State.takeSubstitute s x1).2 := by
  intro x1 hm
  refine h.step hm ?_
  replace h : Only 8 s s := .refl s
  unfold State.takeSubstitute
  try dsimp only
  repeat' (first | with_reducible assumption | decide | intro _ | with_reducible refine setObj_only ?_ _ _ _ _ ?_
                 | with_reducible refine setRank_only ?_ _ _ _ ?_ | with_reducible apply ite_only
                 | with_reducible apply foldl_only | with_reducible apply foldl_only_snd | refine snd_only ‹_ = _› ?_
                 | refine fst_only ‹_ = _› ?_ | split)

theorem checkQuarter_only (h : Only m a s) : ∀ x1 x2, (hm : Sub 2048 m := by decide) → Only m a (State.checkQuarter s x1 x2) := by
  intro x1 x2 hm
  refine h.step hm ?_
  replace h : Only 2048 s s := .refl s
  unfold State.checkQuarter
  try dsimp only
  repeat' (first | with_reducible assumption | decide | intro _
                 | with_reducible refine queueMigration_only ?_ _ _ _ _ ?_ | with_reducible apply ite_only
                 | with_reducible apply foldl_only | with_reducible apply foldl_only_snd | refine snd_only ‹_ = _› ?_
                 | refine fst_only ‹_ = _› ?_ | split)

theorem spliceRow_only (h : Only m a s) : ∀ x1 x2 x3 x4 x5 x6 x7 x8, (hm : Sub 2056 m := by decide) → Only m a (State.spliceRow s x1 x2 x3 x4 x5 x6 x7 x8) := by
  intro x1 x2 x3 x4 x5 x6 x7 x8 hm
  refine h.step hm ?_
  replace h : Only 2056 s s := .refl s
  unfold State.spliceRow
  have g := takeSubstitute_only (m := 2056) h x1
  generalize s.takeSubstitute x1 = p at g ⊢
  split
  · exact g
  · exact checkQuarter_only (modStack_only (bump_only (setObj_only g _ _ _ _) _ _ _ _) _ _) _ _

theorem retirePage_only (h : Only m a s) : ∀ x1 x2 x3, (hm : Sub 12 m := by decide) → Only m a (State.retirePage s x1 x2 x3) := by
  intro x1 x2 x3 hm
  refine h.step hm ?_
  replace h : Only 12 s s := .refl s
  unfold State.retirePage
  try dsimp only
  repeat' (first | with_reducible assumption | decide | intro _
                 | with_reducible refine logEvent_only ?_ _ _ _ _ _ _ ?_ | with_reducible refine count_only ?_ _ _ ?_
                 | with_reducible refine setObj_only ?_ _ _ _ _ ?_ | with_reducible apply ite_only
                 | with_reducible apply foldl_only | with_reducible apply foldl_only_snd | refine snd_only ‹_ = _› ?_
                 | refine fst_only ‹_ = _› ?_ | split)

end Sys2Proof.Laws
end

