-- ==== Sys2Proof/Laws/Only3.lean ====
section
/-! SUPPORT. Only3.lean: everything each shared operation and command can do to the parts of the state, operations before
those that use them (3 of 6). -/

-- theorems one after another: many at once would ask for too many threads
set_option Elab.async false

namespace Sys2Proof.Laws

open Sys2Proof.Machine Sys2Proof.Safety

set_option linter.unreachableTactic false
set_option linter.unusedTactic false

variable {a s : State} {m : Nat}

theorem retirePlace_only (h : Only m a s) : ∀ x1 x2, (hm : Sub 12 m := by decide) → Only m a (State.retirePlace s x1 x2) := by
  intro x1 x2 hm
  refine h.step hm ?_
  replace h : Only 12 s s := .refl s
  unfold State.retirePlace
  try dsimp only
  repeat' (first | with_reducible assumption | decide | intro _ | with_reducible refine retirePage_only ?_ _ _ _ ?_
                 | with_reducible apply ite_only | with_reducible apply foldl_only
                 | with_reducible apply foldl_only_snd | refine snd_only ‹_ = _› ?_ | refine fst_only ‹_ = _› ?_
                 | split)

theorem retireRow_only (h : Only m a s) : ∀ x1 x2 x3 x4 x5 x6, (hm : Sub 12 m := by decide) → Only m a (State.retireRow s x1 x2 x3 x4 x5 x6) := by
  intro x1 x2 x3 x4 x5 x6 hm
  refine h.step hm ?_
  replace h : Only 12 s s := .refl s
  unfold State.retireRow
  try dsimp only
  repeat' (first | with_reducible assumption | decide | intro _ | with_reducible apply each_only
                 | with_reducible refine retirePlace_only ?_ _ _ ?_ | with_reducible apply ite_only
                 | with_reducible apply foldl_only | with_reducible apply foldl_only_snd | refine snd_only ‹_ = _› ?_
                 | refine fst_only ‹_ = _› ?_ | split)

theorem rowFault_only (h : Only m a s) : ∀ x1 x2 x3 x4 x5, (hm : Sub 2060 m := by decide) → Only m a (State.rowFault s x1 x2 x3 x4 x5) := by
  intro x1 x2 x3 x4 x5 hm
  refine h.step hm ?_
  replace h : Only 2060 s s := .refl s
  unfold State.rowFault
  try dsimp only
  repeat' (first | with_reducible assumption | decide | intro _ | with_reducible refine setRank_only ?_ _ _ _ ?_
                 | with_reducible refine spliceRow_only ?_ _ _ _ _ _ _ _ _ ?_
                 | with_reducible refine retireRow_only ?_ _ _ _ _ _ _ ?_
                 | with_reducible refine queueMigration_only ?_ _ _ _ _ ?_
                 | with_reducible refine logEvent_only ?_ _ _ _ _ _ _ ?_ | with_reducible apply ite_only
                 | with_reducible apply foldl_only | with_reducible apply foldl_only_snd | refine snd_only ‹_ = _› ?_
                 | refine fst_only ‹_ = _› ?_ | split)

theorem bringRepair_only (h : Only m a s) : ∀ x1 x2, (hm : Sub 2062 m := by decide) → Only m a (State.bringRepair s x1 x2) := by
  intro x1 x2 hm
  refine h.step hm ?_
  replace h : Only 2062 s s := .refl s
  unfold State.bringRepair
  extract_lets list units s1 listed lost rows room s2 s3
  have g1 : Only 2062 s s1 := each_only (fun t x k => holdOut_only k _ _) _ h
  have g2 : Only 2062 s s2 := by
    refine foldl_only_fst _ (fun p x k => ?_) _ g1
    dsimp only
    split
    · exact pprRow_only k _ _ _ _ _
    · exact rowFault_only k _ _ _ _ _
  have g3 : Only 2062 s s3 := each_only (fun t x k => setObj_only k _ _ _ _) _ g2
  exact bringStep_only (modStack_only g3 _ _) _ _

theorem bringTest_only (h : Only m a s) : ∀ x1 x2, (hm : Sub 2062 m := by decide) → Only m a (State.bringTest s x1 x2) := by
  intro x1 x2 hm
  refine h.step hm ?_
  replace h : Only 2062 s s := .refl s
  unfold State.bringTest
  try dsimp only
  repeat' (first | with_reducible assumption | decide | intro _ | with_reducible refine modStack_only ?_ _ _ ?_
                 | with_reducible apply each_only | with_reducible refine bringLosePc_only ?_ _ _ ?_
                 | with_reducible refine holdOut_only ?_ _ _ ?_ | with_reducible refine bringStep_only ?_ _ _ ?_
                 | with_reducible apply ite_only | with_reducible apply foldl_only
                 | with_reducible apply foldl_only_snd | refine snd_only ‹_ = _› ?_ | refine fst_only ‹_ = _› ?_
                 | split)

theorem trainLane_only (h : Only m a s) : ∀ x1 x2, (hm : Sub 2103308 m := by decide) → Only m a (State.trainLane s x1 x2) := by
  intro x1 x2 hm
  refine h.step hm ?_
  replace h : Only 2103308 s s := .refl s
  unfold State.trainLane
  try dsimp only
  repeat' (first | with_reducible assumption | decide | intro _ | with_reducible refine repairLane_only ?_ _ _ _ ?_
                 | with_reducible refine setObj_only ?_ _ _ _ _ ?_ | with_reducible apply ite_only
                 | with_reducible apply foldl_only | with_reducible apply foldl_only_snd | refine snd_only ‹_ = _› ?_
                 | refine fst_only ‹_ = _› ?_ | split)

theorem fullTrain_only (h : Only m a s) : ∀ x1 x2, (hm : Sub 2103308 m := by decide) → Only m a (State.fullTrain s x1 x2).2 := by
  intro x1 x2 hm
  refine h.step hm ?_
  replace h : Only 2103308 s s := .refl s
  unfold State.fullTrain
  try dsimp only
  repeat' (first | with_reducible assumption | decide | intro _ | with_reducible apply each_only
                 | with_reducible refine bringLane_only ?_ _ _ ?_ | with_reducible refine trainLane_only ?_ _ _ ?_
                 | with_reducible refine setObj_only ?_ _ _ _ _ ?_ | with_reducible refine noteCal_only ?_ _ ?_
                 | with_reducible apply ite_only | with_reducible apply foldl_only
                 | with_reducible apply foldl_only_snd | refine snd_only ‹_ = _› ?_ | refine fst_only ‹_ = _› ?_
                 | split)

theorem bringTrain_only (h : Only m a s) : ∀ x1 x2, (hm : Sub 2103310 m := by decide) → Only m a (State.bringTrain s x1 x2) := by
  intro x1 x2 hm
  refine h.step hm ?_
  replace h : Only 2103310 s s := .refl s
  unfold State.bringTrain
  try dsimp only
  repeat' (first | with_reducible assumption | decide | intro _ | with_reducible refine fullTrain_only ?_ _ _ ?_
                 | with_reducible refine bringFail_only ?_ _ ?_ | with_reducible refine bringStep_only ?_ _ _ ?_
                 | with_reducible apply each_only | with_reducible refine bringLosePc_only ?_ _ _ ?_
                 | with_reducible apply ite_only | with_reducible apply foldl_only
                 | with_reducible apply foldl_only_snd | refine snd_only ‹_ = _› ?_ | refine fst_only ‹_ = _› ?_
                 | split)

theorem brokenLock_only (h : Only m a s) : ∀ x1, (hm : Sub 4 m := by decide) → Only m a (State.brokenLock s x1).2 := by
  intro x1 hm
  refine h.step hm ?_
  replace h : Only 4 s s := .refl s
  unfold State.brokenLock
  try dsimp only
  repeat' (first | with_reducible assumption | decide | intro _ | with_reducible refine modSession_only ?_ _ _ ?_
                 | with_reducible apply ite_only | with_reducible apply foldl_only
                 | with_reducible apply foldl_only_snd | refine snd_only ‹_ = _› ?_ | refine fst_only ‹_ = _› ?_
                 | split)

theorem integrityEvent_only (h : Only m a s) : ∀ x1 x2 x3, (hm : Sub 12 m := by decide) → Only m a (State.integrityEvent s x1 x2 x3) := by
  intro x1 x2 x3 hm
  refine h.step hm ?_
  replace h : Only 12 s s := .refl s
  unfold State.integrityEvent
  try dsimp only
  repeat' (first | with_reducible assumption | decide | intro _
                 | with_reducible refine logEvent_only ?_ _ _ _ _ _ _ ?_ | with_reducible apply ite_only
                 | with_reducible apply foldl_only | with_reducible apply foldl_only_snd | refine snd_only ‹_ = _› ?_
                 | refine fst_only ‹_ = _› ?_ | split)

theorem bucketAdd_only (h : Only m a s) : ∀ x1, (hm : Sub 12 m := by decide) → Only m a (State.bucketAdd s x1) := by
  intro x1 hm
  refine h.step hm ?_
  replace h : Only 12 s s := .refl s
  unfold State.bucketAdd
  try dsimp only
  repeat' (first | with_reducible assumption | decide | intro _
                 | with_reducible refine integrityEvent_only ?_ _ _ _ ?_
                 | with_reducible refine bump_only ?_ _ _ _ _ ?_ | with_reducible refine setObj_only ?_ _ _ _ _ ?_
                 | with_reducible apply ite_only | with_reducible apply foldl_only
                 | with_reducible apply foldl_only_snd | refine snd_only ‹_ = _› ?_ | refine fst_only ‹_ = _› ?_
                 | split)

theorem engWriteP_only (h : Only m a s) : ∀ x1 x2 x3, (hm : Sub 682830 m := by decide) → Only m a (State.engWriteP s x1 x2 x3) := by
  intro x1 x2 x3 hm
  refine h.step hm ?_
  replace h : Only 682830 s s := .refl s
  unfold State.engWriteP
  try dsimp only
  repeat' (first | with_reducible assumption | decide | intro _ | with_reducible apply each_only
                 | with_reducible refine engIssue_only ?_ _ ?_ | with_reducible apply ite_only
                 | with_reducible apply foldl_only | with_reducible apply foldl_only_snd | refine snd_only ‹_ = _› ?_
                 | refine fst_only ‹_ = _› ?_ | split)

theorem engWrite_only (h : Only m a s) : ∀ x1 x2 x3, (hm : Sub 682830 m := by decide) → Only m a (State.engWrite s x1 x2 x3) := by
  intro x1 x2 x3 hm
  refine h.step hm ?_
  replace h : Only 682830 s s := .refl s
  unfold State.engWrite
  try dsimp only
  repeat' (first | with_reducible assumption | decide | intro _ | with_reducible refine engWriteP_only ?_ _ _ _ ?_
                 | with_reducible apply ite_only | with_reducible apply foldl_only
                 | with_reducible apply foldl_only_snd | refine snd_only ‹_ = _› ?_ | refine fst_only ‹_ = _› ?_
                 | split)

theorem capIssue_only (h : Only m a s) : ∀ x1, (hm : Sub 748366 m := by decide) → Only m a (State.capIssue s x1) := by
  intro x1 hm
  refine h.step hm ?_
  replace h : Only 748366 s s := .refl s
  unfold State.capIssue
  try dsimp only
  repeat' (first | with_reducible assumption | decide | intro _ | with_reducible refine engWrite_only ?_ _ _ _ ?_
                 | with_reducible refine modPacket_only ?_ _ ?_ | with_reducible apply ite_only
                 | with_reducible apply foldl_only | with_reducible apply foldl_only_snd | refine snd_only ‹_ = _› ?_
                 | refine fst_only ‹_ = _› ?_ | split)

theorem carryLost_only (h : Only m a s) : ∀ x1 x2, (hm : Sub 140 m := by decide) → Only m a (State.carryLost s x1 x2) := by
  intro x1 x2 hm
  refine h.step hm ?_
  replace h : Only 140 s s := .refl s
  unfold State.carryLost
  try dsimp only
  repeat' (first | with_reducible assumption | decide | intro _ | with_reducible refine dramPut_only ?_ _ _ ?_
                 | with_reducible refine retirePlace_only ?_ _ _ ?_ | with_reducible refine count_only ?_ _ _ ?_
                 | with_reducible apply ite_only | with_reducible apply foldl_only
                 | with_reducible apply foldl_only_snd | refine snd_only ‹_ = _› ?_ | refine fst_only ‹_ = _› ?_
                 | split)

theorem spillWrite_only (h : Only m a s) : ∀ x1 x2, (hm : Sub 682830 m := by decide) → Only m a (State.spillWrite s x1 x2) := by
  intro x1 x2 hm
  refine h.step hm ?_
  replace h : Only 682830 s s := .refl s
  unfold State.spillWrite
  try dsimp only
  repeat' (first | with_reducible assumption | decide | intro _ | with_reducible refine engWrite_only ?_ _ _ _ ?_
                 | with_reducible apply ite_only | with_reducible apply foldl_only
                 | with_reducible apply foldl_only_snd | refine snd_only ‹_ = _› ?_ | refine fst_only ‹_ = _› ?_
                 | split)

theorem chainPage_only (h : Only m a s) : ∀ x1, (hm : Sub 748366 m := by decide) → Only m a (State.chainPage s x1) := by
  intro x1 hm
  refine h.step hm ?_
  replace h : Only 748366 s s := .refl s
  unfold State.chainPage
  try dsimp only
  repeat' (first | with_reducible assumption | decide | intro _ | with_reducible refine spillWrite_only ?_ _ _ ?_
                 | with_reducible refine modEgress_only ?_ _ _ ?_ | with_reducible refine modPacket_only ?_ _ ?_
                 | with_reducible apply ite_only | with_reducible apply foldl_only
                 | with_reducible apply foldl_only_snd | refine snd_only ‹_ = _› ?_ | refine fst_only ‹_ = _› ?_
                 | split)

theorem changeRegion_only (h : Only m a s) : ∀ x1 x2, (hm : Sub 8256 m := by decide) → Only m a (State.changeRegion s x1 x2).2 := by
  intro x1 x2 hm
  refine h.step hm ?_
  replace h : Only 8256 s s := .refl s
  have key (b : Bool) (l : List Nat) (t : State) (g : (if b = true then s.allotPlaces l else some s) = some t) : Only 8256 s t := by
    cases b
    · cases g; exact h
    · exact allotPlaces_only h _ _ g
  unfold State.changeRegion
  dsimp only
  repeat' (first | with_reducible assumption | split)
  exact modSlot_only (key _ _ _ ‹_›) _ _

theorem chargeCycle_only (h : Only m a s) : ∀ x1, (hm : Sub 524288 m := by decide) → Only m a (State.chargeCycle s x1) := by
  intro x1 hm
  refine h.step hm ?_
  replace h : Only 524288 s s := .refl s
  unfold State.chargeCycle
  try dsimp only
  repeat' (first | with_reducible assumption | decide | intro _ | with_reducible refine charge_only ?_ _ _ ?_
                 | with_reducible apply ite_only | with_reducible apply foldl_only
                 | with_reducible apply foldl_only_snd | refine snd_only ‹_ = _› ?_ | refine fst_only ‹_ = _› ?_
                 | split)

theorem stBump_only (h : Only m a s) : ∀ x1 x2 x3 x4 x5, (hm : Sub 8 m := by decide) → Only m a (State.stBump s x1 x2 x3 x4 x5) := by
  intro x1 x2 x3 x4 x5 hm
  refine h.step hm ?_
  replace h : Only 8 s s := .refl s
  unfold State.stBump
  try dsimp only
  repeat' (first | with_reducible assumption | decide | intro _ | with_reducible refine bump_only ?_ _ _ _ _ ?_
                 | with_reducible apply ite_only | with_reducible apply foldl_only
                 | with_reducible apply foldl_only_snd | refine snd_only ‹_ = _› ?_ | refine fst_only ‹_ = _› ?_
                 | split)

theorem classAccess_only (h : Only m a s) : ∀ x1 x2 x3 x4, (hm : Sub 8 m := by decide) → Only m a (State.classAccess s x1 x2 x3 x4) := by
  intro x1 x2 x3 x4 hm
  refine h.step hm ?_
  replace h : Only 8 s s := .refl s
  unfold State.classAccess
  try dsimp only
  repeat' (first | with_reducible assumption | decide | intro _ | with_reducible refine stSet_only ?_ _ _ _ _ _ ?_
                 | with_reducible refine stBump_only ?_ _ _ _ _ _ ?_ | with_reducible apply ite_only
                 | with_reducible apply foldl_only | with_reducible apply foldl_only_snd | refine snd_only ‹_ = _› ?_
                 | refine fst_only ‹_ = _› ?_ | split)

theorem cleared_only (h : Only m a s) : (hm : Sub 67108863 m := by decide) → Only m a (State.cleared s) := fun hm =>
  h.step hm ⟨.inl rfl, .inl rfl, .inl rfl, .inl rfl, .inl rfl, .inl rfl, .inl rfl, .inl rfl, .inl rfl, .inl rfl, .inl rfl, .inl rfl, .inl rfl, .inl rfl, .inl rfl, .inl rfl, .inl rfl, .inl rfl, .inl rfl, .inl rfl, .inl rfl, .inl rfl, .inl rfl, .inl rfl, .inl rfl, .inl rfl, List.prefix_rfl, le_rfl, fun ⟨c, _⟩ => ⟨c, rfl, rfl, rfl, rfl, rfl, rfl, rfl⟩⟩

theorem drainStep_only (h : Only m a s) : ∀ x1, (hm : Sub 528392 m := by decide) → Only m a (State.drainStep s x1) := by
  intro x1 hm
  refine h.step hm ?_
  replace h : Only 528392 s s := .refl s
  unfold State.drainStep
  try dsimp only
  repeat' (first | with_reducible assumption | decide | intro _ | with_reducible refine modPc_only ?_ _ _ ?_
                 | with_reducible refine tallyStack_only ?_ _ _ _ _ ?_ | with_reducible apply ite_only
                 | with_reducible apply foldl_only | with_reducible apply foldl_only_snd | refine snd_only ‹_ = _› ?_
                 | refine fst_only ‹_ = _› ?_ | split)

theorem issueCol_only (h : Only m a s) : ∀ x1 x2, (hm : Sub 528520 m := by decide) → Only m a (State.issueCol s x1 x2) := by
  intro x1 x2 hm
  refine h.step hm ?_
  replace h : Only 528520 s s := .refl s
  unfold State.issueCol
  try dsimp only
  repeat' (first | with_reducible assumption | decide | intro _ | with_reducible refine tallyStack_only ?_ _ _ _ _ ?_
                 | with_reducible refine classAccess_only ?_ _ _ _ _ ?_ | with_reducible refine modPc_only ?_ _ _ ?_
                 | with_reducible refine dramPut_only ?_ _ _ ?_ | with_reducible apply ite_only
                 | with_reducible apply foldl_only | with_reducible apply foldl_only_snd | refine snd_only ‹_ = _› ?_
                 | refine fst_only ‹_ = _› ?_ | split)

theorem colStep_only (h : Only m a s) : ∀ x1, (hm : Sub 528520 m := by decide) → Only m a (State.colStep s x1) := by
  intro x1 hm
  refine h.step hm ?_
  replace h : Only 528520 s s := .refl s
  unfold State.colStep
  try dsimp only
  repeat' (first | with_reducible assumption | decide | intro _ | with_reducible refine drainStep_only ?_ _ ?_
                 | with_reducible refine issueCol_only ?_ _ _ ?_ | with_reducible apply ite_only
                 | with_reducible apply foldl_only | with_reducible apply foldl_only_snd | refine snd_only ‹_ = _› ?_
                 | refine fst_only ‹_ = _› ?_ | split)

theorem commitRegion_only (h : Only m a s) : ∀ x1 x2, (hm : Sub 270408 m := by decide) → Only m a (State.commitRegion s x1 x2).2 := by
  intro x1 x2 hm
  refine h.step hm ?_
  replace h : Only 270408 s s := .refl s
  unfold State.commitRegion
  try dsimp only
  repeat' (first | with_reducible assumption | decide | intro _ | with_reducible refine createRegion_only ?_ _ _ ?_
                 | with_reducible refine changeRegion_only ?_ _ _ ?_ | with_reducible refine modSlot_only ?_ _ _ ?_
                 | with_reducible apply ite_only | with_reducible apply foldl_only
                 | with_reducible apply foldl_only_snd | refine snd_only ‹_ = _› ?_ | refine fst_only ‹_ = _› ?_
                 | split)

theorem commitPartition_only (h : Only m a s) : ∀ x1 x2, (hm : Sub 8200 m := by decide) → Only m a (State.commitPartition s x1 x2).2 := by
  intro x1 x2 hm
  refine h.step hm ?_
  replace h : Only 8200 s s := .refl s
  unfold State.commitPartition
  try dsimp only
  repeat' (first | with_reducible assumption | decide | intro _ | with_reducible refine modLoft_only ?_ _ ?_
                 | with_reducible refine setObj_only ?_ _ _ _ _ ?_ | with_reducible apply ite_only
                 | with_reducible apply foldl_only | with_reducible apply foldl_only_snd | refine snd_only ‹_ = _› ?_
                 | refine fst_only ‹_ = _› ?_ | split)

theorem commitList_only (h : Only m a s) : ∀ x1 x2, (hm : Sub 8 m := by decide) → Only m a (State.commitList s x1 x2).2 := by
  intro x1 x2 hm
  refine h.step hm ?_
  replace h : Only 8 s s := .refl s
  unfold State.commitList
  try dsimp only
  repeat' (first | with_reducible assumption | decide | intro _ | with_reducible refine setObj_only ?_ _ _ _ _ ?_
                 | with_reducible apply ite_only | with_reducible apply foldl_only
                 | with_reducible apply foldl_only_snd | refine snd_only ‹_ = _› ?_ | refine fst_only ‹_ = _› ?_
                 | split)

theorem commitEntry_only (h : Only m a s) : ∀ x1 x2, (hm : Sub 16384 m := by decide) → Only m a (State.commitEntry s x1 x2).2 := by
  intro x1 x2 hm
  refine h.step hm ?_
  replace h : Only 16384 s s := .refl s
  unfold State.commitEntry
  try dsimp only
  repeat' (first | with_reducible assumption | decide | intro _ | with_reducible refine modTslot_only ?_ _ _ ?_
                 | with_reducible apply ite_only | with_reducible apply foldl_only
                 | with_reducible apply foldl_only_snd | refine snd_only ‹_ = _› ?_ | refine fst_only ‹_ = _› ?_
                 | split)

theorem commitCapture_only (h : Only m a s) : ∀ x1, (hm : Sub 74008 m := by decide) → Only m a (State.commitCapture s x1).2 := by
  intro x1 hm
  refine h.step hm ?_
  replace h : Only 74008 s s := .refl s
  unfold State.commitCapture
  extract_lets v s1 s2
  have g1 : Only 74008 s s1 := modPacket_only (freeUnits_only (capForget_only h) _) _
  have g : Only 74008 s s2 := setObj_only (setObj_only (setNow_only g1 _ _ _ _) _ _ _ _) _ _ _ _
  clear_value s2
  split
  · split
    · exact pair_only h
    · exact pair_only (modPacket_only g _)
  · exact pair_only g

theorem commitCounter_only (h : Only m a s) : ∀ x1 x2 x3 x4, (hm : Sub 524296 m := by decide) → Only m a (State.commitCounter s x1 x2 x3 x4).2 := by
  intro x1 x2 x3 x4 hm
  refine h.step hm ?_
  replace h : Only 524296 s s := .refl s
  unfold State.commitCounter
  try dsimp only
  repeat' (first | with_reducible assumption | decide | intro _ | with_reducible refine modTest_only ?_ _ ?_
                 | with_reducible refine setObj_only ?_ _ _ _ _ ?_ | with_reducible apply ite_only
                 | with_reducible apply foldl_only | with_reducible apply foldl_only_snd | refine snd_only ‹_ = _› ?_
                 | refine fst_only ‹_ = _› ?_ | split)

theorem startSwitch_only (h : Only m a s) : ∀ x1 x2, (hm : Sub 2056 m := by decide) → Only m a (State.startSwitch s x1 x2) := by
  intro x1 x2 hm
  refine h.step hm ?_
  replace h : Only 2056 s s := .refl s
  unfold State.startSwitch
  try dsimp only
  repeat' (first | with_reducible assumption | decide | intro _ | with_reducible refine modStack_only ?_ _ _ ?_
                 | with_reducible refine setObj_only ?_ _ _ _ _ ?_ | with_reducible apply ite_only
                 | with_reducible apply foldl_only | with_reducible apply foldl_only_snd | refine snd_only ‹_ = _› ?_
                 | refine fst_only ‹_ = _› ?_ | split)

theorem loadProfile_only (h : Only m a s) : ∀ x1, (hm : Sub 2056 m := by decide) → Only m a (State.loadProfile s x1).2 := by
  intro x1 hm
  refine h.step hm ?_
  replace h : Only 2056 s s := .refl s
  unfold State.loadProfile
  try dsimp only
  repeat' (first | with_reducible assumption | decide | intro _ | with_reducible refine setObj_only ?_ _ _ _ _ ?_
                 | with_reducible refine setProfile_only ?_ _ ?_ | with_reducible apply each_only
                 | with_reducible refine startSwitch_only ?_ _ _ ?_ | with_reducible apply ite_only
                 | with_reducible apply foldl_only | with_reducible apply foldl_only_snd | refine snd_only ‹_ = _› ?_
                 | refine fst_only ‹_ = _› ?_ | split)

theorem storeProfile_only (h : Only m a s) : ∀ x1 x2, (hm : Sub 12 m := by decide) → Only m a (State.storeProfile s x1 x2).2 := by
  intro x1 x2 hm
  refine h.step hm ?_
  replace h : Only 12 s s := .refl s
  unfold State.storeProfile
  try dsimp only
  repeat' (first | with_reducible assumption | decide | intro _
                 | with_reducible refine logEvent_only ?_ _ _ _ _ _ _ ?_
                 | with_reducible refine setObj_only ?_ _ _ _ _ ?_ | with_reducible apply ite_only
                 | with_reducible apply foldl_only | with_reducible apply foldl_only_snd | refine snd_only ‹_ = _› ?_
                 | refine fst_only ‹_ = _› ?_ | split)

theorem commitOne_only (h : Only m a s) : ∀ x1, (hm : Sub 878940 m := by decide) → Only m a (State.commitOne s x1).2 := by
  intro x1 hm
  refine h.step hm ?_
  replace h : Only 878940 s s := .refl s
  unfold State.commitOne
  dsimp only
  refine ite_only_snd (commitRegion_only h _ _) ?_
  refine ite_only_snd (commitPartition_only h _ _) ?_
  refine ite_only_snd (pair_only (setObj_only h _ _ _ _)) ?_
  refine ite_only_snd (commitList_only h _ _) ?_
  refine ite_only_snd (commitEntry_only h _ _) ?_
  refine ite_only_snd (commitCapture_only h _) ?_
  refine ite_only_snd (pair_only (setObj_only h _ _ _ _)) ?_
  refine ite_only_snd (commitCounter_only h _ _ _ _) ?_
  refine ite_only_snd (commitCounter_only h _ _ _ _) ?_
  refine ite_only_snd (loadProfile_only h _) ?_
  refine ite_only_snd (storeProfile_only h _ _) ?_
  refine ite_only_snd (pair_only (logEvent_only (setObj_only h _ _ _ _) _ _ _ _ _ _)) ?_
  refine ite_only_snd (pair_only h) ?_
  refine ite_only_snd (ite_only_snd (pair_only h) (pair_only (startSwitch_only h _ _))) ?_
  refine ite_only_snd (ite_only_snd (pair_only h) (pair_only ?_)) (pair_only (setObj_only h _ _ _ _))
  exact each_only (fun _ _ ht => setObj_only ht _ _ _ _) _ (setObj_only h _ _ _ _)

theorem commitAll_only (h : Only m a s) : ∀ x1, ∀ t, State.commitAll s x1 = .ok t → (hm : Sub 878940 m := by decide) → Only m a t := by
  intro x1
  induction x1 generalizing s with
  | nil => intro t e _; cases e; exact h
  | cons x l ih =>
    intro t e hm
    unfold State.commitAll at e
    dsimp only at e
    split at e
    · cases e
    · split at e
      · cases e
      · exact ih (commitOne_only h _ hm) _ e hm

theorem releaseLocks_only (h : Only m a s) : ∀ x1, (hm : Sub 4 m := by decide) → Only m a (State.releaseLocks s x1) := by
  intro x1 hm
  refine h.step hm ?_
  replace h : Only 4 s s := .refl s
  unfold State.releaseLocks
  try dsimp only
  repeat' (first | with_reducible assumption | decide | intro _ | with_reducible refine modSession_only ?_ _ _ ?_
                 | with_reducible apply ite_only | with_reducible apply foldl_only
                 | with_reducible apply foldl_only_snd | refine snd_only ‹_ = _› ?_ | refine fst_only ‹_ = _› ?_
                 | split)

theorem commitPoint_only (h : Only m a s) : ∀ x1, (hm : Sub 12 m := by decide) → Only m a (State.commitPoint s x1) := by
  intro x1 hm
  refine h.step hm ?_
  replace h : Only 12 s s := .refl s
  unfold State.commitPoint
  try dsimp only
  repeat' (first | with_reducible assumption | decide | intro _ | with_reducible refine asks_only ?_ _ _ ?_
                 | with_reducible refine releaseLocks_only ?_ _ ?_ | with_reducible refine setObj_only ?_ _ _ _ _ ?_
                 | with_reducible refine count_only ?_ _ _ ?_ | with_reducible apply ite_only
                 | with_reducible apply foldl_only | with_reducible apply foldl_only_snd | refine snd_only ‹_ = _› ?_
                 | refine fst_only ‹_ = _› ?_ | split)

theorem commitRefused_only (h : Only m a s) : ∀ x1 x2 x3 x4, (hm : Sub 4194316 m := by decide) → Only m a (State.commitRefused s x1 x2 x3 x4) := by
  intro x1 x2 x3 x4 hm
  refine h.step hm ?_
  replace h : Only 4194316 s s := .refl s
  unfold State.commitRefused
  try dsimp only
  repeat' (first | with_reducible assumption | decide | intro _ | with_reducible refine releaseLocks_only ?_ _ ?_
                 | with_reducible refine count_only ?_ _ _ ?_ | with_reducible refine logEvent_only ?_ _ _ _ _ _ _ ?_
                 | with_reducible refine answer_only ?_ _ _ _ _ ?_ | with_reducible apply ite_only
                 | with_reducible apply foldl_only | with_reducible apply foldl_only_snd | refine snd_only ‹_ = _› ?_
                 | refine fst_only ‹_ = _› ?_ | split)

theorem commitStaged_only (h : Only m a s) : ∀ x1, ∀ t, State.commitStaged s x1 = Except.ok t → (hm : Sub 878940 m := by decide) → Only m a t := by
  intro x1 t e hm
  refine h.step hm ?_
  replace h : Only 878940 s s := .refl s
  unfold State.commitStaged at e
  try dsimp only at e
  repeat' (split at e)
  all_goals first
    | cases e; done
    | (cases e
       repeat' (first | with_reducible assumption | decide | intro _ | refine commitAll_only ?_ _ _ ‹_ = Except.ok _› ?_
                      | with_reducible apply ite_only | with_reducible apply foldl_only
                      | with_reducible apply foldl_only_snd | refine snd_only ‹_ = _› ?_ | refine fst_only ‹_ = _› ?_
                      | split))

theorem modRslot_only (h : Only m a s) : ∀ x1 x2 x3, (hm : Sub 16384 m := by decide) → Only m a (State.modRslot s x1 x2 x3) := by
  intro x1 x2 x3 hm
  refine h.step hm ?_
  replace h : Only 16384 s s := .refl s
  unfold State.modRslot
  try dsimp only
  repeat' (first | with_reducible assumption | decide | intro _ | with_reducible refine modShot_only ?_ _ _ ?_
                 | with_reducible apply ite_only | with_reducible apply foldl_only
                 | with_reducible apply foldl_only_snd | refine snd_only ‹_ = _› ?_ | refine fst_only ‹_ = _› ?_
                 | split)

theorem completeChunk_only (h : Only m a s) : ∀ x1 x2 x3 x4, (hm : Sub 49152 m := by decide) → Only m a (State.completeChunk s x1 x2 x3 x4) := by
  intro x1 x2 x3 x4 hm
  refine h.step hm ?_
  replace h : Only 49152 s s := .refl s
  unfold State.completeChunk
  try dsimp only
  repeat' (first | with_reducible assumption | decide | intro _ | with_reducible refine askAbort_only ?_ _ _ _ ?_
                 | with_reducible refine modShot_only ?_ _ _ ?_ | with_reducible refine modRslot_only ?_ _ _ _ ?_
                 | with_reducible refine send_only ?_ _ ?_ | with_reducible apply ite_only
                 | with_reducible apply foldl_only | with_reducible apply foldl_only_snd | refine snd_only ‹_ = _› ?_
                 | refine fst_only ‹_ = _› ?_ | split)

theorem startRun_only (h : Only m a s) : ∀ x1 x2 x3, (hm : Sub 64 m := by decide) → Only m a (State.startRun s x1 x2 x3) := by
  intro x1 x2 x3 hm
  refine h.step hm ?_
  replace h : Only 64 s s := .refl s
  unfold State.startRun
  try dsimp only
  repeat' (first | with_reducible assumption | decide | intro _ | with_reducible refine modRegions_only ?_ _ ?_
                 | with_reducible apply ite_only | with_reducible apply foldl_only
                 | with_reducible apply foldl_only_snd | refine snd_only ‹_ = _› ?_ | refine fst_only ‹_ = _› ?_
                 | split)

theorem runWrite_only (h : Only m a s) : ∀ x1 x2 x3 x4 x5, (hm : Sub 682830 m := by decide) → Only m a (State.runWrite s x1 x2 x3 x4 x5) := by
  intro x1 x2 x3 x4 x5 hm
  refine h.step hm ?_
  replace h : Only 682830 s s := .refl s
  unfold State.runWrite
  try dsimp only
  repeat' (first | with_reducible assumption | decide | intro _ | with_reducible refine engWriteP_only ?_ _ _ _ ?_
                 | with_reducible apply each_only | with_reducible refine startRun_only ?_ _ _ _ ?_
                 | with_reducible apply ite_only | with_reducible apply foldl_only
                 | with_reducible apply foldl_only_snd | refine snd_only ‹_ = _› ?_ | refine fst_only ‹_ = _› ?_
                 | split)

theorem issue_only (h : Only m a s) : ∀ x1 x2, (hm : Sub 524288 m := by decide) → Only m a (State.issue s x1 x2) := by
  intro x1 x2 hm
  refine h.step hm ?_
  replace h : Only 524288 s s := .refl s
  unfold State.issue
  try dsimp only
  repeat' (first | with_reducible assumption | decide | intro _ | with_reducible refine charge_only ?_ _ _ ?_
                 | with_reducible refine modTest_only ?_ _ ?_ | with_reducible apply ite_only
                 | with_reducible apply foldl_only | with_reducible apply foldl_only_snd | refine snd_only ‹_ = _› ?_
                 | refine fst_only ‹_ = _› ?_ | split)

theorem partDone_only (h : Only m a s) : ∀ x1 x2 x3, (hm : Sub 16384 m := by decide) → Only m a (State.partDone s x1 x2 x3) := by
  intro x1 x2 x3 hm
  refine h.step hm ?_
  replace h : Only 16384 s s := .refl s
  unfold State.partDone
  try dsimp only
  repeat' (first | with_reducible assumption | decide | intro _ | with_reducible refine modShot_only ?_ _ _ ?_
                 | with_reducible apply ite_only | with_reducible apply foldl_only
                 | with_reducible apply foldl_only_snd | refine snd_only ‹_ = _› ?_ | refine fst_only ‹_ = _› ?_
                 | split)

theorem countVals_only (h : Only m a s) : ∀ x1 x2 x3, (hm : Sub 16384 m := by decide) → Only m a (State.countVals s x1 x2 x3) := by
  intro x1 x2 x3 hm
  refine h.step hm ?_
  replace h : Only 16384 s s := .refl s
  unfold State.countVals
  try dsimp only
  repeat' (first | with_reducible assumption | decide | intro _ | with_reducible refine modShot_only ?_ _ _ ?_
                 | with_reducible apply ite_only | with_reducible apply foldl_only
                 | with_reducible apply foldl_only_snd | refine snd_only ‹_ = _› ?_ | refine fst_only ‹_ = _› ?_
                 | split)

theorem convertPart_only (h : Only m a s) : ∀ x1, (hm : Sub 682830 m := by decide) → Only m a (State.convertPart s x1) := by
  intro x1 hm
  refine h.step hm ?_
  replace h : Only 682830 s s := .refl s
  unfold State.convertPart
  try dsimp only
  repeat' (first | with_reducible assumption | decide | intro _ | with_reducible refine engAsk_only ?_ _ _ _ ?_
                 | with_reducible refine runWrite_only ?_ _ _ _ _ _ ?_ | with_reducible refine issue_only ?_ _ _ ?_
                 | with_reducible refine engDone_only ?_ _ ?_ | with_reducible refine partDone_only ?_ _ _ _ ?_
                 | with_reducible refine bump_only ?_ _ _ _ _ ?_ | with_reducible refine countVals_only ?_ _ _ _ ?_
                 | with_reducible apply ite_only | with_reducible apply foldl_only
                 | with_reducible apply foldl_only_snd | refine snd_only ‹_ = _› ?_ | refine fst_only ‹_ = _› ?_
                 | split)

theorem copyPart_only (h : Only m a s) : ∀ x1, (hm : Sub 682830 m := by decide) → Only m a (State.copyPart s x1) := by
  intro x1 hm
  refine h.step hm ?_
  replace h : Only 682830 s s := .refl s
  unfold State.copyPart
  try dsimp only
  repeat' (first | with_reducible assumption | decide | intro _ | with_reducible refine engAsk_only ?_ _ _ _ ?_
                 | with_reducible refine runWrite_only ?_ _ _ _ _ _ ?_ | with_reducible refine issue_only ?_ _ _ ?_
                 | with_reducible refine engDone_only ?_ _ ?_ | with_reducible refine partDone_only ?_ _ _ _ ?_
                 | with_reducible refine bump_only ?_ _ _ _ _ ?_ | with_reducible apply ite_only
                 | with_reducible apply foldl_only | with_reducible apply foldl_only_snd | refine snd_only ‹_ = _› ?_
                 | refine fst_only ‹_ = _› ?_ | split)

theorem reportLanes_only (h : Only m a s) : ∀ x1 x2, (hm : Sub 4096 m := by decide) → Only m a (State.reportLanes s x1 x2) := by
  intro x1 x2 hm
  refine h.step hm ?_
  replace h : Only 4096 s s := .refl s
  unfold State.reportLanes
  try dsimp only
  repeat' (first | with_reducible assumption | decide | intro _ | with_reducible apply each_only
                 | with_reducible refine modPc_only ?_ _ _ ?_ | with_reducible apply ite_only
                 | with_reducible apply foldl_only | with_reducible apply foldl_only_snd | refine snd_only ‹_ = _› ?_
                 | refine fst_only ‹_ = _› ?_ | split)

theorem noteFinding_only (h : Only m a s) : ∀ x1 x2, (hm : Sub 2060 m := by decide) → Only m a (State.noteFinding s x1 x2) := by
  intro x1 x2 hm
  refine h.step hm ?_
  replace h : Only 2060 s s := .refl s
  unfold State.noteFinding
  try dsimp only
  repeat' (first | with_reducible assumption | decide | intro _ | with_reducible refine modStack_only ?_ _ _ ?_
                 | with_reducible refine rowFault_only ?_ _ _ _ _ _ ?_ | with_reducible apply ite_only
                 | with_reducible apply foldl_only | with_reducible apply foldl_only_snd | refine snd_only ‹_ = _› ?_
                 | refine fst_only ‹_ = _› ?_ | split)

theorem noteRewrite_only (h : Only m a s) : ∀ x1, (hm : Sub 2048 m := by decide) → Only m a (State.noteRewrite s x1) := by
  intro x1 hm
  refine h.step hm ?_
  replace h : Only 2048 s s := .refl s
  unfold State.noteRewrite
  try dsimp only
  repeat' (first | with_reducible assumption | decide | intro _ | with_reducible refine modStack_only ?_ _ _ ?_
                 | with_reducible apply ite_only | with_reducible apply foldl_only
                 | with_reducible apply foldl_only_snd | refine snd_only ‹_ = _› ?_ | refine fst_only ‹_ = _› ?_
                 | split)

theorem settleGood_only (h : Only m a s) : ∀ x1 x2 x3 x4, (hm : Sub 2627724 m := by decide) → Only m a (State.settleGood s x1 x2 x3 x4) := by
  intro x1 x2 x3 x4 hm
  refine h.step hm ?_
  replace h : Only 2627724 s s := .refl s
  unfold State.settleGood
  try dsimp only
  repeat' (first | with_reducible assumption | decide | intro _ | with_reducible refine tallyStack_only ?_ _ _ _ _ ?_
                 | with_reducible refine reportLanes_only ?_ _ _ ?_ | with_reducible refine bucketAdd_only ?_ _ ?_
                 | with_reducible refine bump_only ?_ _ _ _ _ ?_ | with_reducible refine noteFinding_only ?_ _ _ ?_
                 | with_reducible refine bake_only ?_ _ _ ?_ | with_reducible refine noteRewrite_only ?_ _ ?_
                 | with_reducible refine count_only ?_ _ _ ?_ | with_reducible refine dramPut_only ?_ _ _ ?_
                 | with_reducible refine modStack_only ?_ _ _ ?_ | with_reducible apply ite_only
                 | with_reducible apply foldl_only | with_reducible apply foldl_only_snd | refine snd_only ‹_ = _› ?_
                 | refine fst_only ‹_ = _› ?_ | split)

theorem parityEvent_only (h : Only m a s) : ∀ x1, (hm : Sub 4104 m := by decide) → Only m a (State.parityEvent s x1).1 := by
  intro x1 hm
  refine h.step hm ?_
  replace h : Only 4104 s s := .refl s
  unfold State.parityEvent
  try dsimp only
  repeat' (first | with_reducible assumption | decide | intro _ | with_reducible refine modPc_only ?_ _ _ ?_
                 | with_reducible refine stBump_only ?_ _ _ _ _ _ ?_ | with_reducible apply ite_only
                 | with_reducible apply foldl_only | with_reducible apply foldl_only_snd | refine snd_only ‹_ = _› ?_
                 | refine fst_only ‹_ = _› ?_ | split)

theorem holdUnit_only (h : Only m a s) : ∀ x1 x2, (hm : Sub 6400 m := by decide) → Only m a (State.holdUnit s x1 x2) := by
  intro x1 x2 hm
  refine h.step hm ?_
  replace h : Only 6400 s s := .refl s
  unfold State.holdUnit
  try dsimp only
  repeat' (first | with_reducible assumption | decide | intro _ | with_reducible refine takeOut_only ?_ _ _ ?_
                 | with_reducible refine modStack_only ?_ _ _ ?_ | with_reducible apply ite_only
                 | with_reducible apply foldl_only | with_reducible apply foldl_only_snd | refine snd_only ‹_ = _› ?_
                 | refine fst_only ‹_ = _› ?_ | split)

theorem loseUnit_only (h : Only m a s) : ∀ x1 x2 x3, (hm : Sub 2056 m := by decide) → Only m a (State.loseUnit s x1 x2 x3) := by
  intro x1 x2 x3 hm
  refine h.step hm ?_
  replace h : Only 2056 s s := .refl s
  unfold State.loseUnit
  try dsimp only
  repeat' (first | with_reducible assumption | decide | intro _
                 | with_reducible refine queueMigration_only ?_ _ _ _ _ ?_
                 | with_reducible refine setRank_only ?_ _ _ _ ?_ | with_reducible apply ite_only
                 | with_reducible apply foldl_only | with_reducible apply foldl_only_snd | refine snd_only ‹_ = _› ?_
                 | refine fst_only ‹_ = _› ?_ | split)

theorem unrecoverable_only (h : Only m a s) : ∀ x1 x2, (hm : Sub 6408 m := by decide) → Only m a (State.unrecoverable s x1 x2) := by
  intro x1 x2 hm
  refine h.step hm ?_
  replace h : Only 6408 s s := .refl s
  unfold State.unrecoverable
  try dsimp only
  repeat' (first | with_reducible assumption | decide | intro _ | with_reducible refine stBump_only ?_ _ _ _ _ _ ?_
                 | with_reducible refine quarantine_only ?_ _ ?_ | with_reducible refine holdUnit_only ?_ _ _ ?_
                 | with_reducible refine loseUnit_only ?_ _ _ _ ?_ | with_reducible apply ite_only
                 | with_reducible apply foldl_only | with_reducible apply foldl_only_snd | refine snd_only ‹_ = _› ?_
                 | refine fst_only ‹_ = _› ?_ | split)

theorem settleSecond_only (h : Only m a s) : ∀ x1 x2 x3 x4 x5, (hm : Sub 2627980 m := by decide) → Only m a (State.settleSecond s x1 x2 x3 x4 x5).2 := by
  intro x1 x2 x3 x4 x5 hm
  refine h.step hm ?_
  replace h : Only 2627980 s s := .refl s
  unfold State.settleSecond
  try dsimp only
  repeat' (first | with_reducible assumption | decide | intro _ | with_reducible refine bump_only ?_ _ _ _ _ ?_
                 | with_reducible refine settleGood_only ?_ _ _ _ _ ?_ | with_reducible refine bucketAdd_only ?_ _ ?_
                 | with_reducible refine parityEvent_only ?_ _ ?_
                 | with_reducible refine unrecoverable_only ?_ _ _ ?_ | with_reducible apply ite_only
                 | with_reducible apply foldl_only | with_reducible apply foldl_only_snd | refine snd_only ‹_ = _› ?_
                 | refine fst_only ‹_ = _› ?_ | split)

theorem lookAt_only (h : Only m a s) : ∀ x1 x2 x3 x4 x5, (hm : Sub 2627980 m := by decide) → Only m a (State.lookAt s x1 x2 x3 x4 x5).2 := by
  intro x1 x2 x3 x4 x5 hm
  refine h.step hm ?_
  replace h : Only 2627980 s s := .refl s
  unfold State.lookAt
  try dsimp only
  repeat' (first | with_reducible assumption | decide | intro _ | with_reducible refine settleGood_only ?_ _ _ _ _ ?_
                 | with_reducible refine settleSecond_only ?_ _ _ _ _ _ ?_ | with_reducible apply ite_only
                 | with_reducible apply foldl_only | with_reducible apply foldl_only_snd | refine snd_only ‹_ = _› ?_
                 | refine fst_only ‹_ = _› ?_ | split)

theorem copyRead_only (h : Only m a s) : ∀ x1 x2 x3 x4, (hm : Sub 2627980 m := by decide) → Only m a (State.copyRead s x1 x2 x3 x4).2.2 := by
  intro x1 x2 x3 x4 hm
  refine h.step hm ?_
  replace h : Only 2627980 s s := .refl s
  unfold State.copyRead
  try dsimp only
  repeat' (first | with_reducible assumption | decide | intro _ | with_reducible refine lookAt_only ?_ _ _ _ _ _ ?_
                 | with_reducible refine bake_only ?_ _ _ ?_ | with_reducible apply ite_only
                 | with_reducible apply foldl_only | with_reducible apply foldl_only_snd | refine snd_only ‹_ = _› ?_
                 | refine fst_only ‹_ = _› ?_ | split)

theorem copySector_only (h : Only m a s) : ∀ x1 x2 x3 x4, (hm : Sub 2627980 m := by decide) → Only m a (State.copySector s x1 x2 x3 x4) := by
  intro x1 x2 x3 x4 hm
  refine h.step hm ?_
  replace h : Only 2627980 s s := .refl s
  unfold State.copySector
  try dsimp only
  repeat' (first | with_reducible assumption | decide | intro _ | with_reducible refine copyRead_only ?_ _ _ _ _ ?_
                 | with_reducible refine dramPut_only ?_ _ _ ?_ | with_reducible refine retirePlace_only ?_ _ _ ?_
                 | with_reducible refine count_only ?_ _ _ ?_ | with_reducible refine integrityEvent_only ?_ _ _ _ ?_
                 | with_reducible apply ite_only | with_reducible apply foldl_only
                 | with_reducible apply foldl_only_snd | refine snd_only ‹_ = _› ?_ | refine fst_only ‹_ = _› ?_
                 | split)

theorem settleBad_only (h : Only m a s) : ∀ x1 x2 x3 x4 x5 x6, (hm : Sub 526476 m := by decide) → Only m a (State.settleBad s x1 x2 x3 x4 x5 x6) := by
  intro x1 x2 x3 x4 x5 x6 hm
  refine h.step hm ?_
  replace h : Only 526476 s s := .refl s
  unfold State.settleBad
  try dsimp only
  repeat' (first | with_reducible assumption | decide | intro _ | with_reducible refine tallyStack_only ?_ _ _ _ _ ?_
                 | with_reducible refine dramPut_only ?_ _ _ ?_
                 | with_reducible refine integrityEvent_only ?_ _ _ _ ?_
                 | with_reducible refine loseUnit_only ?_ _ _ _ ?_ | with_reducible refine retirePlace_only ?_ _ _ ?_
                 | with_reducible apply ite_only | with_reducible apply foldl_only
                 | with_reducible apply foldl_only_snd | refine snd_only ‹_ = _› ?_ | refine fst_only ‹_ = _› ?_
                 | split)

theorem copySpliced_only (h : Only m a s) : ∀ x1 x2 x3 x4, (hm : Sub 2627980 m := by decide) → Only m a (State.copySpliced s x1 x2 x3 x4) := by
  intro x1 x2 x3 x4 hm
  refine h.step hm ?_
  replace h : Only 2627980 s s := .refl s
  unfold State.copySpliced
  try dsimp only
  repeat' (first | with_reducible assumption | decide | intro _ | with_reducible refine copyRead_only ?_ _ _ _ _ ?_
                 | with_reducible refine dramPut_only ?_ _ _ ?_
                 | with_reducible refine settleBad_only ?_ _ _ _ _ _ _ ?_ | with_reducible apply ite_only
                 | with_reducible apply foldl_only | with_reducible apply foldl_only_snd | refine snd_only ‹_ = _› ?_
                 | refine fst_only ‹_ = _› ?_ | split)

theorem countSlot_only (h : Only m a s) : ∀ x1, (hm : Sub 4104 m := by decide) → Only m a (State.countSlot s x1) := by
  intro x1 hm
  refine h.step hm ?_
  replace h : Only 4104 s s := .refl s
  unfold State.countSlot
  try dsimp only
  repeat' (first | with_reducible assumption | decide | intro _ | with_reducible refine modPc_only ?_ _ _ ?_
                 | with_reducible refine setObj_only ?_ _ _ _ _ ?_ | with_reducible apply ite_only
                 | with_reducible apply foldl_only | with_reducible apply foldl_only_snd | refine snd_only ‹_ = _› ?_
                 | refine fst_only ‹_ = _› ?_ | split)

theorem cycleCounts_only (h : Only m a s) : ∀ x1, (hm : Sub 524296 m := by decide) → Only m a (State.cycleCounts s x1) := by
  intro x1 hm
  refine h.step hm ?_
  replace h : Only 524296 s s := .refl s
  unfold State.cycleCounts
  try dsimp only
  repeat' (first | with_reducible assumption | decide | intro _ | with_reducible apply each_only
                 | with_reducible refine tallyStack_only ?_ _ _ _ _ ?_ | with_reducible apply ite_only
                 | with_reducible apply foldl_only | with_reducible apply foldl_only_snd | refine snd_only ‹_ = _› ?_
                 | refine fst_only ‹_ = _› ?_ | split)

theorem position_only (h : Only m a s) : ∀ x1 x2 x3 x4 x5 x6, (hm : Sub 4718600 m := by decide) → Only m a (State.position s x1 x2 x3 x4 x5 x6) := by
  intro x1 x2 x3 x4 x5 x6 hm
  refine h.step hm ?_
  replace h : Only 4718600 s s := .refl s
  unfold State.position
  try dsimp only
  repeat' (first | with_reducible assumption | decide | intro _ | with_reducible refine emit_only ?_ _ ?_
                 | with_reducible refine tallyBlock_only ?_ _ _ _ ?_ | with_reducible refine count_only ?_ _ _ ?_
                 | with_reducible apply ite_only | with_reducible apply foldl_only
                 | with_reducible apply foldl_only_snd | refine snd_only ‹_ = _› ?_ | refine fst_only ‹_ = _› ?_
                 | split)

theorem deliver_only (h : Only m a s) : ∀ x1 x2, (hm : Sub 4718856 m := by decide) → Only m a (State.deliver s x1 x2).2 := by
  intro x1 x2 hm
  have key : ∀ (n : Nat) (t : State) (r : Req), Only 4718856 s t → Only 4718856 s (t.deliver r n).2 := by
    intro n
    induction n with
    | zero => intro t r h; exact h
    | succ n ih =>
      intro t r h
      unfold State.deliver
      split
      · exact upd256_only (position_only h _ _ _ _ _ _) _
      · split
        · exact h
        · dsimp only
          split
          · exact upd256_only (position_only h _ _ _ _ _ _) _
          · exact ih _ _ (modReq_only (position_only h _ _ _ _ _ _) _ _)
  exact h.step hm (key _ _ _ (.refl s))

theorem directSet_only (h : Only m a s) : ∀ x1 x2 x3 x4, (hm : Sub 2072 m := by decide) → Only m a (State.directSet s x1 x2 x3 x4) := by
  intro x1 x2 x3 x4 hm
  refine h.step hm ?_
  replace h : Only 2072 s s := .refl s
  unfold State.directSet
  try dsimp only
  repeat' (first | with_reducible assumption | decide | intro _ | with_reducible refine setObj_only ?_ _ _ _ _ ?_
                 | with_reducible refine modStack_only ?_ _ _ ?_ | with_reducible refine setNow_only ?_ _ _ _ _ ?_
                 | with_reducible apply ite_only | with_reducible apply foldl_only
                 | with_reducible apply foldl_only_snd | refine snd_only ‹_ = _› ?_ | refine fst_only ‹_ = _› ?_
                 | split)

theorem dropMessage_only (h : Only m a s) : ∀ x1, (hm : Sub 4 m := by decide) → Only m a (State.dropMessage s x1) := by
  intro x1 hm
  refine h.step hm ?_
  replace h : Only 4 s s := .refl s
  unfold State.dropMessage
  try dsimp only
  repeat' (first | with_reducible assumption | decide | intro _ | with_reducible refine modMgmt_only ?_ _ ?_
                 | with_reducible apply ite_only | with_reducible apply foldl_only
                 | with_reducible apply foldl_only_snd | refine snd_only ‹_ = _› ?_ | refine fst_only ‹_ = _› ?_
                 | split)

theorem gate_drop_only {rq : Rq} {t : State} (e : s.gate rq = .drop t) (h : Only m a s) (hm : Sub 12 m := by decide) : Only m a t := by
  refine h.step hm ?_
  have h : Only 12 s s := .refl s
  unfold State.gate at e
  dsimp only at e
  repeat' (split at e)
  all_goals cases e
  all_goals first | with_reducible assumption | exact dropMessage_only h _ | exact count_only (dropMessage_only h _) _ _
                  | exact modSession_only h _ _

theorem gate_noSession_only {rq : Rq} {t : State} (e : s.gate rq = .noSession t) (h : Only m a s) (hm : Sub 12 m := by decide) : Only m a t := by
  refine h.step hm ?_
  have h : Only 12 s s := .refl s
  unfold State.gate at e
  dsimp only at e
  repeat' (split at e)
  all_goals cases e
  all_goals first | with_reducible assumption | exact dropMessage_only h _ | exact count_only (dropMessage_only h _) _ _
                  | exact modSession_only h _ _

theorem gate_go_only {rq : Rq} {n : Nat} {t : State} (e : s.gate rq = .go n t) (h : Only m a s) (hm : Sub 12 m := by decide) : Only m a t := by
  refine h.step hm ?_
  have h : Only 12 s s := .refl s
  unfold State.gate at e
  dsimp only at e
  repeat' (split at e)
  all_goals cases e
  all_goals first | with_reducible assumption | exact dropMessage_only h _ | exact count_only (dropMessage_only h _) _ _
                  | exact modSession_only h _ _

theorem refuse_only (h : Only m a s) : ∀ x1 x2 x3 x4 x5 x6, (hm : Sub 4194316 m := by decide) → Only m a (State.refuse s x1 x2 x3 x4 x5 x6) := by
  intro x1 x2 x3 x4 x5 x6 hm
  refine h.step hm ?_
  replace h : Only 4194316 s s := .refl s
  unfold State.refuse
  try dsimp only
  repeat' (first | with_reducible assumption | decide | intro _ | with_reducible refine answer_only ?_ _ _ _ _ ?_
                 | with_reducible refine logEvent_only ?_ _ _ _ _ _ _ ?_ | with_reducible refine count_only ?_ _ _ ?_
                 | with_reducible apply ite_only | with_reducible apply foldl_only
                 | with_reducible apply foldl_only_snd | refine snd_only ‹_ = _› ?_ | refine fst_only ‹_ = _› ?_
                 | split)

theorem directWrite_only {rq : Rq} {ix sub el roles : Nat} {range st resource : State → Nat → Nat} {f : State → Nat → State}
    (hf : ∀ t n, Only m a t → Only m a (f t n)) (h : Only m a s)
    (hm : Sub 4194316 m := by decide) : Only m a (s.directWrite rq ix sub el roles range st resource f) := by
  unfold State.directWrite
  split
  · exact gate_drop_only ‹_› h (.trans (by decide) hm)
  · exact refuse_only (gate_noSession_only ‹_› h (.trans (by decide) hm)) _ _ _ _ _ _ (.trans (by decide) hm)
  · have g := gate_go_only ‹_› h (.trans (by decide) hm)
    repeat' (split)
    all_goals first
      | exact refuse_only g _ _ _ _ _ _ (.trans (by decide) hm)
      | exact answer_only (hf _ _ g) _ _ _ _ (.trans (by decide) hm)

theorem oweCredits_only (h : Only m a s) : ∀ x1 x2, (hm : Sub 32768 m := by decide) → Only m a (State.oweCredits s x1 x2) := by
  intro x1 x2 hm
  refine h.step hm ?_
  replace h : Only 32768 s s := .refl s
  unfold State.oweCredits
  try dsimp only
  repeat' (first | with_reducible assumption | decide | intro _ | with_reducible refine modEntry_only ?_ _ ?_
                 | with_reducible apply ite_only | with_reducible apply foldl_only
                 | with_reducible apply foldl_only_snd | refine snd_only ‹_ = _› ?_ | refine fst_only ‹_ = _› ?_
                 | split)

theorem dropContribution_only (h : Only m a s) : ∀ x1 x2 x3, (hm : Sub 557064 m := by decide) → Only m a (State.dropContribution s x1 x2 x3) := by
  intro x1 x2 x3 hm
  refine h.step hm ?_
  replace h : Only 557064 s s := .refl s
  unfold State.dropContribution
  try dsimp only
  repeat' (first | with_reducible assumption | decide | intro _ | with_reducible refine tallyBlock_only ?_ _ _ _ ?_
                 | with_reducible refine count_only ?_ _ _ ?_ | with_reducible refine oweCredits_only ?_ _ _ ?_
                 | with_reducible apply ite_only | with_reducible apply foldl_only
                 | with_reducible apply foldl_only_snd | refine snd_only ‹_ = _› ?_ | refine fst_only ‹_ = _› ?_
                 | split)

theorem dropEntry_only (h : Only m a s) : ∀ x1 x2 x3, (hm : Sub 4096 m := by decide) → Only m a (State.dropEntry s x1 x2 x3) := by
  intro x1 x2 x3 hm
  refine h.step hm ?_
  replace h : Only 4096 s s := .refl s
  unfold State.dropEntry
  try dsimp only
  repeat' (first | with_reducible assumption | decide | intro _ | with_reducible refine modPc_only ?_ _ _ ?_
                 | with_reducible apply ite_only | with_reducible apply foldl_only
                 | with_reducible apply foldl_only_snd | refine snd_only ‹_ = _› ?_ | refine fst_only ‹_ = _› ?_
                 | split)

theorem dropLine_only (h : Only m a s) : ∀ x1, (hm : Sub 8192 m := by decide) → Only m a (State.dropLine s x1) := by
  intro x1 hm
  refine h.step hm ?_
  replace h : Only 8192 s s := .refl s
  unfold State.dropLine
  try dsimp only
  repeat' (first | with_reducible assumption | decide | intro _ | with_reducible refine modLoft_only ?_ _ ?_
                 | with_reducible apply ite_only | with_reducible apply foldl_only
                 | with_reducible apply foldl_only_snd | refine snd_only ‹_ = _› ?_ | refine fst_only ‹_ = _› ?_
                 | split)

theorem dropLoft_only (h : Only m a s) : ∀ x1, (hm : Sub 8192 m := by decide) → Only m a (State.dropLoft s x1) := by
  intro x1 hm
  refine h.step hm ?_
  replace h : Only 8192 s s := .refl s
  unfold State.dropLoft
  try dsimp only
  repeat' (first | with_reducible assumption | decide | intro _ | with_reducible refine modLoft_only ?_ _ ?_
                 | with_reducible apply ite_only | with_reducible apply foldl_only
                 | with_reducible apply foldl_only_snd | refine snd_only ‹_ = _› ?_ | refine fst_only ‹_ = _› ?_
                 | split)

theorem dropRewrites_only (h : Only m a s) : ∀ x1, (hm : Sub 2048 m := by decide) → Only m a (State.dropRewrites s x1) := by
  intro x1 hm
  refine h.step hm ?_
  replace h : Only 2048 s s := .refl s
  unfold State.dropRewrites
  try dsimp only
  repeat' (first | with_reducible assumption | decide | intro _ | with_reducible refine modStack_only ?_ _ _ ?_
                 | with_reducible apply ite_only | with_reducible apply foldl_only
                 | with_reducible apply foldl_only_snd | refine snd_only ‹_ = _› ?_ | refine fst_only ‹_ = _› ?_
                 | split)

theorem endEvacuation_only (h : Only m a s) : ∀ x1 x2, (hm : Sub 2056 m := by decide) → Only m a (State.endEvacuation s x1 x2) := by
  intro x1 x2 hm
  refine h.step hm ?_
  replace h : Only 2056 s s := .refl s
  unfold State.endEvacuation
  try dsimp only
  repeat' (first | with_reducible assumption | decide | intro _ | with_reducible refine modStack_only ?_ _ _ ?_
                 | with_reducible refine fencePc_only ?_ _ _ ?_ | with_reducible apply ite_only
                 | with_reducible apply foldl_only | with_reducible apply foldl_only_snd | refine snd_only ‹_ = _› ?_
                 | refine fst_only ‹_ = _› ?_ | split)

theorem setWritten_only (h : Only m a s) : ∀ x1 x2, (hm : Sub 64 m := by decide) → Only m a (State.setWritten s x1 x2) := by
  intro x1 x2 hm
  refine h.step hm ?_
  replace h : Only 64 s s := .refl s
  unfold State.setWritten
  try dsimp only
  repeat' (first | with_reducible assumption | decide | intro _ | with_reducible refine modRegions_only ?_ _ ?_
                 | with_reducible apply ite_only | with_reducible apply foldl_only
                 | with_reducible apply foldl_only_snd | refine snd_only ‹_ = _› ?_ | refine fst_only ‹_ = _› ?_
                 | split)

theorem fillChunk_only (h : Only m a s) : ∀ x1 x2, (hm : Sub 8320 m := by decide) → Only m a (State.fillChunk s x1 x2) := by
  intro x1 x2 hm
  refine h.step hm ?_
  replace h : Only 8320 s s := .refl s
  unfold State.fillChunk
  try dsimp only
  repeat' (first | with_reducible assumption | decide | intro _ | with_reducible refine modLoft_only ?_ _ ?_
                 | with_reducible apply each_only | with_reducible refine dramPut_only ?_ _ _ ?_
                 | with_reducible apply ite_only | with_reducible apply foldl_only
                 | with_reducible apply foldl_only_snd | refine snd_only ‹_ = _› ?_ | refine fst_only ‹_ = _› ?_
                 | split)

theorem endFill_only (h : Only m a s) : ∀ x1, (hm : Sub 8384 m := by decide) → Only m a (State.endFill s x1) := by
  intro x1 hm
  refine h.step hm ?_
  replace h : Only 8384 s s := .refl s
  unfold State.endFill
  try dsimp only
  repeat' (first | with_reducible assumption | decide | intro _ | with_reducible refine setWritten_only ?_ _ _ ?_
                 | with_reducible refine fillChunk_only ?_ _ _ ?_ | with_reducible refine modRegions_only ?_ _ ?_
                 | with_reducible apply ite_only | with_reducible apply foldl_only
                 | with_reducible apply foldl_only_snd | refine snd_only ‹_ = _› ?_ | refine fst_only ‹_ = _› ?_
                 | split)

theorem endSession_only (h : Only m a s) : ∀ x1, (hm : Sub 4 m := by decide) → Only m a (State.endSession s x1) := by
  intro x1 hm
  refine h.step hm ?_
  replace h : Only 4 s s := .refl s
  unfold State.endSession
  try dsimp only
  repeat' (first | with_reducible assumption | decide | intro _ | with_reducible refine modSession_only ?_ _ _ ?_
                 | with_reducible apply ite_only | with_reducible apply foldl_only
                 | with_reducible apply foldl_only_snd | refine snd_only ‹_ = _› ?_ | refine fst_only ‹_ = _› ?_
                 | split)

theorem endI3c_only (h : Only m a s) : (hm : Sub 4 m := by decide) → Only m a (State.endI3c s) := by
  intro hm
  refine h.step hm ?_
  replace h : Only 4 s s := .refl s
  unfold State.endI3c
  try dsimp only
  repeat' (first | with_reducible assumption | decide | intro _ | with_reducible apply each_only
                 | with_reducible refine endSession_only ?_ _ ?_ | with_reducible apply ite_only
                 | with_reducible apply foldl_only | with_reducible apply foldl_only_snd | refine snd_only ‹_ = _› ?_
                 | refine fst_only ‹_ = _› ?_ | split)

theorem endRebuild_only (h : Only m a s) : ∀ x1, (hm : Sub 526400 m := by decide) → Only m a (State.endRebuild s x1) := by
  intro x1 hm
  refine h.step hm ?_
  replace h : Only 526400 s s := .refl s
  unfold State.endRebuild
  try dsimp only
  repeat' (first | with_reducible assumption | decide | intro _ | with_reducible refine modTest_only ?_ _ ?_
                 | with_reducible refine modSlot_only ?_ _ _ ?_ | with_reducible refine startSweep_only ?_ _ ?_
                 | with_reducible apply ite_only | with_reducible apply foldl_only
                 | with_reducible apply foldl_only_snd | refine snd_only ‹_ = _› ?_ | refine fst_only ‹_ = _› ?_
                 | split)

theorem engPast_only (h : Only m a s) : ∀ x1 x2 x3, (hm : Sub 256 m := by decide) → Only m a (State.engPast s x1 x2 x3) := by
  intro x1 x2 x3 hm
  refine h.step hm ?_
  replace h : Only 256 s s := .refl s
  unfold State.engPast
  try dsimp only
  repeat' (first | with_reducible assumption | decide | intro _ | with_reducible apply ite_only
                 | with_reducible apply foldl_only | with_reducible apply foldl_only_snd | refine snd_only ‹_ = _› ?_
                 | refine fst_only ‹_ = _› ?_ | fail_if_no_progress (with_reducible refine upd256_only ?_ _ ?_)
                 | split)

theorem openSector_only (h : Only m a s) : ∀ x1 x2 x3 x4 x5, (hm : Sub 2097164 m := by decide) → Only m a (State.openSector s x1 x2 x3 x4 x5).2 := by
  intro x1 x2 x3 x4 x5 hm
  refine h.step hm ?_
  replace h : Only 2097164 s s := .refl s
  unfold State.openSector
  try dsimp only
  repeat' (first | with_reducible assumption | decide | intro _
                 | with_reducible refine integrityEvent_only ?_ _ _ _ ?_ | with_reducible refine count_only ?_ _ _ ?_
                 | with_reducible refine damage_only ?_ _ _ ?_ | with_reducible apply ite_only
                 | with_reducible apply foldl_only | with_reducible apply foldl_only_snd | refine snd_only ‹_ = _› ?_
                 | refine fst_only ‹_ = _› ?_ | split)

theorem engineRead_only (h : Only m a s) : ∀ x1 x2 x3 x4 x5 x6, (hm : Sub 2627980 m := by decide) → Only m a (State.engineRead s x1 x2 x3 x4 x5 x6).2 := by
  intro x1 x2 x3 x4 x5 x6 hm
  refine h.step hm ?_
  replace h : Only 2627980 s s := .refl s
  unfold State.engineRead
  try dsimp only
  repeat' (first | with_reducible assumption | decide | intro _ | with_reducible refine lookAt_only ?_ _ _ _ _ _ ?_
                 | with_reducible refine openSector_only ?_ _ _ _ _ _ ?_
                 | with_reducible refine settleBad_only ?_ _ _ _ _ _ _ ?_ | with_reducible apply ite_only
                 | with_reducible apply foldl_only | with_reducible apply foldl_only_snd | refine snd_only ‹_ = _› ?_
                 | refine fst_only ‹_ = _› ?_ | split)

theorem enlist_only (h : Only m a s) : ∀ x1 x2 x3, (hm : Sub 16384 m := by decide) → Only m a (State.enlist s x1 x2 x3) := by
  intro x1 x2 x3 hm
  refine h.step hm ?_
  replace h : Only 16384 s s := .refl s
  unfold State.enlist
  try dsimp only
  repeat' (first | with_reducible assumption | decide | intro _ | with_reducible refine modCtx_only ?_ _ _ ?_
                 | with_reducible refine stampHead_only ?_ _ ?_ | with_reducible refine setList_only ?_ _ _ ?_
                 | with_reducible apply ite_only | with_reducible apply foldl_only
                 | with_reducible apply foldl_only_snd | refine snd_only ‹_ = _› ?_ | refine fst_only ‹_ = _› ?_
                 | split)

theorem giveAnswer_only (h : Only m a s) : ∀ x1 x2 x3 x4, (hm : Sub 135424 m := by decide) → Only m a (State.giveAnswer s x1 x2 x3 x4) := by
  intro x1 x2 x3 x4 hm
  refine h.step hm ?_
  replace h : Only 135424 s s := .refl s
  unfold State.giveAnswer
  try dsimp only
  repeat' (first | with_reducible assumption | decide | intro _ | with_reducible refine modPc_only ?_ _ _ ?_
                 | with_reducible refine addAnswer_only ?_ _ _ _ ?_ | with_reducible apply ite_only
                 | with_reducible apply foldl_only | with_reducible apply foldl_only_snd | refine snd_only ‹_ = _› ?_
                 | refine fst_only ‹_ = _› ?_ | split)

theorem modEntry'_only (h : Only m a s) : ∀ x1 x2 x3 x4, (hm : Sub 4096 m := by decide) → Only m a (State.modEntry' s x1 x2 x3 x4) := by
  intro x1 x2 x3 x4 hm
  refine h.step hm ?_
  replace h : Only 4096 s s := .refl s
  unfold State.modEntry'
  try dsimp only
  repeat' (first | with_reducible assumption | decide | intro _ | with_reducible refine modPc_only ?_ _ _ ?_
                 | with_reducible apply ite_only | with_reducible apply foldl_only
                 | with_reducible apply foldl_only_snd | refine snd_only ‹_ = _› ?_ | refine fst_only ‹_ = _› ?_
                 | split)

theorem entryBad_only (h : Only m a s) : ∀ x1 x2 x3 x4, (hm : Sub 661900 m := by decide) → Only m a (State.entryBad s x1 x2 x3 x4) := by
  intro x1 x2 x3 x4 hm
  refine h.step hm ?_
  replace h : Only 661900 s s := .refl s
  unfold State.entryBad
  try dsimp only
  repeat' (first | with_reducible assumption | decide | intro _
                 | with_reducible refine settleBad_only ?_ _ _ _ _ _ _ ?_
                 | with_reducible refine giveAnswer_only ?_ _ _ _ _ ?_
                 | with_reducible refine dropEntry_only ?_ _ _ _ ?_
                 | with_reducible refine modEntry'_only ?_ _ _ _ _ ?_ | with_reducible apply ite_only
                 | with_reducible apply foldl_only | with_reducible apply foldl_only_snd | refine snd_only ‹_ = _› ?_
                 | refine fst_only ‹_ = _› ?_ | split)

theorem entryGood_only (h : Only m a s) : ∀ x1 x2 x3 x4, (hm : Sub 2232716 m := by decide) → Only m a (State.entryGood s x1 x2 x3 x4) := by
  intro x1 x2 x3 x4 hm
  refine h.step hm ?_
  replace h : Only 2232716 s s := .refl s
  unfold State.entryGood
  try dsimp only
  repeat' (first | with_reducible assumption | decide | intro _
                 | with_reducible refine openSector_only ?_ _ _ _ _ _ ?_
                 | with_reducible refine giveAnswer_only ?_ _ _ _ _ ?_
                 | with_reducible refine dropEntry_only ?_ _ _ _ ?_ | with_reducible refine bake_only ?_ _ _ ?_
                 | with_reducible refine modEntry'_only ?_ _ _ _ _ ?_ | with_reducible refine dramPut_only ?_ _ _ ?_
                 | with_reducible apply ite_only | with_reducible apply foldl_only
                 | with_reducible apply foldl_only_snd | refine snd_only ‹_ = _› ?_ | refine fst_only ‹_ = _› ?_
                 | split)

theorem expireHold_only (h : Only m a s) : ∀ x1, (hm : Sub 65544 m := by decide) → Only m a (State.expireHold s x1) := by
  intro x1 hm
  refine h.step hm ?_
  replace h : Only 65544 s s := .refl s
  unfold State.expireHold
  try dsimp only
  repeat' (first | with_reducible assumption | decide | intro _ | with_reducible refine modEgress_only ?_ _ _ ?_
                 | with_reducible refine dropQueue_only ?_ _ _ ?_ | with_reducible apply ite_only
                 | with_reducible apply foldl_only | with_reducible apply foldl_only_snd | refine snd_only ‹_ = _› ?_
                 | refine fst_only ‹_ = _› ?_ | split)

theorem fetchRefused_only (h : Only m a s) : ∀ x1 x2 x3, (hm : Sub 147712 m := by decide) → Only m a (State.fetchRefused s x1 x2 x3) := by
  intro x1 x2 x3 hm
  refine h.step hm ?_
  replace h : Only 147712 s s := .refl s
  unfold State.fetchRefused
  try dsimp only
  repeat' (first | with_reducible assumption | decide | intro _ | with_reducible refine reach_only ?_ _ ?_
                 | with_reducible refine modReq_only ?_ _ _ ?_ | with_reducible apply ite_only
                 | with_reducible apply foldl_only | with_reducible apply foldl_only_snd | refine snd_only ‹_ = _› ?_
                 | refine fst_only ‹_ = _› ?_ | split)

theorem releaseChunk_only (h : Only m a s) : ∀ x1, (hm : Sub 682248 m := by decide) → Only m a (State.releaseChunk s x1) := by
  intro x1 hm
  refine h.step hm ?_
  replace h : Only 682248 s s := .refl s
  unfold State.releaseChunk
  try dsimp only
  repeat' (first | with_reducible assumption | decide | intro _ | with_reducible apply each_only
                 | with_reducible refine route_only ?_ _ ?_ | with_reducible apply ite_only
                 | with_reducible apply foldl_only | with_reducible apply foldl_only_snd | refine snd_only ‹_ = _› ?_
                 | refine fst_only ‹_ = _› ?_ | split)

theorem fillDone_only (h : Only m a s) : ∀ x1, (hm : Sub 682440 m := by decide) → Only m a (State.fillDone s x1) := by
  intro x1 hm
  refine h.step hm ?_
  replace h : Only 682440 s s := .refl s
  unfold State.fillDone
  try dsimp only
  repeat' (first | with_reducible assumption | decide | intro _ | with_reducible refine releaseChunk_only ?_ _ ?_
                 | with_reducible refine endFill_only ?_ _ ?_ | with_reducible apply ite_only
                 | with_reducible apply foldl_only | with_reducible apply foldl_only_snd | refine snd_only ‹_ = _› ?_
                 | refine fst_only ‹_ = _› ?_ | split)

theorem fillShareOn_only (h : Only m a s) : ∀ x1 x2, (hm : Sub 1579080 m := by decide) → Only m a (State.fillShareOn s x1 x2) := by
  intro x1 x2 hm
  refine h.step hm ?_
  replace h : Only 1579080 s s := .refl s
  unfold State.fillShareOn
  try dsimp only
  repeat' (first | with_reducible assumption | decide | intro _ | with_reducible refine modRegions_only ?_ _ ?_
                 | with_reducible refine ownWork_only ?_ _ _ _ _ _ ?_ | with_reducible apply ite_only
                 | with_reducible apply foldl_only | with_reducible apply foldl_only_snd | refine snd_only ‹_ = _› ?_
                 | refine fst_only ‹_ = _› ?_ | split)

theorem shotOut_only (h : Only m a s) : ∀ x1 x2 x3 x4 x5, (hm : Sub 682830 m := by decide) → Only m a (State.shotOut s x1 x2 x3 x4 x5) := by
  intro x1 x2 x3 x4 x5 hm
  refine h.step hm ?_
  replace h : Only 682830 s s := .refl s
  unfold State.shotOut
  try dsimp only
  repeat' (first | with_reducible assumption | decide | intro _ | with_reducible refine modShot_only ?_ _ _ ?_
                 | with_reducible refine engWrite_only ?_ _ _ _ ?_ | with_reducible apply ite_only
                 | with_reducible apply foldl_only | with_reducible apply foldl_only_snd | refine snd_only ‹_ = _› ?_
                 | refine fst_only ‹_ = _› ?_ | split)

theorem filterEnd_only (h : Only m a s) : ∀ x1 x2, (hm : Sub 682830 m := by decide) → Only m a (State.filterEnd s x1 x2) := by
  intro x1 x2 hm
  refine h.step hm ?_
  replace h : Only 682830 s s := .refl s
  unfold State.filterEnd
  try dsimp only
  repeat' (first | with_reducible assumption | decide | intro _ | with_reducible refine shotOut_only ?_ _ _ _ _ _ ?_
                 | with_reducible apply ite_only | with_reducible apply foldl_only
                 | with_reducible apply foldl_only_snd | refine snd_only ‹_ = _› ?_ | refine fst_only ‹_ = _› ?_
                 | split)

theorem shotPoison_only (h : Only m a s) : ∀ x1 x2 x3 x4 x5, (hm : Sub 682830 m := by decide) → Only m a (State.shotPoison s x1 x2 x3 x4 x5) := by
  intro x1 x2 x3 x4 x5 hm
  refine h.step hm ?_
  replace h : Only 682830 s s := .refl s
  unfold State.shotPoison
  try dsimp only
  repeat' (first | with_reducible assumption | decide | intro _ | with_reducible refine modShot_only ?_ _ _ ?_
                 | with_reducible refine engWriteP_only ?_ _ _ _ ?_ | with_reducible apply ite_only
                 | with_reducible apply foldl_only | with_reducible apply foldl_only_snd | refine snd_only ‹_ = _› ?_
                 | refine fst_only ‹_ = _› ?_ | split)

theorem finishBag_only (h : Only m a s) : ∀ x1 x2, (hm : Sub 682830 m := by decide) → Only m a (State.finishBag s x1 x2) := by
  intro x1 x2 hm
  refine h.step hm ?_
  replace h : Only 682830 s s := .refl s
  unfold State.finishBag
  try dsimp only
  repeat' (first | with_reducible assumption | decide | intro _ | with_reducible refine count_only ?_ _ _ ?_
                 | with_reducible refine modShot_only ?_ _ _ ?_
                 | with_reducible refine shotPoison_only ?_ _ _ _ _ _ ?_
                 | with_reducible refine countVals_only ?_ _ _ _ ?_
                 | with_reducible refine shotOut_only ?_ _ _ _ _ _ ?_ | with_reducible apply ite_only
                 | with_reducible apply foldl_only | with_reducible apply foldl_only_snd | refine snd_only ‹_ = _› ?_
                 | refine fst_only ‹_ = _› ?_ | split)

theorem gateStack_only (h : Only m a s) : ∀ x1, (hm : Sub 665934 m := by decide) → Only m a (State.gateStack s x1) := by
  intro x1 hm
  refine h.step hm ?_
  replace h : Only 665934 s s := .refl s
  unfold State.gateStack
  try dsimp only
  repeat' (first | with_reducible assumption | decide | intro _ | with_reducible refine modStack_only ?_ _ _ ?_
                 | with_reducible refine abandonOn_only ?_ _ _ _ ?_ | with_reducible refine setReady_only ?_ _ _ ?_
                 | with_reducible refine setObj_only ?_ _ _ _ _ ?_ | with_reducible apply ite_only
                 | with_reducible apply foldl_only | with_reducible apply foldl_only_snd | refine snd_only ‹_ = _› ?_
                 | refine fst_only ‹_ = _› ?_ | split)

theorem giveData_only (h : Only m a s) : ∀ x1 x2, (hm : Sub 1288 m := by decide) → Only m a (State.giveData s x1 x2) := by
  intro x1 x2 hm
  refine h.step hm ?_
  replace h : Only 1288 s s := .refl s
  unfold State.giveData
  try dsimp only
  repeat' (first | with_reducible assumption | decide | intro _ | with_reducible refine modPort_only ?_ _ _ ?_
                 | with_reducible refine bump_only ?_ _ _ _ _ ?_ | with_reducible refine count_only ?_ _ _ ?_
                 | with_reducible refine modReq_only ?_ _ _ ?_ | with_reducible apply ite_only
                 | with_reducible apply foldl_only | with_reducible apply foldl_only_snd | refine snd_only ‹_ = _› ?_
                 | refine fst_only ‹_ = _› ?_ | split)

theorem meetSelfRefresh_only (h : Only m a s) : ∀ x1 x2, (hm : Sub 4104 m := by decide) → Only m a (State.meetSelfRefresh s x1 x2) := by
  intro x1 x2 hm
  refine h.step hm ?_
  replace h : Only 4104 s s := .refl s
  unfold State.meetSelfRefresh
  try dsimp only
  repeat' (first | with_reducible assumption | decide | intro _ | with_reducible refine stBump_only ?_ _ _ _ _ _ ?_
                 | with_reducible refine modPc_only ?_ _ _ ?_ | with_reducible apply ite_only
                 | with_reducible apply foldl_only | with_reducible apply foldl_only_snd | refine snd_only ‹_ = _› ?_
                 | refine fst_only ‹_ = _› ?_ | split)

theorem grantCounts_only (h : Only m a s) : ∀ x1 x2 x3 x4 x5, (hm : Sub 524296 m := by decide) → Only m a (State.grantCounts s x1 x2 x3 x4 x5) := by
  intro x1 x2 x3 x4 x5 hm
  refine h.step hm ?_
  replace h : Only 524296 s s := .refl s
  unfold State.grantCounts
  try dsimp only
  repeat' (first | with_reducible assumption | decide | intro _ | with_reducible refine tallyStack_only ?_ _ _ _ _ ?_
                 | with_reducible apply ite_only | with_reducible apply foldl_only
                 | with_reducible apply foldl_only_snd | refine snd_only ‹_ = _› ?_ | refine fst_only ‹_ = _› ?_
                 | split)

theorem grant_only (h : Only m a s) : ∀ x1 x2 x3 x4, (hm : Sub 1587656 m := by decide) → Only m a (State.grant s x1 x2 x3 x4) := by
  intro x1 x2 x3 x4 hm
  refine h.step hm ?_
  replace h : Only 1587656 s s := .refl s
  unfold State.grant
  try dsimp only
  repeat' (first | with_reducible assumption | decide | intro _ | with_reducible refine claimLine_only ?_ _ _ _ ?_
                 | with_reducible refine modPc_only ?_ _ _ ?_ | with_reducible refine meetSelfRefresh_only ?_ _ _ ?_
                 | with_reducible apply each_only | with_reducible refine dropRewrites_only ?_ _ ?_
                 | with_reducible refine modReq_only ?_ _ _ ?_ | with_reducible refine answerWrite_only ?_ _ ?_
                 | with_reducible refine charge_only ?_ _ _ ?_
                 | with_reducible refine grantCounts_only ?_ _ _ _ _ _ ?_
                 | with_reducible refine grantTakes_only ?_ _ _ _ ?_ | with_reducible apply ite_only
                 | with_reducible apply foldl_only | with_reducible apply foldl_only_snd | refine snd_only ‹_ = _› ?_
                 | refine fst_only ‹_ = _› ?_ | split)

theorem wakeFor_only (h : Only m a s) : ∀ x1, (hm : Sub 2062 m := by decide) → Only m a (State.wakeFor s x1) := by
  intro x1 hm
  refine h.step hm ?_
  replace h : Only 2062 s s := .refl s
  unfold State.wakeFor
  try dsimp only
  repeat' (first | with_reducible assumption | decide | intro _ | with_reducible apply each_only
                 | with_reducible refine modStack_only ?_ _ _ ?_ | with_reducible refine setReady_only ?_ _ _ ?_
                 | with_reducible apply ite_only | with_reducible apply foldl_only
                 | with_reducible apply foldl_only_snd | refine snd_only ‹_ = _› ?_ | refine fst_only ‹_ = _› ?_
                 | split)

theorem portPost_only (h : Only m a s) : ∀ x1, (hm : Sub 18702 m := by decide) → Only m a (State.portPost s x1) := by
  intro x1 hm
  refine h.step hm ?_
  replace h : Only 18702 s s := .refl s
  unfold State.portPost
  try dsimp only
  repeat' (first | with_reducible assumption | decide | intro _ | with_reducible refine modReq_only ?_ _ _ ?_
                 | with_reducible refine enlist_only ?_ _ _ _ ?_ | with_reducible refine bump_only ?_ _ _ _ _ ?_
                 | with_reducible refine wakeFor_only ?_ _ ?_ | with_reducible apply ite_only
                 | with_reducible apply foldl_only | with_reducible apply foldl_only_snd | refine snd_only ‹_ = _› ?_
                 | refine fst_only ‹_ = _› ?_ | split)

theorem takePosts_only (h : Only m a s) : ∀ x1, (hm : Sub 18702 m := by decide) → Only m a (State.takePosts s x1) := by
  intro x1 hm
  refine h.step hm ?_
  replace h : Only 18702 s s := .refl s
  unfold State.takePosts
  try dsimp only
  repeat' (first | with_reducible assumption | decide | intro _ | with_reducible apply each_only
                 | with_reducible refine portPost_only ?_ _ ?_ | with_reducible apply ite_only
                 | with_reducible apply foldl_only | with_reducible apply foldl_only_snd | refine snd_only ‹_ = _› ?_
                 | refine fst_only ‹_ = _› ?_ | split)

theorem retryHeld_only (h : Only m a s) : ∀ x1, (hm : Sub 524616 m := by decide) → Only m a (State.retryHeld s x1).1 := by
  intro x1 hm
  refine h.step hm ?_
  replace h : Only 524616 s s := .refl s
  unfold State.retryHeld
  try dsimp only
  repeat' (first | with_reducible assumption | decide | intro _ | with_reducible refine modReq_only ?_ _ _ ?_
                 | with_reducible refine takeChunk_only ?_ _ _ _ ?_ | with_reducible apply ite_only
                 | with_reducible apply foldl_only | with_reducible apply foldl_only_snd | refine snd_only ‹_ = _› ?_
                 | refine fst_only ‹_ = _› ?_ | split)

theorem leaveHold_only (h : Only m a s) : ∀ x1, (hm : Sub 682248 m := by decide) → Only m a (State.leaveHold s x1) := by
  intro x1 hm
  refine h.step hm ?_
  replace h : Only 682248 s s := .refl s
  unfold State.leaveHold
  try dsimp only
  repeat' (first | with_reducible assumption | decide | intro _ | with_reducible refine modReq_only ?_ _ _ ?_
                 | with_reducible refine tallyBlock_only ?_ _ _ _ ?_ | with_reducible refine count_only ?_ _ _ ?_
                 | with_reducible refine answerRead_only ?_ _ _ ?_ | with_reducible refine route_only ?_ _ ?_
                 | with_reducible apply ite_only | with_reducible apply foldl_only
                 | with_reducible apply foldl_only_snd | refine snd_only ‹_ = _› ?_ | refine fst_only ‹_ = _› ?_
                 | split)

theorem holdRelease_only (h : Only m a s) : ∀ x1 x2, (hm : Sub 682318 m := by decide) → Only m a (State.holdRelease s x1 x2) := by
  intro x1 x2 hm
  refine h.step hm ?_
  replace h : Only 682318 s s := .refl s
  unfold State.holdRelease
  try dsimp only
  repeat' (first | with_reducible assumption | decide | intro _ | with_reducible refine takePosts_only ?_ _ ?_
                 | with_reducible refine modReq_only ?_ _ _ ?_ | with_reducible refine retryHeld_only ?_ _ ?_
                 | with_reducible refine leaveHold_only ?_ _ ?_ | with_reducible apply ite_only
                 | with_reducible apply foldl_only | with_reducible apply foldl_only_snd | refine snd_only ‹_ = _› ?_
                 | refine fst_only ‹_ = _› ?_ | split)

theorem holdSafe_only (h : Only m a s) : ∀ x1, (hm : Sub 33554434 m := by decide) → Only m a (State.holdSafe s x1) := by
  intro x1 hm
  refine h.step hm ?_
  replace h : Only 33554434 s s := .refl s
  unfold State.holdSafe
  exact modBlock_states h _

theorem hostPost_only (h : Only m a s) : ∀ x1 x2 x3, (hm : Sub 4212750 m := by decide) → Only m a (State.hostPost s x1 x2 x3) := by
  intro x1 x2 x3 hm
  refine h.step hm ?_
  replace h : Only 4212750 s s := .refl s
  unfold State.hostPost
  try dsimp only
  repeat' (first | with_reducible assumption | decide | intro _ | refine gate_drop_only ‹_› ?_ ?_
                 | refine gate_noSession_only ‹_› ?_ ?_ | refine gate_go_only ‹_› ?_ ?_
                 | with_reducible refine refuse_only ?_ _ _ _ _ _ _ ?_
                 | with_reducible refine answer_only ?_ _ _ _ _ ?_ | with_reducible refine enlist_only ?_ _ _ _ ?_
                 | with_reducible refine bump_only ?_ _ _ _ _ ?_ | with_reducible refine wakeFor_only ?_ _ ?_
                 | with_reducible apply ite_only | with_reducible apply foldl_only
                 | with_reducible apply foldl_only_snd | refine snd_only ‹_ = _› ?_ | refine fst_only ‹_ = _› ?_
                 | split)

end Sys2Proof.Laws
end

