-- ==== Sys2Proof/Laws/Only4.lean ====
section
/-! SUPPORT. Only4.lean: everything each shared operation and command can do to the parts of the state, operations before
those that use them (4 of 6). -/

-- theorems one after another: many at once would ask for too many threads
set_option Elab.async false

namespace Sys2Proof.Laws

open Sys2Proof.Machine Sys2Proof.Safety

set_option linter.unreachableTactic false
set_option linter.unusedTactic false

variable {a s : State} {m : Nat}

theorem i3c_only {f : State → State} (hf : ∀ t, Only m a t → Only m a (f t)) (h : Only m a s) : Only m a (s.i3c f) :=
  ite_only h (hf _ h)

theorem i3cAt_only (h : Only m a s) : ∀ x1, (hm : Sub 4194304 m := by decide) → Only m a (State.i3cAt s x1) := by
  intro x1 hm
  refine h.step hm ?_
  replace h : Only 4194304 s s := .refl s
  unfold State.i3cAt
  try dsimp only
  repeat' (first | with_reducible assumption | decide | intro _ | with_reducible apply i3c_only
                 | with_reducible refine emit_only ?_ _ ?_ | with_reducible apply ite_only
                 | with_reducible apply foldl_only | with_reducible apply foldl_only_snd | refine snd_only ‹_ = _› ?_
                 | refine fst_only ‹_ = _› ?_ | split)

theorem noteAct_only (h : Only m a s) : ∀ x1 x2 x3, (hm : Sub 4104 m := by decide) → Only m a (State.noteAct s x1 x2 x3) := by
  intro x1 x2 x3 hm
  refine h.step hm ?_
  replace h : Only 4104 s s := .refl s
  unfold State.noteAct
  try dsimp only
  repeat' (first | with_reducible assumption | decide | intro _ | with_reducible refine modPc_only ?_ _ _ ?_
                 | with_reducible refine stBump_only ?_ _ _ _ _ _ ?_ | with_reducible apply ite_only
                 | with_reducible apply foldl_only | with_reducible apply foldl_only_snd | refine snd_only ‹_ = _› ?_
                 | refine fst_only ‹_ = _› ?_ | split)

theorem issueAct_only (h : Only m a s) : ∀ x1 x2, (hm : Sub 528392 m := by decide) → Only m a (State.issueAct s x1 x2) := by
  intro x1 x2 hm
  refine h.step hm ?_
  replace h : Only 528392 s s := .refl s
  unfold State.issueAct
  try dsimp only
  repeat' (first | with_reducible assumption | decide | intro _
                 | with_reducible refine classAccess_only ?_ _ _ _ _ ?_
                 | with_reducible refine tallyStack_only ?_ _ _ _ _ ?_ | with_reducible refine modPc_only ?_ _ _ ?_
                 | with_reducible refine noteAct_only ?_ _ _ _ ?_ | with_reducible apply ite_only
                 | with_reducible apply foldl_only | with_reducible apply foldl_only_snd | refine snd_only ‹_ = _› ?_
                 | refine fst_only ‹_ = _› ?_ | split)

theorem poisonAbort_only (h : Only m a s) : ∀ x1, (hm : Sub 16384 m := by decide) → Only m a (State.poisonAbort s x1) := by
  intro x1 hm
  refine h.step hm ?_
  replace h : Only 16384 s s := .refl s
  unfold State.poisonAbort
  try dsimp only
  repeat' (first | with_reducible assumption | decide | intro _ | with_reducible refine askAbort_only ?_ _ _ _ ?_
                 | with_reducible apply ite_only | with_reducible apply foldl_only
                 | with_reducible apply foldl_only_snd | refine snd_only ‹_ = _› ?_ | refine fst_only ‹_ = _› ?_
                 | split)

theorem modWork_only (h : Only m a s) : ∀ x1 x2, (hm : Sub 16384 m := by decide) → Only m a (State.modWork s x1 x2) := by
  intro x1 x2 hm
  refine h.step hm ?_
  replace h : Only 16384 s s := .refl s
  unfold State.modWork
  try dsimp only
  repeat' (first | with_reducible assumption | decide | intro _ | with_reducible refine modShot_only ?_ _ _ ?_
                 | with_reducible apply ite_only | with_reducible apply foldl_only
                 | with_reducible apply foldl_only_snd | refine snd_only ‹_ = _› ?_ | refine fst_only ‹_ = _› ?_
                 | split)

theorem modBag_only (h : Only m a s) : ∀ x1 x2 x3, (hm : Sub 16384 m := by decide) → Only m a (State.modBag s x1 x2 x3) := by
  intro x1 x2 x3 hm
  refine h.step hm ?_
  replace h : Only 16384 s s := .refl s
  unfold State.modBag
  try dsimp only
  repeat' (first | with_reducible assumption | decide | intro _ | with_reducible refine modWork_only ?_ _ _ ?_
                 | with_reducible apply ite_only | with_reducible apply foldl_only
                 | with_reducible apply foldl_only_snd | refine snd_only ‹_ = _› ?_ | refine fst_only ‹_ = _› ?_
                 | split)

theorem pushRow_only (h : Only m a s) : ∀ x1 x2 x3 x4 x5 x6, (hm : Sub 682830 m := by decide) → Only m a (State.pushRow s x1 x2 x3 x4 x5 x6) := by
  intro x1 x2 x3 x4 x5 x6 hm
  refine h.step hm ?_
  replace h : Only 682830 s s := .refl s
  unfold State.pushRow
  try dsimp only
  repeat' (first | with_reducible assumption | decide | intro _ | with_reducible refine engIssue_only ?_ _ ?_
                 | with_reducible apply ite_only | with_reducible apply foldl_only
                 | with_reducible apply foldl_only_snd | refine snd_only ‹_ = _› ?_ | refine fst_only ‹_ = _› ?_
                 | split)

theorem issueEntry_only (h : Only m a s) : ∀ x1 x2 x3, (hm : Sub 682830 m := by decide) → Only m a (State.issueEntry s x1 x2 x3) := by
  intro x1 x2 x3 hm
  refine h.step hm ?_
  replace h : Only 682830 s s := .refl s
  unfold State.issueEntry
  extract_lets w t r off need zeros g1 s2 g2 s3
  have k2 : Only 682830 s s2 := modShot_only (count_only h _ _) _ _
  have k3 : Only 682830 s s3 := modBag_only k2 _ _ _
  refine ite_only (engAsk_only h _ _ _) ?_
  split
  · exact poisonAbort_only h _
  · refine ite_only (ite_only (finishBag_only k3 _ _) k3) ?_
    exact issue_only (modBag_only (each_only (fun _ _ k => pushRow_only k _ _ _ _ _ _) _ h) _ _ _) _ _

theorem issueRefresh_only (h : Only m a s) : ∀ x1 x2, (hm : Sub 528392 m := by decide) → Only m a (State.issueRefresh s x1 x2) := by
  intro x1 x2 hm
  refine h.step hm ?_
  replace h : Only 528392 s s := .refl s
  unfold State.issueRefresh
  try dsimp only
  repeat' (first | with_reducible assumption | decide | intro _ | with_reducible refine modPc_only ?_ _ _ ?_
                 | with_reducible refine tallyStack_only ?_ _ _ _ _ ?_
                 | with_reducible refine stBump_only ?_ _ _ _ _ _ ?_ | with_reducible apply ite_only
                 | with_reducible apply foldl_only | with_reducible apply foldl_only_snd | refine snd_only ‹_ = _› ?_
                 | refine fst_only ‹_ = _› ?_ | split)

theorem jobAbort_only (h : Only m a s) : ∀ x1 x2, (hm : Sub 16388 m := by decide) → Only m a (State.jobAbort s x1 x2) := by
  intro x1 x2 hm
  refine h.step hm ?_
  replace h : Only 16388 s s := .refl s
  unfold State.jobAbort
  try dsimp only
  repeat' (first | with_reducible assumption | decide | intro _ | with_reducible refine askAborts_only ?_ _ _ _ ?_
                 | with_reducible refine asks_only ?_ _ _ ?_ | with_reducible apply ite_only
                 | with_reducible apply foldl_only | with_reducible apply foldl_only_snd | refine snd_only ‹_ = _› ?_
                 | refine fst_only ‹_ = _› ?_ | split)

theorem joinSpares_only (h : Only m a s) : ∀ x1 x2, (hm : Sub 136 m := by decide) → Only m a (State.joinSpares s x1 x2) := by
  intro x1 x2 hm
  refine h.step hm ?_
  replace h : Only 136 s s := .refl s
  unfold State.joinSpares
  exact ite_only h (setRank_only (dramFilter_only h _) _ _ _)

theorem lanePorts_only (h : Only m a s) : ∀ x1 x2, (hm : Sub 8192 m := by decide) → Only m a (State.lanePorts s x1 x2) := by
  intro x1 x2 hm
  refine h.step hm ?_
  replace h : Only 8192 s s := .refl s
  unfold State.lanePorts
  try dsimp only
  repeat' (first | with_reducible assumption | decide | intro _ | with_reducible refine modLoft_only ?_ _ ?_
                 | with_reducible apply ite_only | with_reducible apply foldl_only
                 | with_reducible apply foldl_only_snd | refine snd_only ‹_ = _› ?_ | refine fst_only ‹_ = _› ?_
                 | split)

theorem raisedWork_only (h : Only m a s) : ∀ x1, (hm : Sub 2097152 m := by decide) → Only m a (State.raisedWork s x1).2 := by
  intro x1 hm
  refine h.step hm ?_
  replace h : Only 2097152 s s := .refl s
  unfold State.raisedWork
  try dsimp only
  repeat' (first | with_reducible assumption | decide | intro _ | with_reducible refine takeFree_only ?_ ?_
                 | with_reducible apply ite_only | with_reducible apply foldl_only
                 | with_reducible apply foldl_only_snd | refine snd_only ‹_ = _› ?_ | refine fst_only ‹_ = _› ?_
                 | split)

theorem ledger_only (h : Only m a s) : ∀ x1, (hm : Sub 2099208 m := by decide) → Only m a (State.ledger s x1) := by
  intro x1 hm
  refine h.step hm ?_
  replace h : Only 2099208 s s := .refl s
  unfold State.ledger
  try dsimp only
  repeat' (first | with_reducible assumption | decide | intro _ | with_reducible refine modStack_only ?_ _ _ ?_
                 | with_reducible refine setObj_only ?_ _ _ _ _ ?_ | with_reducible refine raisedWork_only ?_ _ ?_
                 | with_reducible apply ite_only | with_reducible apply foldl_only
                 | with_reducible apply foldl_only_snd | refine snd_only ‹_ = _› ?_ | refine fst_only ‹_ = _› ?_
                 | split)

theorem loadQueries_only (h : Only m a s) : ∀ x1, (hm : Sub 682830 m := by decide) → Only m a (State.loadQueries s x1) := by
  intro x1 hm
  refine h.step hm ?_
  replace h : Only 682830 s s := .refl s
  unfold State.loadQueries
  try dsimp only
  repeat' (first | with_reducible assumption | decide | intro _ | with_reducible refine engAsk_only ?_ _ _ _ ?_
                 | with_reducible refine engDone_only ?_ _ ?_ | with_reducible refine poisonAbort_only ?_ _ ?_
                 | with_reducible refine countVals_only ?_ _ _ _ ?_ | with_reducible refine modWork_only ?_ _ _ ?_
                 | with_reducible apply ite_only | with_reducible apply foldl_only
                 | with_reducible apply foldl_only_snd | refine snd_only ‹_ = _› ?_ | refine fst_only ‹_ = _› ?_
                 | split)

theorem lockRequest_only {rq : Rq} {op : Nat} {f : State → Nat → State} (hf : ∀ t n, Only m a t → Only m a (f t n)) (h : Only m a s)
    (hm : Sub 4194316 m := by decide) : Only m a (s.lockRequest rq op f) := by
  unfold State.lockRequest
  split
  · exact gate_drop_only ‹_› h (.trans (by decide) hm)
  · exact refuse_only (gate_noSession_only ‹_› h (.trans (by decide) hm)) _ _ _ _ _ _ (.trans (by decide) hm)
  · rename_i n u _
    have g := gate_go_only ‹_› h (.trans (by decide) hm)
    have b : Only m a (u.brokenLock n).2 := brokenLock_only g _ (.trans (by decide) hm)
    dsimp only
    repeat' (split)
    all_goals first
      | with_reducible exact refuse_only g _ _ _ _ _ _ (.trans (by decide) hm)
      | with_reducible exact refuse_only b _ _ _ _ _ _ (.trans (by decide) hm)
      | with_reducible exact answer_only (hf _ _ b) _ _ _ _ (.trans (by decide) hm)

theorem loftAbort_only (h : Only m a s) : ∀ x1 x2, (hm : Sub 717644 m := by decide) → Only m a (State.loftAbort s x1 x2) := by
  intro x1 x2 hm
  refine h.step hm ?_
  replace h : Only 717644 s s := .refl s
  unfold State.loftAbort
  try dsimp only
  repeat' (first | with_reducible assumption | decide | intro _ | with_reducible refine commitShot_only ?_ _ ?_
                 | with_reducible refine abortShot_only ?_ _ _ _ ?_ | with_reducible apply ite_only
                 | with_reducible apply foldl_only | with_reducible apply foldl_only_snd | refine snd_only ‹_ = _› ?_
                 | refine fst_only ‹_ = _› ?_ | split)

theorem loseCached_only (h : Only m a s) : ∀ x1 x2 x3 x4, ∀ t, State.loseCached s x1 x2 x3 x4 = some t → (hm : Sub 1579208 m := by decide) → Only m a t := by
  intro x1 x2 x3 x4 t e hm
  refine h.step hm ?_
  replace h : Only 1579208 s s := .refl s
  suffices g : Gives 1579208 s (State.loseCached s x1 x2 x3 x4) from g.only t e
  clear e t
  unfold State.loseCached
  try dsimp only
  repeat' (first | with_reducible assumption | decide | with_reducible refine gives_intro ?_
                 | with_reducible apply gives_ite | with_reducible exact gives_none | intro _
                 | with_reducible refine modSlot_only ?_ _ _ ?_ | with_reducible refine poisonLine_only ?_ _ _ _ ?_
                 | with_reducible refine ownWork_only ?_ _ _ _ _ _ ?_ | with_reducible apply ite_only
                 | with_reducible apply foldl_only | with_reducible apply foldl_only_snd | refine snd_only ‹_ = _› ?_
                 | refine fst_only ‹_ = _› ?_ | split)

theorem loseData_only (h : Only m a s) : ∀ x1, (hm : Sub 1024 m := by decide) → Only m a (State.loseData s x1) := by
  intro x1 hm
  refine h.step hm ?_
  replace h : Only 1024 s s := .refl s
  unfold State.loseData
  try dsimp only
  repeat' (first | with_reducible assumption | decide | intro _ | with_reducible refine modPort_only ?_ _ _ ?_
                 | with_reducible apply ite_only | with_reducible apply foldl_only
                 | with_reducible apply foldl_only_snd | refine snd_only ‹_ = _› ?_ | refine fst_only ‹_ = _› ?_
                 | split)

theorem markMoved_only (h : Only m a s) : ∀ x1 x2, (hm : Sub 2056 m := by decide) → Only m a (State.markMoved s x1 x2) := by
  intro x1 x2 hm
  refine h.step hm ?_
  replace h : Only 2056 s s := .refl s
  unfold State.markMoved
  try dsimp only
  repeat' (first | with_reducible assumption | decide | intro _ | with_reducible refine setObj_only ?_ _ _ _ _ ?_
                 | with_reducible refine modStack_only ?_ _ _ ?_ | with_reducible apply ite_only
                 | with_reducible apply foldl_only | with_reducible apply foldl_only_snd | refine snd_only ‹_ = _› ?_
                 | refine fst_only ‹_ = _› ?_ | split)

theorem migrateLine_only (h : Only m a s) : ∀ x1 x2 x3 x4, (hm : Sub 3676556 m := by decide) → Only m a (State.migrateLine s x1 x2 x3 x4) := by
  intro x1 x2 x3 x4 hm
  refine h.step hm ?_
  replace h : Only 3676556 s s := .refl s
  unfold State.migrateLine
  try dsimp only
  repeat' (first | with_reducible assumption | decide | intro _ | with_reducible refine ownWork_only ?_ _ _ _ _ _ ?_
                 | with_reducible apply each_only | with_reducible refine carryLost_only ?_ _ _ ?_
                 | with_reducible refine copySector_only ?_ _ _ _ _ ?_
                 | with_reducible refine modStack_only ?_ _ _ ?_
                 | with_reducible refine applyHeldWhere_only ?_ _ _ ?_ | with_reducible refine count_only ?_ _ _ ?_
                 | with_reducible apply ite_only | with_reducible apply foldl_only
                 | with_reducible apply foldl_only_snd | refine snd_only ‹_ = _› ?_ | refine fst_only ‹_ = _› ?_
                 | split)

theorem openSession_only (h : Only m a s) : ∀ x1 x2 x3, (hm : Sub 28 m := by decide) → Only m a (State.openSession s x1 x2 x3) := by
  intro x1 x2 x3 hm
  refine h.step hm ?_
  replace h : Only 28 s s := .refl s
  unfold State.openSession
  try dsimp only
  repeat' (first | with_reducible assumption | decide | intro _ | with_reducible refine modSession_only ?_ _ _ ?_
                 | with_reducible refine setNow_only ?_ _ _ _ _ ?_ | with_reducible refine modMgmt_only ?_ _ ?_
                 | with_reducible apply ite_only | with_reducible apply foldl_only
                 | with_reducible apply foldl_only_snd | refine snd_only ‹_ = _› ?_ | refine fst_only ‹_ = _› ?_
                 | split)

theorem execStackWakeRequest_only (h : Only m a s) : ∀ x1 x2, ∀ t, execStackWakeRequest x1 x2 s = Host.Outcome.next t → (hm : Sub 4196364 m := by decide) → Only m a t := by
  intro x1 x2 t e hm
  refine h.step hm ?_
  replace h : Only 4196364 s s := .refl s
  suffices g : Runs 4196364 s (execStackWakeRequest x1 x2 s) from g.only t e
  clear e t
  unfold execStackWakeRequest
  try dsimp only
  repeat' (first | with_reducible assumption | decide | with_reducible refine runs_intro ?_
                 | with_reducible apply runs_ite | with_reducible exact runs_refused
                 | with_reducible exact runs_fault | intro _
                 | (with_reducible refine directWrite_only (hm := ?_) ?_ ?_)
                 | with_reducible refine asks_only ?_ _ _ ?_ | with_reducible refine modStack_only ?_ _ _ ?_
                 | with_reducible refine stSet_only ?_ _ _ _ _ _ ?_ | with_reducible apply ite_only
                 | with_reducible apply foldl_only | with_reducible apply foldl_only_snd | refine snd_only ‹_ = _› ?_
                 | refine fst_only ‹_ = _› ?_ | split)

theorem execStackSelfRefreshEnter_only (h : Only m a s) : ∀ x1 x2, ∀ t, execStackSelfRefreshEnter x1 x2 s = Host.Outcome.next t → (hm : Sub 4196364 m := by decide) → Only m a t := by
  intro x1 x2 t e hm
  refine h.step hm ?_
  replace h : Only 4196364 s s := .refl s
  suffices g : Runs 4196364 s (execStackSelfRefreshEnter x1 x2 s) from g.only t e
  clear e t
  unfold execStackSelfRefreshEnter
  try dsimp only
  repeat' (first | with_reducible assumption | decide | with_reducible refine runs_intro ?_
                 | with_reducible apply runs_ite | with_reducible exact runs_refused
                 | with_reducible exact runs_fault | intro _
                 | (with_reducible refine directWrite_only (hm := ?_) ?_ ?_)
                 | with_reducible refine asks_only ?_ _ _ ?_ | with_reducible refine modStack_only ?_ _ _ ?_
                 | with_reducible refine stSet_only ?_ _ _ _ _ _ ?_ | with_reducible apply ite_only
                 | with_reducible apply foldl_only | with_reducible apply foldl_only_snd | refine snd_only ‹_ = _› ?_
                 | refine fst_only ‹_ = _› ?_ | split)

theorem execJobAbort_only (h : Only m a s) : ∀ x1 x2, ∀ t, execJobAbort x1 x2 s = Host.Outcome.next t → (hm : Sub 4210700 m := by decide) → Only m a t := by
  intro x1 x2 t e hm
  refine h.step hm ?_
  replace h : Only 4210700 s s := .refl s
  suffices g : Runs 4210700 s (execJobAbort x1 x2 s) from g.only t e
  clear e t
  unfold execJobAbort
  try dsimp only
  repeat' (first | with_reducible assumption | decide | with_reducible refine runs_intro ?_
                 | with_reducible apply runs_ite | with_reducible exact runs_refused
                 | with_reducible exact runs_fault | intro _
                 | (with_reducible refine directWrite_only (hm := ?_) ?_ ?_)
                 | with_reducible refine jobAbort_only ?_ _ _ ?_ | with_reducible apply ite_only
                 | with_reducible apply foldl_only | with_reducible apply foldl_only_snd | refine snd_only ‹_ = _› ?_
                 | refine fst_only ‹_ = _› ?_ | split)

theorem execStockroomDisable_only (h : Only m a s) : ∀ x1, ∀ t, execStockroomDisable x1 s = Host.Outcome.next t → (hm : Sub 4942686 m := by decide) → Only m a t := by
  intro x1 t e hm
  refine h.step hm ?_
  replace h : Only 4942686 s s := .refl s
  suffices g : Runs 4942686 s (execStockroomDisable x1 s) from g.only t e
  clear e t
  unfold execStockroomDisable
  try dsimp only
  repeat' (first | with_reducible assumption | decide | with_reducible refine runs_intro ?_
                 | with_reducible apply runs_ite | with_reducible exact runs_refused
                 | with_reducible exact runs_fault | intro _
                 | (with_reducible refine directWrite_only (hm := ?_) ?_ ?_)
                 | with_reducible refine asks_only ?_ _ _ ?_ | with_reducible refine modPacket_only ?_ _ ?_
                 | with_reducible refine setObj_only ?_ _ _ _ _ ?_ | with_reducible refine stockroomOff_only ?_ _ ?_
                 | with_reducible apply ite_only | with_reducible apply foldl_only
                 | with_reducible apply foldl_only_snd | refine snd_only ‹_ = _› ?_ | refine fst_only ‹_ = _› ?_
                 | split)

theorem execStockroomEnable_only (h : Only m a s) : ∀ x1, ∀ t, execStockroomEnable x1 s = Host.Outcome.next t → (hm : Sub 4259852 m := by decide) → Only m a t := by
  intro x1 t e hm
  refine h.step hm ?_
  replace h : Only 4259852 s s := .refl s
  suffices g : Runs 4259852 s (execStockroomEnable x1 s) from g.only t e
  clear e t
  unfold execStockroomEnable
  try dsimp only
  repeat' (first | with_reducible assumption | decide | with_reducible refine runs_intro ?_
                 | with_reducible apply runs_ite | with_reducible exact runs_refused
                 | with_reducible exact runs_fault | intro _
                 | (with_reducible refine directWrite_only (hm := ?_) ?_ ?_)
                 | with_reducible refine modPacket_only ?_ _ ?_ | with_reducible refine setObj_only ?_ _ _ _ _ ?_
                 | with_reducible apply ite_only | with_reducible apply foldl_only
                 | with_reducible apply foldl_only_snd | refine snd_only ‹_ = _› ?_ | refine fst_only ‹_ = _› ?_
                 | split)

theorem execCaptureReadIndex_only (h : Only m a s) : ∀ x1 x2, ∀ t, execCaptureReadIndex x1 x2 s = Host.Outcome.next t → (hm : Sub 4194316 m := by decide) → Only m a t := by
  intro x1 x2 t e hm
  refine h.step hm ?_
  replace h : Only 4194316 s s := .refl s
  suffices g : Runs 4194316 s (execCaptureReadIndex x1 x2 s) from g.only t e
  clear e t
  unfold execCaptureReadIndex
  try dsimp only
  repeat' (first | with_reducible assumption | decide | with_reducible refine runs_intro ?_
                 | with_reducible apply runs_ite | with_reducible exact runs_refused
                 | with_reducible exact runs_fault | intro _
                 | (with_reducible refine directWrite_only (hm := ?_) ?_ ?_)
                 | with_reducible refine setObj_only ?_ _ _ _ _ ?_ | with_reducible apply ite_only
                 | with_reducible apply foldl_only | with_reducible apply foldl_only_snd | refine snd_only ‹_ = _› ?_
                 | refine fst_only ‹_ = _› ?_ | split)

theorem execDeclareDead_only (h : Only m a s) : ∀ x1 x2, ∀ t, execDeclareDead x1 x2 s = Host.Outcome.next t → (hm : Sub 4718604 m := by decide) → Only m a t := by
  intro x1 x2 t e hm
  refine h.step hm ?_
  replace h : Only 4718604 s s := .refl s
  suffices g : Runs 4718604 s (execDeclareDead x1 x2 s) from g.only t e
  clear e t
  unfold execDeclareDead
  try dsimp only
  repeat' (first | with_reducible assumption | decide | with_reducible refine runs_intro ?_
                 | with_reducible apply runs_ite | with_reducible exact runs_refused
                 | with_reducible exact runs_fault | intro _
                 | (with_reducible refine directWrite_only (hm := ?_) ?_ ?_)
                 | with_reducible refine modTest_only ?_ _ ?_ | with_reducible apply ite_only
                 | with_reducible apply foldl_only | with_reducible apply foldl_only_snd | refine snd_only ‹_ = _› ?_
                 | refine fst_only ‹_ = _› ?_ | split)

theorem execReadmit_only (h : Only m a s) : ∀ x1 x2, ∀ t, execReadmit x1 x2 s = Host.Outcome.next t → (hm : Sub 4718604 m := by decide) → Only m a t := by
  intro x1 x2 t e hm
  refine h.step hm ?_
  replace h : Only 4718604 s s := .refl s
  suffices g : Runs 4718604 s (execReadmit x1 x2 s) from g.only t e
  clear e t
  unfold execReadmit
  try dsimp only
  repeat' (first | with_reducible assumption | decide | with_reducible refine runs_intro ?_
                 | with_reducible apply runs_ite | with_reducible exact runs_refused
                 | with_reducible exact runs_fault | intro _
                 | (with_reducible refine directWrite_only (hm := ?_) ?_ ?_)
                 | with_reducible refine modTest_only ?_ _ ?_ | with_reducible refine setObj_only ?_ _ _ _ _ ?_
                 | with_reducible apply ite_only | with_reducible apply foldl_only
                 | with_reducible apply foldl_only_snd | refine snd_only ‹_ = _› ?_ | refine fst_only ‹_ = _› ?_
                 | split)

theorem execRetirementReadIndex_only (h : Only m a s) : ∀ x1 x2, ∀ t, execRetirementReadIndex x1 x2 s = Host.Outcome.next t → (hm : Sub 4194316 m := by decide) → Only m a t := by
  intro x1 x2 t e hm
  refine h.step hm ?_
  replace h : Only 4194316 s s := .refl s
  suffices g : Runs 4194316 s (execRetirementReadIndex x1 x2 s) from g.only t e
  clear e t
  unfold execRetirementReadIndex
  try dsimp only
  repeat' (first | with_reducible assumption | decide | with_reducible refine runs_intro ?_
                 | with_reducible apply runs_ite | with_reducible exact runs_refused
                 | with_reducible exact runs_fault | intro _
                 | (with_reducible refine directWrite_only (hm := ?_) ?_ ?_)
                 | with_reducible refine setObj_only ?_ _ _ _ _ ?_ | with_reducible apply ite_only
                 | with_reducible apply foldl_only | with_reducible apply foldl_only_snd | refine snd_only ‹_ = _› ?_
                 | refine fst_only ‹_ = _› ?_ | split)

theorem execKeyRotate_only (h : Only m a s) : ∀ x1 x2, ∀ t, execKeyRotate x1 x2 s = Host.Outcome.next t → (hm : Sub 4456524 m := by decide) → Only m a t := by
  intro x1 x2 t e hm
  refine h.step hm ?_
  replace h : Only 4456524 s s := .refl s
  suffices g : Runs 4456524 s (execKeyRotate x1 x2 s) from g.only t e
  clear e t
  unfold execKeyRotate
  try dsimp only
  repeat' (first | with_reducible assumption | decide | with_reducible refine runs_intro ?_
                 | with_reducible apply runs_ite | with_reducible exact runs_refused
                 | with_reducible exact runs_fault | intro _
                 | (with_reducible refine directWrite_only (hm := ?_) ?_ ?_)
                 | with_reducible refine newKey_only ?_ _ ?_ | with_reducible refine modSlot_only ?_ _ _ ?_
                 | with_reducible apply ite_only | with_reducible apply foldl_only
                 | with_reducible apply foldl_only_snd | refine snd_only ‹_ = _› ?_ | refine fst_only ‹_ = _› ?_
                 | split)

theorem execKeyErase_only (h : Only m a s) : ∀ x1 x2, ∀ t, execKeyErase x1 x2 s = Host.Outcome.next t → (hm : Sub 4194380 m := by decide) → Only m a t := by
  intro x1 x2 t e hm
  refine h.step hm ?_
  replace h : Only 4194380 s s := .refl s
  suffices g : Runs 4194380 s (execKeyErase x1 x2 s) from g.only t e
  clear e t
  unfold execKeyErase
  try dsimp only
  repeat' (first | with_reducible assumption | decide | with_reducible refine runs_intro ?_
                 | with_reducible apply runs_ite | with_reducible exact runs_refused
                 | with_reducible exact runs_fault | intro _
                 | (with_reducible refine directWrite_only (hm := ?_) ?_ ?_)
                 | with_reducible refine modSlot_only ?_ _ _ ?_ | with_reducible apply ite_only
                 | with_reducible apply foldl_only | with_reducible apply foldl_only_snd | refine snd_only ‹_ = _› ?_
                 | refine fst_only ‹_ = _› ?_ | split)

theorem execMicrocodeSegment_only (h : Only m a s) : ∀ x1 x2 x3 x4 x5, ∀ t, execMicrocodeSegment x1 x2 x3 x4 x5 s = Host.Outcome.next t → (hm : Sub 4456460 m := by decide) → Only m a t := by
  intro x1 x2 x3 x4 x5 t e hm
  refine h.step hm ?_
  replace h : Only 4456460 s s := .refl s
  suffices g : Runs 4456460 s (execMicrocodeSegment x1 x2 x3 x4 x5 s) from g.only t e
  clear e t
  unfold execMicrocodeSegment
  try dsimp only
  repeat' (first | with_reducible assumption | decide | with_reducible refine runs_intro ?_
                 | with_reducible apply runs_ite | with_reducible exact runs_refused
                 | with_reducible exact runs_fault | intro _ | refine gate_drop_only ‹_› ?_ ?_
                 | refine gate_noSession_only ‹_› ?_ ?_ | refine gate_go_only ‹_› ?_ ?_
                 | with_reducible refine refuse_only ?_ _ _ _ _ _ _ ?_ | with_reducible refine modKeys_only ?_ _ ?_
                 | with_reducible refine setObj_only ?_ _ _ _ _ ?_ | with_reducible refine answer_only ?_ _ _ _ _ ?_
                 | with_reducible apply ite_only | with_reducible apply foldl_only
                 | with_reducible apply foldl_only_snd | refine snd_only ‹_ = _› ?_ | refine fst_only ‹_ = _› ?_
                 | split)

theorem execRaiseMinimumVersion_only (h : Only m a s) : ∀ x1, ∀ t, execRaiseMinimumVersion x1 s = Host.Outcome.next t → (hm : Sub 4456460 m := by decide) → Only m a t := by
  intro x1 t e hm
  refine h.step hm ?_
  replace h : Only 4456460 s s := .refl s
  suffices g : Runs 4456460 s (execRaiseMinimumVersion x1 s) from g.only t e
  clear e t
  unfold execRaiseMinimumVersion
  try dsimp only
  repeat' (first | with_reducible assumption | decide | with_reducible refine runs_intro ?_
                 | with_reducible apply runs_ite | with_reducible exact runs_refused
                 | with_reducible exact runs_fault | intro _
                 | (with_reducible refine directWrite_only (hm := ?_) ?_ ?_)
                 | with_reducible refine modKeys_only ?_ _ ?_ | with_reducible apply ite_only
                 | with_reducible apply foldl_only | with_reducible apply foldl_only_snd | refine snd_only ‹_ = _› ?_
                 | refine fst_only ‹_ = _› ?_ | split)

theorem settleMap_only (h : Only m a s) : (hm : Sub 8 m := by decide) → Only m a (State.settleMap s) := by
  intro hm
  refine h.step hm ?_
  replace h : Only 8 s s := .refl s
  unfold State.settleMap
  try dsimp only
  repeat' (first | with_reducible assumption | decide | intro _ | with_reducible apply each_only
                 | with_reducible refine moveEntries_only ?_ _ ?_ | with_reducible apply ite_only
                 | with_reducible apply foldl_only | with_reducible apply foldl_only_snd | refine snd_only ‹_ = _› ?_
                 | refine fst_only ‹_ = _› ?_ | split)

theorem execDomainGateRequest_only (h : Only m a s) : ∀ x1 x2 x3, ∀ t, execDomainGateRequest x1 x2 x3 s = Host.Outcome.next t → (hm : Sub 4718604 m := by decide) → Only m a t := by
  intro x1 x2 x3 t e hm
  refine h.step hm ?_
  replace h : Only 4718604 s s := .refl s
  suffices g : Runs 4718604 s (execDomainGateRequest x1 x2 x3 s) from g.only t e
  clear e t
  unfold execDomainGateRequest
  try dsimp only
  repeat' (first | with_reducible assumption | decide | with_reducible refine runs_intro ?_
                 | with_reducible apply runs_ite | with_reducible exact runs_refused
                 | with_reducible exact runs_fault | intro _
                 | (with_reducible refine directWrite_only (hm := ?_) ?_ ?_)
                 | with_reducible refine modTest_only ?_ _ ?_ | with_reducible refine asks_only ?_ _ _ ?_
                 | with_reducible refine setObj_only ?_ _ _ _ _ ?_ | with_reducible refine settleMap_only ?_ ?_
                 | with_reducible apply ite_only | with_reducible apply foldl_only
                 | with_reducible apply foldl_only_snd | refine snd_only ‹_ = _› ?_ | refine fst_only ‹_ = _› ?_
                 | split)

theorem execCorrectionModeSelect_only (h : Only m a s) : ∀ x1 x2, ∀ t, execCorrectionModeSelect x1 x2 s = Host.Outcome.next t → (hm : Sub 4194316 m := by decide) → Only m a t := by
  intro x1 x2 t e hm
  refine h.step hm ?_
  replace h : Only 4194316 s s := .refl s
  suffices g : Runs 4194316 s (execCorrectionModeSelect x1 x2 s) from g.only t e
  clear e t
  unfold execCorrectionModeSelect
  try dsimp only
  repeat' (first | with_reducible assumption | decide | with_reducible refine runs_intro ?_
                 | with_reducible apply runs_ite | with_reducible exact runs_refused
                 | with_reducible exact runs_fault | intro _
                 | (with_reducible refine directWrite_only (hm := ?_) ?_ ?_)
                 | with_reducible refine asks_only ?_ _ _ ?_ | with_reducible refine setObj_only ?_ _ _ _ _ ?_
                 | with_reducible apply ite_only | with_reducible apply foldl_only
                 | with_reducible apply foldl_only_snd | refine snd_only ‹_ = _› ?_ | refine fst_only ‹_ = _› ?_
                 | split)

theorem execRateCorrectionWrite_only (h : Only m a s) : ∀ x1 x2, ∀ t, execRateCorrectionWrite x1 x2 s = Host.Outcome.next t → (hm : Sub 4194316 m := by decide) → Only m a t := by
  intro x1 x2 t e hm
  refine h.step hm ?_
  replace h : Only 4194316 s s := .refl s
  suffices g : Runs 4194316 s (execRateCorrectionWrite x1 x2 s) from g.only t e
  clear e t
  unfold execRateCorrectionWrite
  try dsimp only
  repeat' (first | with_reducible assumption | decide | with_reducible refine runs_intro ?_
                 | with_reducible apply runs_ite | with_reducible exact runs_refused
                 | with_reducible exact runs_fault | intro _
                 | (with_reducible refine directWrite_only (hm := ?_) ?_ ?_)
                 | with_reducible refine setObj_only ?_ _ _ _ _ ?_ | with_reducible apply ite_only
                 | with_reducible apply foldl_only | with_reducible apply foldl_only_snd | refine snd_only ‹_ = _› ?_
                 | refine fst_only ‹_ = _› ?_ | split)

theorem execStepRequest_only (h : Only m a s) : ∀ x1 x2, ∀ t, execStepRequest x1 x2 s = Host.Outcome.next t → (hm : Sub 4194317 m := by decide) → Only m a t := by
  intro x1 x2 t e hm
  refine h.step hm ?_
  replace h : Only 4194317 s s := .refl s
  suffices g : Runs 4194317 s (execStepRequest x1 x2 s) from g.only t e
  clear e t
  unfold execStepRequest
  try dsimp only
  repeat' (first | with_reducible assumption | decide | with_reducible refine runs_intro ?_
                 | with_reducible apply runs_ite | with_reducible exact runs_refused
                 | with_reducible exact runs_fault | exact rfl | intro _
                 | (with_reducible refine directWrite_only (hm := ?_) ?_ ?_)
                 | with_reducible refine asks_only ?_ _ _ ?_ | with_reducible refine modTime_only ?_ _ ?_ ?_
                 | with_reducible apply ite_only | with_reducible apply foldl_only
                 | with_reducible apply foldl_only_snd | refine snd_only ‹_ = _› ?_ | refine fst_only ‹_ = _› ?_
                 | split)

theorem execReferenceFrequencyWrite_only (h : Only m a s) : ∀ x1 x2, ∀ t, execReferenceFrequencyWrite x1 x2 s = Host.Outcome.next t → (hm : Sub 4194317 m := by decide) → Only m a t := by
  intro x1 x2 t e hm
  refine h.step hm ?_
  replace h : Only 4194317 s s := .refl s
  suffices g : Runs 4194317 s (execReferenceFrequencyWrite x1 x2 s) from g.only t e
  clear e t
  unfold execReferenceFrequencyWrite
  try dsimp only
  repeat' (first | with_reducible assumption | decide | with_reducible refine runs_intro ?_
                 | with_reducible apply runs_ite | with_reducible exact runs_refused
                 | with_reducible exact runs_fault | exact rfl | intro _
                 | (with_reducible refine directWrite_only (hm := ?_) ?_ ?_)
                 | with_reducible refine modTime_only ?_ _ ?_ ?_ | with_reducible refine setObj_only ?_ _ _ _ _ ?_
                 | with_reducible apply ite_only | with_reducible apply foldl_only
                 | with_reducible apply foldl_only_snd | refine snd_only ‹_ = _› ?_ | refine fst_only ‹_ = _› ?_
                 | split)

theorem execSampleReadIndex_only (h : Only m a s) : ∀ x1 x2, ∀ t, execSampleReadIndex x1 x2 s = Host.Outcome.next t → (hm : Sub 4194316 m := by decide) → Only m a t := by
  intro x1 x2 t e hm
  refine h.step hm ?_
  replace h : Only 4194316 s s := .refl s
  suffices g : Runs 4194316 s (execSampleReadIndex x1 x2 s) from g.only t e
  clear e t
  unfold execSampleReadIndex
  try dsimp only
  repeat' (first | with_reducible assumption | decide | with_reducible refine runs_intro ?_
                 | with_reducible apply runs_ite | with_reducible exact runs_refused
                 | with_reducible exact runs_fault | intro _
                 | (with_reducible refine directWrite_only (hm := ?_) ?_ ?_)
                 | with_reducible refine setObj_only ?_ _ _ _ _ ?_ | with_reducible apply ite_only
                 | with_reducible apply foldl_only | with_reducible apply foldl_only_snd | refine snd_only ‹_ = _› ?_
                 | refine fst_only ‹_ = _› ?_ | split)

theorem execCounterGrant_only (h : Only m a s) : ∀ x1 x2 x3, ∀ t, execCounterGrant x1 x2 x3 s = Host.Outcome.next t → (hm : Sub 4194332 m := by decide) → Only m a t := by
  intro x1 x2 x3 t e hm
  refine h.step hm ?_
  replace h : Only 4194332 s s := .refl s
  suffices g : Runs 4194332 s (execCounterGrant x1 x2 x3 s) from g.only t e
  clear e t
  unfold execCounterGrant
  try dsimp only
  repeat' (first | with_reducible assumption | decide | with_reducible refine runs_intro ?_
                 | with_reducible apply runs_ite | with_reducible exact runs_refused
                 | with_reducible exact runs_fault | intro _
                 | (with_reducible refine directWrite_only (hm := ?_) ?_ ?_)
                 | with_reducible refine setNow_only ?_ _ _ _ _ ?_ | with_reducible apply ite_only
                 | with_reducible apply foldl_only | with_reducible apply foldl_only_snd | refine snd_only ‹_ = _› ?_
                 | refine fst_only ‹_ = _› ?_ | split)

theorem ownCommand_only (h : Only m a s) : ∀ x1 x2 x3 x4 x5, ∀ t, State.ownCommand s x1 x2 x3 x4 x5 = some t → (hm : Sub 5204831 m := by decide) → Only m a t := by
  intro rq ix sub el v t e hm
  refine h.step hm ?_
  replace h : Only 5204831 s s := .refl s
  have run {o : Host.Outcome State Fault Refusal} {t : State} (ho : ∀ t, o = .next t → Only 5204831 s t)
      (e : (some (outState s o) : Option State) = some t) : Only 5204831 s t := by
    rw [← Option.some.inj e]; exact outState_only h ⟨ho⟩
  unfold State.ownCommand at e
  dsimp only at e
  split at e
  · cases e
  · split at e
    · split at e
      · exact run (execStackWakeRequest_only h _ _) e
      · split at e
        · exact run (execStackSelfRefreshEnter_only h _ _) e
        · cases e
    · cases e
  · rw [← Option.some.inj e]; exact hostPost_only h _ _ _
  · exact run (execJobAbort_only h _ _) e
  · split at e
    · exact run (execStockroomDisable_only h _) e
    · split at e
      · exact run (execStockroomEnable_only h _) e
      · cases e
  · exact run (execCaptureReadIndex_only h _ _) e
  · exact run (execDeclareDead_only h _ _) e
  · exact run (execReadmit_only h _ _) e
  · exact run (execRetirementReadIndex_only h _ _) e
  · exact run (execKeyRotate_only h _ _) e
  · exact run (execKeyErase_only h _ _) e
  · exact run (execMicrocodeSegment_only h _ _ _ _ _) e
  · exact run (execRaiseMinimumVersion_only h _) e
  · split at e
    · exact run (execDomainGateRequest_only h _ _ _) e
    · cases e
  · exact run (execCorrectionModeSelect_only h _ _) e
  · exact run (execRateCorrectionWrite_only h _ _) e
  · exact run (execStepRequest_only h _ _) e
  · exact run (execReferenceFrequencyWrite_only h _ _) e
  · exact run (execSampleReadIndex_only h _ _) e
  · split at e
    · exact run (execCounterGrant_only h _ _ _) e
    · cases e
  · cases e

theorem ownCommands_only (h : Only m a s) : ∀ x1 x2 x3 x4, ∀ t, State.ownCommands s x1 x2 x3 x4 = some t → (hm : Sub 5204831 m := by decide) → Only m a t := by
  intro rq ix sub l t e hm
  refine h.step hm ?_
  replace h : Only 5204831 s s := .refl s
  let Good (x : Option (State × Option State)) : Prop := ∀ t b, x = some (t, b) → Only 5204831 s t ∧ ∀ u, b = some u → Only 5204831 s u
  have fold (f : Option (State × Option State) → Nat × Nat → Option (State × Option State)) (hf : ∀ acc x, Good acc → Good (f acc x)) :
      ∀ (l : List (Nat × Nat)) (acc : Option (State × Option State)), Good acc → Good (l.foldl f acc) := by
    intro l
    induction l with
    | nil => intro acc g; exact g
    | cons x l ih => intro acc g; exact ih _ (hf _ _ g)
  unfold State.ownCommands at e
  split at e
  · exact ownCommand_only h _ _ _ _ _ _ e
  · extract_lets r at e
    have g : Good r := by
      refine fold _ ?_ _ _ ?_
      · intro acc x g
        split
        · intro _ _ e; cases e
        · exact g
        · rename_i u
          have gu := (g u none rfl).1
          split
          · intro _ _ e; cases e
          · rename_i w hw
            have gw := ownCommand_only gu _ _ _ _ _ _ hw
            split
            · split
              · rename_i z hz
                have gz := ownCommand_only h _ _ _ _ _ _ hz
                split
                · intro _ _ e; cases e; exact ⟨gu, fun _ e => by cases e; exact gz⟩
                · intro _ _ e; cases e; exact ⟨gu, fun _ e => by cases e; exact refuse_only h _ _ _ _ _ _⟩
              · intro _ _ e; cases e
            · intro _ _ e
              cases e
              exact ⟨⟨gw.time, gw.block, gw.mgmt, gw.objs, gw.live, gw.live2, gw.regions, gw.dram, gw.reqs, gw.nextReq, gw.ports, gw.stackTab, gw.pcs, gw.loft, gw.shot, gw.entry, gw.packet, gw.seqNo, gw.keys, gw.test, gw.tokens, gw.free, .inl rfl, gw.pending, gw.frame, gw.state, h.trace, gw.fresh, gw.canon⟩, fun _ e => by cases e⟩
      · intro _ _ e; cases e; exact ⟨h, fun _ e => by cases e⟩
    clear_value r
    split at e
    · rw [← Option.some.inj e]; exact (g _ _ rfl).2 _ rfl
    · rw [← Option.some.inj e]; exact answer_only (g _ _ rfl).1 _ _ _ _
    · cases e

theorem ownerGrants_only (h : Only m a s) : ∀ x1 x2 x3 x4 x5, (hm : Sub 1587656 m := by decide) → Only m a (State.ownerGrants s x1 x2 x3 x4 x5).2 := by
  intro x1 x2 x3 x4 x5 hm
  induction x4 generalizing s x5 with
  | zero => exact h
  | succ n ih =>
    unfold State.ownerGrants
    split
    · exact h
    · exact ih (grant_only h _ _ _ _ (.trans (by decide) hm)) _

theorem passEntries_only (h : Only m a s) : ∀ x1 x2 x3, (hm : Sub 524296 m := by decide) → Only m a (State.passEntries s x1 x2 x3) := by
  intro x1 x2 x3 hm
  refine h.step hm ?_
  replace h : Only 524296 s s := .refl s
  unfold State.passEntries
  try dsimp only
  repeat' (first | with_reducible assumption | decide | intro _ | with_reducible refine issue_only ?_ _ _ ?_
                 | with_reducible refine tallyBlock_only ?_ _ _ _ ?_ | with_reducible refine bump_only ?_ _ _ _ _ ?_
                 | with_reducible apply each_only | with_reducible apply ite_only | with_reducible apply foldl_only
                 | with_reducible apply foldl_only_snd | refine snd_only ‹_ = _› ?_ | refine fst_only ‹_ = _› ?_
                 | split)

theorem patrolSector_only (h : Only m a s) : ∀ x1 x2 x3, (hm : Sub 2627980 m := by decide) → Only m a (State.patrolSector s x1 x2 x3) := by
  intro x1 x2 x3 hm
  refine h.step hm ?_
  replace h : Only 2627980 s s := .refl s
  unfold State.patrolSector
  try dsimp only
  repeat' (first | with_reducible assumption | decide | intro _ | with_reducible refine lookAt_only ?_ _ _ _ _ _ ?_
                 | with_reducible refine settleBad_only ?_ _ _ _ _ _ _ ?_
                 | with_reducible refine dramPut_only ?_ _ _ ?_ | with_reducible refine tallyStack_only ?_ _ _ _ _ ?_
                 | with_reducible refine loseUnit_only ?_ _ _ _ ?_
                 | with_reducible refine integrityEvent_only ?_ _ _ _ ?_ | with_reducible apply ite_only
                 | with_reducible apply foldl_only | with_reducible apply foldl_only_snd | refine snd_only ‹_ = _› ?_
                 | refine fst_only ‹_ = _› ?_ | split)

theorem planCal_only (h : Only m a s) : ∀ x1, (hm : Sub 4096 m := by decide) → Only m a (State.planCal s x1).2 := by
  intro x1 hm
  refine h.step hm ?_
  replace h : Only 4096 s s := .refl s
  unfold State.planCal
  try dsimp only
  repeat' (first | with_reducible assumption | decide | intro _ | with_reducible apply each_only
                 | with_reducible refine modLane_only ?_ _ _ _ ?_ | with_reducible apply ite_only
                 | with_reducible apply foldl_only | with_reducible apply foldl_only_snd | refine snd_only ‹_ = _› ?_
                 | refine fst_only ‹_ = _› ?_ | split)

theorem placeRetrain_only (h : Only m a s) : ∀ x1 x2, (hm : Sub 4104 m := by decide) → Only m a (State.placeRetrain s x1 x2) := by
  intro x1 x2 hm
  refine h.step hm ?_
  replace h : Only 4104 s s := .refl s
  unfold State.placeRetrain
  try dsimp only
  repeat' (first | with_reducible assumption | decide | intro _ | with_reducible refine count_only ?_ _ _ ?_
                 | with_reducible refine modPc_only ?_ _ _ ?_ | with_reducible refine planCal_only ?_ _ ?_
                 | with_reducible apply ite_only | with_reducible apply foldl_only
                 | with_reducible apply foldl_only_snd | refine snd_only ‹_ = _› ?_ | refine fst_only ‹_ = _› ?_
                 | split)

theorem placeSlices_only (h : Only m a s) : ∀ x1 x2, (hm : Sub 4104 m := by decide) → Only m a (State.placeSlices s x1 x2) := by
  intro x1 x2 hm
  refine h.step hm ?_
  replace h : Only 4104 s s := .refl s
  unfold State.placeSlices
  try dsimp only
  repeat' (first | with_reducible assumption | decide | intro _ | with_reducible apply each_only
                 | with_reducible refine modPc_only ?_ _ _ ?_ | with_reducible refine count_only ?_ _ _ ?_
                 | with_reducible apply ite_only | with_reducible apply foldl_only
                 | with_reducible apply foldl_only_snd | refine snd_only ‹_ = _› ?_ | refine fst_only ‹_ = _› ?_
                 | split)

theorem placeSwitch_only (h : Only m a s) : ∀ x1 x2, (hm : Sub 6152 m := by decide) → Only m a (State.placeSwitch s x1 x2) := by
  intro x1 x2 hm
  refine h.step hm ?_
  replace h : Only 6152 s s := .refl s
  unfold State.placeSwitch
  try dsimp only
  repeat' (first | with_reducible assumption | decide | intro _ | with_reducible apply each_only
                 | with_reducible refine modPc_only ?_ _ _ ?_ | with_reducible refine modStack_only ?_ _ _ ?_
                 | with_reducible refine bump_only ?_ _ _ _ _ ?_ | with_reducible apply ite_only
                 | with_reducible apply foldl_only | with_reducible apply foldl_only_snd | refine snd_only ‹_ = _› ?_
                 | refine fst_only ‹_ = _› ?_ | split)

theorem post_only (h : Only m a s) : ∀ x1 x2, (hm : Sub 4878158 m := by decide) → Only m a (State.post s x1 x2) := by
  intro x1 x2 hm
  refine h.step hm ?_
  replace h : Only 4878158 s s := .refl s
  unfold State.post
  try dsimp only
  repeat' (first | with_reducible assumption | decide | intro _ | with_reducible refine hostPost_only ?_ _ _ _ ?_
                 | with_reducible refine tallyBlock_only ?_ _ _ _ ?_ | with_reducible refine giveData_only ?_ _ _ ?_
                 | with_reducible refine refuseReq_only ?_ _ _ ?_ | with_reducible refine count_only ?_ _ _ ?_
                 | with_reducible refine pushReq_only ?_ _ ?_ | with_reducible refine holdRelease_only ?_ _ _ ?_
                 | with_reducible apply ite_only | with_reducible apply foldl_only
                 | with_reducible apply foldl_only_snd | refine snd_only ‹_ = _› ?_ | refine fst_only ‹_ = _› ?_
                 | split)

theorem rankGrants_only (h : Only m a s) : ∀ x1 x2 x3 x4, (hm : Sub 1587656 m := by decide) → Only m a (State.rankGrants s x1 x2 x3 x4) := by
  intro x1 x2 x3 x4 hm
  induction x3 generalizing s x4 with
  | zero => exact h
  | succ n ih =>
    unfold State.rankGrants
    extract_lets l nth
    split
    · exact h
    · rename_i rank r _
      extract_lets s1 s2 s3
      have up : ∀ {t}, Only 1587656 s t → Only m a t := fun g => h.step hm g
      have g2 : Only 1587656 s s2 := modStack_only (grant_only (.refl s) _ _ _ _) _ _
      have g3 : Only 1587656 s s3 := ite_only (tallyStack_only (count_only g2 _ _) _ _ _ _) g2
      exact ih (up g3) _

theorem readLens_only (h : Only m a s) : ∀ x1, (hm : Sub 682830 m := by decide) → Only m a (State.readLens s x1) := by
  intro x1 hm
  refine h.step hm ?_
  replace h : Only 682830 s s := .refl s
  unfold State.readLens
  try dsimp only
  repeat' (first | with_reducible assumption | decide | intro _ | with_reducible refine modWork_only ?_ _ _ ?_
                 | with_reducible refine engAsk_only ?_ _ _ _ ?_ | with_reducible refine engDone_only ?_ _ ?_
                 | with_reducible refine poisonAbort_only ?_ _ ?_ | with_reducible refine askAbort_only ?_ _ _ _ ?_
                 | with_reducible apply ite_only | with_reducible apply foldl_only
                 | with_reducible apply foldl_only_snd | refine snd_only ‹_ = _› ?_ | refine fst_only ‹_ = _› ?_
                 | split)

theorem renumber_only (h : Only m a s) : ∀ x1 x2 x3, (hm : Sub 8192 m := by decide) → Only m a (State.renumber s x1 x2 x3) := by
  intro x1 x2 x3 hm
  refine h.step hm ?_
  replace h : Only 8192 s s := .refl s
  unfold State.renumber
  try dsimp only
  repeat' (first | with_reducible assumption | decide | intro _ | with_reducible refine modLoft_only ?_ _ ?_
                 | with_reducible apply ite_only | with_reducible apply foldl_only
                 | with_reducible apply foldl_only_snd | refine snd_only ‹_ = _› ?_ | refine fst_only ‹_ = _› ?_
                 | split)

theorem replayRow_only (h : Only m a s) : ∀ x1 x2, (hm : Sub 528392 m := by decide) → Only m a (State.replayRow s x1 x2) := by
  intro x1 x2 hm
  refine h.step hm ?_
  replace h : Only 528392 s s := .refl s
  unfold State.replayRow
  try dsimp only
  repeat' (first | with_reducible assumption | decide | intro _ | with_reducible refine modPc_only ?_ _ _ ?_
                 | with_reducible refine issueRefresh_only ?_ _ _ ?_
                 | with_reducible refine stBump_only ?_ _ _ _ _ _ ?_ | with_reducible refine noteAct_only ?_ _ _ _ ?_
                 | with_reducible apply ite_only | with_reducible apply foldl_only
                 | with_reducible apply foldl_only_snd | refine snd_only ‹_ = _› ?_ | refine fst_only ‹_ = _› ?_
                 | split)

theorem replayStep_only (h : Only m a s) : ∀ x1 x2, (hm : Sub 528392 m := by decide) → Only m a (State.replayStep s x1 x2) := by
  intro x1 x2 hm
  refine h.step hm ?_
  replace h : Only 528392 s s := .refl s
  unfold State.replayStep
  try dsimp only
  repeat' (first | with_reducible assumption | decide | intro _ | with_reducible refine modPc_only ?_ _ _ ?_
                 | with_reducible refine replayRow_only ?_ _ _ ?_ | with_reducible apply ite_only
                 | with_reducible apply foldl_only | with_reducible apply foldl_only_snd | refine snd_only ‹_ = _› ?_
                 | refine fst_only ‹_ = _› ?_ | split)

theorem reportBoundary_only (h : Only m a s) : (hm : Sub 8 m := by decide) → Only m a (State.reportBoundary s) := by
  intro hm
  refine h.step hm ?_
  replace h : Only 8 s s := .refl s
  unfold State.reportBoundary
  try dsimp only
  repeat' (first | with_reducible assumption | decide | intro _ | with_reducible apply each_only
                 | with_reducible refine stSet_only ?_ _ _ _ _ _ ?_ | with_reducible refine setObj_only ?_ _ _ _ _ ?_
                 | with_reducible apply ite_only | with_reducible apply foldl_only
                 | with_reducible apply foldl_only_snd | refine snd_only ‹_ = _› ?_ | refine fst_only ‹_ = _› ?_
                 | split)

theorem restartLease_only (h : Only m a s) : ∀ x1, (hm : Sub 4 m := by decide) → Only m a (State.restartLease s x1) := by
  intro x1 hm
  refine h.step hm ?_
  replace h : Only 4 s s := .refl s
  unfold State.restartLease
  try dsimp only
  repeat' (first | with_reducible assumption | decide | intro _ | with_reducible refine modSession_only ?_ _ _ ?_
                 | with_reducible apply ite_only | with_reducible apply foldl_only
                 | with_reducible apply foldl_only_snd | refine snd_only ‹_ = _› ?_ | refine fst_only ‹_ = _› ?_
                 | split)

theorem retireWrites_only (h : Only m a s) : ∀ x1, (hm : Sub 4096 m := by decide) → Only m a (State.retireWrites s x1) := by
  intro x1 hm
  refine h.step hm ?_
  replace h : Only 4096 s s := .refl s
  unfold State.retireWrites
  try dsimp only
  repeat' (first | with_reducible assumption | decide | intro _ | with_reducible refine modPc_only ?_ _ _ ?_
                 | with_reducible apply ite_only | with_reducible apply foldl_only
                 | with_reducible apply foldl_only_snd | refine snd_only ‹_ = _› ?_ | refine fst_only ‹_ = _› ?_
                 | split)

theorem rowDone_only (h : Only m a s) : ∀ x1 x2 x3, (hm : Sub 682830 m := by decide) → Only m a (State.rowDone s x1 x2 x3) := by
  intro x1 x2 x3 hm
  refine h.step hm ?_
  replace h : Only 682830 s s := .refl s
  unfold State.rowDone
  try dsimp only
  repeat' (first | with_reducible assumption | decide | intro _ | with_reducible refine countVals_only ?_ _ _ _ ?_
                 | with_reducible refine shotOut_only ?_ _ _ _ _ _ ?_ | with_reducible refine modWork_only ?_ _ _ ?_
                 | with_reducible apply ite_only | with_reducible apply foldl_only
                 | with_reducible apply foldl_only_snd | refine snd_only ‹_ = _› ?_ | refine fst_only ‹_ = _› ?_
                 | split)

theorem rowRest_only (h : Only m a s) : ∀ x1, (hm : Sub 528392 m := by decide) → Only m a (State.rowRest s x1) := by
  intro x1 hm
  refine h.step hm ?_
  replace h : Only 528392 s s := .refl s
  unfold State.rowRest
  try dsimp only
  repeat' (first | with_reducible assumption | decide | intro _ | with_reducible refine modPc_only ?_ _ _ ?_
                 | with_reducible refine stBump_only ?_ _ _ _ _ _ ?_ | with_reducible refine issueAct_only ?_ _ _ ?_
                 | with_reducible apply ite_only | with_reducible apply foldl_only
                 | with_reducible apply foldl_only_snd | refine snd_only ‹_ = _› ?_ | refine fst_only ‹_ = _› ?_
                 | split)

theorem rowStep_only (h : Only m a s) : ∀ x1, (hm : Sub 528392 m := by decide) → Only m a (State.rowStep s x1) := by
  intro x1 hm
  refine h.step hm ?_
  replace h : Only 528392 s s := .refl s
  unfold State.rowStep
  try dsimp only
  repeat' (first | with_reducible assumption | decide | intro _ | with_reducible refine issueRefresh_only ?_ _ _ ?_
                 | with_reducible refine modPc_only ?_ _ _ ?_ | with_reducible refine rowRest_only ?_ _ ?_
                 | with_reducible apply ite_only | with_reducible apply foldl_only
                 | with_reducible apply foldl_only_snd | refine snd_only ‹_ = _› ?_ | refine fst_only ‹_ = _› ?_
                 | split)

theorem rowsMoved_only (h : Only m a s) : ∀ x1, (hm : Sub 2101248 m := by decide) → Only m a (State.rowsMoved s x1) := by
  intro x1 hm
  refine h.step hm ?_
  replace h : Only 2101248 s s := .refl s
  unfold State.rowsMoved
  try dsimp only
  repeat' (first | with_reducible assumption | decide | intro _ | with_reducible apply each_only
                 | with_reducible refine takeFree_only ?_ ?_ | with_reducible refine modPc_only ?_ _ _ ?_
                 | with_reducible apply ite_only | with_reducible apply foldl_only
                 | with_reducible apply foldl_only_snd | refine snd_only ‹_ = _› ?_ | refine fst_only ‹_ = _› ?_
                 | split)

theorem shiftSheet_only (h : Only m a s) : ∀ x1, (hm : Sub 4104 m := by decide) → Only m a (State.shiftSheet s x1) := by
  intro x1 hm
  refine h.step hm ?_
  replace h : Only 4104 s s := .refl s
  unfold State.shiftSheet
  try dsimp only
  repeat' (first | with_reducible assumption | decide | intro _ | with_reducible refine stBump_only ?_ _ _ _ _ _ ?_
                 | with_reducible refine modPc_only ?_ _ _ ?_ | with_reducible refine count_only ?_ _ _ ?_
                 | with_reducible apply ite_only | with_reducible apply foldl_only
                 | with_reducible apply foldl_only_snd | refine snd_only ‹_ = _› ?_ | refine fst_only ‹_ = _› ?_
                 | split)

theorem sliceFailed_only (h : Only m a s) : ∀ x1 x2, (hm : Sub 538636 m := by decide) → Only m a (State.sliceFailed s x1 x2) := by
  intro x1 x2 hm
  refine h.step hm ?_
  replace h : Only 538636 s s := .refl s
  unfold State.sliceFailed
  try dsimp only
  repeat' (first | with_reducible assumption | decide | intro _ | with_reducible refine reportLanes_only ?_ _ _ ?_
                 | with_reducible apply each_only | with_reducible refine rowFault_only ?_ _ _ _ _ _ ?_
                 | with_reducible refine hardWord_only ?_ _ _ ?_ | with_reducible refine modTest_only ?_ _ ?_
                 | with_reducible apply ite_only | with_reducible apply foldl_only
                 | with_reducible apply foldl_only_snd | refine snd_only ‹_ = _› ?_ | refine fst_only ‹_ = _› ?_
                 | split)

theorem sliceReads_only (h : Only m a s) : ∀ x1 x2, (hm : Sub 2627980 m := by decide) → Only m a (State.sliceReads s x1 x2) := by
  intro x1 x2 hm
  refine h.step hm ?_
  replace h : Only 2627980 s s := .refl s
  unfold State.sliceReads
  try dsimp only
  repeat' (first | with_reducible assumption | decide | intro _ | with_reducible apply each_only
                 | with_reducible refine noteAct_only ?_ _ _ _ ?_
                 | with_reducible refine patrolSector_only ?_ _ _ _ ?_ | with_reducible apply ite_only
                 | with_reducible apply foldl_only | with_reducible apply foldl_only_snd | refine snd_only ‹_ = _› ?_
                 | refine fst_only ‹_ = _› ?_ | split)

theorem sliceResult_only (h : Only m a s) : ∀ x1 x2, (hm : Sub 538636 m := by decide) → Only m a (State.sliceResult s x1 x2) := by
  intro x1 x2 hm
  refine h.step hm ?_
  replace h : Only 538636 s s := .refl s
  unfold State.sliceResult
  try dsimp only
  repeat' (first | with_reducible assumption | decide | intro _ | with_reducible refine count_only ?_ _ _ ?_
                 | with_reducible refine setObj_only ?_ _ _ _ _ ?_ | with_reducible refine modTest_only ?_ _ ?_
                 | with_reducible refine logEvent_only ?_ _ _ _ _ _ _ ?_
                 | with_reducible refine sliceFailed_only ?_ _ _ ?_ | with_reducible apply ite_only
                 | with_reducible apply foldl_only | with_reducible apply foldl_only_snd | refine snd_only ‹_ = _› ?_
                 | refine fst_only ‹_ = _› ?_ | split)

theorem slipRecord_only (h : Only m a s) : ∀ x1 x2 x3, (hm : Sub 32776 m := by decide) → Only m a (State.slipRecord s x1 x2 x3) := by
  intro x1 x2 x3 hm
  refine h.step hm ?_
  replace h : Only 32776 s s := .refl s
  unfold State.slipRecord
  try dsimp only
  repeat' (first | with_reducible assumption | decide | intro _ | with_reducible refine count_only ?_ _ _ ?_
                 | with_reducible refine sendRecord_only ?_ _ _ _ ?_ | with_reducible apply ite_only
                 | with_reducible apply foldl_only | with_reducible apply foldl_only_snd | refine snd_only ‹_ = _› ?_
                 | refine fst_only ‹_ = _› ?_ | split)

theorem slipLast_only (h : Only m a s) : ∀ x1, (hm : Sub 2129928 m := by decide) → Only m a (State.slipLast s x1) := by
  intro x1 hm
  refine h.step hm ?_
  replace h : Only 2129928 s s := .refl s
  unfold State.slipLast
  try dsimp only
  repeat' (first | with_reducible assumption | decide | intro _ | with_reducible refine takeFree_only ?_ ?_
                 | with_reducible refine slipRecord_only ?_ _ _ _ ?_ | with_reducible apply ite_only
                 | with_reducible apply foldl_only | with_reducible apply foldl_only_snd | refine snd_only ‹_ = _› ?_
                 | refine fst_only ‹_ = _› ?_ | split)

theorem spdm_only (h : Only m a s) : ∀ x1 x2, (hm : Sub 4194308 m := by decide) → Only m a (State.spdm s x1 x2) := by
  intro x1 x2 hm
  refine h.step hm ?_
  replace h : Only 4194308 s s := .refl s
  unfold State.spdm
  try dsimp only
  repeat' (first | with_reducible assumption | decide | intro _ | with_reducible refine mailboxDone_only ?_ _ ?_
                 | with_reducible refine emit_only ?_ _ ?_ | with_reducible refine signalPending_only ?_ _ ?_
                 | with_reducible apply ite_only | with_reducible apply foldl_only
                 | with_reducible apply foldl_only_snd | refine snd_only ‹_ = _› ?_ | refine fst_only ‹_ = _› ?_
                 | split)

theorem spdmGate_only {rq : Rq} {f : State → Option Nat → State} (hf : ∀ t n, Only m a t → Only m a (f t n)) (h : Only m a s)
    (hm : Sub 4194316 m := by decide) : Only m a (s.spdmGate rq f) := by
  unfold State.spdmGate
  split
  · exact dropMessage_only h _ (.trans (by decide) hm)
  · split
    · exact hf _ _ h
    · split
      · exact gate_drop_only ‹_› h (.trans (by decide) hm)
      · exact spdm_only (gate_noSession_only ‹_› h (.trans (by decide) hm)) _ _ (.trans (by decide) hm)
      · exact hf _ _ (gate_go_only ‹_› h (.trans (by decide) hm))

theorem spdmAny_only (h : Only m a s) : ∀ x1 x2, (hm : Sub 4194316 m := by decide) → Only m a (State.spdmAny s x1 x2) := by
  intro x1 x2 hm
  refine h.step hm ?_
  replace h : Only 4194316 s s := .refl s
  unfold State.spdmAny
  try dsimp only
  repeat' (first | with_reducible assumption | decide | intro _
                 | (with_reducible refine spdmGate_only (hm := ?_) ?_ ?_) | with_reducible refine spdm_only ?_ _ _ ?_
                 | with_reducible apply ite_only | with_reducible apply foldl_only
                 | with_reducible apply foldl_only_snd | refine snd_only ‹_ = _› ?_ | refine fst_only ‹_ = _› ?_
                 | split)

theorem spdmInside_only {rq : Rq} {f : State → Nat → State} (hf : ∀ t n, Only m a t → Only m a (f t n)) (h : Only m a s)
    (hm : Sub 4194316 m := by decide) : Only m a (s.spdmInside rq f) := by
  unfold State.spdmInside
  refine spdmGate_only (fun t n ht => ?_) h (.trans (by decide) hm)
  split
  · exact hf _ _ ht
  · exact spdm_only ht _ _ (.trans (by decide) hm)

theorem srCommand_only (h : Only m a s) : ∀ x1 x2 x3 x4 x5, (hm : Sub 528384 m := by decide) → Only m a (State.srCommand s x1 x2 x3 x4 x5) := by
  intro x1 x2 x3 x4 x5 hm
  refine h.step hm ?_
  replace h : Only 528384 s s := .refl s
  unfold State.srCommand
  try dsimp only
  repeat' (first | with_reducible assumption | decide | intro _ | with_reducible refine charge_only ?_ _ _ ?_
                 | with_reducible refine modPc_only ?_ _ _ ?_ | with_reducible apply ite_only
                 | with_reducible apply foldl_only | with_reducible apply foldl_only_snd | refine snd_only ‹_ = _› ?_
                 | refine fst_only ‹_ = _› ?_ | split)

theorem stageWrite_only (h : Only m a s) : ∀ x1 x2 x3 x4 x5 x6 x7, (hm : Sub 4194316 m := by decide) → Only m a (State.stageWrite s x1 x2 x3 x4 x5 x6 x7) := by
  intro x1 x2 x3 x4 x5 x6 x7 hm
  refine h.step hm ?_
  replace h : Only 4194316 s s := .refl s
  unfold State.stageWrite
  try dsimp only
  repeat' (first | with_reducible assumption | decide | intro _ | with_reducible refine brokenLock_only ?_ _ ?_
                 | with_reducible refine refuse_only ?_ _ _ _ _ _ _ ?_
                 | with_reducible refine answer_only ?_ _ _ _ _ ?_ | with_reducible refine restartLease_only ?_ _ ?_
                 | with_reducible refine modSession_only ?_ _ _ ?_ | with_reducible apply ite_only
                 | with_reducible apply foldl_only | with_reducible apply foldl_only_snd | refine snd_only ‹_ = _› ?_
                 | refine fst_only ‹_ = _› ?_ | split)

theorem startBag_only (h : Only m a s) : ∀ x1 x2, (hm : Sub 682830 m := by decide) → Only m a (State.startBag s x1 x2) := by
  intro x1 x2 hm
  refine h.step hm ?_
  replace h : Only 682830 s s := .refl s
  unfold State.startBag
  try dsimp only
  repeat' (first | with_reducible assumption | decide | intro _ | with_reducible refine modWork_only ?_ _ _ ?_
                 | with_reducible refine finishBag_only ?_ _ _ ?_ | with_reducible apply ite_only
                 | with_reducible apply foldl_only | with_reducible apply foldl_only_snd | refine snd_only ‹_ = _› ?_
                 | refine fst_only ‹_ = _› ?_ | split)

theorem startSlice_only (h : Only m a s) : ∀ x1 x2 x3, (hm : Sub 528384 m := by decide) → Only m a (State.startSlice s x1 x2 x3) := by
  intro x1 x2 x3 hm
  refine h.step hm ?_
  replace h : Only 528384 s s := .refl s
  unfold State.startSlice
  try dsimp only
  repeat' (first | with_reducible assumption | decide | intro _ | with_reducible refine modTest_only ?_ _ ?_
                 | with_reducible refine modPc_only ?_ _ _ ?_ | with_reducible apply ite_only
                 | with_reducible apply foldl_only | with_reducible apply foldl_only_snd | refine snd_only ‹_ = _› ?_
                 | refine fst_only ‹_ = _› ?_ | split)

theorem stateRequest_only (h : Only m a s) : ∀ x1 x2, (hm : Sub 37748750 m := by decide) → Only m a (State.stateRequest s x1 x2) := by
  intro x1 x2 hm
  refine h.step hm ?_
  replace h : Only 37748750 s s := .refl s
  unfold State.stateRequest
  try dsimp only
  repeat' (first | with_reducible assumption | decide | exact ⟨rfl, rfl, rfl⟩
                 | with_reducible refine modBlock_states ?_ _ ?_ | intro _
                 | (with_reducible refine directWrite_only (hm := ?_) ?_ ?_)
                 | with_reducible refine asks_only ?_ _ _ ?_ | with_reducible apply ite_only
                 | with_reducible apply foldl_only | with_reducible apply foldl_only_snd | refine snd_only ‹_ = _› ?_
                 | refine fst_only ‹_ = _› ?_ | split)

theorem storeProfiles_only (h : Only m a s) : ∀ x1, (hm : Sub 8 m := by decide) → Only m a (State.storeProfiles s x1) := by
  intro x1 hm
  refine h.step hm ?_
  replace h : Only 8 s s := .refl s
  unfold State.storeProfiles
  try dsimp only
  repeat' (first | with_reducible assumption | decide | intro _ | with_reducible apply each_only
                 | with_reducible refine setObj_only ?_ _ _ _ _ ?_ | with_reducible apply ite_only
                 | with_reducible apply foldl_only | with_reducible apply foldl_only_snd | refine snd_only ‹_ = _› ?_
                 | refine fst_only ‹_ = _› ?_ | split)

theorem storeRecord_only (h : Only m a s) : ∀ x1 x2 x3 x4, (hm : Sub 748366 m := by decide) → Only m a (State.storeRecord s x1 x2 x3 x4) := by
  intro x1 x2 x3 x4 hm
  refine h.step hm ?_
  replace h : Only 748366 s s := .refl s
  unfold State.storeRecord
  try dsimp only
  repeat' (first | with_reducible assumption | decide | intro _ | with_reducible refine chainPage_only ?_ _ ?_
                 | with_reducible refine spillWrite_only ?_ _ _ ?_ | with_reducible refine modEgress_only ?_ _ _ ?_
                 | with_reducible apply ite_only | with_reducible apply foldl_only
                 | with_reducible apply foldl_only_snd | refine snd_only ‹_ = _› ?_ | refine fst_only ‹_ = _› ?_
                 | split)

theorem sweepSector_only (h : Only m a s) : ∀ x1 x2 x3, (hm : Sub 2627980 m := by decide) → Only m a (State.sweepSector s x1 x2 x3) := by
  intro x1 x2 x3 hm
  refine h.step hm ?_
  replace h : Only 2627980 s s := .refl s
  unfold State.sweepSector
  try dsimp only
  repeat' (first | with_reducible assumption | decide | intro _ | with_reducible refine lookAt_only ?_ _ _ _ _ _ ?_
                 | with_reducible refine settleBad_only ?_ _ _ _ _ _ _ ?_
                 | with_reducible refine dramPut_only ?_ _ _ ?_ | with_reducible refine bake_only ?_ _ _ ?_
                 | with_reducible refine count_only ?_ _ _ ?_ | with_reducible apply ite_only
                 | with_reducible apply foldl_only | with_reducible apply foldl_only_snd | refine snd_only ‹_ = _› ?_
                 | refine fst_only ‹_ = _› ?_ | split)

theorem tagsGone_only (h : Only m a s) : ∀ x1, (hm : Sub 8512 m := by decide) → Only m a (State.tagsGone s x1) := by
  intro x1 hm
  refine h.step hm ?_
  replace h : Only 8512 s s := .refl s
  unfold State.tagsGone
  try dsimp only
  repeat' (first | with_reducible assumption | decide | intro _ | with_reducible apply each_only
                 | with_reducible refine modSlot_only ?_ _ _ ?_ | with_reducible refine modLoft_only ?_ _ ?_
                 | with_reducible refine unfetch_only ?_ _ ?_ | with_reducible apply ite_only
                 | with_reducible apply foldl_only | with_reducible apply foldl_only_snd | refine snd_only ‹_ = _› ?_
                 | refine fst_only ‹_ = _› ?_ | split)

theorem toStandby_only (h : Only m a s) : ∀ x1, (hm : Sub 526478 m := by decide) → Only m a (State.toStandby s x1) := by
  intro x1 hm
  refine h.step hm ?_
  replace h : Only 526478 s s := .refl s
  unfold State.toStandby
  try dsimp only
  repeat' (first | with_reducible assumption | decide | intro _ | with_reducible refine modStack_only ?_ _ _ ?_
                 | with_reducible refine setReady_only ?_ _ _ ?_ | with_reducible refine setObj_only ?_ _ _ _ _ ?_
                 | with_reducible apply each_only | with_reducible refine joinSpares_only ?_ _ _ ?_
                 | with_reducible refine setLaneState_only ?_ _ _ _ _ ?_ | with_reducible refine modTest_only ?_ _ ?_
                 | with_reducible refine dramFilter_only ?_ _ ?_ | with_reducible apply ite_only
                 | with_reducible apply foldl_only | with_reducible apply foldl_only_snd | refine snd_only ‹_ = _› ?_
                 | refine fst_only ‹_ = _› ?_ | split)

theorem tookRebuild_only (h : Only m a s) : ∀ x1 x2, (hm : Sub 64 m := by decide) → Only m a (State.tookRebuild s x1 x2) := by
  intro x1 x2 hm
  refine h.step hm ?_
  replace h : Only 64 s s := .refl s
  unfold State.tookRebuild
  try dsimp only
  repeat' (first | with_reducible assumption | decide | intro _ | with_reducible refine modSlot_only ?_ _ _ ?_
                 | with_reducible apply ite_only | with_reducible apply foldl_only
                 | with_reducible apply foldl_only_snd | refine snd_only ‹_ = _› ?_ | refine fst_only ‹_ = _› ?_
                 | split)

theorem wakeCal_only (h : Only m a s) : ∀ x1 x2 x3, (hm : Sub 2103308 m := by decide) → Only m a (State.wakeCal s x1 x2 x3) := by
  intro x1 x2 x3 hm
  refine h.step hm ?_
  replace h : Only 2103308 s s := .refl s
  unfold State.wakeCal
  try dsimp only
  repeat' (first | with_reducible assumption | decide | intro _ | with_reducible refine modPc_only ?_ _ _ ?_
                 | with_reducible refine applyCal_only ?_ _ _ _ ?_ | with_reducible apply ite_only
                 | with_reducible apply foldl_only | with_reducible apply foldl_only_snd | refine snd_only ‹_ = _› ?_
                 | refine fst_only ‹_ = _› ?_ | split)

theorem wakeLine_only (h : Only m a s) : ∀ x1 x2, (hm : Sub 680264 m := by decide) → Only m a (State.wakeLine s x1 x2) := by
  intro x1 x2 hm
  refine h.step hm ?_
  replace h : Only 680264 s s := .refl s
  unfold State.wakeLine
  try dsimp only
  repeat' (first | with_reducible assumption | decide | intro _ | with_reducible apply each_only
                 | with_reducible refine fetchRefused_only ?_ _ _ _ ?_
                 | with_reducible refine lineServe_only ?_ _ _ ?_ | with_reducible apply ite_only
                 | with_reducible apply foldl_only | with_reducible apply foldl_only_snd | refine snd_only ‹_ = _› ?_
                 | refine fst_only ‹_ = _› ?_ | split)

theorem wakeTrain_only (h : Only m a s) : ∀ x1 x2, (hm : Sub 2103310 m := by decide) → Only m a (State.wakeTrain s x1 x2) := by
  intro x1 x2 hm
  refine h.step hm ?_
  replace h : Only 2103310 s s := .refl s
  unfold State.wakeTrain
  try dsimp only
  repeat' (first | with_reducible assumption | decide | intro _ | with_reducible refine fullTrain_only ?_ _ _ ?_
                 | with_reducible refine bringFail_only ?_ _ ?_ | with_reducible apply each_only
                 | with_reducible refine modPc_only ?_ _ _ ?_ | with_reducible refine bringLosePc_only ?_ _ _ ?_
                 | with_reducible apply ite_only | with_reducible apply foldl_only
                 | with_reducible apply foldl_only_snd | refine snd_only ‹_ = _› ?_ | refine fst_only ‹_ = _› ?_
                 | split)

theorem withFetchWord_only (h : Only m a s) : ∀ x1 x2, (hm : Sub 8388608 m := by decide) → Only m a (State.withFetchWord s x1 x2) := by
  intro x1 x2 hm
  refine h.step hm ?_
  unfold State.withFetchWord
  split
  · exact .refl s
  · exact .raw 8388608 (.inr rfl) (.inr rfl) (.inr rfl) (.inr rfl) (.inr rfl) (.inr rfl) (.inr rfl) (.inr rfl) (.inr rfl) (.inr rfl) (.inr rfl) (.inr rfl) (.inr rfl) (.inr rfl) (.inr rfl) (.inr rfl) (.inr rfl) (.inr rfl) (.inr rfl) (.inr rfl) (.inr rfl) (.inr rfl) (.inr rfl) (.inl rfl)

theorem writeObject_only (h : Only m a s) : ∀ x1 x2 x3 x4 x5 x6, (hm : Sub 5204831 m := by decide) → Only m a (State.writeObject s x1 x2 x3 x4 x5 x6) := by
  intro x1 x2 x3 x4 x5 x6 hm
  refine h.step hm ?_
  replace h : Only 5204831 s s := .refl s
  unfold State.writeObject
  try dsimp only
  repeat' (first | with_reducible assumption | decide | intro _ | with_reducible refine refuse_only ?_ _ _ _ _ _ _ ?_
                 | with_reducible refine stageWrite_only ?_ _ _ _ _ _ _ _ ?_
                 | refine ownCommands_only ?_ _ _ _ _ _ ‹_ = some _› ?_
                 | with_reducible refine answer_only ?_ _ _ _ _ ?_ | with_reducible apply each_only
                 | with_reducible refine directSet_only ?_ _ _ _ _ ?_ | with_reducible apply ite_only
                 | with_reducible apply foldl_only | with_reducible apply foldl_only_snd | refine snd_only ‹_ = _› ?_
                 | refine fst_only ‹_ = _› ?_ | split)

theorem execRead_only (h : Only m a s) : ∀ x1, ∀ t, execRead x1 s = Host.Outcome.next t → (hm : Sub 659278 m := by decide) → Only m a t := by
  intro x1 t e hm
  refine h.step hm ?_
  replace h : Only 659278 s s := .refl s
  suffices g : Runs 659278 s (execRead x1 s) from g.only t e
  clear e t
  unfold execRead
  try dsimp only
  repeat' (first | with_reducible assumption | decide | with_reducible refine runs_intro ?_
                 | with_reducible apply runs_ite | with_reducible exact runs_refused
                 | with_reducible exact runs_fault | intro _ | with_reducible refine acceptAccess_only ?_ _ _ ?_
                 | with_reducible apply ite_only | with_reducible apply foldl_only
                 | with_reducible apply foldl_only_snd | refine snd_only ‹_ = _› ?_ | refine fst_only ‹_ = _› ?_
                 | split)

theorem execWrite_only (h : Only m a s) : ∀ x1, ∀ t, execWrite x1 s = Host.Outcome.next t → (hm : Sub 659278 m := by decide) → Only m a t := by
  intro x1 t e hm
  refine h.step hm ?_
  replace h : Only 659278 s s := .refl s
  suffices g : Runs 659278 s (execWrite x1 s) from g.only t e
  clear e t
  unfold execWrite
  try dsimp only
  repeat' (first | with_reducible assumption | decide | with_reducible refine runs_intro ?_
                 | with_reducible apply runs_ite | with_reducible exact runs_refused
                 | with_reducible exact runs_fault | intro _ | with_reducible refine acceptAccess_only ?_ _ _ ?_
                 | with_reducible apply ite_only | with_reducible apply foldl_only
                 | with_reducible apply foldl_only_snd | refine snd_only ‹_ = _› ?_ | refine fst_only ‹_ = _› ?_
                 | split)

theorem execAdd_only (h : Only m a s) : ∀ x1, ∀ t, execAdd x1 s = Host.Outcome.next t → (hm : Sub 659278 m := by decide) → Only m a t := by
  intro x1 t e hm
  refine h.step hm ?_
  replace h : Only 659278 s s := .refl s
  suffices g : Runs 659278 s (execAdd x1 s) from g.only t e
  clear e t
  unfold execAdd
  try dsimp only
  repeat' (first | with_reducible assumption | decide | with_reducible refine runs_intro ?_
                 | with_reducible apply runs_ite | with_reducible exact runs_refused
                 | with_reducible exact runs_fault | intro _ | with_reducible refine acceptAccess_only ?_ _ _ ?_
                 | with_reducible apply ite_only | with_reducible apply foldl_only
                 | with_reducible apply foldl_only_snd | refine snd_only ‹_ = _› ?_ | refine fst_only ‹_ = _› ?_
                 | split)

theorem execSwap_only (h : Only m a s) : ∀ x1, ∀ t, execSwap x1 s = Host.Outcome.next t → (hm : Sub 659278 m := by decide) → Only m a t := by
  intro x1 t e hm
  refine h.step hm ?_
  replace h : Only 659278 s s := .refl s
  suffices g : Runs 659278 s (execSwap x1 s) from g.only t e
  clear e t
  unfold execSwap
  try dsimp only
  repeat' (first | with_reducible assumption | decide | with_reducible refine runs_intro ?_
                 | with_reducible apply runs_ite | with_reducible exact runs_refused
                 | with_reducible exact runs_fault | intro _ | with_reducible refine acceptAccess_only ?_ _ _ ?_
                 | with_reducible apply ite_only | with_reducible apply foldl_only
                 | with_reducible apply foldl_only_snd | refine snd_only ‹_ = _› ?_ | refine fst_only ‹_ = _› ?_
                 | split)

theorem execCas_only (h : Only m a s) : ∀ x1, ∀ t, execCas x1 s = Host.Outcome.next t → (hm : Sub 659278 m := by decide) → Only m a t := by
  intro x1 t e hm
  refine h.step hm ?_
  replace h : Only 659278 s s := .refl s
  suffices g : Runs 659278 s (execCas x1 s) from g.only t e
  clear e t
  unfold execCas
  try dsimp only
  repeat' (first | with_reducible assumption | decide | with_reducible refine runs_intro ?_
                 | with_reducible apply runs_ite | with_reducible exact runs_refused
                 | with_reducible exact runs_fault | intro _ | with_reducible refine acceptAccess_only ?_ _ _ ?_
                 | with_reducible apply ite_only | with_reducible apply foldl_only
                 | with_reducible apply foldl_only_snd | refine snd_only ‹_ = _› ?_ | refine fst_only ‹_ = _› ?_
                 | split)

theorem execFence_only (h : Only m a s) : ∀ x1, ∀ t, execFence x1 s = Host.Outcome.next t → (hm : Sub 526088 m := by decide) → Only m a t := by
  intro x1 t e hm
  refine h.step hm ?_
  replace h : Only 526088 s s := .refl s
  suffices g : Runs 526088 s (execFence x1 s) from g.only t e
  clear e t
  unfold execFence
  try dsimp only
  repeat' (first | with_reducible assumption | decide | with_reducible refine runs_intro ?_
                 | with_reducible apply runs_ite | with_reducible exact runs_refused
                 | with_reducible exact runs_fault | intro _ | with_reducible refine tallyBlock_only ?_ _ _ _ ?_
                 | with_reducible refine refuseReq_only ?_ _ _ ?_ | with_reducible refine count_only ?_ _ _ ?_
                 | with_reducible refine pushReq_only ?_ _ ?_ | with_reducible apply ite_only
                 | with_reducible apply foldl_only | with_reducible apply foldl_only_snd | refine snd_only ‹_ = _› ?_
                 | refine fst_only ‹_ = _› ?_ | split)

theorem execReservedOperation_only (h : Only m a s) : ∀ x1 x2 x3, ∀ t, execReservedOperation x1 x2 x3 s = Host.Outcome.next t → (hm : Sub 1792 m := by decide) → Only m a t := by
  intro x1 x2 x3 t e hm
  refine h.step hm ?_
  replace h : Only 1792 s s := .refl s
  suffices g : Runs 1792 s (execReservedOperation x1 x2 x3 s) from g.only t e
  clear e t
  unfold execReservedOperation
  try dsimp only
  repeat' (first | with_reducible assumption | decide | with_reducible refine runs_intro ?_
                 | with_reducible apply runs_ite | with_reducible exact runs_refused
                 | with_reducible exact runs_fault | intro _ | with_reducible refine refuseReq_only ?_ _ _ ?_
                 | with_reducible apply ite_only | with_reducible apply foldl_only
                 | with_reducible apply foldl_only_snd | refine snd_only ‹_ = _› ?_ | refine fst_only ‹_ = _› ?_
                 | split)

theorem execWriteData_only (h : Only m a s) : ∀ x1 x2, ∀ t, execWriteData x1 x2 s = Host.Outcome.next t → (hm : Sub 19726 m := by decide) → Only m a t := by
  intro x1 x2 t e hm
  refine h.step hm ?_
  replace h : Only 19726 s s := .refl s
  suffices g : Runs 19726 s (execWriteData x1 x2 s) from g.only t e
  clear e t
  unfold execWriteData
  try dsimp only
  repeat' (first | with_reducible assumption | decide | with_reducible refine runs_intro ?_
                 | with_reducible apply runs_ite | with_reducible exact runs_refused
                 | with_reducible exact runs_fault | intro _ | with_reducible apply each_only
                 | with_reducible refine loseData_only ?_ _ ?_ | with_reducible refine bump_only ?_ _ _ _ _ ?_
                 | with_reducible refine takePosts_only ?_ _ ?_ | with_reducible refine giveData_only ?_ _ _ ?_
                 | with_reducible apply ite_only | with_reducible apply foldl_only
                 | with_reducible apply foldl_only_snd | refine snd_only ‹_ = _› ?_ | refine fst_only ‹_ = _› ?_
                 | split)

end Sys2Proof.Laws
end

