-- ==== Sys2Proof/Laws/Only5.lean ====
section
/-! SUPPORT. Only5.lean: everything each shared operation and command can do to the parts of the state, operations before
those that use them (5 of 6). -/

-- theorems one after another: many at once would ask for too many threads
set_option Elab.async false

namespace Sys2Proof.Laws

open Sys2Proof.Machine Sys2Proof.Safety

set_option linter.unreachableTactic false
set_option linter.unusedTactic false

variable {a s : State} {m : Nat}

theorem execHoldBufferRelease_only (h : Only m a s) : ∀ x1 x2, ∀ t, execHoldBufferRelease x1 x2 s = Host.Outcome.next t → (hm : Sub 682318 m := by decide) → Only m a t := by
  intro x1 x2 t e hm
  refine h.step hm ?_
  replace h : Only 682318 s s := .refl s
  suffices g : Runs 682318 s (execHoldBufferRelease x1 x2 s) from g.only t e
  clear e t
  unfold execHoldBufferRelease
  try dsimp only
  repeat' (first | with_reducible assumption | decide | with_reducible refine runs_intro ?_
                 | with_reducible apply runs_ite | with_reducible exact runs_refused
                 | with_reducible exact runs_fault | intro _ | with_reducible refine holdRelease_only ?_ _ _ ?_
                 | with_reducible apply ite_only | with_reducible apply foldl_only
                 | with_reducible apply foldl_only_snd | refine snd_only ‹_ = _› ?_ | refine fst_only ‹_ = _› ?_
                 | split)

theorem execResponseRelease_only (h : Only m a s) : ∀ x1, ∀ t, execResponseRelease x1 s = Host.Outcome.next t → (hm : Sub 4719880 m := by decide) → Only m a t := by
  intro x1 t e hm
  refine h.step hm ?_
  replace h : Only 4719880 s s := .refl s
  suffices g : Runs 4719880 s (execResponseRelease x1 s) from g.only t e
  clear e t
  unfold execResponseRelease
  try dsimp only
  repeat' (first | with_reducible assumption | decide | with_reducible refine runs_intro ?_
                 | with_reducible apply runs_ite | with_reducible exact runs_refused
                 | with_reducible exact runs_fault | intro _ | with_reducible apply each_only
                 | with_reducible refine tallyBlock_only ?_ _ _ _ ?_ | with_reducible refine modPort_only ?_ _ _ ?_
                 | with_reducible refine deliver_only ?_ _ _ ?_ | with_reducible apply ite_only
                 | with_reducible apply foldl_only | with_reducible apply foldl_only_snd | refine snd_only ‹_ = _› ?_
                 | refine fst_only ‹_ = _› ?_ | split)

theorem execArbiterCycle_only (h : Only m a s) : ∀ x1 x2, ∀ t, execArbiterCycle x1 x2 s = Host.Outcome.next t → (hm : Sub 1718728 m := by decide) → Only m a t := by
  intro x1 x2 t e hm
  refine h.step hm ?_
  replace h : Only 1718728 s s := .refl s
  suffices g : Runs 1718728 s (execArbiterCycle x1 x2 s) from g.only t e
  clear e t
  unfold execArbiterCycle
  try dsimp only
  repeat' (first | with_reducible assumption | decide | with_reducible refine runs_intro ?_
                 | with_reducible apply runs_ite | with_reducible exact runs_refused
                 | with_reducible exact runs_fault | intro _ | with_reducible refine askPulls_only ?_ _ ?_
                 | with_reducible refine settleLost_only ?_ _ ?_
                 | with_reducible refine ownerGrants_only ?_ _ _ _ _ _ ?_
                 | with_reducible refine tallyStack_only ?_ _ _ _ _ ?_
                 | with_reducible refine rankGrants_only ?_ _ _ _ _ ?_ | with_reducible apply each_only
                 | with_reducible refine countOn_only ?_ _ _ _ _ _ _ ?_ | with_reducible apply ite_only
                 | with_reducible apply foldl_only | with_reducible apply foldl_only_snd | refine snd_only ‹_ = _› ?_
                 | refine fst_only ‹_ = _› ?_ | split)

theorem execAgePromotion_only (h : Only m a s) : ∀ x1, ∀ t, execAgePromotion x1 s = Host.Outcome.next t → (hm : Sub 528648 m := by decide) → Only m a t := by
  intro x1 t e hm
  refine h.step hm ?_
  replace h : Only 528648 s s := .refl s
  suffices g : Runs 528648 s (execAgePromotion x1 s) from g.only t e
  clear e t
  unfold execAgePromotion
  try dsimp only
  repeat' (first | with_reducible assumption | decide | with_reducible refine runs_intro ?_
                 | with_reducible apply runs_ite | with_reducible exact runs_refused
                 | with_reducible exact runs_fault | intro _ | with_reducible refine tallyStack_only ?_ _ _ _ _ ?_
                 | with_reducible refine count_only ?_ _ _ ?_ | with_reducible refine modReq_only ?_ _ _ ?_
                 | with_reducible refine eachPc_only ?_ _ ?_ | with_reducible apply ite_only
                 | with_reducible apply foldl_only | with_reducible apply foldl_only_snd | refine snd_only ‹_ = _› ?_
                 | refine fst_only ‹_ = _› ?_ | split)

theorem execWatchdogBite_only (h : Only m a s) : ∀ x1, ∀ t, execWatchdogBite x1 s = .next t → (hm : Sub 29964 m := by decide) → Only m a t := by
  intro x1 t e hm
  refine h.step hm ?_
  replace h : Only 29964 s s := .refl s
  suffices g : Runs 29964 s (execWatchdogBite x1 s) from g.only t e
  clear e t
  unfold execWatchdogBite
  split
  · exact runs_intro h
  rename_i r _
  split
  · exact runs_intro h
  refine runs_ite (runs_intro h) ?_
  split
  · exact runs_intro (biteEvent_only (resetPort_only h _) _ _ _)
  · extract_lets u l src s1
    have g : Only 29964 s s1 := Only.step (raiseGen_only h _ : Only 29964 s src) (by decide) (Only.raw 256 (.inr rfl) (.inr rfl) (.inr rfl) (.inr rfl) (.inr rfl) (.inr rfl) (.inr rfl) (.inr rfl) (.inl rfl) (.inr rfl) (.inr rfl) (.inr rfl) (.inr rfl) (.inr rfl) (.inr rfl) (.inr rfl) (.inr rfl) (.inr rfl) (.inr rfl) (.inr rfl) (.inr rfl) (.inr rfl) (.inr rfl) (.inr rfl))
    exact runs_intro (biteEvent_only (modLoft_only g _) _ _ _)
  · exact runs_intro (biteEvent_only (modReq_only (raiseGen_only h _) _ _) _ _ _)
  · extract_lets unit s1 s2
    have g1 : Only 29964 s s1 := by
      unfold s1
      clear s2 s1
      clear_value unit
      split
      · exact raiseGen_only h _
      · exact h
    have g2 : Only 29964 s s2 := each_only (fun _ _ k => askAbort_only k _ _ _) _ g1
    exact runs_intro (biteEvent_only (modReq_only g2 _ _) _ _ _)

theorem execPcControllerCycle_only (h : Only m a s) : ∀ x1 x2 x3, ∀ t, execPcControllerCycle x1 x2 x3 s = Host.Outcome.next t → (hm : Sub 528520 m := by decide) → Only m a t := by
  intro x1 x2 x3 t e hm
  refine h.step hm ?_
  replace h : Only 528520 s s := .refl s
  suffices g : Runs 528520 s (execPcControllerCycle x1 x2 x3 s) from g.only t e
  clear e t
  unfold execPcControllerCycle
  try dsimp only
  repeat' (first | with_reducible assumption | decide | with_reducible refine runs_intro ?_
                 | with_reducible apply runs_ite | with_reducible exact runs_refused
                 | with_reducible exact runs_fault | intro _ | with_reducible refine countSlot_only ?_ _ ?_
                 | with_reducible refine cycleCounts_only ?_ _ ?_ | with_reducible refine retireWrites_only ?_ _ ?_
                 | with_reducible refine modPc_only ?_ _ _ ?_ | with_reducible refine chargeCycle_only ?_ _ ?_
                 | with_reducible refine replayStep_only ?_ _ _ ?_ | with_reducible refine shiftSheet_only ?_ _ ?_
                 | with_reducible refine colStep_only ?_ _ ?_ | with_reducible refine rowStep_only ?_ _ ?_
                 | with_reducible apply ite_only | with_reducible apply foldl_only
                 | with_reducible apply foldl_only_snd | refine snd_only ‹_ = _› ?_ | refine fst_only ‹_ = _› ?_
                 | split)

theorem execRowIdleClose_only (h : Only m a s) : ∀ x1 x2 x3 x4 x5, ∀ t, execRowIdleClose x1 x2 x3 x4 x5 s = Host.Outcome.next t → (hm : Sub 4096 m := by decide) → Only m a t := by
  intro x1 x2 x3 x4 x5 t e hm
  refine h.step hm ?_
  replace h : Only 4096 s s := .refl s
  suffices g : Runs 4096 s (execRowIdleClose x1 x2 x3 x4 x5 s) from g.only t e
  clear e t
  unfold execRowIdleClose
  try dsimp only
  repeat' (first | with_reducible assumption | decide | with_reducible refine runs_intro ?_
                 | with_reducible apply runs_ite | with_reducible exact runs_refused
                 | with_reducible exact runs_fault | intro _ | with_reducible refine modPc_only ?_ _ _ ?_
                 | with_reducible apply ite_only | with_reducible apply foldl_only
                 | with_reducible apply foldl_only_snd | refine snd_only ‹_ = _› ?_ | refine fst_only ‹_ = _› ?_
                 | split)

theorem execReadDataReturn_only (h : Only m a s) : ∀ x1 x2 x3, ∀ t, execReadDataReturn x1 x2 x3 s = Host.Outcome.next t → (hm : Sub 7044046 m := by decide) → Only m a t := by
  intro x1 x2 x3 t e hm
  refine h.step hm ?_
  replace h : Only 7044046 s s := .refl s
  suffices g : Runs 7044046 s (execReadDataReturn x1 x2 x3 s) from g.only t e
  clear e t
  unfold execReadDataReturn
  try dsimp only
  repeat' (first | with_reducible assumption | decide | with_reducible refine runs_intro ?_
                 | with_reducible apply runs_ite | with_reducible exact runs_refused
                 | with_reducible exact runs_fault | intro _ | with_reducible refine arrive_only ?_ _ _ ?_
                 | with_reducible refine bump_only ?_ _ _ _ _ ?_
                 | with_reducible refine tallyStack_only ?_ _ _ _ _ ?_
                 | with_reducible refine modEntry'_only ?_ _ _ _ _ ?_ | with_reducible refine pulled_only ?_ ?_
                 | with_reducible refine entryGood_only ?_ _ _ _ _ ?_
                 | with_reducible refine settleGood_only ?_ _ _ _ _ ?_ | with_reducible apply ite_only
                 | with_reducible apply foldl_only | with_reducible apply foldl_only_snd | refine snd_only ‹_ = _› ?_
                 | refine fst_only ‹_ = _› ?_ | split)

theorem execSecondLookResult_only (h : Only m a s) : ∀ x1 x2 x3, ∀ t, execSecondLookResult x1 x2 x3 s = Host.Outcome.next t → (hm : Sub 7044046 m := by decide) → Only m a t := by
  intro x1 x2 x3 t e hm
  refine h.step hm ?_
  replace h : Only 7044046 s s := .refl s
  suffices g : Runs 7044046 s (execSecondLookResult x1 x2 x3 s) from g.only t e
  clear e t
  unfold execSecondLookResult
  try dsimp only
  repeat' (first | with_reducible assumption | decide | with_reducible refine runs_intro ?_
                 | with_reducible apply runs_ite | with_reducible exact runs_refused
                 | with_reducible exact runs_fault | intro _ | with_reducible refine arrive_only ?_ _ _ ?_
                 | with_reducible refine bump_only ?_ _ _ _ _ ?_
                 | with_reducible refine settleSecond_only ?_ _ _ _ _ _ ?_ | with_reducible refine pulled_only ?_ ?_
                 | with_reducible refine entryGood_only ?_ _ _ _ _ ?_
                 | with_reducible refine modEntry'_only ?_ _ _ _ _ ?_
                 | with_reducible refine entryBad_only ?_ _ _ _ _ ?_ | with_reducible apply ite_only
                 | with_reducible apply foldl_only | with_reducible apply foldl_only_snd | refine snd_only ‹_ = _› ?_
                 | refine fst_only ‹_ = _› ?_ | split)

theorem execCorrectiveRewrite_only (h : Only m a s) : ∀ x1, ∀ t, execCorrectiveRewrite x1 s = Host.Outcome.next t → (hm : Sub 3676296 m := by decide) → Only m a t := by
  intro x1 t e hm
  refine h.step hm ?_
  replace h : Only 3676296 s s := .refl s
  suffices g : Runs 3676296 s (execCorrectiveRewrite x1 s) from g.only t e
  clear e t
  unfold execCorrectiveRewrite
  try dsimp only
  repeat' (first | with_reducible assumption | decide | with_reducible refine runs_intro ?_
                 | with_reducible apply runs_ite | with_reducible exact runs_refused
                 | with_reducible exact runs_fault | intro _ | with_reducible refine ownWork_only ?_ _ _ _ _ _ ?_
                 | with_reducible refine modStack_only ?_ _ _ ?_ | with_reducible refine bake_only ?_ _ _ ?_
                 | with_reducible refine noteRewrite_only ?_ _ ?_ | with_reducible refine count_only ?_ _ _ ?_
                 | with_reducible refine dramPut_only ?_ _ _ ?_ | with_reducible apply ite_only
                 | with_reducible apply foldl_only | with_reducible apply foldl_only_snd | refine snd_only ‹_ = _› ?_
                 | refine fst_only ‹_ = _› ?_ | split)

theorem execParityError_only (h : Only m a s) : ∀ x1 x2 x3, ∀ t, execParityError x1 x2 x3 s = Host.Outcome.next t → (hm : Sub 661768 m := by decide) → Only m a t := by
  intro x1 x2 x3 t e hm
  refine h.step hm ?_
  replace h : Only 661768 s s := .refl s
  suffices g : Runs 661768 s (execParityError x1 x2 x3 s) from g.only t e
  clear e t
  unfold execParityError
  try dsimp only
  repeat' (first | with_reducible assumption | decide | with_reducible refine runs_intro ?_
                 | with_reducible apply runs_ite | with_reducible exact runs_refused
                 | with_reducible exact runs_fault | intro _ | with_reducible refine parityEvent_only ?_ _ ?_
                 | with_reducible refine tallyStack_only ?_ _ _ _ _ ?_
                 | with_reducible refine stBump_only ?_ _ _ _ _ _ ?_ | with_reducible refine modPc_only ?_ _ _ ?_
                 | with_reducible apply each_only | with_reducible refine giveAnswer_only ?_ _ _ _ _ ?_
                 | with_reducible refine unrecoverable_only ?_ _ _ ?_ | with_reducible apply ite_only
                 | with_reducible apply foldl_only | with_reducible apply foldl_only_snd | refine snd_only ‹_ = _› ?_
                 | refine fst_only ‹_ = _› ?_ | split)

theorem execReplayTakeEnd_only (h : Only m a s) : ∀ x1 x2, ∀ t, execReplayTakeEnd x1 x2 s = Host.Outcome.next t → (hm : Sub 4946766 m := by decide) → Only m a t := by
  intro x1 x2 t e hm
  refine h.step hm ?_
  replace h : Only 4946766 s s := .refl s
  suffices g : Runs 4946766 s (execReplayTakeEnd x1 x2 s) from g.only t e
  clear e t
  unfold execReplayTakeEnd
  try dsimp only
  repeat' (first | with_reducible assumption | decide | with_reducible refine runs_intro ?_
                 | with_reducible apply runs_ite | with_reducible exact runs_refused
                 | with_reducible exact runs_fault | intro _ | with_reducible refine tallyStack_only ?_ _ _ _ _ ?_
                 | with_reducible refine stBump_only ?_ _ _ _ _ _ ?_ | with_reducible refine modPc_only ?_ _ _ ?_
                 | with_reducible refine pulled_only ?_ ?_ | with_reducible apply each_only
                 | with_reducible refine giveAnswer_only ?_ _ _ _ _ ?_ | with_reducible apply ite_only
                 | with_reducible apply foldl_only | with_reducible apply foldl_only_snd | refine snd_only ‹_ = _› ?_
                 | refine fst_only ‹_ = _› ?_ | split)

theorem execFrameBoundary_only (h : Only m a s) : ∀ t, execFrameBoundary s = Host.Outcome.next t → (hm : Sub 58720255 m := by decide) → Only m a t := by
  intro t e hm
  refine h.step hm ?_
  replace h : Only 58720255 s s := .refl s
  suffices g : Runs 58720255 s (execFrameBoundary s) from g.only t e
  clear e t
  unfold execFrameBoundary
  try dsimp only
  repeat' (first | with_reducible assumption | decide | with_reducible refine runs_intro ?_
                 | with_reducible apply runs_ite | with_reducible exact runs_refused
                 | with_reducible exact runs_fault | intro _ | with_reducible refine reportBoundary_only ?_ ?_
                 | with_reducible refine boundaryAllot_only ?_ ?_ | with_reducible refine boundaryWork_only ?_ ?_
                 | with_reducible refine boundaryPower_only ?_ ?_ | with_reducible refine boundaryOpen_only ?_ ?_
                 | with_reducible refine objectBoundary_only ?_ ?_ | with_reducible refine timeBoundary_only ?_ _ ?_
                 | with_reducible refine scanBoundary_only ?_ ?_ | with_reducible apply ite_only
                 | with_reducible apply foldl_only | with_reducible apply foldl_only_snd | refine snd_only ‹_ = _› ?_
                 | refine fst_only ‹_ = _› ?_ | split)

theorem execCallSheetComplete_only (h : Only m a s) : ∀ x1, ∀ t, execCallSheetComplete x1 s = Host.Outcome.next t → (hm : Sub 2103304 m := by decide) → Only m a t := by
  intro x1 t e hm
  refine h.step hm ?_
  replace h : Only 2103304 s s := .refl s
  suffices g : Runs 2103304 s (execCallSheetComplete x1 s) from g.only t e
  clear e t
  unfold execCallSheetComplete
  try dsimp only
  repeat' (first | with_reducible assumption | decide | with_reducible refine runs_intro ?_
                 | with_reducible apply runs_ite | with_reducible exact runs_refused
                 | with_reducible exact runs_fault | intro _ | with_reducible refine ledger_only ?_ _ ?_
                 | with_reducible apply each_only | with_reducible refine modPc_only ?_ _ _ ?_
                 | with_reducible refine placeSwitch_only ?_ _ _ ?_
                 | with_reducible refine placeSlices_only ?_ _ _ ?_
                 | with_reducible refine placeRetrain_only ?_ _ _ ?_ | with_reducible refine bump_only ?_ _ _ _ _ ?_
                 | with_reducible apply ite_only | with_reducible apply foldl_only
                 | with_reducible apply foldl_only_snd | refine snd_only ‹_ = _› ?_ | refine fst_only ‹_ = _› ?_
                 | split)

theorem execReferenceCycle_only (h : Only m a s) : ∀ t, execReferenceCycle s = Host.Outcome.next t → (hm : Sub 1 m := by decide) → Only m a t := by
  intro t e hm
  refine h.step hm ?_
  replace h : Only 1 s s := .refl s
  suffices g : Runs 1 s (execReferenceCycle s) from g.only t e
  clear e t
  unfold execReferenceCycle
  try dsimp only
  repeat' (first | with_reducible assumption | decide | with_reducible refine runs_intro ?_
                 | with_reducible apply runs_ite | with_reducible exact runs_refused
                 | with_reducible exact runs_fault | exact rfl | intro _
                 | with_reducible refine modTime_only ?_ _ ?_ ?_ | with_reducible apply ite_only
                 | with_reducible apply foldl_only | with_reducible apply foldl_only_snd | refine snd_only ‹_ = _› ?_
                 | refine fst_only ‹_ = _› ?_ | split)

theorem execPtpOffset_only (h : Only m a s) : ∀ x1, ∀ t, execPtpOffset x1 s = Host.Outcome.next t → (hm : Sub 13 m := by decide) → Only m a t := by
  intro x1 t e hm
  refine h.step hm ?_
  replace h : Only 13 s s := .refl s
  suffices g : Runs 13 s (execPtpOffset x1 s) from g.only t e
  clear e t
  unfold execPtpOffset
  try dsimp only
  repeat' (first | with_reducible assumption | decide | with_reducible refine runs_intro ?_
                 | with_reducible apply runs_ite | with_reducible exact runs_refused
                 | with_reducible exact runs_fault | exact rfl | intro _
                 | with_reducible refine setObj_only ?_ _ _ _ _ ?_ | with_reducible refine modTime_only ?_ _ ?_ ?_
                 | with_reducible apply when_only | with_reducible refine asks_only ?_ _ _ ?_
                 | with_reducible apply ite_only | with_reducible apply foldl_only
                 | with_reducible apply foldl_only_snd | refine snd_only ‹_ = _› ?_ | refine fst_only ‹_ = _› ?_
                 | split)

theorem execPtpRate_only (h : Only m a s) : ∀ x1, ∀ t, execPtpRate x1 s = Host.Outcome.next t → (hm : Sub 12 m := by decide) → Only m a t := by
  intro x1 t e hm
  refine h.step hm ?_
  replace h : Only 12 s s := .refl s
  suffices g : Runs 12 s (execPtpRate x1 s) from g.only t e
  clear e t
  unfold execPtpRate
  try dsimp only
  repeat' (first | with_reducible assumption | decide | with_reducible refine runs_intro ?_
                 | with_reducible apply runs_ite | with_reducible exact runs_refused
                 | with_reducible exact runs_fault | intro _ | with_reducible refine setObj_only ?_ _ _ _ _ ?_
                 | with_reducible refine logEvent_only ?_ _ _ _ _ _ _ ?_ | with_reducible refine count_only ?_ _ _ ?_
                 | with_reducible apply ite_only | with_reducible apply foldl_only
                 | with_reducible apply foldl_only_snd | refine snd_only ‹_ = _› ?_ | refine fst_only ‹_ = _› ?_
                 | split)

theorem execContribution_only (h : Only m a s) : ∀ x1 x2 x3 x4, ∀ t, execContribution x1 x2 x3 x4 s = Host.Outcome.next t → (hm : Sub 573448 m := by decide) → Only m a t := by
  intro x1 x2 x3 x4 t e hm
  refine h.step hm ?_
  replace h : Only 573448 s s := .refl s
  suffices g : Runs 573448 s (execContribution x1 x2 x3 x4 s) from g.only t e
  clear e t
  unfold execContribution
  try dsimp only
  repeat' (first | with_reducible assumption | decide | with_reducible refine runs_intro ?_
                 | with_reducible apply runs_ite | with_reducible exact runs_refused
                 | with_reducible exact runs_fault | intro _ | with_reducible refine modEntry_only ?_ _ ?_
                 | with_reducible refine tallyBlock_only ?_ _ _ _ ?_ | with_reducible refine bump_only ?_ _ _ _ _ ?_
                 | with_reducible refine oweCredits_only ?_ _ _ ?_
                 | with_reducible refine dropContribution_only ?_ _ _ _ ?_
                 | with_reducible refine modShotS_only ?_ _ ?_ | with_reducible apply ite_only
                 | with_reducible apply foldl_only | with_reducible apply foldl_only_snd | refine snd_only ‹_ = _› ?_
                 | refine fst_only ‹_ = _› ?_ | split)

theorem execLaneAccumulate_only (h : Only m a s) : ∀ x1, ∀ t, execLaneAccumulate x1 s = Host.Outcome.next t → (hm : Sub 581640 m := by decide) → Only m a t := by
  intro x1 t e hm
  refine h.step hm ?_
  replace h : Only 581640 s s := .refl s
  suffices g : Runs 581640 s (execLaneAccumulate x1 s) from g.only t e
  clear e t
  unfold execLaneAccumulate
  try dsimp only
  repeat' (first | with_reducible assumption | decide | with_reducible refine runs_intro ?_
                 | with_reducible apply runs_ite | with_reducible exact runs_refused
                 | with_reducible exact runs_fault | intro _ | with_reducible refine modShotS_only ?_ _ ?_
                 | with_reducible refine dropContribution_only ?_ _ _ _ ?_
                 | with_reducible refine lanePorts_only ?_ _ _ ?_ | with_reducible refine issue_only ?_ _ _ ?_
                 | with_reducible refine tallyBlock_only ?_ _ _ _ ?_ | with_reducible refine count_only ?_ _ _ ?_
                 | with_reducible refine modRslot_only ?_ _ _ _ ?_ | with_reducible refine oweCredits_only ?_ _ _ ?_
                 | with_reducible refine completeChunk_only ?_ _ _ _ _ ?_ | with_reducible apply ite_only
                 | with_reducible apply foldl_only | with_reducible apply foldl_only_snd | refine snd_only ‹_ = _› ?_
                 | refine fst_only ‹_ = _› ?_ | split)

theorem execCreditReturn_only (h : Only m a s) : ∀ x1, ∀ t, execCreditReturn x1 s = Host.Outcome.next t → (hm : Sub 4751368 m := by decide) → Only m a t := by
  intro x1 t e hm
  refine h.step hm ?_
  replace h : Only 4751368 s s := .refl s
  suffices g : Runs 4751368 s (execCreditReturn x1 s) from g.only t e
  clear e t
  unfold execCreditReturn
  try dsimp only
  repeat' (first | with_reducible assumption | decide | with_reducible refine runs_intro ?_
                 | with_reducible apply runs_ite | with_reducible exact runs_refused
                 | with_reducible exact runs_fault | intro _ | with_reducible refine tallyBlock_only ?_ _ _ _ ?_
                 | with_reducible refine emit_only ?_ _ ?_ | with_reducible refine modEntry_only ?_ _ ?_
                 | with_reducible apply ite_only | with_reducible apply foldl_only
                 | with_reducible apply foldl_only_snd | refine snd_only ‹_ = _› ?_ | refine fst_only ‹_ = _› ?_
                 | split)

theorem execResultSend_only (h : Only m a s) : ∀ t, execResultSend s = Host.Outcome.next t → (hm : Sub 4243464 m := by decide) → Only m a t := by
  intro t e hm
  refine h.step hm ?_
  replace h : Only 4243464 s s := .refl s
  suffices g : Runs 4243464 s (execResultSend s) from g.only t e
  clear e t
  unfold execResultSend
  try dsimp only
  repeat' (first | with_reducible assumption | decide | with_reducible refine runs_intro ?_
                 | with_reducible apply runs_ite | with_reducible exact runs_refused
                 | with_reducible exact runs_fault | intro _ | with_reducible refine emit_only ?_ _ ?_
                 | with_reducible refine modEntry_only ?_ _ ?_ | with_reducible refine count_only ?_ _ _ ?_
                 | with_reducible refine modRslot_only ?_ _ _ _ ?_ | with_reducible refine modShot_only ?_ _ _ ?_
                 | with_reducible apply ite_only | with_reducible apply foldl_only
                 | with_reducible apply foldl_only_snd | refine snd_only ‹_ = _› ?_ | refine fst_only ‹_ = _› ?_
                 | split)

theorem execSpillPacket_only (h : Only m a s) : ∀ x1 x2, ∀ t, execSpillPacket x1 x2 s = Host.Outcome.next t → (hm : Sub 4942670 m := by decide) → Only m a t := by
  intro x1 x2 t e hm
  refine h.step hm ?_
  replace h : Only 4942670 s s := .refl s
  suffices g : Runs 4942670 s (execSpillPacket x1 x2 s) from g.only t e
  clear e t
  unfold execSpillPacket
  try dsimp only
  repeat' (first | with_reducible assumption | decide | with_reducible refine runs_intro ?_
                 | with_reducible apply runs_ite | with_reducible exact runs_refused
                 | with_reducible exact runs_fault | intro _ | with_reducible refine expireHold_only ?_ _ ?_
                 | with_reducible refine count_only ?_ _ _ ?_ | with_reducible refine tallyBlock_only ?_ _ _ _ ?_
                 | with_reducible refine setBp_only ?_ _ _ ?_ | with_reducible refine storeRecord_only ?_ _ _ _ _ ?_
                 | with_reducible apply ite_only | with_reducible apply foldl_only
                 | with_reducible apply foldl_only_snd | refine snd_only ‹_ = _› ?_ | refine fst_only ‹_ = _› ?_
                 | split)

theorem execSpillPull_only (h : Only m a s) : ∀ x1, ∀ t, execSpillPull x1 s = Host.Outcome.next t → (hm : Sub 4942670 m := by decide) → Only m a t := by
  intro x1 t e hm
  refine h.step hm ?_
  replace h : Only 4942670 s s := .refl s
  suffices g : Runs 4942670 s (execSpillPull x1 s) from g.only t e
  clear e t
  unfold execSpillPull
  try dsimp only
  repeat' (first | with_reducible assumption | decide | with_reducible refine runs_intro ?_
                 | with_reducible apply runs_ite | with_reducible exact runs_refused
                 | with_reducible exact runs_fault | intro _ | with_reducible refine pulled_only ?_ ?_
                 | with_reducible refine modPacket_only ?_ _ ?_ | with_reducible refine expireHold_only ?_ _ ?_
                 | with_reducible apply ite_only | with_reducible apply foldl_only
                 | with_reducible apply foldl_only_snd | refine snd_only ‹_ = _› ?_ | refine fst_only ‹_ = _› ?_
                 | split)

theorem execLinkStatus_only (h : Only m a s) : ∀ x1 x2, ∀ t, execLinkStatus x1 x2 s = Host.Outcome.next t → (hm : Sub 65544 m := by decide) → Only m a t := by
  intro x1 x2 t e hm
  refine h.step hm ?_
  replace h : Only 65544 s s := .refl s
  suffices g : Runs 65544 s (execLinkStatus x1 x2 s) from g.only t e
  clear e t
  unfold execLinkStatus
  try dsimp only
  repeat' (first | with_reducible assumption | decide | with_reducible refine runs_intro ?_
                 | with_reducible apply runs_ite | with_reducible exact runs_refused
                 | with_reducible exact runs_fault | intro _ | with_reducible refine expireHold_only ?_ _ ?_
                 | with_reducible refine modEgress_only ?_ _ _ ?_ | with_reducible apply ite_only
                 | with_reducible apply foldl_only | with_reducible apply foldl_only_snd | refine snd_only ‹_ = _› ?_
                 | refine fst_only ‹_ = _› ?_ | split)

theorem execHoldExpiry_only (h : Only m a s) : ∀ x1, ∀ t, execHoldExpiry x1 s = Host.Outcome.next t → (hm : Sub 65544 m := by decide) → Only m a t := by
  intro x1 t e hm
  refine h.step hm ?_
  replace h : Only 65544 s s := .refl s
  suffices g : Runs 65544 s (execHoldExpiry x1 s) from g.only t e
  clear e t
  unfold execHoldExpiry
  try dsimp only
  repeat' (first | with_reducible assumption | decide | with_reducible refine runs_intro ?_
                 | with_reducible apply runs_ite | with_reducible exact runs_refused
                 | with_reducible exact runs_fault | intro _ | with_reducible refine expireHold_only ?_ _ ?_
                 | with_reducible apply ite_only | with_reducible apply foldl_only
                 | with_reducible apply foldl_only_snd | refine snd_only ‹_ = _› ?_ | refine fst_only ‹_ = _› ?_
                 | split)

theorem execBackPressureRefresh_only (h : Only m a s) : ∀ t, execBackPressureRefresh s = Host.Outcome.next t → (hm : Sub 4194304 m := by decide) → Only m a t := by
  intro t e hm
  refine h.step hm ?_
  replace h : Only 4194304 s s := .refl s
  suffices g : Runs 4194304 s (execBackPressureRefresh s) from g.only t e
  clear e t
  unfold execBackPressureRefresh
  try dsimp only
  repeat' (first | with_reducible assumption | decide | with_reducible refine runs_intro ?_
                 | with_reducible apply runs_ite | with_reducible exact runs_refused
                 | with_reducible exact runs_fault | intro _ | with_reducible apply each_only
                 | with_reducible refine emit_only ?_ _ ?_ | with_reducible apply ite_only
                 | with_reducible apply foldl_only | with_reducible apply foldl_only_snd | refine snd_only ‹_ = _› ?_
                 | refine fst_only ‹_ = _› ?_ | split)

theorem execCaptureHeader_only (h : Only m a s) : ∀ x1 x2 x3 x4, ∀ t, execCaptureHeader x1 x2 x3 x4 s = Host.Outcome.next t → (hm : Sub 748366 m := by decide) → Only m a t := by
  intro x1 x2 x3 x4 t e hm
  refine h.step hm ?_
  replace h : Only 748366 s s := .refl s
  suffices g : Runs 748366 s (execCaptureHeader x1 x2 x3 x4 s) from g.only t e
  clear e t
  unfold execCaptureHeader
  try dsimp only
  repeat' (first | with_reducible assumption | decide | with_reducible refine runs_intro ?_
                 | with_reducible apply runs_ite | with_reducible exact runs_refused
                 | with_reducible exact runs_fault | intro _ | with_reducible refine count_only ?_ _ _ ?_
                 | with_reducible refine modPacket_only ?_ _ ?_ | with_reducible refine capIssue_only ?_ _ ?_
                 | with_reducible apply ite_only | with_reducible apply foldl_only
                 | with_reducible apply foldl_only_snd | refine snd_only ‹_ = _› ?_ | refine fst_only ‹_ = _› ?_
                 | split)

theorem execChunkFillEnd_only (h : Only m a s) : ∀ x1, ∀ t, execChunkFillEnd x1 s = Host.Outcome.next t → (hm : Sub 1735112 m := by decide) → Only m a t := by
  intro x1 t e hm
  refine h.step hm ?_
  replace h : Only 1735112 s s := .refl s
  suffices g : Runs 1735112 s (execChunkFillEnd x1 s) from g.only t e
  clear e t
  unfold execChunkFillEnd
  try dsimp only
  repeat' (first | with_reducible assumption | decide | with_reducible refine runs_intro ?_
                 | with_reducible apply runs_ite | with_reducible exact runs_refused
                 | with_reducible exact runs_fault | intro _ | with_reducible refine modRegions_only ?_ _ ?_
                 | with_reducible refine setWritten_only ?_ _ _ ?_ | with_reducible refine releaseChunk_only ?_ _ ?_
                 | with_reducible refine fillDone_only ?_ _ ?_ | with_reducible apply each_only
                 | with_reducible refine fillShareOn_only ?_ _ _ ?_ | with_reducible apply ite_only
                 | with_reducible apply foldl_only | with_reducible apply foldl_only_snd | refine snd_only ‹_ = _› ?_
                 | refine fst_only ‹_ = _› ?_ | split)

theorem execFillAllowanceTaken_only (h : Only m a s) : ∀ x1, ∀ t, execFillAllowanceTaken x1 s = Host.Outcome.next t → (hm : Sub 72 m := by decide) → Only m a t := by
  intro x1 t e hm
  refine h.step hm ?_
  replace h : Only 72 s s := .refl s
  suffices g : Runs 72 s (execFillAllowanceTaken x1 s) from g.only t e
  clear e t
  unfold execFillAllowanceTaken
  try dsimp only
  repeat' (first | with_reducible assumption | decide | with_reducible refine runs_intro ?_
                 | with_reducible apply runs_ite | with_reducible exact runs_refused
                 | with_reducible exact runs_fault | intro _ | with_reducible refine modRegions_only ?_ _ ?_
                 | with_reducible refine count_only ?_ _ _ ?_ | with_reducible apply ite_only
                 | with_reducible apply foldl_only | with_reducible apply foldl_only_snd | refine snd_only ‹_ = _› ?_
                 | refine fst_only ‹_ = _› ?_ | split)

theorem execBackgroundFillWrite_only (h : Only m a s) : ∀ x1, ∀ t, execBackgroundFillWrite x1 s = Host.Outcome.next t → (hm : Sub 1735112 m := by decide) → Only m a t := by
  intro x1 t e hm
  refine h.step hm ?_
  replace h : Only 1735112 s s := .refl s
  suffices g : Runs 1735112 s (execBackgroundFillWrite x1 s) from g.only t e
  clear e t
  unfold execBackgroundFillWrite
  try dsimp only
  repeat' (first | with_reducible assumption | decide | with_reducible refine runs_intro ?_
                 | with_reducible apply runs_ite | with_reducible exact runs_refused
                 | with_reducible exact runs_fault | intro _ | with_reducible refine fillDone_only ?_ _ ?_
                 | with_reducible refine fillShareOn_only ?_ _ _ ?_ | with_reducible refine modRegions_only ?_ _ ?_
                 | with_reducible apply ite_only | with_reducible apply foldl_only
                 | with_reducible apply foldl_only_snd | refine snd_only ‹_ = _› ?_ | refine fst_only ‹_ = _› ?_
                 | split)

theorem execEngineWaitEnd_only (h : Only m a s) : ∀ t, execEngineWaitEnd s = Host.Outcome.next t → (hm : Sub 4942670 m := by decide) → Only m a t := by
  intro t e hm
  refine h.step hm ?_
  replace h : Only 4942670 s s := .refl s
  suffices g : Runs 4942670 s (execEngineWaitEnd s) from g.only t e
  clear e t
  unfold execEngineWaitEnd
  try dsimp only
  repeat' (first | with_reducible assumption | decide | with_reducible refine runs_intro ?_
                 | with_reducible apply runs_ite | with_reducible exact runs_refused
                 | with_reducible exact runs_fault | intro _ | with_reducible refine pulled_only ?_ ?_
                 | with_reducible refine engGo_only ?_ _ ?_ | with_reducible apply ite_only
                 | with_reducible apply foldl_only | with_reducible apply foldl_only_snd | refine snd_only ‹_ = _› ?_
                 | refine fst_only ‹_ = _› ?_ | split)

theorem execVersionDrop_only (h : Only m a s) : ∀ x1, ∀ t, execVersionDrop x1 s = Host.Outcome.next t → (hm : Sub 8264 m := by decide) → Only m a t := by
  intro x1 t e hm
  refine h.step hm ?_
  replace h : Only 8264 s s := .refl s
  suffices g : Runs 8264 s (execVersionDrop x1 s) from g.only t e
  clear e t
  unfold execVersionDrop
  try dsimp only
  repeat' (first | with_reducible assumption | decide | with_reducible refine runs_intro ?_
                 | with_reducible apply runs_ite | with_reducible exact runs_refused
                 | with_reducible exact runs_fault | intro _ | with_reducible apply each_only
                 | with_reducible refine setWritten_only ?_ _ _ ?_ | with_reducible refine modLoft_only ?_ _ ?_
                 | with_reducible refine modSlot_only ?_ _ _ ?_ | with_reducible refine destroyKeys_only ?_ _ ?_
                 | with_reducible apply ite_only | with_reducible apply foldl_only
                 | with_reducible apply foldl_only_snd | refine snd_only ‹_ = _› ?_ | refine fst_only ‹_ = _› ?_
                 | split)

theorem execShotTableVersionDrop_only (h : Only m a s) : ∀ x1, ∀ t, execShotTableVersionDrop x1 s = Host.Outcome.next t → (hm : Sub 24576 m := by decide) → Only m a t := by
  intro x1 t e hm
  refine h.step hm ?_
  replace h : Only 24576 s s := .refl s
  suffices g : Runs 24576 s (execShotTableVersionDrop x1 s) from g.only t e
  clear e t
  unfold execShotTableVersionDrop
  try dsimp only
  repeat' (first | with_reducible assumption | decide | with_reducible refine runs_intro ?_
                 | with_reducible apply runs_ite | with_reducible exact runs_refused
                 | with_reducible exact runs_fault | intro _ | with_reducible refine modTslot_only ?_ _ _ ?_
                 | with_reducible refine freeUnits_only ?_ _ ?_ | with_reducible refine modShotS_only ?_ _ ?_
                 | with_reducible apply ite_only | with_reducible apply foldl_only
                 | with_reducible apply foldl_only_snd | refine snd_only ‹_ = _› ?_ | refine fst_only ‹_ = _› ?_
                 | split)

theorem execRefreshWindowStart_only (h : Only m a s) : ∀ x1, ∀ t, execRefreshWindowStart x1 s = Host.Outcome.next t → (hm : Sub 6144 m := by decide) → Only m a t := by
  intro x1 t e hm
  refine h.step hm ?_
  replace h : Only 6144 s s := .refl s
  suffices g : Runs 6144 s (execRefreshWindowStart x1 s) from g.only t e
  clear e t
  unfold execRefreshWindowStart
  try dsimp only
  repeat' (first | with_reducible assumption | decide | with_reducible refine runs_intro ?_
                 | with_reducible apply runs_ite | with_reducible exact runs_refused
                 | with_reducible exact runs_fault | intro _ | with_reducible apply each_only
                 | with_reducible refine modPc_only ?_ _ _ ?_ | with_reducible refine modStack_only ?_ _ _ ?_
                 | with_reducible apply ite_only | with_reducible apply foldl_only
                 | with_reducible apply foldl_only_snd | refine snd_only ‹_ = _› ?_ | refine fst_only ‹_ = _› ?_
                 | split)

theorem execSelfRefreshEntry_only (h : Only m a s) : ∀ x1 x2 x3, ∀ t, execSelfRefreshEntry x1 x2 x3 s = Host.Outcome.next t → (hm : Sub 528392 m := by decide) → Only m a t := by
  intro x1 x2 x3 t e hm
  refine h.step hm ?_
  replace h : Only 528392 s s := .refl s
  suffices g : Runs 528392 s (execSelfRefreshEntry x1 x2 x3 s) from g.only t e
  clear e t
  unfold execSelfRefreshEntry
  try dsimp only
  repeat' (first | with_reducible assumption | decide | with_reducible refine runs_intro ?_
                 | with_reducible apply runs_ite | with_reducible exact runs_refused
                 | with_reducible exact runs_fault | intro _ | with_reducible refine modPc_only ?_ _ _ ?_
                 | with_reducible refine srCommand_only ?_ _ _ _ _ _ ?_
                 | with_reducible refine stBump_only ?_ _ _ _ _ _ ?_ | with_reducible apply ite_only
                 | with_reducible apply foldl_only | with_reducible apply foldl_only_snd | refine snd_only ‹_ = _› ?_
                 | refine fst_only ‹_ = _› ?_ | split)

theorem execSelfRefreshExit_only (h : Only m a s) : ∀ x1 x2 x3, ∀ t, execSelfRefreshExit x1 x2 x3 s = Host.Outcome.next t → (hm : Sub 2625536 m := by decide) → Only m a t := by
  intro x1 x2 x3 t e hm
  refine h.step hm ?_
  replace h : Only 2625536 s s := .refl s
  suffices g : Runs 2625536 s (execSelfRefreshExit x1 x2 x3 s) from g.only t e
  clear e t
  unfold execSelfRefreshExit
  try dsimp only
  repeat' (first | with_reducible assumption | decide | with_reducible refine runs_intro ?_
                 | with_reducible apply runs_ite | with_reducible exact runs_refused
                 | with_reducible exact runs_fault | intro _ | with_reducible refine rowsMoved_only ?_ _ ?_
                 | with_reducible refine srCommand_only ?_ _ _ _ _ _ ?_ | with_reducible refine modPc_only ?_ _ _ ?_
                 | with_reducible apply ite_only | with_reducible apply foldl_only
                 | with_reducible apply foldl_only_snd | refine snd_only ‹_ = _› ?_ | refine fst_only ‹_ = _› ?_
                 | split)

theorem execStackIdleExpiry_only (h : Only m a s) : ∀ x1, ∀ t, execStackIdleExpiry x1 s = Host.Outcome.next t → (hm : Sub 2048 m := by decide) → Only m a t := by
  intro x1 t e hm
  refine h.step hm ?_
  replace h : Only 2048 s s := .refl s
  suffices g : Runs 2048 s (execStackIdleExpiry x1 s) from g.only t e
  clear e t
  unfold execStackIdleExpiry
  try dsimp only
  repeat' (first | with_reducible assumption | decide | with_reducible refine runs_intro ?_
                 | with_reducible apply runs_ite | with_reducible exact runs_refused
                 | with_reducible exact runs_fault | intro _ | with_reducible refine modStack_only ?_ _ _ ?_
                 | with_reducible apply ite_only | with_reducible apply foldl_only
                 | with_reducible apply foldl_only_snd | refine snd_only ‹_ = _› ?_ | refine fst_only ‹_ = _› ?_
                 | split)

theorem execStackGate_only (h : Only m a s) : ∀ x1, ∀ t, execStackGate x1 s = Host.Outcome.next t → (hm : Sub 665934 m := by decide) → Only m a t := by
  intro x1 t e hm
  refine h.step hm ?_
  replace h : Only 665934 s s := .refl s
  suffices g : Runs 665934 s (execStackGate x1 s) from g.only t e
  clear e t
  unfold execStackGate
  try dsimp only
  repeat' (first | with_reducible assumption | decide | with_reducible refine runs_intro ?_
                 | with_reducible apply runs_ite | with_reducible exact runs_refused
                 | with_reducible exact runs_fault | intro _ | with_reducible refine gateStack_only ?_ _ ?_
                 | with_reducible apply ite_only | with_reducible apply foldl_only
                 | with_reducible apply foldl_only_snd | refine snd_only ‹_ = _› ?_ | refine fst_only ‹_ = _› ?_
                 | split)

theorem execStackWake_only (h : Only m a s) : ∀ x1, ∀ t, execStackWake x1 s = Host.Outcome.next t → (hm : Sub 2627598 m := by decide) → Only m a t := by
  intro x1 t e hm
  refine h.step hm ?_
  replace h : Only 2627598 s s := .refl s
  suffices g : Runs 2627598 s (execStackWake x1 s) from g.only t e
  clear e t
  unfold execStackWake
  try dsimp only
  repeat' (first | with_reducible assumption | decide | with_reducible refine runs_intro ?_
                 | with_reducible apply runs_ite | with_reducible exact runs_refused
                 | with_reducible exact runs_fault | intro _ | with_reducible refine setReady_only ?_ _ _ ?_
                 | with_reducible refine modStack_only ?_ _ _ ?_ | with_reducible refine stSet_only ?_ _ _ _ _ _ ?_
                 | with_reducible refine stBump_only ?_ _ _ _ _ _ ?_ | with_reducible apply each_only
                 | with_reducible refine rowsMoved_only ?_ _ ?_
                 | with_reducible refine srCommand_only ?_ _ _ _ _ _ ?_ | with_reducible apply ite_only
                 | with_reducible apply foldl_only | with_reducible apply foldl_only_snd | refine snd_only ‹_ = _› ?_
                 | refine fst_only ‹_ = _› ?_ | split)

theorem execStackWakeService_only (h : Only m a s) : ∀ x1 x2 x3 x4, ∀ t, execStackWakeService x1 x2 x3 x4 s = Host.Outcome.next t → (hm : Sub 2103310 m := by decide) → Only m a t := by
  intro x1 x2 x3 x4 t e hm
  refine h.step hm ?_
  replace h : Only 2103310 s s := .refl s
  suffices g : Runs 2103310 s (execStackWakeService x1 x2 x3 x4 s) from g.only t e
  clear e t
  unfold execStackWakeService
  try dsimp only
  repeat' (first | with_reducible assumption | decide | with_reducible refine runs_intro ?_
                 | with_reducible apply runs_ite | with_reducible exact runs_refused
                 | with_reducible exact runs_fault | intro _ | with_reducible refine bringFail_only ?_ _ ?_
                 | with_reducible refine wakeTrain_only ?_ _ _ ?_ | with_reducible apply each_only
                 | with_reducible refine wakeCal_only ?_ _ _ _ ?_ | with_reducible refine setReady_only ?_ _ _ ?_
                 | with_reducible refine modStack_only ?_ _ _ ?_ | with_reducible apply ite_only
                 | with_reducible apply foldl_only | with_reducible apply foldl_only_snd | refine snd_only ‹_ = _› ?_
                 | refine fst_only ‹_ = _› ?_ | split)

theorem execTimingSwitchRequest_only (h : Only m a s) : ∀ x1 x2 x3, ∀ t, execTimingSwitchRequest x1 x2 x3 s = Host.Outcome.next t → (hm : Sub 4196364 m := by decide) → Only m a t := by
  intro x1 x2 x3 t e hm
  refine h.step hm ?_
  replace h : Only 4196364 s s := .refl s
  suffices g : Runs 4196364 s (execTimingSwitchRequest x1 x2 x3 s) from g.only t e
  clear e t
  unfold execTimingSwitchRequest
  try dsimp only
  repeat' (first | with_reducible assumption | decide | with_reducible refine runs_intro ?_
                 | with_reducible apply runs_ite | with_reducible exact runs_refused
                 | with_reducible exact runs_fault | intro _ | refine gate_drop_only ‹_› ?_ ?_
                 | refine gate_noSession_only ‹_› ?_ ?_ | refine gate_go_only ‹_› ?_ ?_
                 | with_reducible refine refuse_only ?_ _ _ _ _ _ _ ?_
                 | with_reducible refine brokenLock_only ?_ _ ?_ | with_reducible refine count_only ?_ _ _ ?_
                 | with_reducible refine answer_only ?_ _ _ _ _ ?_ | with_reducible refine startSwitch_only ?_ _ _ ?_
                 | with_reducible apply ite_only | with_reducible apply foldl_only
                 | with_reducible apply foldl_only_snd | refine snd_only ‹_ = _› ?_ | refine fst_only ‹_ = _› ?_
                 | split)

theorem execTimingSwitchChannelDone_only (h : Only m a s) : ∀ x1, ∀ t, execTimingSwitchChannelDone x1 s = Host.Outcome.next t → (hm : Sub 6152 m := by decide) → Only m a t := by
  intro x1 t e hm
  refine h.step hm ?_
  replace h : Only 6152 s s := .refl s
  suffices g : Runs 6152 s (execTimingSwitchChannelDone x1 s) from g.only t e
  clear e t
  unfold execTimingSwitchChannelDone
  try dsimp only
  repeat' (first | with_reducible assumption | decide | with_reducible refine runs_intro ?_
                 | with_reducible apply runs_ite | with_reducible exact runs_refused
                 | with_reducible exact runs_fault | intro _ | with_reducible apply each_only
                 | with_reducible refine stSet_only ?_ _ _ _ _ _ ?_ | with_reducible refine setObj_only ?_ _ _ _ _ ?_
                 | with_reducible refine modStack_only ?_ _ _ ?_ | with_reducible refine modPc_only ?_ _ _ ?_
                 | with_reducible refine count_only ?_ _ _ ?_ | with_reducible apply ite_only
                 | with_reducible apply foldl_only | with_reducible apply foldl_only_snd | refine snd_only ‹_ = _› ?_
                 | refine fst_only ‹_ = _› ?_ | split)

theorem execHistogramBinAdvance_only (h : Only m a s) : ∀ x1 x2 x3, ∀ t, execHistogramBinAdvance x1 x2 x3 s = Host.Outcome.next t → (hm : Sub 4104 m := by decide) → Only m a t := by
  intro x1 x2 x3 t e hm
  refine h.step hm ?_
  replace h : Only 4104 s s := .refl s
  suffices g : Runs 4104 s (execHistogramBinAdvance x1 x2 x3 s) from g.only t e
  clear e t
  unfold execHistogramBinAdvance
  try dsimp only
  repeat' (first | with_reducible assumption | decide | with_reducible refine runs_intro ?_
                 | with_reducible apply runs_ite | with_reducible exact runs_refused
                 | with_reducible exact runs_fault | intro _ | with_reducible apply each_only
                 | with_reducible refine setObj_only ?_ _ _ _ _ ?_ | with_reducible refine modPc_only ?_ _ _ ?_
                 | with_reducible apply ite_only | with_reducible apply foldl_only
                 | with_reducible apply foldl_only_snd | refine snd_only ‹_ = _› ?_ | refine fst_only ‹_ = _› ?_
                 | split)

theorem execRetrainingApply_only (h : Only m a s) : ∀ x1 x2 x3, ∀ t, execRetrainingApply x1 x2 x3 s = Host.Outcome.next t → (hm : Sub 2103308 m := by decide) → Only m a t := by
  intro x1 x2 x3 t e hm
  refine h.step hm ?_
  replace h : Only 2103308 s s := .refl s
  suffices g : Runs 2103308 s (execRetrainingApply x1 x2 x3 s) from g.only t e
  clear e t
  unfold execRetrainingApply
  try dsimp only
  repeat' (first | with_reducible assumption | decide | with_reducible refine runs_intro ?_
                 | with_reducible apply runs_ite | with_reducible exact runs_refused
                 | with_reducible exact runs_fault | intro _ | with_reducible refine applyCal_only ?_ _ _ _ ?_
                 | with_reducible refine modPc_only ?_ _ _ ?_ | with_reducible apply ite_only
                 | with_reducible apply foldl_only | with_reducible apply foldl_only_snd | refine snd_only ‹_ = _› ?_
                 | refine fst_only ‹_ = _› ?_ | split)

theorem execPcRetrainComplete_only (h : Only m a s) : ∀ x1 x2 x3, ∀ t, execPcRetrainComplete x1 x2 x3 s = Host.Outcome.next t → (hm : Sub 2103308 m := by decide) → Only m a t := by
  intro x1 x2 x3 t e hm
  refine h.step hm ?_
  replace h : Only 2103308 s s := .refl s
  suffices g : Runs 2103308 s (execPcRetrainComplete x1 x2 x3 s) from g.only t e
  clear e t
  unfold execPcRetrainComplete
  try dsimp only
  repeat' (first | with_reducible assumption | decide | with_reducible refine runs_intro ?_
                 | with_reducible apply runs_ite | with_reducible exact runs_refused
                 | with_reducible exact runs_fault | intro _ | with_reducible refine modPc_only ?_ _ _ ?_
                 | with_reducible apply each_only | with_reducible refine trainLane_only ?_ _ _ ?_
                 | with_reducible apply ite_only | with_reducible apply foldl_only
                 | with_reducible apply foldl_only_snd | refine snd_only ‹_ = _› ?_ | refine fst_only ‹_ = _› ?_
                 | split)

theorem execDomainWakeComplete_only (h : Only m a s) : ∀ x1, ∀ t, execDomainWakeComplete x1 s = Host.Outcome.next t → (hm : Sub 8206 m := by decide) → Only m a t := by
  intro x1 t e hm
  refine h.step hm ?_
  replace h : Only 8206 s s := .refl s
  suffices g : Runs 8206 s (execDomainWakeComplete x1 s) from g.only t e
  clear e t
  unfold execDomainWakeComplete
  try dsimp only
  repeat' (first | with_reducible assumption | decide | with_reducible refine runs_intro ?_
                 | with_reducible apply runs_ite | with_reducible exact runs_refused
                 | with_reducible exact runs_fault | intro _ | with_reducible refine modLoft_only ?_ _ ?_
                 | with_reducible apply each_only | with_reducible refine setObj_only ?_ _ _ _ _ ?_
                 | with_reducible refine settleMap_only ?_ ?_ | with_reducible refine setReady_only ?_ _ _ ?_
                 | with_reducible apply ite_only | with_reducible apply foldl_only
                 | with_reducible apply foldl_only_snd | refine snd_only ‹_ = _› ?_ | refine fst_only ‹_ = _› ?_
                 | split)

theorem execPowerTelemetry_only (h : Only m a s) : ∀ x1 x2, ∀ t, execPowerTelemetry x1 x2 s = Host.Outcome.next t → (hm : Sub 526344 m := by decide) → Only m a t := by
  intro x1 x2 t e hm
  refine h.step hm ?_
  replace h : Only 526344 s s := .refl s
  suffices g : Runs 526344 s (execPowerTelemetry x1 x2 s) from g.only t e
  clear e t
  unfold execPowerTelemetry
  try dsimp only
  repeat' (first | with_reducible assumption | decide | with_reducible refine runs_intro ?_
                 | with_reducible apply runs_ite | with_reducible exact runs_refused
                 | with_reducible exact runs_fault | intro _ | with_reducible apply each_only
                 | with_reducible refine setObj_only ?_ _ _ _ _ ?_ | with_reducible refine modStack_only ?_ _ _ ?_
                 | with_reducible refine modTest_only ?_ _ ?_ | with_reducible apply ite_only
                 | with_reducible apply foldl_only | with_reducible apply foldl_only_snd | refine snd_only ‹_ = _› ?_
                 | refine fst_only ‹_ = _› ?_ | split)

theorem execStackT4Gate_only (h : Only m a s) : ∀ x1, ∀ t, execStackT4Gate x1 s = Host.Outcome.next t → (hm : Sub 665934 m := by decide) → Only m a t := by
  intro x1 t e hm
  refine h.step hm ?_
  replace h : Only 665934 s s := .refl s
  suffices g : Runs 665934 s (execStackT4Gate x1 s) from g.only t e
  clear e t
  unfold execStackT4Gate
  try dsimp only
  repeat' (first | with_reducible assumption | decide | with_reducible refine runs_intro ?_
                 | with_reducible apply runs_ite | with_reducible exact runs_refused
                 | with_reducible exact runs_fault | intro _ | with_reducible refine logEvent_only ?_ _ _ _ _ _ _ ?_
                 | with_reducible refine modStack_only ?_ _ _ ?_ | with_reducible refine gateStack_only ?_ _ ?_
                 | with_reducible apply ite_only | with_reducible apply foldl_only
                 | with_reducible apply foldl_only_snd | refine snd_only ‹_ = _› ?_ | refine fst_only ‹_ = _› ?_
                 | split)

theorem execThermalSlipRecord_only (h : Only m a s) : ∀ x1, ∀ t, execThermalSlipRecord x1 s = Host.Outcome.next t → (hm : Sub 2146312 m := by decide) → Only m a t := by
  intro x1 t e hm
  refine h.step hm ?_
  replace h : Only 2146312 s s := .refl s
  suffices g : Runs 2146312 s (execThermalSlipRecord x1 s) from g.only t e
  clear e t
  unfold execThermalSlipRecord
  try dsimp only
  repeat' (first | with_reducible assumption | decide | with_reducible refine runs_intro ?_
                 | with_reducible apply runs_ite | with_reducible exact runs_refused
                 | with_reducible exact runs_fault | intro _ | with_reducible refine slipLast_only ?_ _ ?_
                 | with_reducible refine modShotS_only ?_ _ ?_ | with_reducible refine modShot_only ?_ _ _ ?_
                 | with_reducible refine slipRecord_only ?_ _ _ _ ?_ | with_reducible apply ite_only
                 | with_reducible apply foldl_only | with_reducible apply foldl_only_snd | refine snd_only ‹_ = _› ?_
                 | refine fst_only ‹_ = _› ?_ | split)

theorem execLoftPortCycle_only (h : Only m a s) : ∀ x1 x2, ∀ t, execLoftPortCycle x1 x2 s = .next t → (hm : Sub 748488 m := by decide) → Only m a t := by
  intro x1 x2 t e hm
  refine h.step hm ?_
  cases e
  refine charge_only ?_ _ _
  have : ∀ (l : List PortWant) (p : PortCycle), Only 748488 s p.s →
      Only 748488 s (l.foldl (fun (p : PortCycle) w => p.offer x1.val x2.found w) p).s := by
    intro l
    induction l with
    | nil => intro p k; exact k
    | cons w l ih => intro p k; exact ih _ (PortCycle_offer_only _ _ _ _ k)
  exact this _ _ (.refl s)

theorem execLoftLineFill_only (h : Only m a s) : ∀ x1, ∀ t, execLoftLineFill x1 s = Host.Outcome.next t → (hm : Sub 680264 m := by decide) → Only m a t := by
  intro x1 t e hm
  refine h.step hm ?_
  replace h : Only 680264 s s := .refl s
  suffices g : Runs 680264 s (execLoftLineFill x1 s) from g.only t e
  clear e t
  unfold execLoftLineFill
  try dsimp only
  repeat' (first | with_reducible assumption | decide | with_reducible refine runs_intro ?_
                 | with_reducible apply runs_ite | with_reducible exact runs_refused
                 | with_reducible exact runs_fault | intro _ | with_reducible refine wakeLine_only ?_ _ _ ?_
                 | with_reducible refine modLine_only ?_ _ _ ?_ | with_reducible apply ite_only
                 | with_reducible apply foldl_only | with_reducible apply foldl_only_snd | refine snd_only ‹_ = _› ?_
                 | refine fst_only ‹_ = _› ?_ | fail_if_no_progress (with_reducible refine upd256_only ?_ _ ?_)
                 | split)

theorem execLoftWriteBack_only (h : Only m a s) : ∀ x1, ∀ t, execLoftWriteBack x1 s = Host.Outcome.next t → (hm : Sub 535304 m := by decide) → Only m a t := by
  intro x1 t e hm
  refine h.step hm ?_
  replace h : Only 535304 s s := .refl s
  suffices g : Runs 535304 s (execLoftWriteBack x1 s) from g.only t e
  clear e t
  unfold execLoftWriteBack
  try dsimp only
  repeat' (first | with_reducible assumption | decide | with_reducible refine runs_intro ?_
                 | with_reducible apply runs_ite | with_reducible exact runs_refused
                 | with_reducible exact runs_fault | intro _ | with_reducible refine askBack_only ?_ _ ?_
                 | with_reducible refine pushWb_only ?_ _ _ _ ?_ | with_reducible refine dropLine_only ?_ _ ?_
                 | with_reducible refine modLine_only ?_ _ _ ?_ | with_reducible apply ite_only
                 | with_reducible apply foldl_only | with_reducible apply foldl_only_snd | refine snd_only ‹_ = _› ?_
                 | refine fst_only ‹_ = _› ?_ | split)

theorem execLoftPatrolStep_only (h : Only m a s) : ∀ x1 x2, ∀ t, execLoftPatrolStep x1 x2 s = Host.Outcome.next t → (hm : Sub 27400 m := by decide) → Only m a t := by
  intro x1 x2 t e hm
  refine h.step hm ?_
  replace h : Only 27400 s s := .refl s
  suffices g : Runs 27400 s (execLoftPatrolStep x1 x2 s) from g.only t e
  clear e t
  unfold execLoftPatrolStep
  try dsimp only
  repeat' (first | with_reducible assumption | decide | with_reducible refine runs_intro ?_
                 | with_reducible apply runs_ite | with_reducible exact runs_refused
                 | with_reducible exact runs_fault | intro _ | with_reducible refine modLoft_only ?_ _ ?_
                 | with_reducible refine meetWord_only ?_ _ _ _ ?_ | with_reducible apply ite_only
                 | with_reducible apply foldl_only | with_reducible apply foldl_only_snd | refine snd_only ‹_ = _› ?_
                 | refine fst_only ‹_ = _› ?_ | split)

theorem execPartitionChangeEffect_only (h : Only m a s) : ∀ x1, ∀ t, execPartitionChangeEffect x1 s = Host.Outcome.next t → (hm : Sub 8216 m := by decide) → Only m a t := by
  intro x1 t e hm
  refine h.step hm ?_
  replace h : Only 8216 s s := .refl s
  suffices g : Runs 8216 s (execPartitionChangeEffect x1 s) from g.only t e
  clear e t
  unfold execPartitionChangeEffect
  try dsimp only
  repeat' (first | with_reducible assumption | decide | with_reducible refine runs_intro ?_
                 | with_reducible apply runs_ite | with_reducible exact runs_refused
                 | with_reducible exact runs_fault | intro _ | with_reducible refine modLoft_only ?_ _ ?_
                 | with_reducible refine setObj_only ?_ _ _ _ _ ?_ | with_reducible refine setNow_only ?_ _ _ _ _ ?_
                 | with_reducible refine renumber_only ?_ _ _ _ ?_ | with_reducible refine settleMap_only ?_ ?_
                 | with_reducible apply ite_only | with_reducible apply foldl_only
                 | with_reducible apply foldl_only_snd | refine snd_only ‹_ = _› ?_ | refine fst_only ‹_ = _› ?_
                 | split)

theorem execSliceFail_only (h : Only m a s) : ∀ x1 x2, ∀ t, execSliceFail x1 x2 s = Host.Outcome.next t → (hm : Sub 783196 m := by decide) → Only m a t := by
  intro x1 x2 t e hm
  refine h.step hm ?_
  replace h : Only 783196 s s := .refl s
  suffices g : Runs 783196 s (execSliceFail x1 x2 s) from g.only t e
  clear e t
  unfold execSliceFail
  try dsimp only
  repeat' (first | with_reducible assumption | decide | with_reducible refine runs_intro ?_
                 | with_reducible apply runs_ite | with_reducible exact runs_refused
                 | with_reducible exact runs_fault | intro _ | with_reducible refine setObj_only ?_ _ _ _ _ ?_
                 | with_reducible refine modLoft_only ?_ _ ?_ | with_reducible apply each_only
                 | with_reducible refine loftAbort_only ?_ _ _ ?_ | with_reducible refine damageSet_only ?_ _ _ ?_
                 | with_reducible refine tagsGone_only ?_ _ ?_ | with_reducible refine unfetch_only ?_ _ ?_
                 | with_reducible refine bump_only ?_ _ _ _ _ ?_ | with_reducible refine moveEntries_only ?_ _ ?_
                 | with_reducible refine captureOff_only ?_ _ ?_ | with_reducible apply ite_only
                 | with_reducible apply foldl_only | with_reducible apply foldl_only_snd | refine snd_only ‹_ = _› ?_
                 | refine fst_only ‹_ = _› ?_ | split)

theorem execSliceFence_only (h : Only m a s) : ∀ x1, ∀ t, execSliceFence x1 s = Host.Outcome.next t → (hm : Sub 8200 m := by decide) → Only m a t := by
  intro x1 t e hm
  refine h.step hm ?_
  replace h : Only 8200 s s := .refl s
  suffices g : Runs 8200 s (execSliceFence x1 s) from g.only t e
  clear e t
  unfold execSliceFence
  try dsimp only
  repeat' (first | with_reducible assumption | decide | with_reducible refine runs_intro ?_
                 | with_reducible apply runs_ite | with_reducible exact runs_refused
                 | with_reducible exact runs_fault | intro _ | with_reducible refine modLoft_only ?_ _ ?_
                 | with_reducible refine fenceUnit_only ?_ _ ?_ | with_reducible refine setObj_only ?_ _ _ _ _ ?_
                 | with_reducible apply ite_only | with_reducible apply foldl_only
                 | with_reducible apply foldl_only_snd | refine snd_only ‹_ = _› ?_ | refine fst_only ‹_ = _› ?_
                 | split)

theorem execSliceMapReturn_only (h : Only m a s) : ∀ x1, ∀ t, execSliceMapReturn x1 s = Host.Outcome.next t → (hm : Sub 8200 m := by decide) → Only m a t := by
  intro x1 t e hm
  refine h.step hm ?_
  replace h : Only 8200 s s := .refl s
  suffices g : Runs 8200 s (execSliceMapReturn x1 s) from g.only t e
  clear e t
  unfold execSliceMapReturn
  try dsimp only
  repeat' (first | with_reducible assumption | decide | with_reducible refine runs_intro ?_
                 | with_reducible apply runs_ite | with_reducible exact runs_refused
                 | with_reducible exact runs_fault | intro _ | with_reducible refine modLoft_only ?_ _ ?_
                 | with_reducible refine setObj_only ?_ _ _ _ _ ?_ | with_reducible apply ite_only
                 | with_reducible apply foldl_only | with_reducible apply foldl_only_snd | refine snd_only ‹_ = _› ?_
                 | refine fst_only ‹_ = _› ?_ | split)

theorem execReduce_only (h : Only m a s) : ∀ x1, ∀ t, execReduce x1 s = Host.Outcome.next t → (hm : Sub 4878158 m := by decide) → Only m a t := by
  intro x1 t e hm
  refine h.step hm ?_
  replace h : Only 4878158 s s := .refl s
  suffices g : Runs 4878158 s (execReduce x1 s) from g.only t e
  clear e t
  unfold execReduce
  try dsimp only
  repeat' (first | with_reducible assumption | decide | with_reducible refine runs_intro ?_
                 | with_reducible apply runs_ite | with_reducible exact runs_refused
                 | with_reducible exact runs_fault | intro _ | with_reducible refine post_only ?_ _ _ ?_
                 | with_reducible apply ite_only | with_reducible apply foldl_only
                 | with_reducible apply foldl_only_snd | refine snd_only ‹_ = _› ?_ | refine fst_only ‹_ = _› ?_
                 | split)

theorem execGather_only (h : Only m a s) : ∀ x1, ∀ t, execGather x1 s = Host.Outcome.next t → (hm : Sub 4878158 m := by decide) → Only m a t := by
  intro x1 t e hm
  refine h.step hm ?_
  replace h : Only 4878158 s s := .refl s
  suffices g : Runs 4878158 s (execGather x1 s) from g.only t e
  clear e t
  unfold execGather
  try dsimp only
  repeat' (first | with_reducible assumption | decide | with_reducible refine runs_intro ?_
                 | with_reducible apply runs_ite | with_reducible exact runs_refused
                 | with_reducible exact runs_fault | intro _ | with_reducible refine post_only ?_ _ _ ?_
                 | with_reducible apply ite_only | with_reducible apply foldl_only
                 | with_reducible apply foldl_only_snd | refine snd_only ‹_ = _› ?_ | refine fst_only ‹_ = _› ?_
                 | split)

theorem execScore_only (h : Only m a s) : ∀ x1, ∀ t, execScore x1 s = Host.Outcome.next t → (hm : Sub 4878158 m := by decide) → Only m a t := by
  intro x1 t e hm
  refine h.step hm ?_
  replace h : Only 4878158 s s := .refl s
  suffices g : Runs 4878158 s (execScore x1 s) from g.only t e
  clear e t
  unfold execScore
  try dsimp only
  repeat' (first | with_reducible assumption | decide | with_reducible refine runs_intro ?_
                 | with_reducible apply runs_ite | with_reducible exact runs_refused
                 | with_reducible exact runs_fault | intro _ | with_reducible refine post_only ?_ _ _ ?_
                 | with_reducible apply ite_only | with_reducible apply foldl_only
                 | with_reducible apply foldl_only_snd | refine snd_only ‹_ = _› ?_ | refine fst_only ‹_ = _› ?_
                 | split)

theorem execProject_only (h : Only m a s) : ∀ x1, ∀ t, execProject x1 s = Host.Outcome.next t → (hm : Sub 4878158 m := by decide) → Only m a t := by
  intro x1 t e hm
  refine h.step hm ?_
  replace h : Only 4878158 s s := .refl s
  suffices g : Runs 4878158 s (execProject x1 s) from g.only t e
  clear e t
  unfold execProject
  try dsimp only
  repeat' (first | with_reducible assumption | decide | with_reducible refine runs_intro ?_
                 | with_reducible apply runs_ite | with_reducible exact runs_refused
                 | with_reducible exact runs_fault | intro _ | with_reducible refine post_only ?_ _ _ ?_
                 | with_reducible apply ite_only | with_reducible apply foldl_only
                 | with_reducible apply foldl_only_snd | refine snd_only ‹_ = _› ?_ | refine fst_only ‹_ = _› ?_
                 | split)

theorem execSelect_only (h : Only m a s) : ∀ x1, ∀ t, execSelect x1 s = Host.Outcome.next t → (hm : Sub 4878158 m := by decide) → Only m a t := by
  intro x1 t e hm
  refine h.step hm ?_
  replace h : Only 4878158 s s := .refl s
  suffices g : Runs 4878158 s (execSelect x1 s) from g.only t e
  clear e t
  unfold execSelect
  try dsimp only
  repeat' (first | with_reducible assumption | decide | with_reducible refine runs_intro ?_
                 | with_reducible apply runs_ite | with_reducible exact runs_refused
                 | with_reducible exact runs_fault | intro _ | with_reducible refine post_only ?_ _ _ ?_
                 | with_reducible apply ite_only | with_reducible apply foldl_only
                 | with_reducible apply foldl_only_snd | refine snd_only ‹_ = _› ?_ | refine fst_only ‹_ = _› ?_
                 | split)

theorem execFilter_only (h : Only m a s) : ∀ x1, ∀ t, execFilter x1 s = Host.Outcome.next t → (hm : Sub 4878158 m := by decide) → Only m a t := by
  intro x1 t e hm
  refine h.step hm ?_
  replace h : Only 4878158 s s := .refl s
  suffices g : Runs 4878158 s (execFilter x1 s) from g.only t e
  clear e t
  unfold execFilter
  try dsimp only
  repeat' (first | with_reducible assumption | decide | with_reducible refine runs_intro ?_
                 | with_reducible apply runs_ite | with_reducible exact runs_refused
                 | with_reducible exact runs_fault | intro _ | with_reducible refine post_only ?_ _ _ ?_
                 | with_reducible apply ite_only | with_reducible apply foldl_only
                 | with_reducible apply foldl_only_snd | refine snd_only ‹_ = _› ?_ | refine fst_only ‹_ = _› ?_
                 | split)

theorem execConvert_only (h : Only m a s) : ∀ x1, ∀ t, execConvert x1 s = Host.Outcome.next t → (hm : Sub 4878158 m := by decide) → Only m a t := by
  intro x1 t e hm
  refine h.step hm ?_
  replace h : Only 4878158 s s := .refl s
  suffices g : Runs 4878158 s (execConvert x1 s) from g.only t e
  clear e t
  unfold execConvert
  try dsimp only
  repeat' (first | with_reducible assumption | decide | with_reducible refine runs_intro ?_
                 | with_reducible apply runs_ite | with_reducible exact runs_refused
                 | with_reducible exact runs_fault | intro _ | with_reducible refine post_only ?_ _ _ ?_
                 | with_reducible apply ite_only | with_reducible apply foldl_only
                 | with_reducible apply foldl_only_snd | refine snd_only ‹_ = _› ?_ | refine fst_only ‹_ = _› ?_
                 | split)

theorem execCopy_only (h : Only m a s) : ∀ x1, ∀ t, execCopy x1 s = Host.Outcome.next t → (hm : Sub 4878158 m := by decide) → Only m a t := by
  intro x1 t e hm
  refine h.step hm ?_
  replace h : Only 4878158 s s := .refl s
  suffices g : Runs 4878158 s (execCopy x1 s) from g.only t e
  clear e t
  unfold execCopy
  try dsimp only
  repeat' (first | with_reducible assumption | decide | with_reducible refine runs_intro ?_
                 | with_reducible apply runs_ite | with_reducible exact runs_refused
                 | with_reducible exact runs_fault | intro _ | with_reducible refine post_only ?_ _ _ ?_
                 | with_reducible apply ite_only | with_reducible apply foldl_only
                 | with_reducible apply foldl_only_snd | refine snd_only ‹_ = _› ?_ | refine fst_only ‹_ = _› ?_
                 | split)

theorem execScan_only (h : Only m a s) : ∀ x1, ∀ t, execScan x1 s = Host.Outcome.next t → (hm : Sub 4878158 m := by decide) → Only m a t := by
  intro x1 t e hm
  refine h.step hm ?_
  replace h : Only 4878158 s s := .refl s
  suffices g : Runs 4878158 s (execScan x1 s) from g.only t e
  clear e t
  unfold execScan
  try dsimp only
  repeat' (first | with_reducible assumption | decide | with_reducible refine runs_intro ?_
                 | with_reducible apply runs_ite | with_reducible exact runs_refused
                 | with_reducible exact runs_fault | intro _ | with_reducible refine post_only ?_ _ _ ?_
                 | with_reducible apply ite_only | with_reducible apply foldl_only
                 | with_reducible apply foldl_only_snd | refine snd_only ‹_ = _› ?_ | refine fst_only ‹_ = _› ?_
                 | split)

theorem execFill_only (h : Only m a s) : ∀ x1, ∀ t, execFill x1 s = Host.Outcome.next t → (hm : Sub 4878158 m := by decide) → Only m a t := by
  intro x1 t e hm
  refine h.step hm ?_
  replace h : Only 4878158 s s := .refl s
  suffices g : Runs 4878158 s (execFill x1 s) from g.only t e
  clear e t
  unfold execFill
  try dsimp only
  repeat' (first | with_reducible assumption | decide | with_reducible refine runs_intro ?_
                 | with_reducible apply runs_ite | with_reducible exact runs_refused
                 | with_reducible exact runs_fault | intro _ | with_reducible refine post_only ?_ _ _ ?_
                 | with_reducible apply ite_only | with_reducible apply foldl_only
                 | with_reducible apply foldl_only_snd | refine snd_only ‹_ = _› ?_ | refine fst_only ‹_ = _› ?_
                 | split)

theorem execReservedKind_only (h : Only m a s) : ∀ x1 x2, ∀ t, execReservedKind x1 x2 s = Host.Outcome.next t → (hm : Sub 4878158 m := by decide) → Only m a t := by
  intro x1 x2 t e hm
  refine h.step hm ?_
  replace h : Only 4878158 s s := .refl s
  suffices g : Runs 4878158 s (execReservedKind x1 x2 s) from g.only t e
  clear e t
  unfold execReservedKind
  try dsimp only
  repeat' (first | with_reducible assumption | decide | with_reducible refine runs_intro ?_
                 | with_reducible apply runs_ite | with_reducible exact runs_refused
                 | with_reducible exact runs_fault | intro _ | with_reducible refine post_only ?_ _ _ ?_
                 | with_reducible apply ite_only | with_reducible apply foldl_only
                 | with_reducible apply foldl_only_snd | refine snd_only ‹_ = _› ?_ | refine fst_only ‹_ = _› ?_
                 | split)

theorem execShotExtend_only (h : Only m a s) : ∀ x1, ∀ t, execShotExtend x1 s = Host.Outcome.next t → (hm : Sub 49160 m := by decide) → Only m a t := by
  intro x1 t e hm
  refine h.step hm ?_
  replace h : Only 49160 s s := .refl s
  suffices g : Runs 49160 s (execShotExtend x1 s) from g.only t e
  clear e t
  unfold execShotExtend
  try dsimp only
  repeat' (first | with_reducible assumption | decide | with_reducible refine runs_intro ?_
                 | with_reducible apply runs_ite | with_reducible exact runs_refused
                 | with_reducible exact runs_fault | intro _ | with_reducible refine count_only ?_ _ _ ?_
                 | with_reducible refine modShot_only ?_ _ _ ?_ | with_reducible refine modCtx_only ?_ _ _ ?_
                 | with_reducible refine sendRecord_only ?_ _ _ _ ?_ | with_reducible apply ite_only
                 | with_reducible apply foldl_only | with_reducible apply foldl_only_snd | refine snd_only ‹_ = _› ?_
                 | refine fst_only ‹_ = _› ?_ | split)

theorem execShotTimeAbort_only (h : Only m a s) : ∀ x1, ∀ t, execShotTimeAbort x1 s = Host.Outcome.next t → (hm : Sub 717644 m := by decide) → Only m a t := by
  intro x1 t e hm
  refine h.step hm ?_
  replace h : Only 717644 s s := .refl s
  suffices g : Runs 717644 s (execShotTimeAbort x1 s) from g.only t e
  clear e t
  unfold execShotTimeAbort
  try dsimp only
  repeat' (first | with_reducible assumption | decide | with_reducible refine runs_intro ?_
                 | with_reducible apply runs_ite | with_reducible exact runs_refused
                 | with_reducible exact runs_fault | intro _ | with_reducible refine abortShot_only ?_ _ _ _ ?_
                 | with_reducible apply ite_only | with_reducible apply foldl_only
                 | with_reducible apply foldl_only_snd | refine snd_only ‹_ = _› ?_ | refine fst_only ‹_ = _› ?_
                 | split)

theorem execListHeadTimeout_only (h : Only m a s) : ∀ x1, ∀ t, execListHeadTimeout x1 s = Host.Outcome.next t → (hm : Sub 574220 m := by decide) → Only m a t := by
  intro x1 t e hm
  refine h.step hm ?_
  replace h : Only 574220 s s := .refl s
  suffices g : Runs 574220 s (execListHeadTimeout x1 s) from g.only t e
  clear e t
  unfold execListHeadTimeout
  try dsimp only
  repeat' (first | with_reducible assumption | decide | with_reducible refine runs_intro ?_
                 | with_reducible apply runs_ite | with_reducible exact runs_refused
                 | with_reducible exact runs_fault | intro _ | with_reducible refine stampHead_only ?_ _ ?_
                 | with_reducible refine abortTell_only ?_ _ _ _ _ _ _ ?_
                 | with_reducible refine setList_only ?_ _ _ ?_ | with_reducible apply ite_only
                 | with_reducible apply foldl_only | with_reducible apply foldl_only_snd | refine snd_only ‹_ = _› ?_
                 | refine fst_only ‹_ = _› ?_ | split)

theorem execContextFree_only (h : Only m a s) : ∀ x1, ∀ t, execContextFree x1 s = Host.Outcome.next t → (hm : Sub 16384 m := by decide) → Only m a t := by
  intro x1 t e hm
  refine h.step hm ?_
  replace h : Only 16384 s s := .refl s
  suffices g : Runs 16384 s (execContextFree x1 s) from g.only t e
  clear e t
  unfold execContextFree
  try dsimp only
  repeat' (first | with_reducible assumption | decide | with_reducible refine runs_intro ?_
                 | with_reducible apply runs_ite | with_reducible exact runs_refused
                 | with_reducible exact runs_fault | intro _ | with_reducible refine modCtx_only ?_ _ _ ?_
                 | with_reducible apply ite_only | with_reducible apply foldl_only
                 | with_reducible apply foldl_only_snd | refine snd_only ‹_ = _› ?_ | refine fst_only ‹_ = _› ?_
                 | split)

theorem execGatherBagStart_only (h : Only m a s) : ∀ x1, ∀ t, execGatherBagStart x1 s = Host.Outcome.next t → (hm : Sub 682830 m := by decide) → Only m a t := by
  intro x1 t e hm
  refine h.step hm ?_
  replace h : Only 682830 s s := .refl s
  suffices g : Runs 682830 s (execGatherBagStart x1 s) from g.only t e
  clear e t
  unfold execGatherBagStart
  try dsimp only
  repeat' (first | with_reducible assumption | decide | with_reducible refine runs_intro ?_
                 | with_reducible apply runs_ite | with_reducible exact runs_refused
                 | with_reducible exact runs_fault | intro _ | with_reducible refine readLens_only ?_ _ ?_
                 | with_reducible refine issueEntry_only ?_ _ _ _ ?_ | with_reducible refine startBag_only ?_ _ _ ?_
                 | with_reducible apply ite_only | with_reducible apply foldl_only
                 | with_reducible apply foldl_only_snd | refine snd_only ‹_ = _› ?_ | refine fst_only ‹_ = _› ?_
                 | split)

theorem execGatherRowData_only (h : Only m a s) : ∀ x1, ∀ t, execGatherRowData x1 s = Host.Outcome.next t → (hm : Sub 682830 m := by decide) → Only m a t := by
  intro x1 t e hm
  refine h.step hm ?_
  replace h : Only 682830 s s := .refl s
  suffices g : Runs 682830 s (execGatherRowData x1 s) from g.only t e
  clear e t
  unfold execGatherRowData
  try dsimp only
  repeat' (first | with_reducible assumption | decide | with_reducible refine runs_intro ?_
                 | with_reducible apply runs_ite | with_reducible exact runs_refused
                 | with_reducible exact runs_fault | intro _ | with_reducible refine tallyBlock_only ?_ _ _ _ ?_
                 | with_reducible refine modShot_only ?_ _ _ ?_ | with_reducible refine count_only ?_ _ _ ?_
                 | with_reducible refine modBag_only ?_ _ _ _ ?_ | with_reducible refine finishBag_only ?_ _ _ ?_
                 | with_reducible apply ite_only | with_reducible apply foldl_only
                 | with_reducible apply foldl_only_snd | refine snd_only ‹_ = _› ?_ | refine fst_only ‹_ = _› ?_
                 | fail_if_no_progress (with_reducible refine upd256_only ?_ _ ?_) | split)

theorem execArrayRun_only (h : Only m a s) : ∀ x1, ∀ t, execArrayRun x1 s = .next t → (hm : Sub 682830 m := by decide) → Only m a t := by
  intro x1 t e hm
  refine h.step hm ?_
  replace h : Only 682830 s s := .refl s
  suffices g : Runs 682830 s (execArrayRun x1 s) from g.only t e
  clear e t
  unfold execArrayRun
  extract_lets ar
  refine runs_ite (runs_intro h) ?_
  split
  · exact runs_intro h
  rename_i x _
  refine runs_ite (runs_intro (loadQueries_only h _)) ?_
  extract_lets w t n first need passes r cyc all share
  refine runs_ite (runs_intro (engAsk_only h _ _ _)) ?_
  refine runs_ite (runs_intro h) ?_
  have g0 : Only 682830 s (s.engDone x.id) := engDone_only h _
  have key : ∀ (f : Option State → Nat → Option State), (∀ acc i t, f acc i = some t → ∃ u, acc = some u ∧ (Only 682830 s u → Only 682830 s t)) →
      ∀ (l : List Nat) (acc : Option State), (∀ t, acc = some t → Only 682830 s t) → ∀ t, l.foldl f acc = some t → Only 682830 s t := by
    intro f hf l
    induction l with
    | nil => intro acc k t e; exact k t e
    | cons i l ih =>
      intro acc k t e
      refine ih _ (fun u eu => ?_) t e
      obtain ⟨v, ev, g⟩ := hf _ _ _ eu
      exact g (k v ev)
  have gr : ∀ t, r = some t → Only 682830 s t := by
    refine key _ (fun acc i t e => ?_) _ _ (fun t e => by cases e; exact g0)
    split at e
    · rename_i s1 row _
      rw [← Option.some.inj e]
      exact ⟨s1, rfl, fun k => rowDone_only k _ _ _⟩
    · cases e
  clear_value r
  split
  · exact runs_intro (poisonAbort_only g0 _)
  · rename_i s0 
    extract_lets s1 s2 s3
    have g1 : Only 682830 s s1 := modShot_only (gr _ rfl) _ _
    have g2 : Only 682830 s s2 := issue_only (tallyBlock_only (bump_only (bump_only g1 _ _ _ _) _ _ _ _) _ _ _) _ _
    have g3 : Only 682830 s s3 := ite_only (passEntries_only (bump_only g2 _ _ _ _) _ _ _) g2
    exact runs_intro (modShotS_only g3 _)

theorem execSelectMerge_only (h : Only m a s) : ∀ x1, ∀ t, execSelectMerge x1 s = Host.Outcome.next t → (hm : Sub 715598 m := by decide) → Only m a t := by
  intro x1 t e hm
  refine h.step hm ?_
  replace h : Only 715598 s s := .refl s
  suffices g : Runs 715598 s (execSelectMerge x1 s) from g.only t e
  clear e t
  unfold execSelectMerge
  try dsimp only
  repeat' (first | with_reducible assumption | decide | with_reducible refine runs_intro ?_
                 | with_reducible apply runs_ite | with_reducible exact runs_refused
                 | with_reducible exact runs_fault | intro _ | with_reducible refine send_only ?_ _ ?_
                 | with_reducible refine shotOut_only ?_ _ _ _ _ _ ?_ | with_reducible refine issue_only ?_ _ _ ?_
                 | with_reducible refine bump_only ?_ _ _ _ _ ?_ | with_reducible apply each_only
                 | with_reducible refine modShot_only ?_ _ _ ?_ | with_reducible apply ite_only
                 | with_reducible apply foldl_only | with_reducible apply foldl_only_snd | refine snd_only ‹_ = _› ?_
                 | refine fst_only ‹_ = _› ?_ | split)

end Sys2Proof.Laws
end

