-- ==== Sys2Proof/Laws/Only6.lean ====
section
/-! SUPPORT. Only6.lean: everything each shared operation and command can do to the parts of the state, operations before
those that use them (6 of 6). -/

-- theorems one after another: many at once would ask for too many threads
set_option Elab.async false

namespace Sys2Proof.Laws

open Sys2Proof.Machine Sys2Proof.Safety

set_option linter.unreachableTactic false
set_option linter.unusedTactic false

variable {a s : State} {m : Nat}

theorem execFilterKey_only (h : Only m a s) : ∀ x1, ∀ t, execFilterKey x1 s = Host.Outcome.next t → (hm : Sub 682830 m := by decide) → Only m a t := by
  intro x1 t e hm
  refine h.step hm ?_
  replace h : Only 682830 s s := .refl s
  suffices g : Runs 682830 s (execFilterKey x1 s) from g.only t e
  clear e t
  unfold execFilterKey
  try dsimp only
  repeat' (first | with_reducible assumption | decide | with_reducible refine runs_intro ?_
                 | with_reducible apply runs_ite | with_reducible exact runs_refused
                 | with_reducible exact runs_fault | intro _ | with_reducible refine engAsk_only ?_ _ _ _ ?_
                 | with_reducible refine poisonAbort_only ?_ _ ?_ | with_reducible refine engDone_only ?_ _ ?_
                 | with_reducible refine issue_only ?_ _ _ ?_ | with_reducible refine count_only ?_ _ _ ?_
                 | with_reducible refine modShotS_only ?_ _ ?_ | with_reducible refine modShot_only ?_ _ _ ?_
                 | with_reducible refine tallyBlock_only ?_ _ _ _ ?_
                 | with_reducible refine shotOut_only ?_ _ _ _ _ _ ?_
                 | with_reducible refine filterEnd_only ?_ _ _ ?_ | with_reducible apply ite_only
                 | with_reducible apply foldl_only | with_reducible apply foldl_only_snd | refine snd_only ‹_ = _› ?_
                 | refine fst_only ‹_ = _› ?_ | split)

theorem execPatrolStep_only (h : Only m a s) : ∀ x1 x2, ∀ t, execPatrolStep x1 x2 s = Host.Outcome.next t → (hm : Sub 3676556 m := by decide) → Only m a t := by
  intro x1 x2 t e hm
  refine h.step hm ?_
  replace h : Only 3676556 s s := .refl s
  suffices g : Runs 3676556 s (execPatrolStep x1 x2 s) from g.only t e
  clear e t
  unfold execPatrolStep
  try dsimp only
  repeat' (first | with_reducible assumption | decide | with_reducible refine runs_intro ?_
                 | with_reducible apply runs_ite | with_reducible exact runs_refused
                 | with_reducible exact runs_fault | intro _ | with_reducible refine ownWork_only ?_ _ _ _ _ _ ?_
                 | with_reducible apply each_only | with_reducible refine patrolSector_only ?_ _ _ _ ?_
                 | with_reducible refine modStack_only ?_ _ _ ?_ | with_reducible refine setObj_only ?_ _ _ _ _ ?_
                 | with_reducible refine bump_only ?_ _ _ _ _ ?_ | with_reducible apply ite_only
                 | with_reducible apply foldl_only | with_reducible apply foldl_only_snd | refine snd_only ‹_ = _› ?_
                 | refine fst_only ‹_ = _› ?_ | split)

theorem execBucketLeak_only (h : Only m a s) : ∀ t, execBucketLeak s = Host.Outcome.next t → (hm : Sub 524296 m := by decide) → Only m a t := by
  intro t e hm
  refine h.step hm ?_
  replace h : Only 524296 s s := .refl s
  suffices g : Runs 524296 s (execBucketLeak s) from g.only t e
  clear e t
  unfold execBucketLeak
  try dsimp only
  repeat' (first | with_reducible assumption | decide | with_reducible refine runs_intro ?_
                 | with_reducible apply runs_ite | with_reducible exact runs_refused
                 | with_reducible exact runs_fault | intro _ | with_reducible refine modTest_only ?_ _ ?_
                 | with_reducible apply each_only | with_reducible refine setObj_only ?_ _ _ _ _ ?_
                 | with_reducible apply ite_only | with_reducible apply foldl_only
                 | with_reducible apply foldl_only_snd | refine snd_only ‹_ = _› ?_ | refine fst_only ‹_ = _› ?_
                 | split)

theorem execSpliceLineCopy_only (h : Only m a s) : ∀ x1 x2, ∀ t, execSpliceLineCopy x1 x2 s = Host.Outcome.next t → (hm : Sub 3676556 m := by decide) → Only m a t := by
  intro x1 x2 t e hm
  refine h.step hm ?_
  replace h : Only 3676556 s s := .refl s
  suffices g : Runs 3676556 s (execSpliceLineCopy x1 x2 s) from g.only t e
  clear e t
  unfold execSpliceLineCopy
  try dsimp only
  repeat' (first | with_reducible assumption | decide | with_reducible refine runs_intro ?_
                 | with_reducible apply runs_ite | with_reducible exact runs_refused
                 | with_reducible exact runs_fault | intro _ | with_reducible refine markMoved_only ?_ _ _ ?_
                 | with_reducible refine ownWork_only ?_ _ _ _ _ _ ?_ | with_reducible apply each_only
                 | with_reducible refine copySpliced_only ?_ _ _ _ _ ?_ | with_reducible apply ite_only
                 | with_reducible apply foldl_only | with_reducible apply foldl_only_snd | refine snd_only ‹_ = _› ?_
                 | refine fst_only ‹_ = _› ?_ | split)

theorem execMigrationStart_only (h : Only m a s) : ∀ x1, ∀ t, execMigrationStart x1 s = Host.Outcome.next t → (hm : Sub 2444 m := by decide) → Only m a t := by
  intro x1 t e hm
  refine h.step hm ?_
  replace h : Only 2444 s s := .refl s
  suffices g : Runs 2444 s (execMigrationStart x1 s) from g.only t e
  clear e t
  unfold execMigrationStart
  try dsimp only
  repeat' (first | with_reducible assumption | decide | with_reducible refine runs_intro ?_
                 | with_reducible apply runs_ite | with_reducible exact runs_refused
                 | with_reducible exact runs_fault | intro _ | with_reducible refine modStack_only ?_ _ _ ?_
                 | with_reducible refine noSpare_only ?_ _ ?_ | with_reducible refine applyHeldWhere_only ?_ _ _ ?_
                 | with_reducible refine setRank_only ?_ _ _ _ ?_ | with_reducible apply ite_only
                 | with_reducible apply foldl_only | with_reducible apply foldl_only_snd | refine snd_only ‹_ = _› ?_
                 | refine fst_only ‹_ = _› ?_ | split)

theorem execMigrationLineCopy_only (h : Only m a s) : ∀ x1 x2, ∀ t, execMigrationLineCopy x1 x2 s = Host.Outcome.next t → (hm : Sub 3676556 m := by decide) → Only m a t := by
  intro x1 x2 t e hm
  refine h.step hm ?_
  replace h : Only 3676556 s s := .refl s
  suffices g : Runs 3676556 s (execMigrationLineCopy x1 x2 s) from g.only t e
  clear e t
  unfold execMigrationLineCopy
  try dsimp only
  repeat' (first | with_reducible assumption | decide | with_reducible refine runs_intro ?_
                 | with_reducible apply runs_ite | with_reducible exact runs_refused
                 | with_reducible exact runs_fault | intro _ | with_reducible refine modStack_only ?_ _ _ ?_
                 | with_reducible refine applyHeldWhere_only ?_ _ _ ?_
                 | with_reducible refine migrateLine_only ?_ _ _ _ _ ?_ | with_reducible apply ite_only
                 | with_reducible apply foldl_only | with_reducible apply foldl_only_snd | refine snd_only ‹_ = _› ?_
                 | refine fst_only ‹_ = _› ?_ | split)

theorem execMigrationCommit_only (h : Only m a s) : ∀ x1, ∀ t, execMigrationCommit x1 s = Host.Outcome.next t → (hm : Sub 2060 m := by decide) → Only m a t := by
  intro x1 t e hm
  refine h.step hm ?_
  replace h : Only 2060 s s := .refl s
  suffices g : Runs 2060 s (execMigrationCommit x1 s) from g.only t e
  clear e t
  unfold execMigrationCommit
  try dsimp only
  repeat' (first | with_reducible assumption | decide | with_reducible refine runs_intro ?_
                 | with_reducible apply runs_ite | with_reducible exact runs_refused
                 | with_reducible exact runs_fault | intro _ | with_reducible refine setRank_only ?_ _ _ _ ?_
                 | with_reducible refine pointTo_only ?_ _ _ _ ?_ | with_reducible refine count_only ?_ _ _ ?_
                 | with_reducible refine freeEntries_only ?_ _ _ ?_ | with_reducible refine fenceUnit_only ?_ _ ?_
                 | with_reducible refine modStack_only ?_ _ _ ?_ | with_reducible refine endEvacuation_only ?_ _ _ ?_
                 | with_reducible refine logEvent_only ?_ _ _ _ _ _ _ ?_ | with_reducible apply ite_only
                 | with_reducible apply foldl_only | with_reducible apply foldl_only_snd | refine snd_only ‹_ = _› ?_
                 | refine fst_only ‹_ = _› ?_ | split)

theorem execRebuildLineCopy_only (h : Only m a s) : ∀ x1 x2, ∀ t, execRebuildLineCopy x1 x2 s = Host.Outcome.next t → (hm : Sub 3676620 m := by decide) → Only m a t := by
  intro x1 x2 t e hm
  refine h.step hm ?_
  replace h : Only 3676620 s s := .refl s
  suffices g : Runs 3676620 s (execRebuildLineCopy x1 x2 s) from g.only t e
  clear e t
  unfold execRebuildLineCopy
  try dsimp only
  repeat' (first | with_reducible assumption | decide | with_reducible refine runs_intro ?_
                 | with_reducible apply runs_ite | with_reducible exact runs_refused
                 | with_reducible exact runs_fault | intro _ | with_reducible refine endRebuild_only ?_ _ ?_
                 | with_reducible refine modSlot_only ?_ _ _ ?_ | with_reducible refine tookRebuild_only ?_ _ _ ?_
                 | with_reducible refine ownWork_only ?_ _ _ _ _ _ ?_ | with_reducible apply each_only
                 | with_reducible refine dramPut_only ?_ _ _ ?_ | with_reducible refine copySector_only ?_ _ _ _ _ ?_
                 | with_reducible apply ite_only | with_reducible apply foldl_only
                 | with_reducible apply foldl_only_snd | refine snd_only ‹_ = _› ?_ | refine fst_only ‹_ = _› ?_
                 | split)

theorem execReadmitResult_only (h : Only m a s) : ∀ x1, ∀ t, execReadmitResult x1 s = Host.Outcome.next t → (hm : Sub 526478 m := by decide) → Only m a t := by
  intro x1 t e hm
  refine h.step hm ?_
  replace h : Only 526478 s s := .refl s
  suffices g : Runs 526478 s (execReadmitResult x1 s) from g.only t e
  clear e t
  unfold execReadmitResult
  try dsimp only
  repeat' (first | with_reducible assumption | decide | with_reducible refine runs_intro ?_
                 | with_reducible apply runs_ite | with_reducible exact runs_refused
                 | with_reducible exact runs_fault | intro _ | with_reducible refine modTest_only ?_ _ ?_
                 | with_reducible refine toStandby_only ?_ _ ?_ | with_reducible refine setObj_only ?_ _ _ _ _ ?_
                 | with_reducible refine raiseGen_only ?_ _ ?_
                 | with_reducible refine logEvent_only ?_ _ _ _ _ _ _ ?_ | with_reducible apply ite_only
                 | with_reducible apply foldl_only | with_reducible apply foldl_only_snd | refine snd_only ‹_ = _› ?_
                 | refine fst_only ‹_ = _› ?_ | split)

theorem execSweepStep_only (h : Only m a s) : ∀ x1 x2 x3, ∀ t, execSweepStep x1 x2 x3 s = Host.Outcome.next t → (hm : Sub 3676620 m := by decide) → Only m a t := by
  intro x1 x2 x3 t e hm
  refine h.step hm ?_
  replace h : Only 3676620 s s := .refl s
  suffices g : Runs 3676620 s (execSweepStep x1 x2 x3 s) from g.only t e
  clear e t
  unfold execSweepStep
  try dsimp only
  repeat' (first | with_reducible assumption | decide | with_reducible refine runs_intro ?_
                 | with_reducible apply runs_ite | with_reducible exact runs_refused
                 | with_reducible exact runs_fault | intro _ | with_reducible refine modSlot_only ?_ _ _ ?_
                 | with_reducible refine modStack_only ?_ _ _ ?_ | with_reducible refine sweepSector_only ?_ _ _ _ ?_
                 | with_reducible refine ownWork_only ?_ _ _ _ _ _ ?_ | with_reducible apply ite_only
                 | with_reducible apply foldl_only | with_reducible apply foldl_only_snd | refine snd_only ‹_ = _› ?_
                 | refine fst_only ‹_ = _› ?_ | split)

theorem execSweepComplete_only (h : Only m a s) : ∀ x1, ∀ t, execSweepComplete x1 s = Host.Outcome.next t → (hm : Sub 76 m := by decide) → Only m a t := by
  intro x1 t e hm
  refine h.step hm ?_
  replace h : Only 76 s s := .refl s
  suffices g : Runs 76 s (execSweepComplete x1 s) from g.only t e
  clear e t
  unfold execSweepComplete
  try dsimp only
  repeat' (first | with_reducible assumption | decide | with_reducible refine runs_intro ?_
                 | with_reducible apply runs_ite | with_reducible exact runs_refused
                 | with_reducible exact runs_fault | intro _ | with_reducible refine modSlot_only ?_ _ _ ?_
                 | with_reducible refine logEvent_only ?_ _ _ _ _ _ _ ?_ | with_reducible refine count_only ?_ _ _ ?_
                 | with_reducible apply ite_only | with_reducible apply foldl_only
                 | with_reducible apply foldl_only_snd | refine snd_only ‹_ = _› ?_ | refine fst_only ‹_ = _› ?_
                 | split)

theorem execEraseEffect_only (h : Only m a s) : ∀ x1, ∀ t, execEraseEffect x1 s = Host.Outcome.next t → (hm : Sub 270408 m := by decide) → Only m a t := by
  intro x1 t e hm
  refine h.step hm ?_
  replace h : Only 270408 s s := .refl s
  suffices g : Runs 270408 s (execEraseEffect x1 s) from g.only t e
  clear e t
  unfold execEraseEffect
  try dsimp only
  repeat' (first | with_reducible assumption | decide | with_reducible refine runs_intro ?_
                 | with_reducible apply runs_ite | with_reducible exact runs_refused
                 | with_reducible exact runs_fault | intro _ | with_reducible refine dropLoft_only ?_ _ ?_
                 | with_reducible refine destroyKeys_only ?_ _ ?_ | with_reducible apply each_only
                 | with_reducible refine setWritten_only ?_ _ _ ?_ | with_reducible refine newKey_only ?_ _ ?_
                 | with_reducible refine modSlot_only ?_ _ _ ?_ | with_reducible apply ite_only
                 | with_reducible apply foldl_only | with_reducible apply foldl_only_snd | refine snd_only ‹_ = _› ?_
                 | refine fst_only ‹_ = _› ?_ | split)

theorem execEntropyHealthChange_only (h : Only m a s) : ∀ x1, ∀ t, execEntropyHealthChange x1 s = Host.Outcome.next t → (hm : Sub 262156 m := by decide) → Only m a t := by
  intro x1 t e hm
  refine h.step hm ?_
  replace h : Only 262156 s s := .refl s
  suffices g : Runs 262156 s (execEntropyHealthChange x1 s) from g.only t e
  clear e t
  unfold execEntropyHealthChange
  try dsimp only
  repeat' (first | with_reducible assumption | decide | with_reducible refine runs_intro ?_
                 | with_reducible apply runs_ite | with_reducible exact runs_refused
                 | with_reducible exact runs_fault | intro _ | with_reducible refine modKeys_only ?_ _ ?_
                 | with_reducible refine setObj_only ?_ _ _ _ _ ?_
                 | with_reducible refine logEvent_only ?_ _ _ _ _ _ _ ?_ | with_reducible refine reseed_only ?_ ?_
                 | with_reducible apply ite_only | with_reducible apply foldl_only
                 | with_reducible apply foldl_only_snd | refine snd_only ‹_ = _› ?_ | refine fst_only ‹_ = _› ?_
                 | split)

theorem execDrbgReseed_only (h : Only m a s) : ∀ t, execDrbgReseed s = Host.Outcome.next t → (hm : Sub 262144 m := by decide) → Only m a t := by
  intro t e hm
  refine h.step hm ?_
  replace h : Only 262144 s s := .refl s
  suffices g : Runs 262144 s (execDrbgReseed s) from g.only t e
  clear e t
  unfold execDrbgReseed
  try dsimp only
  repeat' (first | with_reducible assumption | decide | with_reducible refine runs_intro ?_
                 | with_reducible apply runs_ite | with_reducible exact runs_refused
                 | with_reducible exact runs_fault | intro _ | with_reducible refine reseed_only ?_ ?_
                 | with_reducible apply ite_only | with_reducible apply foldl_only
                 | with_reducible apply foldl_only_snd | refine snd_only ‹_ = _› ?_ | refine fst_only ‹_ = _› ?_
                 | split)

theorem execScanRequest_only (h : Only m a s) : ∀ t, execScanRequest s = Host.Outcome.next t → (hm : Sub 34272078 m := by decide) → Only m a t := by
  intro t e hm
  refine h.step hm ?_
  replace h : Only 34272078 s s := .refl s
  suffices g : Runs 34272078 s (execScanRequest s) from g.only t e
  clear e t
  unfold execScanRequest
  try dsimp only
  repeat' (first | with_reducible assumption | decide | with_reducible refine runs_intro ?_
                 | with_reducible apply runs_ite | with_reducible exact runs_refused
                 | with_reducible exact runs_fault | exact ⟨rfl, rfl, rfl⟩
                 | with_reducible refine modBlock_states ?_ _ ?_ | intro _
                 | with_reducible refine abortPorts_only ?_ _ ?_
                 | with_reducible refine logEvent_only ?_ _ _ _ _ _ _ ?_ | with_reducible apply each_only
                 | with_reducible refine abortShot_only ?_ _ _ _ ?_ | with_reducible refine modSession_only ?_ _ _ ?_
                 | with_reducible apply ite_only | with_reducible apply foldl_only
                 | with_reducible apply foldl_only_snd | refine snd_only ‹_ = _› ?_ | refine fst_only ‹_ = _› ?_
                 | split)

theorem execScanClearComplete_only (h : Only m a s) : ∀ x1, ∀ t, execScanClearComplete x1 s = Host.Outcome.next t → (hm : Sub 24578 m := by decide) → Only m a t := by
  intro x1 t e hm
  refine h.step hm ?_
  replace h : Only 24578 s s := .refl s
  suffices g : Runs 24578 s (execScanClearComplete x1 s) from g.only t e
  clear e t
  unfold execScanClearComplete
  try dsimp only
  repeat' (first | with_reducible assumption | decide | with_reducible refine runs_intro ?_
                 | with_reducible apply runs_ite | with_reducible exact runs_refused
                 | with_reducible exact runs_fault | exact ⟨rfl, rfl, rfl⟩ | intro _
                 | with_reducible refine modLoft_only ?_ _ ?_ | with_reducible refine modShotS_only ?_ _ ?_
                 | with_reducible refine modBlock_only ?_ _ ?_ ?_ | with_reducible apply ite_only
                 | with_reducible apply foldl_only | with_reducible apply foldl_only_snd | refine snd_only ‹_ = _› ?_
                 | refine fst_only ‹_ = _› ?_ | split)

theorem execResetAssert_only (h : Only m a s) : ∀ x1, ∀ t, execResetAssert x1 s = Host.Outcome.next t → (hm : Sub 67108863 m := by decide) → Only m a t := by
  intro x1 t e hm
  refine h.step hm ?_
  replace h : Only 67108863 s s := .refl s
  suffices g : Runs 67108863 s (execResetAssert x1 s) from g.only t e
  clear e t
  unfold execResetAssert
  try dsimp only
  repeat' (first | with_reducible assumption | decide | with_reducible refine runs_intro ?_
                 | with_reducible apply runs_ite | with_reducible exact runs_refused
                 | with_reducible exact runs_fault | intro _ | with_reducible refine cleared_only ?_ ?_
                 | with_reducible refine takeFree_only ?_ ?_ | with_reducible apply ite_only
                 | with_reducible apply foldl_only | with_reducible apply foldl_only_snd | refine snd_only ‹_ = _› ?_
                 | refine fst_only ‹_ = _› ?_ | split)

theorem execResetRelease_only (h : Only m a s) : ∀ x1 x2, ∀ t, execResetRelease x1 x2 s = .next t → (hm : Sub 67108863 m := by decide) → Only m a t := by
  intro x1 x2 t e hm
  refine h.step hm ?_
  suffices g : Runs 67108863 s (execResetRelease x1 x2 s) from g.only t e
  clear e t
  have g : Only 67108863 s s.cleared := cleared_only (.refl s)
  refine runs_ite (runs_intro (.refl s)) (runs_intro ?_)
  exact ⟨g.time, .inl rfl, g.mgmt, g.objs, g.live, g.live2, g.regions, g.dram, g.reqs, g.nextReq, g.ports, g.stackTab, g.pcs, g.loft, g.shot, g.entry, g.packet, g.seqNo, g.keys, g.test, g.tokens, g.free, g.outbox, g.pending, g.frame, .inl rfl, g.trace, g.fresh, g.canon⟩

theorem execMicrocodeImage_only (h : Only m a s) : ∀ x1, ∀ t, execMicrocodeImage x1 s = .next t → (hm : Sub 33826942 m := by decide) → Only m a t := by
  intro x1 t e hm
  refine h.step hm ?_
  replace h : Only 33826942 s s := .refl s
  suffices g : Runs 33826942 s (execMicrocodeImage x1 s) from g.only t e
  clear e t
  unfold execMicrocodeImage
  refine runs_ite (runs_intro h) (runs_ite (runs_intro (holdSafe_only h _)) ?_)
  extract_lets s1 s2
  have g1 : Only 33826942 s s1 := modBlock_only (setObj_only h _ _ _ _) _ fun _ => ⟨rfl, rfl, rfl⟩
  have g : Only 33826942 s s2 := bootProfile_only (storeProfiles_only (bootKeys_only g1 _) _)
  clear_value s2
  refine runs_intro ⟨g.time, .inl rfl, g.mgmt, g.objs, .inl rfl, .inl rfl, g.regions, g.dram, g.reqs, g.nextReq, g.ports, g.stackTab, g.pcs, g.loft, g.shot, g.entry, g.packet, g.seqNo, g.keys, g.test, g.tokens, g.free, g.outbox, g.pending, g.frame, .inl rfl, g.trace, g.fresh, fun c => ?_⟩
  obtain ⟨h1, h2, h3, h4, h5, h6, -, -⟩ := g.canon c
  exact ⟨h1, h2, h3, h4, h5, h6, h6, h6⟩

theorem execDictionaryReachable_only (h : Only m a s) : ∀ t, execDictionaryReachable s = Host.Outcome.next t → (hm : Sub 33556494 m := by decide) → Only m a t := by
  intro t e hm
  refine h.step hm ?_
  replace h : Only 33556494 s s := .refl s
  suffices g : Runs 33556494 s (execDictionaryReachable s) from g.only t e
  clear e t
  unfold execDictionaryReachable
  try dsimp only
  repeat' (first | with_reducible assumption | decide | with_reducible refine runs_intro ?_
                 | with_reducible apply runs_ite | with_reducible exact runs_refused
                 | with_reducible exact runs_fault | exact ⟨rfl, rfl, rfl⟩
                 | with_reducible refine modBlock_states ?_ _ ?_ | intro _ | with_reducible apply each_only
                 | with_reducible refine modStack_only ?_ _ _ ?_
                 | with_reducible refine logEvent_only ?_ _ _ _ _ _ _ ?_ | with_reducible apply ite_only
                 | with_reducible apply foldl_only | with_reducible apply foldl_only_snd | refine snd_only ‹_ = _› ?_
                 | refine fst_only ‹_ = _› ?_ | split)

theorem execStackBringUpStepDone_only (h : Only m a s) : ∀ x1 x2, ∀ t, execStackBringUpStepDone x1 x2 s = Host.Outcome.next t → (hm : Sub 2103310 m := by decide) → Only m a t := by
  intro x1 x2 t e hm
  refine h.step hm ?_
  replace h : Only 2103310 s s := .refl s
  suffices g : Runs 2103310 s (execStackBringUpStepDone x1 x2 s) from g.only t e
  clear e t
  unfold execStackBringUpStepDone
  try dsimp only
  repeat' (first | with_reducible assumption | decide | with_reducible refine runs_intro ?_
                 | with_reducible apply runs_ite | with_reducible exact runs_refused
                 | with_reducible exact runs_fault | intro _ | with_reducible refine bringFail_only ?_ _ ?_
                 | with_reducible refine bringRead_only ?_ _ _ ?_ | with_reducible refine bringTrain_only ?_ _ _ ?_
                 | with_reducible refine bringTest_only ?_ _ _ ?_ | with_reducible refine bringRepair_only ?_ _ _ ?_
                 | with_reducible apply ite_only | with_reducible apply foldl_only
                 | with_reducible apply foldl_only_snd | refine snd_only ‹_ = _› ?_ | refine fst_only ‹_ = _› ?_
                 | split)

theorem execHardwareFillDone_only (h : Only m a s) : ∀ x1, ∀ t, execHardwareFillDone x1 s = Host.Outcome.next t → (hm : Sub 2190 m := by decide) → Only m a t := by
  intro x1 t e hm
  refine h.step hm ?_
  replace h : Only 2190 s s := .refl s
  suffices g : Runs 2190 s (execHardwareFillDone x1 s) from g.only t e
  clear e t
  unfold execHardwareFillDone
  try dsimp only
  repeat' (first | with_reducible assumption | decide | with_reducible refine runs_intro ?_
                 | with_reducible apply runs_ite | with_reducible exact runs_refused
                 | with_reducible exact runs_fault | intro _ | with_reducible refine domainResult_only ?_ _ _ ?_
                 | with_reducible refine modStack_only ?_ _ _ ?_ | with_reducible refine dramFilter_only ?_ _ ?_
                 | with_reducible apply ite_only | with_reducible apply foldl_only
                 | with_reducible apply foldl_only_snd | refine snd_only ‹_ = _› ?_ | refine fst_only ‹_ = _› ?_
                 | split)

theorem execLoftQuadrantTestDone_only (h : Only m a s) : ∀ x1 x2, ∀ t, execLoftQuadrantTestDone x1 x2 s = Host.Outcome.next t → (hm : Sub 8206 m := by decide) → Only m a t := by
  intro x1 x2 t e hm
  refine h.step hm ?_
  replace h : Only 8206 s s := .refl s
  suffices g : Runs 8206 s (execLoftQuadrantTestDone x1 x2 s) from g.only t e
  clear e t
  unfold execLoftQuadrantTestDone
  try dsimp only
  repeat' (first | with_reducible assumption | decide | with_reducible refine runs_intro ?_
                 | with_reducible apply runs_ite | with_reducible exact runs_refused
                 | with_reducible exact runs_fault | intro _ | with_reducible refine modLoft_only ?_ _ ?_
                 | with_reducible apply each_only | with_reducible refine bringEvent_only ?_ _ _ _ ?_
                 | with_reducible refine declareFailed_only ?_ _ _ ?_
                 | with_reducible refine domainResult_only ?_ _ _ ?_ | with_reducible apply ite_only
                 | with_reducible apply foldl_only | with_reducible apply foldl_only_snd | refine snd_only ‹_ = _› ?_
                 | refine fst_only ‹_ = _› ?_ | split)

theorem execEngineSelfTestDone_only (h : Only m a s) : ∀ x1 x2, ∀ t, execEngineSelfTestDone x1 x2 s = Host.Outcome.next t → (hm : Sub 524302 m := by decide) → Only m a t := by
  intro x1 x2 t e hm
  refine h.step hm ?_
  replace h : Only 524302 s s := .refl s
  suffices g : Runs 524302 s (execEngineSelfTestDone x1 x2 s) from g.only t e
  clear e t
  unfold execEngineSelfTestDone
  try dsimp only
  repeat' (first | with_reducible assumption | decide | with_reducible refine runs_intro ?_
                 | with_reducible apply runs_ite | with_reducible exact runs_refused
                 | with_reducible exact runs_fault | intro _ | with_reducible refine modTest_only ?_ _ ?_
                 | with_reducible refine bringEvent_only ?_ _ _ _ ?_
                 | with_reducible refine domainResult_only ?_ _ _ ?_ | with_reducible apply ite_only
                 | with_reducible apply foldl_only | with_reducible apply foldl_only_snd | refine snd_only ‹_ = _› ?_
                 | refine fst_only ‹_ = _› ?_ | split)

theorem execSelfTestSliceRequest_only (h : Only m a s) : ∀ t, execSelfTestSliceRequest s = Host.Outcome.next t → (hm : Sub 528384 m := by decide) → Only m a t := by
  intro t e hm
  refine h.step hm ?_
  replace h : Only 528384 s s := .refl s
  suffices g : Runs 528384 s (execSelfTestSliceRequest s) from g.only t e
  clear e t
  unfold execSelfTestSliceRequest
  try dsimp only
  repeat' (first | with_reducible assumption | decide | with_reducible refine runs_intro ?_
                 | with_reducible apply runs_ite | with_reducible exact runs_refused
                 | with_reducible exact runs_fault | intro _ | with_reducible refine startSlice_only ?_ _ _ _ ?_
                 | with_reducible refine modTest_only ?_ _ ?_ | with_reducible apply ite_only
                 | with_reducible apply foldl_only | with_reducible apply foldl_only_snd | refine snd_only ‹_ = _› ?_
                 | refine fst_only ‹_ = _› ?_ | split)

theorem execSelfTestSliceEnd_only (h : Only m a s) : ∀ x1 x2, ∀ t, execSelfTestSliceEnd x1 x2 s = Host.Outcome.next t → (hm : Sub 2636172 m := by decide) → Only m a t := by
  intro x1 x2 t e hm
  refine h.step hm ?_
  replace h : Only 2636172 s s := .refl s
  suffices g : Runs 2636172 s (execSelfTestSliceEnd x1 x2 s) from g.only t e
  clear e t
  unfold execSelfTestSliceEnd
  try dsimp only
  repeat' (first | with_reducible assumption | decide | with_reducible refine runs_intro ?_
                 | with_reducible apply runs_ite | with_reducible exact runs_refused
                 | with_reducible exact runs_fault | intro _ | with_reducible refine modTest_only ?_ _ ?_
                 | with_reducible refine sliceReads_only ?_ _ _ ?_ | with_reducible refine sliceResult_only ?_ _ _ ?_
                 | with_reducible apply ite_only | with_reducible apply foldl_only
                 | with_reducible apply foldl_only_snd | refine snd_only ‹_ = _› ?_ | refine fst_only ‹_ = _› ?_
                 | split)

theorem execCounterSample_only (h : Only m a s) : ∀ x1, ∀ t, execCounterSample x1 s = Host.Outcome.next t → (hm : Sub 524296 m := by decide) → Only m a t := by
  intro x1 t e hm
  refine h.step hm ?_
  replace h : Only 524296 s s := .refl s
  suffices g : Runs 524296 s (execCounterSample x1 s) from g.only t e
  clear e t
  unfold execCounterSample
  try dsimp only
  repeat' (first | with_reducible assumption | decide | with_reducible refine runs_intro ?_
                 | with_reducible apply runs_ite | with_reducible exact runs_refused
                 | with_reducible exact runs_fault | intro _ | with_reducible refine setObj_only ?_ _ _ _ _ ?_
                 | with_reducible refine modTest_only ?_ _ ?_ | with_reducible apply ite_only
                 | with_reducible apply foldl_only | with_reducible apply foldl_only_snd | refine snd_only ‹_ = _› ?_
                 | refine fst_only ‹_ = _› ?_ | split)

theorem execMailboxDoorbell_only (h : Only m a s) : ∀ x1 x2, ∀ t, execMailboxDoorbell x1 x2 s = Host.Outcome.next t → (hm : Sub 12 m := by decide) → Only m a t := by
  intro x1 x2 t e hm
  refine h.step hm ?_
  replace h : Only 12 s s := .refl s
  suffices g : Runs 12 s (execMailboxDoorbell x1 x2 s) from g.only t e
  clear e t
  unfold execMailboxDoorbell
  try dsimp only
  repeat' (first | with_reducible assumption | decide | with_reducible refine runs_intro ?_
                 | with_reducible apply runs_ite | with_reducible exact runs_refused
                 | with_reducible exact runs_fault | intro _ | with_reducible refine count_only ?_ _ _ ?_
                 | with_reducible refine modMgmt_only ?_ _ ?_ | with_reducible apply ite_only
                 | with_reducible apply foldl_only | with_reducible apply foldl_only_snd | refine snd_only ‹_ = _› ?_
                 | refine fst_only ‹_ = _› ?_ | split)

theorem execManagementPacket_only (h : Only m a s) : ∀ x1 x2, ∀ t, execManagementPacket x1 x2 s = Host.Outcome.next t → (hm : Sub 8 m := by decide) → Only m a t := by
  intro x1 x2 t e hm
  refine h.step hm ?_
  replace h : Only 8 s s := .refl s
  suffices g : Runs 8 s (execManagementPacket x1 x2 s) from g.only t e
  clear e t
  unfold execManagementPacket
  try dsimp only
  repeat' (first | with_reducible assumption | decide | with_reducible refine runs_intro ?_
                 | with_reducible apply runs_ite | with_reducible exact runs_refused
                 | with_reducible exact runs_fault | intro _ | with_reducible refine count_only ?_ _ _ ?_
                 | with_reducible apply ite_only | with_reducible apply foldl_only
                 | with_reducible apply foldl_only_snd | refine snd_only ‹_ = _› ?_ | refine fst_only ‹_ = _› ?_
                 | split)

theorem execDictionaryRead_only (h : Only m a s) : ∀ x1 x2 x3 x4, ∀ t, execDictionaryRead x1 x2 x3 x4 s = Host.Outcome.next t → (hm : Sub 4194316 m := by decide) → Only m a t := by
  intro x1 x2 x3 x4 t e hm
  refine h.step hm ?_
  replace h : Only 4194316 s s := .refl s
  suffices g : Runs 4194316 s (execDictionaryRead x1 x2 x3 x4 s) from g.only t e
  clear e t
  unfold execDictionaryRead
  try dsimp only
  repeat' (first | with_reducible assumption | decide | with_reducible refine runs_intro ?_
                 | with_reducible apply runs_ite | with_reducible exact runs_refused
                 | with_reducible exact runs_fault | intro _ | refine gate_drop_only ‹_› ?_ ?_
                 | refine gate_noSession_only ‹_› ?_ ?_ | refine gate_go_only ‹_› ?_ ?_
                 | with_reducible refine answer_only ?_ _ _ _ _ ?_
                 | with_reducible refine refuse_only ?_ _ _ _ _ _ _ ?_ | with_reducible apply ite_only
                 | with_reducible apply foldl_only | with_reducible apply foldl_only_snd | refine snd_only ‹_ = _› ?_
                 | refine fst_only ‹_ = _› ?_ | split)

theorem execEventAcknowledge_only (h : Only m a s) : ∀ x1 x2, ∀ t, execEventAcknowledge x1 x2 s = Host.Outcome.next t → (hm : Sub 4194332 m := by decide) → Only m a t := by
  intro x1 x2 t e hm
  refine h.step hm ?_
  replace h : Only 4194332 s s := .refl s
  suffices g : Runs 4194332 s (execEventAcknowledge x1 x2 s) from g.only t e
  clear e t
  unfold execEventAcknowledge
  try dsimp only
  repeat' (first | with_reducible assumption | decide | with_reducible refine runs_intro ?_
                 | with_reducible apply runs_ite | with_reducible exact runs_refused
                 | with_reducible exact runs_fault | intro _
                 | (with_reducible refine directWrite_only (hm := ?_) ?_ ?_)
                 | with_reducible refine setNow_only ?_ _ _ _ _ ?_ | with_reducible apply ite_only
                 | with_reducible apply foldl_only | with_reducible apply foldl_only_snd | refine snd_only ‹_ = _› ?_
                 | refine fst_only ‹_ = _› ?_ | split)

theorem execDictionaryWrite_only (h : Only m a s) : ∀ x1 x2 x3, ∀ t, execDictionaryWrite x1 x2 x3 s = Host.Outcome.next t → (hm : Sub 38759263 m := by decide) → Only m a t := by
  intro x1 x2 x3 t e hm
  refine h.step hm ?_
  replace h : Only 38759263 s s := .refl s
  suffices g : Runs 38759263 s (execDictionaryWrite x1 x2 x3 s) from g.only t e
  clear e t
  unfold execDictionaryWrite
  try dsimp only
  repeat' (first | with_reducible assumption | decide | with_reducible refine runs_intro ?_
                 | with_reducible apply runs_ite | with_reducible exact runs_refused
                 | with_reducible exact runs_fault | intro _ | with_reducible refine stateRequest_only ?_ _ _ ?_
                 | refine execEventAcknowledge_only ?_ _ _ _ ‹_ = Host.Outcome.next _› ?_
                 | refine gate_drop_only ‹_› ?_ ?_ | refine gate_noSession_only ‹_› ?_ ?_
                 | refine gate_go_only ‹_› ?_ ?_ | with_reducible refine refuse_only ?_ _ _ _ _ _ _ ?_
                 | with_reducible refine writeObject_only ?_ _ _ _ _ _ _ ?_ | with_reducible apply ite_only
                 | with_reducible apply foldl_only | with_reducible apply foldl_only_snd | refine snd_only ‹_ = _› ?_
                 | refine fst_only ‹_ = _› ?_ | refine ⟨fun t e => execEventAcknowledge_only ?_ _ _ t e ?_⟩ | split)

theorem execLock_only (h : Only m a s) : ∀ x1 x2, ∀ t, execLock x1 x2 s = Host.Outcome.next t → (hm : Sub 4194316 m := by decide) → Only m a t := by
  intro x1 x2 t e hm
  refine h.step hm ?_
  replace h : Only 4194316 s s := .refl s
  suffices g : Runs 4194316 s (execLock x1 x2 s) from g.only t e
  clear e t
  unfold execLock
  try dsimp only
  repeat' (first | with_reducible assumption | decide | with_reducible refine runs_intro ?_
                 | with_reducible apply runs_ite | with_reducible exact runs_refused
                 | with_reducible exact runs_fault | intro _ | refine gate_drop_only ‹_› ?_ ?_
                 | refine gate_noSession_only ‹_› ?_ ?_ | refine gate_go_only ‹_› ?_ ?_
                 | with_reducible refine refuse_only ?_ _ _ _ _ _ _ ?_
                 | with_reducible refine brokenLock_only ?_ _ ?_ | with_reducible refine answer_only ?_ _ _ _ _ ?_
                 | with_reducible refine modMgmt_only ?_ _ ?_ | with_reducible refine modSession_only ?_ _ _ ?_
                 | with_reducible refine restartLease_only ?_ _ ?_ | with_reducible apply ite_only
                 | with_reducible apply foldl_only | with_reducible apply foldl_only_snd | refine snd_only ‹_ = _› ?_
                 | refine fst_only ‹_ = _› ?_ | split)

theorem execCommit_only (h : Only m a s) : ∀ x1, ∀ t, execCommit x1 s = Host.Outcome.next t → (hm : Sub 5073244 m := by decide) → Only m a t := by
  intro x1 t e hm
  refine h.step hm ?_
  replace h : Only 5073244 s s := .refl s
  suffices g : Runs 5073244 s (execCommit x1 s) from g.only t e
  clear e t
  unfold execCommit
  try dsimp only
  repeat' (first | with_reducible assumption | decide | with_reducible refine runs_intro ?_
                 | with_reducible apply runs_ite | with_reducible exact runs_refused
                 | with_reducible exact runs_fault | intro _ | refine gate_drop_only ‹_› ?_ ?_
                 | refine gate_noSession_only ‹_› ?_ ?_ | refine gate_go_only ‹_› ?_ ?_
                 | with_reducible refine refuse_only ?_ _ _ _ _ _ _ ?_
                 | with_reducible refine brokenLock_only ?_ _ ?_ | with_reducible refine answer_only ?_ _ _ _ _ ?_
                 | with_reducible refine releaseLocks_only ?_ _ ?_
                 | refine commitStaged_only ?_ _ _ ‹_ = Except.ok _› ?_ | with_reducible refine asks_only ?_ _ _ ?_
                 | with_reducible refine commitRefused_only ?_ _ _ _ _ ?_
                 | with_reducible refine commitPoint_only ?_ _ ?_ | with_reducible apply ite_only
                 | with_reducible apply foldl_only | with_reducible apply foldl_only_snd | refine snd_only ‹_ = _› ?_
                 | refine fst_only ‹_ = _› ?_ | split)

theorem execDiscard_only (h : Only m a s) : ∀ x1, ∀ t, execDiscard x1 s = Host.Outcome.next t → (hm : Sub 4194316 m := by decide) → Only m a t := by
  intro x1 t e hm
  refine h.step hm ?_
  replace h : Only 4194316 s s := .refl s
  suffices g : Runs 4194316 s (execDiscard x1 s) from g.only t e
  clear e t
  unfold execDiscard
  try dsimp only
  repeat' (first | with_reducible assumption | decide | with_reducible refine runs_intro ?_
                 | with_reducible apply runs_ite | with_reducible exact runs_refused
                 | with_reducible exact runs_fault | intro _
                 | (with_reducible refine lockRequest_only (hm := ?_) ?_ ?_)
                 | with_reducible refine releaseLocks_only ?_ _ ?_ | with_reducible apply ite_only
                 | with_reducible apply foldl_only | with_reducible apply foldl_only_snd | refine snd_only ‹_ = _› ?_
                 | refine fst_only ‹_ = _› ?_ | split)

theorem execRenew_only (h : Only m a s) : ∀ x1, ∀ t, execRenew x1 s = Host.Outcome.next t → (hm : Sub 4194316 m := by decide) → Only m a t := by
  intro x1 t e hm
  refine h.step hm ?_
  replace h : Only 4194316 s s := .refl s
  suffices g : Runs 4194316 s (execRenew x1 s) from g.only t e
  clear e t
  unfold execRenew
  try dsimp only
  repeat' (first | with_reducible assumption | decide | with_reducible refine runs_intro ?_
                 | with_reducible apply runs_ite | with_reducible exact runs_refused
                 | with_reducible exact runs_fault | intro _
                 | (with_reducible refine lockRequest_only (hm := ?_) ?_ ?_)
                 | with_reducible refine restartLease_only ?_ _ ?_ | with_reducible apply ite_only
                 | with_reducible apply foldl_only | with_reducible apply foldl_only_snd | refine snd_only ‹_ = _› ?_
                 | refine fst_only ‹_ = _› ?_ | split)

theorem execSessionReset_only (h : Only m a s) : ∀ x1, ∀ t, execSessionReset x1 s = Host.Outcome.next t → (hm : Sub 4194316 m := by decide) → Only m a t := by
  intro x1 t e hm
  refine h.step hm ?_
  replace h : Only 4194316 s s := .refl s
  suffices g : Runs 4194316 s (execSessionReset x1 s) from g.only t e
  clear e t
  unfold execSessionReset
  try dsimp only
  repeat' (first | with_reducible assumption | decide | with_reducible refine runs_intro ?_
                 | with_reducible apply runs_ite | with_reducible exact runs_refused
                 | with_reducible exact runs_fault | intro _ | refine gate_drop_only ‹_› ?_ ?_
                 | refine gate_noSession_only ‹_› ?_ ?_ | refine gate_go_only ‹_› ?_ ?_
                 | with_reducible refine refuse_only ?_ _ _ _ _ _ _ ?_ | with_reducible refine asks_only ?_ _ _ ?_
                 | with_reducible refine endSession_only ?_ _ ?_ | with_reducible refine answer_only ?_ _ _ _ _ ?_
                 | with_reducible apply ite_only | with_reducible apply foldl_only
                 | with_reducible apply foldl_only_snd | refine snd_only ‹_ = _› ?_ | refine fst_only ‹_ = _› ?_
                 | split)

theorem execReservedDictionaryOp_only (h : Only m a s) : ∀ x1 x2, ∀ t, execReservedDictionaryOp x1 x2 s = Host.Outcome.next t → (hm : Sub 4194316 m := by decide) → Only m a t := by
  intro x1 x2 t e hm
  refine h.step hm ?_
  replace h : Only 4194316 s s := .refl s
  suffices g : Runs 4194316 s (execReservedDictionaryOp x1 x2 s) from g.only t e
  clear e t
  unfold execReservedDictionaryOp
  try dsimp only
  repeat' (first | with_reducible assumption | decide | with_reducible refine runs_intro ?_
                 | with_reducible apply runs_ite | with_reducible exact runs_refused
                 | with_reducible exact runs_fault | intro _ | refine gate_drop_only ‹_› ?_ ?_
                 | refine gate_noSession_only ‹_› ?_ ?_ | refine gate_go_only ‹_› ?_ ?_
                 | with_reducible refine refuse_only ?_ _ _ _ _ _ _ ?_ | with_reducible apply ite_only
                 | with_reducible apply foldl_only | with_reducible apply foldl_only_snd | refine snd_only ‹_ = _› ?_
                 | refine fst_only ‹_ = _› ?_ | split)

theorem execLeaseExpiry_only (h : Only m a s) : ∀ x1, ∀ t, execLeaseExpiry x1 s = Host.Outcome.next t → (hm : Sub 12 m := by decide) → Only m a t := by
  intro x1 t e hm
  refine h.step hm ?_
  replace h : Only 12 s s := .refl s
  suffices g : Runs 12 s (execLeaseExpiry x1 s) from g.only t e
  clear e t
  unfold execLeaseExpiry
  try dsimp only
  repeat' (first | with_reducible assumption | decide | with_reducible refine runs_intro ?_
                 | with_reducible apply runs_ite | with_reducible exact runs_refused
                 | with_reducible exact runs_fault | intro _ | with_reducible refine breakLocks_only ?_ _ _ ?_
                 | with_reducible apply ite_only | with_reducible apply foldl_only
                 | with_reducible apply foldl_only_snd | refine snd_only ‹_ = _› ?_ | refine fst_only ‹_ = _› ?_
                 | split)

theorem execSessionTimeout_only (h : Only m a s) : ∀ x1, ∀ t, execSessionTimeout x1 s = Host.Outcome.next t → (hm : Sub 4 m := by decide) → Only m a t := by
  intro x1 t e hm
  refine h.step hm ?_
  replace h : Only 4 s s := .refl s
  suffices g : Runs 4 s (execSessionTimeout x1 s) from g.only t e
  clear e t
  unfold execSessionTimeout
  try dsimp only
  repeat' (first | with_reducible assumption | decide | with_reducible refine runs_intro ?_
                 | with_reducible apply runs_ite | with_reducible exact runs_refused
                 | with_reducible exact runs_fault | intro _ | with_reducible refine endSession_only ?_ _ ?_
                 | with_reducible apply ite_only | with_reducible apply foldl_only
                 | with_reducible apply foldl_only_snd | refine snd_only ‹_ = _› ?_ | refine fst_only ‹_ = _› ?_
                 | split)

theorem execStateRequestService_only (h : Only m a s) : ∀ x1, ∀ t, execStateRequestService x1 s = Host.Outcome.next t → (hm : Sub 37748750 m := by decide) → Only m a t := by
  intro x1 t e hm
  refine h.step hm ?_
  replace h : Only 37748750 s s := .refl s
  suffices g : Runs 37748750 s (execStateRequestService x1 s) from g.only t e
  clear e t
  unfold execStateRequestService
  try dsimp only
  repeat' (first | with_reducible assumption | decide | with_reducible refine runs_intro ?_
                 | with_reducible apply runs_ite | with_reducible exact runs_refused
                 | with_reducible exact runs_fault | intro _ | with_reducible refine stateRequest_only ?_ _ _ ?_
                 | with_reducible apply ite_only | with_reducible apply foldl_only
                 | with_reducible apply foldl_only_snd | refine snd_only ‹_ = _› ?_ | refine fst_only ‹_ = _› ?_
                 | split)

theorem execStateRequestDrain_only (h : Only m a s) : ∀ x1, ∀ t, execStateRequestDrain x1 s = Host.Outcome.next t → (hm : Sub 37748750 m := by decide) → Only m a t := by
  intro x1 t e hm
  refine h.step hm ?_
  replace h : Only 37748750 s s := .refl s
  suffices g : Runs 37748750 s (execStateRequestDrain x1 s) from g.only t e
  clear e t
  unfold execStateRequestDrain
  try dsimp only
  repeat' (first | with_reducible assumption | decide | with_reducible refine runs_intro ?_
                 | with_reducible apply runs_ite | with_reducible exact runs_refused
                 | with_reducible exact runs_fault | intro _ | with_reducible refine stateRequest_only ?_ _ _ ?_
                 | with_reducible apply ite_only | with_reducible apply foldl_only
                 | with_reducible apply foldl_only_snd | refine snd_only ‹_ = _› ?_ | refine fst_only ‹_ = _› ?_
                 | split)

theorem execStateRequestTest_only (h : Only m a s) : ∀ x1, ∀ t, execStateRequestTest x1 s = Host.Outcome.next t → (hm : Sub 37748750 m := by decide) → Only m a t := by
  intro x1 t e hm
  refine h.step hm ?_
  replace h : Only 37748750 s s := .refl s
  suffices g : Runs 37748750 s (execStateRequestTest x1 s) from g.only t e
  clear e t
  unfold execStateRequestTest
  try dsimp only
  repeat' (first | with_reducible assumption | decide | with_reducible refine runs_intro ?_
                 | with_reducible apply runs_ite | with_reducible exact runs_refused
                 | with_reducible exact runs_fault | intro _ | with_reducible refine stateRequest_only ?_ _ _ ?_
                 | with_reducible apply ite_only | with_reducible apply foldl_only
                 | with_reducible apply foldl_only_snd | refine snd_only ‹_ = _› ?_ | refine fst_only ‹_ = _› ?_
                 | split)

theorem execStateRequestSafe_only (h : Only m a s) : ∀ x1, ∀ t, execStateRequestSafe x1 s = Host.Outcome.next t → (hm : Sub 37748750 m := by decide) → Only m a t := by
  intro x1 t e hm
  refine h.step hm ?_
  replace h : Only 37748750 s s := .refl s
  suffices g : Runs 37748750 s (execStateRequestSafe x1 s) from g.only t e
  clear e t
  unfold execStateRequestSafe
  try dsimp only
  repeat' (first | with_reducible assumption | decide | with_reducible refine runs_intro ?_
                 | with_reducible apply runs_ite | with_reducible exact runs_refused
                 | with_reducible exact runs_fault | intro _ | with_reducible refine stateRequest_only ?_ _ _ ?_
                 | with_reducible apply ite_only | with_reducible apply foldl_only
                 | with_reducible apply foldl_only_snd | refine snd_only ‹_ = _› ?_ | refine fst_only ‹_ = _› ?_
                 | split)

theorem execKeyExchange_only (h : Only m a s) : ∀ x1, ∀ t, execKeyExchange x1 s = Host.Outcome.next t → (hm : Sub 4194316 m := by decide) → Only m a t := by
  intro x1 t e hm
  refine h.step hm ?_
  replace h : Only 4194316 s s := .refl s
  suffices g : Runs 4194316 s (execKeyExchange x1 s) from g.only t e
  clear e t
  unfold execKeyExchange
  try dsimp only
  repeat' (first | with_reducible assumption | decide | with_reducible refine runs_intro ?_
                 | with_reducible apply runs_ite | with_reducible exact runs_refused
                 | with_reducible exact runs_fault | intro _ | (with_reducible refine spdmGate_only (hm := ?_) ?_ ?_)
                 | with_reducible refine spdm_only ?_ _ _ ?_ | with_reducible refine modMgmt_only ?_ _ ?_
                 | with_reducible apply ite_only | with_reducible apply foldl_only
                 | with_reducible apply foldl_only_snd | refine snd_only ‹_ = _› ?_ | refine fst_only ‹_ = _› ?_
                 | split)

theorem execFinish_only (h : Only m a s) : ∀ x1 x2, ∀ t, execFinish x1 x2 s = Host.Outcome.next t → (hm : Sub 4194332 m := by decide) → Only m a t := by
  intro x1 x2 t e hm
  refine h.step hm ?_
  replace h : Only 4194332 s s := .refl s
  suffices g : Runs 4194332 s (execFinish x1 x2 s) from g.only t e
  clear e t
  unfold execFinish
  try dsimp only
  repeat' (first | with_reducible assumption | decide | with_reducible refine runs_intro ?_
                 | with_reducible apply runs_ite | with_reducible exact runs_refused
                 | with_reducible exact runs_fault | intro _ | (with_reducible refine spdmGate_only (hm := ?_) ?_ ?_)
                 | with_reducible refine spdm_only ?_ _ _ ?_ | with_reducible refine modMgmt_only ?_ _ ?_
                 | with_reducible refine openSession_only ?_ _ _ _ ?_ | with_reducible apply ite_only
                 | with_reducible apply foldl_only | with_reducible apply foldl_only_snd | refine snd_only ‹_ = _› ?_
                 | refine fst_only ‹_ = _› ?_ | split)

theorem execEndSession_only (h : Only m a s) : ∀ x1, ∀ t, execEndSession x1 s = Host.Outcome.next t → (hm : Sub 4194316 m := by decide) → Only m a t := by
  intro x1 t e hm
  refine h.step hm ?_
  replace h : Only 4194316 s s := .refl s
  suffices g : Runs 4194316 s (execEndSession x1 s) from g.only t e
  clear e t
  unfold execEndSession
  try dsimp only
  repeat' (first | with_reducible assumption | decide | with_reducible refine runs_intro ?_
                 | with_reducible apply runs_ite | with_reducible exact runs_refused
                 | with_reducible exact runs_fault | intro _
                 | (with_reducible refine spdmInside_only (hm := ?_) ?_ ?_)
                 | with_reducible refine asks_only ?_ _ _ ?_ | with_reducible refine endSession_only ?_ _ ?_
                 | with_reducible refine spdm_only ?_ _ _ ?_ | with_reducible apply ite_only
                 | with_reducible apply foldl_only | with_reducible apply foldl_only_snd | refine snd_only ‹_ = _› ?_
                 | refine fst_only ‹_ = _› ?_ | split)

theorem execGetMeasurements_only (h : Only m a s) : ∀ x1 x2, ∀ t, execGetMeasurements x1 x2 s = Host.Outcome.next t → (hm : Sub 4194316 m := by decide) → Only m a t := by
  intro x1 x2 t e hm
  refine h.step hm ?_
  replace h : Only 4194316 s s := .refl s
  suffices g : Runs 4194316 s (execGetMeasurements x1 x2 s) from g.only t e
  clear e t
  unfold execGetMeasurements
  try dsimp only
  repeat' (first | with_reducible assumption | decide | with_reducible refine runs_intro ?_
                 | with_reducible apply runs_ite | with_reducible exact runs_refused
                 | with_reducible exact runs_fault | intro _ | with_reducible refine spdmAny_only ?_ _ _ ?_
                 | with_reducible apply ite_only | with_reducible apply foldl_only
                 | with_reducible apply foldl_only_snd | refine snd_only ‹_ = _› ?_ | refine fst_only ‹_ = _› ?_
                 | split)

theorem execGetVersion_only (h : Only m a s) : ∀ x1, ∀ t, execGetVersion x1 s = Host.Outcome.next t → (hm : Sub 4194316 m := by decide) → Only m a t := by
  intro x1 t e hm
  refine h.step hm ?_
  replace h : Only 4194316 s s := .refl s
  suffices g : Runs 4194316 s (execGetVersion x1 s) from g.only t e
  clear e t
  unfold execGetVersion
  try dsimp only
  repeat' (first | with_reducible assumption | decide | with_reducible refine runs_intro ?_
                 | with_reducible apply runs_ite | with_reducible exact runs_refused
                 | with_reducible exact runs_fault | intro _ | with_reducible refine spdmAny_only ?_ _ _ ?_
                 | with_reducible apply ite_only | with_reducible apply foldl_only
                 | with_reducible apply foldl_only_snd | refine snd_only ‹_ = _› ?_ | refine fst_only ‹_ = _› ?_
                 | split)

theorem execGetCapabilities_only (h : Only m a s) : ∀ x1, ∀ t, execGetCapabilities x1 s = Host.Outcome.next t → (hm : Sub 4194316 m := by decide) → Only m a t := by
  intro x1 t e hm
  refine h.step hm ?_
  replace h : Only 4194316 s s := .refl s
  suffices g : Runs 4194316 s (execGetCapabilities x1 s) from g.only t e
  clear e t
  unfold execGetCapabilities
  try dsimp only
  repeat' (first | with_reducible assumption | decide | with_reducible refine runs_intro ?_
                 | with_reducible apply runs_ite | with_reducible exact runs_refused
                 | with_reducible exact runs_fault | intro _ | with_reducible refine spdmAny_only ?_ _ _ ?_
                 | with_reducible apply ite_only | with_reducible apply foldl_only
                 | with_reducible apply foldl_only_snd | refine snd_only ‹_ = _› ?_ | refine fst_only ‹_ = _› ?_
                 | split)

theorem execNegotiateAlgorithms_only (h : Only m a s) : ∀ x1 x2, ∀ t, execNegotiateAlgorithms x1 x2 s = Host.Outcome.next t → (hm : Sub 4194316 m := by decide) → Only m a t := by
  intro x1 x2 t e hm
  refine h.step hm ?_
  replace h : Only 4194316 s s := .refl s
  suffices g : Runs 4194316 s (execNegotiateAlgorithms x1 x2 s) from g.only t e
  clear e t
  unfold execNegotiateAlgorithms
  try dsimp only
  repeat' (first | with_reducible assumption | decide | with_reducible refine runs_intro ?_
                 | with_reducible apply runs_ite | with_reducible exact runs_refused
                 | with_reducible exact runs_fault | intro _ | with_reducible refine spdmAny_only ?_ _ _ ?_
                 | with_reducible apply ite_only | with_reducible apply foldl_only
                 | with_reducible apply foldl_only_snd | refine snd_only ‹_ = _› ?_ | refine fst_only ‹_ = _› ?_
                 | split)

theorem execGetDigests_only (h : Only m a s) : ∀ x1, ∀ t, execGetDigests x1 s = Host.Outcome.next t → (hm : Sub 4194316 m := by decide) → Only m a t := by
  intro x1 t e hm
  refine h.step hm ?_
  replace h : Only 4194316 s s := .refl s
  suffices g : Runs 4194316 s (execGetDigests x1 s) from g.only t e
  clear e t
  unfold execGetDigests
  try dsimp only
  repeat' (first | with_reducible assumption | decide | with_reducible refine runs_intro ?_
                 | with_reducible apply runs_ite | with_reducible exact runs_refused
                 | with_reducible exact runs_fault | intro _ | with_reducible refine spdmAny_only ?_ _ _ ?_
                 | with_reducible apply ite_only | with_reducible apply foldl_only
                 | with_reducible apply foldl_only_snd | refine snd_only ‹_ = _› ?_ | refine fst_only ‹_ = _› ?_
                 | split)

theorem execGetCertificate_only (h : Only m a s) : ∀ x1 x2 x3 x4, ∀ t, execGetCertificate x1 x2 x3 x4 s = Host.Outcome.next t → (hm : Sub 4194316 m := by decide) → Only m a t := by
  intro x1 x2 x3 x4 t e hm
  refine h.step hm ?_
  replace h : Only 4194316 s s := .refl s
  suffices g : Runs 4194316 s (execGetCertificate x1 x2 x3 x4 s) from g.only t e
  clear e t
  unfold execGetCertificate
  try dsimp only
  repeat' (first | with_reducible assumption | decide | with_reducible refine runs_intro ?_
                 | with_reducible apply runs_ite | with_reducible exact runs_refused
                 | with_reducible exact runs_fault | intro _ | with_reducible refine spdmAny_only ?_ _ _ ?_
                 | with_reducible apply ite_only | with_reducible apply foldl_only
                 | with_reducible apply foldl_only_snd | refine snd_only ‹_ = _› ?_ | refine fst_only ‹_ = _› ?_
                 | split)

theorem execChallenge_only (h : Only m a s) : ∀ x1 x2 x3, ∀ t, execChallenge x1 x2 x3 s = Host.Outcome.next t → (hm : Sub 4194316 m := by decide) → Only m a t := by
  intro x1 x2 x3 t e hm
  refine h.step hm ?_
  replace h : Only 4194316 s s := .refl s
  suffices g : Runs 4194316 s (execChallenge x1 x2 x3 s) from g.only t e
  clear e t
  unfold execChallenge
  try dsimp only
  repeat' (first | with_reducible assumption | decide | with_reducible refine runs_intro ?_
                 | with_reducible apply runs_ite | with_reducible exact runs_refused
                 | with_reducible exact runs_fault | intro _ | with_reducible refine spdmAny_only ?_ _ _ ?_
                 | with_reducible apply ite_only | with_reducible apply foldl_only
                 | with_reducible apply foldl_only_snd | refine snd_only ‹_ = _› ?_ | refine fst_only ‹_ = _› ?_
                 | split)

theorem execHeartbeat_only (h : Only m a s) : ∀ x1, ∀ t, execHeartbeat x1 s = Host.Outcome.next t → (hm : Sub 4194316 m := by decide) → Only m a t := by
  intro x1 t e hm
  refine h.step hm ?_
  replace h : Only 4194316 s s := .refl s
  suffices g : Runs 4194316 s (execHeartbeat x1 s) from g.only t e
  clear e t
  unfold execHeartbeat
  try dsimp only
  repeat' (first | with_reducible assumption | decide | with_reducible refine runs_intro ?_
                 | with_reducible apply runs_ite | with_reducible exact runs_refused
                 | with_reducible exact runs_fault | intro _
                 | (with_reducible refine spdmInside_only (hm := ?_) ?_ ?_)
                 | with_reducible refine spdm_only ?_ _ _ ?_ | with_reducible apply ite_only
                 | with_reducible apply foldl_only | with_reducible apply foldl_only_snd | refine snd_only ‹_ = _› ?_
                 | refine fst_only ‹_ = _› ?_ | split)

theorem execKeyUpdate_only (h : Only m a s) : ∀ x1, ∀ t, execKeyUpdate x1 s = Host.Outcome.next t → (hm : Sub 4194316 m := by decide) → Only m a t := by
  intro x1 t e hm
  refine h.step hm ?_
  replace h : Only 4194316 s s := .refl s
  suffices g : Runs 4194316 s (execKeyUpdate x1 s) from g.only t e
  clear e t
  unfold execKeyUpdate
  try dsimp only
  repeat' (first | with_reducible assumption | decide | with_reducible refine runs_intro ?_
                 | with_reducible apply runs_ite | with_reducible exact runs_refused
                 | with_reducible exact runs_fault | intro _
                 | (with_reducible refine spdmInside_only (hm := ?_) ?_ ?_)
                 | with_reducible refine spdm_only ?_ _ _ ?_ | with_reducible refine modMgmt_only ?_ _ ?_
                 | with_reducible apply ite_only | with_reducible apply foldl_only
                 | with_reducible apply foldl_only_snd | refine snd_only ‹_ = _› ?_ | refine fst_only ‹_ = _› ?_
                 | split)

theorem execEntdaa_only (h : Only m a s) : ∀ x1, ∀ t, execEntdaa x1 s = Host.Outcome.next t → (hm : Sub 4 m := by decide) → Only m a t := by
  intro x1 t e hm
  refine h.step hm ?_
  replace h : Only 4 s s := .refl s
  suffices g : Runs 4 s (execEntdaa x1 s) from g.only t e
  clear e t
  unfold execEntdaa
  try dsimp only
  repeat' (first | with_reducible assumption | decide | with_reducible refine runs_intro ?_
                 | with_reducible apply runs_ite | with_reducible exact runs_refused
                 | with_reducible exact runs_fault | intro _ | with_reducible apply i3c_only
                 | with_reducible refine modMgmt_only ?_ _ ?_ | with_reducible refine endI3c_only ?_ ?_
                 | with_reducible apply ite_only | with_reducible apply foldl_only
                 | with_reducible apply foldl_only_snd | refine snd_only ‹_ = _› ?_ | refine fst_only ‹_ = _› ?_
                 | split)

theorem execRstdaa_only (h : Only m a s) : ∀ t, execRstdaa s = Host.Outcome.next t → (hm : Sub 4 m := by decide) → Only m a t := by
  intro t e hm
  refine h.step hm ?_
  replace h : Only 4 s s := .refl s
  suffices g : Runs 4 s (execRstdaa s) from g.only t e
  clear e t
  unfold execRstdaa
  try dsimp only
  repeat' (first | with_reducible assumption | decide | with_reducible refine runs_intro ?_
                 | with_reducible apply runs_ite | with_reducible exact runs_refused
                 | with_reducible exact runs_fault | intro _ | with_reducible apply i3c_only
                 | with_reducible refine modMgmt_only ?_ _ ?_ | with_reducible refine endI3c_only ?_ ?_
                 | with_reducible apply ite_only | with_reducible apply foldl_only
                 | with_reducible apply foldl_only_snd | refine snd_only ‹_ = _› ?_ | refine fst_only ‹_ = _› ?_
                 | split)

theorem execEnec_only (h : Only m a s) : ∀ x1, ∀ t, execEnec x1 s = Host.Outcome.next t → (hm : Sub 4 m := by decide) → Only m a t := by
  intro x1 t e hm
  refine h.step hm ?_
  replace h : Only 4 s s := .refl s
  suffices g : Runs 4 s (execEnec x1 s) from g.only t e
  clear e t
  unfold execEnec
  try dsimp only
  repeat' (first | with_reducible assumption | decide | with_reducible refine runs_intro ?_
                 | with_reducible apply runs_ite | with_reducible exact runs_refused
                 | with_reducible exact runs_fault | intro _ | with_reducible apply i3c_only
                 | with_reducible refine modMgmt_only ?_ _ ?_ | with_reducible apply ite_only
                 | with_reducible apply foldl_only | with_reducible apply foldl_only_snd | refine snd_only ‹_ = _› ?_
                 | refine fst_only ‹_ = _› ?_ | split)

theorem execDisec_only (h : Only m a s) : ∀ x1, ∀ t, execDisec x1 s = Host.Outcome.next t → (hm : Sub 4 m := by decide) → Only m a t := by
  intro x1 t e hm
  refine h.step hm ?_
  replace h : Only 4 s s := .refl s
  suffices g : Runs 4 s (execDisec x1 s) from g.only t e
  clear e t
  unfold execDisec
  try dsimp only
  repeat' (first | with_reducible assumption | decide | with_reducible refine runs_intro ?_
                 | with_reducible apply runs_ite | with_reducible exact runs_refused
                 | with_reducible exact runs_fault | intro _ | with_reducible apply i3c_only
                 | with_reducible refine modMgmt_only ?_ _ ?_ | with_reducible apply ite_only
                 | with_reducible apply foldl_only | with_reducible apply foldl_only_snd | refine snd_only ‹_ = _› ?_
                 | refine fst_only ‹_ = _› ?_ | split)

theorem execGetpid_only (h : Only m a s) : ∀ t, execGetpid s = Host.Outcome.next t → (hm : Sub 4194304 m := by decide) → Only m a t := by
  intro t e hm
  refine h.step hm ?_
  replace h : Only 4194304 s s := .refl s
  suffices g : Runs 4194304 s (execGetpid s) from g.only t e
  clear e t
  unfold execGetpid
  try dsimp only
  repeat' (first | with_reducible assumption | decide | with_reducible refine runs_intro ?_
                 | with_reducible apply runs_ite | with_reducible exact runs_refused
                 | with_reducible exact runs_fault | intro _ | with_reducible refine i3cAt_only ?_ _ ?_
                 | with_reducible apply ite_only | with_reducible apply foldl_only
                 | with_reducible apply foldl_only_snd | refine snd_only ‹_ = _› ?_ | refine fst_only ‹_ = _› ?_
                 | split)

theorem execGetbcr_only (h : Only m a s) : ∀ t, execGetbcr s = Host.Outcome.next t → (hm : Sub 4194304 m := by decide) → Only m a t := by
  intro t e hm
  refine h.step hm ?_
  replace h : Only 4194304 s s := .refl s
  suffices g : Runs 4194304 s (execGetbcr s) from g.only t e
  clear e t
  unfold execGetbcr
  try dsimp only
  repeat' (first | with_reducible assumption | decide | with_reducible refine runs_intro ?_
                 | with_reducible apply runs_ite | with_reducible exact runs_refused
                 | with_reducible exact runs_fault | intro _ | with_reducible refine i3cAt_only ?_ _ ?_
                 | with_reducible apply ite_only | with_reducible apply foldl_only
                 | with_reducible apply foldl_only_snd | refine snd_only ‹_ = _› ?_ | refine fst_only ‹_ = _› ?_
                 | split)

theorem execGetdcr_only (h : Only m a s) : ∀ t, execGetdcr s = Host.Outcome.next t → (hm : Sub 4194304 m := by decide) → Only m a t := by
  intro t e hm
  refine h.step hm ?_
  replace h : Only 4194304 s s := .refl s
  suffices g : Runs 4194304 s (execGetdcr s) from g.only t e
  clear e t
  unfold execGetdcr
  try dsimp only
  repeat' (first | with_reducible assumption | decide | with_reducible refine runs_intro ?_
                 | with_reducible apply runs_ite | with_reducible exact runs_refused
                 | with_reducible exact runs_fault | intro _ | with_reducible refine i3cAt_only ?_ _ ?_
                 | with_reducible apply ite_only | with_reducible apply foldl_only
                 | with_reducible apply foldl_only_snd | refine snd_only ‹_ = _› ?_ | refine fst_only ‹_ = _› ?_
                 | split)

theorem execGetmrl_only (h : Only m a s) : ∀ t, execGetmrl s = Host.Outcome.next t → (hm : Sub 4194304 m := by decide) → Only m a t := by
  intro t e hm
  refine h.step hm ?_
  replace h : Only 4194304 s s := .refl s
  suffices g : Runs 4194304 s (execGetmrl s) from g.only t e
  clear e t
  unfold execGetmrl
  try dsimp only
  repeat' (first | with_reducible assumption | decide | with_reducible refine runs_intro ?_
                 | with_reducible apply runs_ite | with_reducible exact runs_refused
                 | with_reducible exact runs_fault | intro _ | with_reducible refine i3cAt_only ?_ _ ?_
                 | with_reducible apply ite_only | with_reducible apply foldl_only
                 | with_reducible apply foldl_only_snd | refine snd_only ‹_ = _› ?_ | refine fst_only ‹_ = _› ?_
                 | split)

theorem execGetmwl_only (h : Only m a s) : ∀ t, execGetmwl s = Host.Outcome.next t → (hm : Sub 4194304 m := by decide) → Only m a t := by
  intro t e hm
  refine h.step hm ?_
  replace h : Only 4194304 s s := .refl s
  suffices g : Runs 4194304 s (execGetmwl s) from g.only t e
  clear e t
  unfold execGetmwl
  try dsimp only
  repeat' (first | with_reducible assumption | decide | with_reducible refine runs_intro ?_
                 | with_reducible apply runs_ite | with_reducible exact runs_refused
                 | with_reducible exact runs_fault | intro _ | with_reducible refine i3cAt_only ?_ _ ?_
                 | with_reducible apply ite_only | with_reducible apply foldl_only
                 | with_reducible apply foldl_only_snd | refine snd_only ‹_ = _› ?_ | refine fst_only ‹_ = _› ?_
                 | split)

theorem execSetmrl_only (h : Only m a s) : ∀ x1, ∀ t, execSetmrl x1 s = Host.Outcome.next t → (hm : Sub 4 m := by decide) → Only m a t := by
  intro x1 t e hm
  refine h.step hm ?_
  replace h : Only 4 s s := .refl s
  suffices g : Runs 4 s (execSetmrl x1 s) from g.only t e
  clear e t
  unfold execSetmrl
  try dsimp only
  repeat' (first | with_reducible assumption | decide | with_reducible refine runs_intro ?_
                 | with_reducible apply runs_ite | with_reducible exact runs_refused
                 | with_reducible exact runs_fault | intro _ | with_reducible apply i3c_only
                 | with_reducible refine modMgmt_only ?_ _ ?_ | with_reducible apply ite_only
                 | with_reducible apply foldl_only | with_reducible apply foldl_only_snd | refine snd_only ‹_ = _› ?_
                 | refine fst_only ‹_ = _› ?_ | split)

theorem execSetmwl_only (h : Only m a s) : ∀ x1, ∀ t, execSetmwl x1 s = Host.Outcome.next t → (hm : Sub 4 m := by decide) → Only m a t := by
  intro x1 t e hm
  refine h.step hm ?_
  replace h : Only 4 s s := .refl s
  suffices g : Runs 4 s (execSetmwl x1 s) from g.only t e
  clear e t
  unfold execSetmwl
  try dsimp only
  repeat' (first | with_reducible assumption | decide | with_reducible refine runs_intro ?_
                 | with_reducible apply runs_ite | with_reducible exact runs_refused
                 | with_reducible exact runs_fault | intro _ | with_reducible apply i3c_only
                 | with_reducible refine modMgmt_only ?_ _ ?_ | with_reducible apply ite_only
                 | with_reducible apply foldl_only | with_reducible apply foldl_only_snd | refine snd_only ‹_ = _› ?_
                 | refine fst_only ‹_ = _› ?_ | split)

theorem execCoreSelfTestDone_only (h : Only m a s) : ∀ x1, ∀ t, execCoreSelfTestDone x1 s = Host.Outcome.next t → (hm : Sub 33554434 m := by decide) → Only m a t := by
  intro x1 t e hm
  refine h.step hm ?_
  replace h : Only 33554434 s s := .refl s
  suffices g : Runs 33554434 s (execCoreSelfTestDone x1 s) from g.only t e
  clear e t
  unfold execCoreSelfTestDone
  try dsimp only
  repeat' (first | with_reducible assumption | decide | with_reducible refine runs_intro ?_
                 | with_reducible apply runs_ite | with_reducible exact runs_refused
                 | with_reducible exact runs_fault | exact ⟨rfl, rfl, rfl⟩
                 | with_reducible refine modBlock_states ?_ _ ?_ | intro _
                 | with_reducible refine holdSafe_only ?_ _ ?_ | with_reducible apply ite_only
                 | with_reducible apply foldl_only | with_reducible apply foldl_only_snd | refine snd_only ‹_ = _› ?_
                 | refine fst_only ‹_ = _› ?_ | split)

theorem execI3cMctpTransfer_only (h : Only m a s) : ∀ x1 x2 x3, ∀ t, execI3cMctpTransfer x1 x2 x3 s = Host.Outcome.next t → (hm : Sub 4 m := by decide) → Only m a t := by
  intro x1 x2 x3 t e hm
  refine h.step hm ?_
  replace h : Only 4 s s := .refl s
  suffices g : Runs 4 s (execI3cMctpTransfer x1 x2 x3 s) from g.only t e
  clear e t
  unfold execI3cMctpTransfer
  try dsimp only
  repeat' (first | with_reducible assumption | decide | with_reducible refine runs_intro ?_
                 | with_reducible apply runs_ite | with_reducible exact runs_refused
                 | with_reducible exact runs_fault | intro _ | with_reducible refine modMgmt_only ?_ _ ?_
                 | with_reducible apply ite_only | with_reducible apply foldl_only
                 | with_reducible apply foldl_only_snd | refine snd_only ‹_ = _› ?_ | refine fst_only ‹_ = _› ?_
                 | split)

theorem execUnsupportedSpdmRequest_only (h : Only m a s) : ∀ x1 x2, ∀ t, execUnsupportedSpdmRequest x1 x2 s = Host.Outcome.next t → (hm : Sub 4194316 m := by decide) → Only m a t := by
  intro x1 x2 t e hm
  refine h.step hm ?_
  replace h : Only 4194316 s s := .refl s
  suffices g : Runs 4194316 s (execUnsupportedSpdmRequest x1 x2 s) from g.only t e
  clear e t
  unfold execUnsupportedSpdmRequest
  try dsimp only
  repeat' (first | with_reducible assumption | decide | with_reducible refine runs_intro ?_
                 | with_reducible apply runs_ite | with_reducible exact runs_refused
                 | with_reducible exact runs_fault | intro _ | with_reducible refine spdmAny_only ?_ _ _ ?_
                 | with_reducible apply ite_only | with_reducible apply foldl_only
                 | with_reducible apply foldl_only_snd | refine snd_only ‹_ = _› ?_ | refine fst_only ‹_ = _› ?_
                 | split)

theorem execCorePowerLoss_only (h : Only m a s) : ∀ t, execCorePowerLoss s = Host.Outcome.next t → (hm : Sub 67108863 m := by decide) → Only m a t := by
  intro t e hm
  refine h.step hm ?_
  replace h : Only 67108863 s s := .refl s
  suffices g : Runs 67108863 s (execCorePowerLoss s) from g.only t e
  clear e t
  unfold execCorePowerLoss
  try dsimp only
  repeat' (first | with_reducible assumption | decide | with_reducible refine runs_intro ?_
                 | with_reducible apply runs_ite | with_reducible exact runs_refused
                 | with_reducible exact runs_fault | intro _ | with_reducible refine cleared_only ?_ ?_
                 | with_reducible apply ite_only | with_reducible apply foldl_only
                 | with_reducible apply foldl_only_snd | refine snd_only ‹_ = _› ?_ | refine fst_only ‹_ = _› ?_
                 | split)

theorem execSelectEntryDeal_only (h : Only m a s) : ∀ x1, ∀ t, execSelectEntryDeal x1 s = Host.Outcome.next t → (hm : Sub 682830 m := by decide) → Only m a t := by
  intro x1 t e hm
  refine h.step hm ?_
  replace h : Only 682830 s s := .refl s
  suffices g : Runs 682830 s (execSelectEntryDeal x1 s) from g.only t e
  clear e t
  unfold execSelectEntryDeal
  try dsimp only
  repeat' (first | with_reducible assumption | decide | with_reducible refine runs_intro ?_
                 | with_reducible apply runs_ite | with_reducible exact runs_refused
                 | with_reducible exact runs_fault | intro _ | with_reducible refine engAsk_only ?_ _ _ _ ?_
                 | with_reducible refine engDone_only ?_ _ ?_ | with_reducible refine poisonAbort_only ?_ _ ?_
                 | with_reducible refine modShot_only ?_ _ _ ?_ | with_reducible refine passEntries_only ?_ _ _ _ ?_
                 | with_reducible refine bump_only ?_ _ _ _ _ ?_ | with_reducible apply ite_only
                 | with_reducible apply foldl_only | with_reducible apply foldl_only_snd | refine snd_only ‹_ = _› ?_
                 | refine fst_only ‹_ = _› ?_ | split)

theorem execCheckValueBlock_only (h : Only m a s) : ∀ x1, ∀ t, execCheckValueBlock x1 s = Host.Outcome.next t → (hm : Sub 682830 m := by decide) → Only m a t := by
  intro x1 t e hm
  refine h.step hm ?_
  replace h : Only 682830 s s := .refl s
  suffices g : Runs 682830 s (execCheckValueBlock x1 s) from g.only t e
  clear e t
  unfold execCheckValueBlock
  try dsimp only
  repeat' (first | with_reducible assumption | decide | with_reducible refine runs_intro ?_
                 | with_reducible apply runs_ite | with_reducible exact runs_refused
                 | with_reducible exact runs_fault | intro _ | with_reducible refine engAsk_only ?_ _ _ _ ?_
                 | with_reducible refine poisonAbort_only ?_ _ ?_ | with_reducible refine engDone_only ?_ _ ?_
                 | with_reducible refine issue_only ?_ _ _ ?_ | with_reducible refine engPast_only ?_ _ _ _ ?_
                 | with_reducible refine modShot_only ?_ _ _ ?_ | with_reducible refine bump_only ?_ _ _ _ _ ?_
                 | with_reducible apply ite_only | with_reducible apply foldl_only
                 | with_reducible apply foldl_only_snd | refine snd_only ‹_ = _› ?_ | refine fst_only ‹_ = _› ?_
                 | split)

theorem execDollyShotTransfer_only (h : Only m a s) : ∀ x1, ∀ t, execDollyShotTransfer x1 s = Host.Outcome.next t → (hm : Sub 682830 m := by decide) → Only m a t := by
  intro x1 t e hm
  refine h.step hm ?_
  replace h : Only 682830 s s := .refl s
  suffices g : Runs 682830 s (execDollyShotTransfer x1 s) from g.only t e
  clear e t
  unfold execDollyShotTransfer
  try dsimp only
  repeat' (first | with_reducible assumption | decide | with_reducible refine runs_intro ?_
                 | with_reducible apply runs_ite | with_reducible exact runs_refused
                 | with_reducible exact runs_fault | intro _ | with_reducible refine copyPart_only ?_ _ ?_
                 | with_reducible refine convertPart_only ?_ _ ?_ | with_reducible apply ite_only
                 | with_reducible apply foldl_only | with_reducible apply foldl_only_snd | refine snd_only ‹_ = _› ?_
                 | refine fst_only ‹_ = _› ?_ | split)

theorem execFillShotWrite_only (h : Only m a s) : ∀ x1, ∀ t, execFillShotWrite x1 s = Host.Outcome.next t → (hm : Sub 682830 m := by decide) → Only m a t := by
  intro x1 t e hm
  refine h.step hm ?_
  replace h : Only 682830 s s := .refl s
  suffices g : Runs 682830 s (execFillShotWrite x1 s) from g.only t e
  clear e t
  unfold execFillShotWrite
  try dsimp only
  repeat' (first | with_reducible assumption | decide | with_reducible refine runs_intro ?_
                 | with_reducible apply runs_ite | with_reducible exact runs_refused
                 | with_reducible exact runs_fault | intro _ | with_reducible refine partDone_only ?_ _ _ _ ?_
                 | with_reducible refine bump_only ?_ _ _ _ _ ?_
                 | with_reducible refine runWrite_only ?_ _ _ _ _ _ ?_ | with_reducible apply ite_only
                 | with_reducible apply foldl_only | with_reducible apply foldl_only_snd | refine snd_only ‹_ = _› ?_
                 | refine fst_only ‹_ = _› ?_ | split)

theorem execLostLineRewrite_only (h : Only m a s) : ∀ x1, ∀ t, execLostLineRewrite x1 s = .next t → (hm : Sub 1579208 m := by decide) → Only m a t := by
  intro x1 t e hm
  refine h.step hm ?_
  replace h : Only 1579208 s s := .refl s
  suffices g : Runs 1579208 s (execLostLineRewrite x1 s) from g.only t e
  clear e t
  unfold execLostLineRewrite
  extract_lets st
  refine runs_ite (runs_intro h) ?_
  split
  · exact runs_intro (modStack_only (ite_only h (loseLine_only h _)) _ _)
  · refine runs_intro ?_
    have key : ∀ (f : Nat × RegionSlot → Option State), (∀ x t, f x = some t → Only 1579208 s t) →
        ∀ l : List (Nat × RegionSlot), Only 1579208 s ((l.findSome? f).getD s) := by
      intro f hf l
      cases e : l.findSome? f with
      | none => exact h
      | some t =>
        obtain ⟨x, -, ex⟩ := List.exists_of_findSome?_eq_some e
        exact hf x t ex
    refine key _ (fun x t e => ?_) _
    split at e
    · cases e
    · exact loseCached_only h _ _ _ _ _ e

end Sys2Proof.Laws
end

