-- ==== Sys2Proof/Laws/PerInstr.lean ====
section
/-! SUPPORT. PerInstr.lean: what holds of every command as it stands, one lemma per command. -/

-- theorems one after another: many at once would ask for too many threads
set_option Elab.async false

namespace Sys2Proof.Laws.queue

open Sys2Proof.Safety

/-- The parts that a command may change are listed once each, and the queue of waiting commands is none of them. -/
def Statement (i : Instr) : Prop := Part.pending ∉ mayChange i ∧ (mayChange i).Nodup

theorem read (r : PortReq) : Statement (.read r) := by constructor <;> simp [mayChange]
theorem write (r : PortReq) : Statement (.write r) := by constructor <;> simp [mayChange]
theorem add (r : PortReq) : Statement (.add r) := by constructor <;> simp [mayChange]
theorem swap (r : PortReq) : Statement (.swap r) := by constructor <;> simp [mayChange]
theorem cas (r : PortReq) : Statement (.cas r) := by constructor <;> simp [mayChange]
theorem fence (r : PortReq) : Statement (.fence r) := by constructor <;> simp [mayChange]
theorem reservedOperation (r : PortReq) (op cls : BitVec 4) : Statement (.reservedOperation r op cls) := by constructor <;> simp [mayChange]
theorem writeData (port : Fin 36) (ps : List Sector) : Statement (.writeData port ps) := by constructor <;> simp [mayChange]
theorem holdBufferRelease (port : Fin 36) (c : Cls) : Statement (.holdBufferRelease port c) := by constructor <;> simp [mayChange]
theorem responseRelease (port : Fin 36) : Statement (.responseRelease port) := by constructor <;> simp [mayChange]
theorem arbiterCycle (stack : Fin 32) (k : Fin 1000) : Statement (.arbiterCycle stack k) := by constructor <;> simp [mayChange]
theorem agePromotion (req : Nat) : Statement (.agePromotion req) := by constructor <;> simp [mayChange]
theorem watchdogBite (req : Nat) : Statement (.watchdogBite req) := by constructor <;> simp [mayChange]
theorem pcControllerCycle (stack : Fin 32) (pc : Fin 64) (k : Fin 1000) : Statement (.pcControllerCycle stack pc k) := by constructor <;> simp [mayChange]
theorem rowIdleClose (stack : Fin 32) (pc : Fin 64) (sid : Fin 4) (bank : Fin 16) (k : Fin 1000) : Statement (.rowIdleClose stack pc sid bank k) := by constructor <;> simp [mayChange]
theorem readDataReturn (stack : Fin 32) (pc : Fin 64) (errs : List (Nat × Nat)) : Statement (.readDataReturn stack pc errs) := by constructor <;> simp [mayChange]
theorem secondLookResult (stack : Fin 32) (pc : Fin 64) (errs : List (Nat × Nat)) : Statement (.secondLookResult stack pc errs) := by constructor <;> simp [mayChange]
theorem correctiveRewrite (stack : Fin 32) : Statement (.correctiveRewrite stack) := by constructor <;> simp [mayChange]
theorem parityError (stack : Fin 32) (pc : Fin 64) (k : Fin 1000) : Statement (.parityError stack pc k) := by constructor <;> simp [mayChange]
theorem replayTakeEnd (stack : Fin 32) (pc : Fin 64) : Statement (.replayTakeEnd stack pc) := by constructor <;> simp [mayChange]
theorem frameBoundary : Statement .frameBoundary := by constructor <;> simp [mayChange]
theorem callSheetComplete (stack : Fin 32) : Statement (.callSheetComplete stack) := by constructor <;> simp [mayChange]
theorem referenceCycle : Statement .referenceCycle := by constructor <;> simp [mayChange]
theorem ptpOffset (ofs : BitVec 64) : Statement (.ptpOffset ofs) := by constructor <;> simp [mayChange]
theorem ptpRate (rate : BitVec 32) : Statement (.ptpRate rate) := by constructor <;> simp [mayChange]
theorem stepRequest (rq : Rq) (ns : BitVec 64) : Statement (.stepRequest rq ns) := by constructor <;> simp [mayChange]
theorem correctionModeSelect (rq : Rq) (v : BitVec 8) : Statement (.correctionModeSelect rq v) := by constructor <;> simp [mayChange]
theorem rateCorrectionWrite (rq : Rq) (v : BitVec 32) : Statement (.rateCorrectionWrite rq v) := by constructor <;> simp [mayChange]
theorem referenceFrequencyWrite (rq : Rq) (hz : BitVec 32) : Statement (.referenceFrequencyWrite rq hz) := by constructor <;> simp [mayChange]
theorem contribution (pipe : Fin 32) (h : ContribHdr) (beats : Nat) (payload : List Byte) : Statement (.contribution pipe h beats payload) := by constructor <;> simp [mayChange]
theorem laneAccumulate (lane : Fin 64) : Statement (.laneAccumulate lane) := by constructor <;> simp [mayChange]
theorem creditReturn (pipe : Fin 32) : Statement (.creditReturn pipe) := by constructor <;> simp [mayChange]
theorem resultSend : Statement .resultSend := by constructor <;> simp [mayChange]
theorem spillPacket (desc : BitVec 64) (bytes : List Byte) : Statement (.spillPacket desc bytes) := by constructor <;> simp [mayChange]
theorem spillPull (port : BitVec 9) : Statement (.spillPull port) := by constructor <;> simp [mayChange]
theorem linkStatus (port : BitVec 9) (up : Bool) : Statement (.linkStatus port up) := by constructor <;> simp [mayChange]
theorem holdExpiry (port : BitVec 9) : Statement (.holdExpiry port) := by constructor <;> simp [mayChange]
theorem backPressureRefresh : Statement .backPressureRefresh := by constructor <;> simp [mayChange]
theorem captureHeader (port : BitVec 9) (queue len : BitVec 8) (hdr : BitVec 1792) : Statement (.captureHeader port queue len hdr) := by constructor <;> simp [mayChange]
theorem captureReadIndex (rq : Rq) (v : BitVec 64) : Statement (.captureReadIndex rq v) := by constructor <;> simp [mayChange]
theorem stockroomEnable (rq : Rq) : Statement (.stockroomEnable rq) := by constructor <;> simp [mayChange]
theorem stockroomDisable (rq : Option Rq) : Statement (.stockroomDisable rq) := by constructor <;> simp [mayChange]
theorem chunkFillEnd (chunk : BitVec 21) : Statement (.chunkFillEnd chunk) := by constructor <;> simp [mayChange]
theorem fillAllowanceTaken (chunk : BitVec 21) : Statement (.fillAllowanceTaken chunk) := by constructor <;> simp [mayChange]
theorem backgroundFillWrite (stack : Fin 32) : Statement (.backgroundFillWrite stack) := by constructor <;> simp [mayChange]
theorem engineWaitEnd : Statement .engineWaitEnd := by constructor <;> simp [mayChange]
theorem versionDrop (region : BitVec 12) : Statement (.versionDrop region) := by constructor <;> simp [mayChange]
theorem shotTableVersionDrop (entry : BitVec 12) : Statement (.shotTableVersionDrop entry) := by constructor <;> simp [mayChange]
theorem refreshWindowStart (stack : Fin 32) : Statement (.refreshWindowStart stack) := by constructor <;> simp [mayChange]
theorem selfRefreshEntry (stack : Fin 32) (pc : Fin 64) (k : Fin 1000) : Statement (.selfRefreshEntry stack pc k) := by constructor <;> simp [mayChange]
theorem selfRefreshExit (stack : Fin 32) (pc : Fin 64) (k : Fin 1000) : Statement (.selfRefreshExit stack pc k) := by constructor <;> simp [mayChange]
theorem stackSelfRefreshEnter (rq : Rq) (stack : Fin 32) : Statement (.stackSelfRefreshEnter rq stack) := by constructor <;> simp [mayChange]
theorem stackWakeRequest (rq : Rq) (stack : Fin 32) : Statement (.stackWakeRequest rq stack) := by constructor <;> simp [mayChange]
theorem stackIdleExpiry (stack : Fin 32) : Statement (.stackIdleExpiry stack) := by constructor <;> simp [mayChange]
theorem stackGate (stack : Fin 32) : Statement (.stackGate stack) := by constructor <;> simp [mayChange]
theorem stackWake (stack : Fin 32) : Statement (.stackWake stack) := by constructor <;> simp [mayChange]
theorem stackWakeService (stack : Fin 32) (identity : BitVec 256) (res : List (Fin 64 × CalResult)) (train : TrainResult) : Statement (.stackWakeService stack identity res train) := by constructor <;> simp [mayChange]
theorem timingSwitchRequest (rq : Rq) (stack : Fin 32) (set : BitVec 8) : Statement (.timingSwitchRequest rq stack set) := by constructor <;> simp [mayChange]
theorem timingSwitchChannelDone (stack : Fin 32) : Statement (.timingSwitchChannelDone stack) := by constructor <;> simp [mayChange]
theorem histogramBinAdvance (stack : Fin 32) (pc : Fin 64) (dis : List Nat) : Statement (.histogramBinAdvance stack pc dis) := by constructor <;> simp [mayChange]
theorem retrainingApply (stack : Fin 32) (pc : Fin 64) (res : List CalResult) : Statement (.retrainingApply stack pc res) := by constructor <;> simp [mayChange]
theorem pcRetrainComplete (stack : Fin 32) (pc : Fin 64) (eyes : List LaneEye) : Statement (.pcRetrainComplete stack pc eyes) := by constructor <;> simp [mayChange]
theorem domainGateRequest (rq : Rq) (domain : Fin 43) (v : BitVec 8) : Statement (.domainGateRequest rq domain v) := by constructor <;> simp [mayChange]
theorem domainWakeComplete (domain : Fin 43) : Statement (.domainWakeComplete domain) := by constructor <;> simp [mayChange]
theorem powerTelemetry (domains rails : List Nat) : Statement (.powerTelemetry domains rails) := by constructor <;> simp [mayChange]
theorem temperatureRead (stack : Fin 32) (reading : Option Int) : Statement (.temperatureRead stack reading) := by constructor <;> simp [mayChange]
theorem stackT4Gate (stack : Fin 32) : Statement (.stackT4Gate stack) := by constructor <;> simp [mayChange]
theorem thermalSlipRecord (shot : BitVec 16) : Statement (.thermalSlipRecord shot) := by constructor <;> simp [mayChange]
theorem loftPortCycle (slice : Fin 64) (d : LoftDemand) : Statement (.loftPortCycle slice d) := by constructor <;> simp [mayChange]
theorem loftLineFill (slice : Fin 64) : Statement (.loftLineFill slice) := by constructor <;> simp [mayChange]
theorem loftWriteBack (slice : Fin 64) : Statement (.loftWriteBack slice) := by constructor <;> simp [mayChange]
theorem loftPatrolStep (slice : Fin 64) (found : WordFound) : Statement (.loftPatrolStep slice found) := by constructor <;> simp [mayChange]
theorem partitionChangeEffect (q : Fin 4) : Statement (.partitionChangeEffect q) := by constructor <;> simp [mayChange]
theorem sliceFail (slice : Fin 64) (tagsLost : Bool) : Statement (.sliceFail slice tagsLost) := by constructor <;> simp [mayChange]
theorem sliceFence (slice : Fin 64) : Statement (.sliceFence slice) := by constructor <;> simp [mayChange]
theorem sliceMapReturn (slice : Fin 64) : Statement (.sliceMapReturn slice) := by constructor <;> simp [mayChange]
theorem reduce (p : Post) : Statement (.reduce p) := by constructor <;> simp [mayChange]
theorem gather (p : Post) : Statement (.gather p) := by constructor <;> simp [mayChange]
theorem score (p : Post) : Statement (.score p) := by constructor <;> simp [mayChange]
theorem project (p : Post) : Statement (.project p) := by constructor <;> simp [mayChange]
theorem select (p : Post) : Statement (.select p) := by constructor <;> simp [mayChange]
theorem filter (p : Post) : Statement (.filter p) := by constructor <;> simp [mayChange]
theorem convert (p : Post) : Statement (.convert p) := by constructor <;> simp [mayChange]
theorem copy (p : Post) : Statement (.copy p) := by constructor <;> simp [mayChange]
theorem scan (p : Post) : Statement (.scan p) := by constructor <;> simp [mayChange]
theorem fill (p : Post) : Statement (.fill p) := by constructor <;> simp [mayChange]
theorem reservedKind (p : Post) (kind : BitVec 8) : Statement (.reservedKind p kind) := by constructor <;> simp [mayChange]
theorem shotExtend (shot : BitVec 16) : Statement (.shotExtend shot) := by constructor <;> simp [mayChange]
theorem shotTimeAbort (shot : BitVec 16) : Statement (.shotTimeAbort shot) := by constructor <;> simp [mayChange]
theorem listHeadTimeout (list : Fin 64) : Statement (.listHeadTimeout list) := by constructor <;> simp [mayChange]
theorem contextFree (shot : BitVec 16) : Statement (.contextFree shot) := by constructor <;> simp [mayChange]
theorem jobAbort (rq : Rq) (v : BitVec 32) : Statement (.jobAbort rq v) := by constructor <;> simp [mayChange]
theorem gatherBagStart (unit : Fin 32) : Statement (.gatherBagStart unit) := by constructor <;> simp [mayChange]
theorem gatherRowData (unit : Fin 32) : Statement (.gatherRowData unit) := by constructor <;> simp [mayChange]
theorem arrayRun (array : Fin 4) : Statement (.arrayRun array) := by constructor <;> simp [mayChange]
theorem selectMerge (shot : BitVec 16) : Statement (.selectMerge shot) := by constructor <;> simp [mayChange]
theorem filterKey (shot : BitVec 16) : Statement (.filterKey shot) := by constructor <;> simp [mayChange]
theorem patrolStep (stack : Fin 32) (e : ReadErrs) : Statement (.patrolStep stack e) := by constructor <;> simp [mayChange]
theorem bucketLeak : Statement .bucketLeak := by constructor <;> simp [mayChange]
theorem spliceLineCopy (stack : Fin 32) (e : ReadErrs) : Statement (.spliceLineCopy stack e) := by constructor <;> simp [mayChange]
theorem migrationStart (stack : Fin 32) : Statement (.migrationStart stack) := by constructor <;> simp [mayChange]
theorem migrationLineCopy (stack : Fin 32) (e : ReadErrs) : Statement (.migrationLineCopy stack e) := by constructor <;> simp [mayChange]
theorem migrationCommit (stack : Fin 32) : Statement (.migrationCommit stack) := by constructor <;> simp [mayChange]
theorem rebuildLineCopy (region : BitVec 12) (e : ReadErrs) : Statement (.rebuildLineCopy region e) := by constructor <;> simp [mayChange]
theorem declareDead (rq : Rq) (unit : BitVec 32) : Statement (.declareDead rq unit) := by constructor <;> simp [mayChange]
theorem readmit (rq : Rq) (unit : BitVec 32) : Statement (.readmit rq unit) := by constructor <;> simp [mayChange]
theorem readmitResult (pass : Bool) : Statement (.readmitResult pass) := by constructor <;> simp [mayChange]
theorem retirementReadIndex (rq : Rq) (v : BitVec 64) : Statement (.retirementReadIndex rq v) := by constructor <;> simp [mayChange]
theorem keyRotate (rq : Rq) (region : BitVec 16) : Statement (.keyRotate rq region) := by constructor <;> simp [mayChange]
theorem sweepStep (stack : Fin 32) (region : BitVec 12) (e : ReadErrs) : Statement (.sweepStep stack region e) := by constructor <;> simp [mayChange]
theorem sweepComplete (region : BitVec 12) : Statement (.sweepComplete region) := by constructor <;> simp [mayChange]
theorem keyErase (rq : Rq) (region : BitVec 16) : Statement (.keyErase rq region) := by constructor <;> simp [mayChange]
theorem eraseEffect (region : BitVec 12) : Statement (.eraseEffect region) := by constructor <;> simp [mayChange]
theorem entropyHealthChange (h : HealthChange) : Statement (.entropyHealthChange h) := by constructor <;> simp [mayChange]
theorem drbgReseed : Statement .drbgReseed := by constructor <;> simp [mayChange]
theorem microcodeSegment (rq : Rq) (segment : BitVec 32) (last sigOk : Bool) (version : BitVec 16) : Statement (.microcodeSegment rq segment last sigOk version) := by constructor <;> simp [mayChange]
theorem raiseMinimumVersion (rq : Rq) : Statement (.raiseMinimumVersion rq) := by constructor <;> simp [mayChange]
theorem scanRequest : Statement .scanRequest := by constructor <;> simp [mayChange]
theorem scanClearComplete (ok : Bool) : Statement (.scanClearComplete ok) := by constructor <;> simp [mayChange]
theorem resetAssert (lowNs : Nat) : Statement (.resetAssert lowNs) := by constructor <;> simp [mayChange]
theorem resetRelease (profile : BitVec 2) (compat : Bool) : Statement (.resetRelease profile compat) := by constructor <;> simp [mayChange]
theorem microcodeImage (img : BootImage) : Statement (.microcodeImage img) := by constructor <;> simp [mayChange]
theorem dictionaryReachable : Statement .dictionaryReachable := by constructor <;> simp [mayChange]
theorem stackBringUpStepDone (stack : Fin 32) (r : BringResult) : Statement (.stackBringUpStepDone stack r) := by constructor <;> simp [mayChange]
theorem hardwareFillDone (stack : Fin 32) : Statement (.hardwareFillDone stack) := by constructor <;> simp [mayChange]
theorem loftQuadrantTestDone (q : Fin 4) (bad : List (List Nat)) : Statement (.loftQuadrantTestDone q bad) := by constructor <;> simp [mayChange]
theorem engineSelfTestDone (unit : Nat) (pass : Bool) : Statement (.engineSelfTestDone unit pass) := by constructor <;> simp [mayChange]
theorem selfTestSliceRequest : Statement .selfTestSliceRequest := by constructor <;> simp [mayChange]
theorem selfTestSliceEnd (unit : Nat) (r : SliceResult) : Statement (.selfTestSliceEnd unit r) := by constructor <;> simp [mayChange]
theorem counterSample (counter : Fin 1088) : Statement (.counterSample counter) := by constructor <;> simp [mayChange]
theorem counterGrant (rq : Rq) (elem : Fin 1088) (v : BitVec 16) : Statement (.counterGrant rq elem v) := by constructor <;> simp [mayChange]
theorem sampleReadIndex (rq : Rq) (v : BitVec 64) : Statement (.sampleReadIndex rq v) := by constructor <;> simp [mayChange]
theorem mailboxDoorbell (packet : List Byte) (last : Bool) : Statement (.mailboxDoorbell packet last) := by constructor <;> simp [mayChange]
theorem managementPacket (rq : Rq) (bytes : Nat) : Statement (.managementPacket rq bytes) := by constructor <;> simp [mayChange]
theorem dictionaryRead (rq : Rq) (o : Obj) (staged : Bool) (length : Nat) : Statement (.dictionaryRead rq o staged length) := by constructor <;> simp [mayChange]
theorem dictionaryWrite (rq : Rq) (o : Obj) (data : List Byte) : Statement (.dictionaryWrite rq o data) := by constructor <;> simp [mayChange]
theorem lock (rq : Rq) (scopes : List (BitVec 16)) : Statement (.lock rq scopes) := by constructor <;> simp [mayChange]
theorem commit (rq : Rq) : Statement (.commit rq) := by constructor <;> simp [mayChange]
theorem discard (rq : Rq) : Statement (.discard rq) := by constructor <;> simp [mayChange]
theorem renew (rq : Rq) : Statement (.renew rq) := by constructor <;> simp [mayChange]
theorem sessionReset (rq : Rq) : Statement (.sessionReset rq) := by constructor <;> simp [mayChange]
theorem reservedDictionaryOp (rq : Rq) (op : BitVec 8) : Statement (.reservedDictionaryOp rq op) := by constructor <;> simp [mayChange]
theorem leaseExpiry (n : Fin 4) : Statement (.leaseExpiry n) := by constructor <;> simp [mayChange]
theorem sessionTimeout (n : Fin 4) : Statement (.sessionTimeout n) := by constructor <;> simp [mayChange]
theorem eventAcknowledge (rq : Rq) (v : BitVec 64) : Statement (.eventAcknowledge rq v) := by constructor <;> simp [mayChange]
theorem stateRequestService (rq : Rq) : Statement (.stateRequestService rq) := by constructor <;> simp [mayChange]
theorem stateRequestDrain (rq : Rq) : Statement (.stateRequestDrain rq) := by constructor <;> simp [mayChange]
theorem stateRequestTest (rq : Rq) : Statement (.stateRequestTest rq) := by constructor <;> simp [mayChange]
theorem stateRequestSafe (rq : Rq) : Statement (.stateRequestSafe rq) := by constructor <;> simp [mayChange]
theorem keyExchange (rq : Rq) : Statement (.keyExchange rq) := by constructor <;> simp [mayChange]
theorem finish (rq : Rq) (leaf : LeafCert) : Statement (.finish rq leaf) := by constructor <;> simp [mayChange]
theorem endSession (rq : Rq) : Statement (.endSession rq) := by constructor <;> simp [mayChange]
theorem getMeasurements (rq : Rq) (index : BitVec 8) : Statement (.getMeasurements rq index) := by constructor <;> simp [mayChange]
theorem getVersion (rq : Rq) : Statement (.getVersion rq) := by constructor <;> simp [mayChange]
theorem getCapabilities (rq : Rq) : Statement (.getCapabilities rq) := by constructor <;> simp [mayChange]
theorem negotiateAlgorithms (rq : Rq) (supported : Bool) : Statement (.negotiateAlgorithms rq supported) := by constructor <;> simp [mayChange]
theorem getDigests (rq : Rq) : Statement (.getDigests rq) := by constructor <;> simp [mayChange]
theorem getCertificate (rq : Rq) (slot : BitVec 4) (offset length : BitVec 16) : Statement (.getCertificate rq slot offset length) := by constructor <;> simp [mayChange]
theorem challenge (rq : Rq) (slot : BitVec 4) (nonce : BitVec 256) : Statement (.challenge rq slot nonce) := by constructor <;> simp [mayChange]
theorem heartbeat (rq : Rq) : Statement (.heartbeat rq) := by constructor <;> simp [mayChange]
theorem keyUpdate (rq : Rq) : Statement (.keyUpdate rq) := by constructor <;> simp [mayChange]
theorem entdaa (addr : BitVec 7) : Statement (.entdaa addr) := by constructor <;> simp [mayChange]
theorem rstdaa : Statement .rstdaa := by constructor <;> simp [mayChange]
theorem enec (mask : BitVec 8) : Statement (.enec mask) := by constructor <;> simp [mayChange]
theorem disec (mask : BitVec 8) : Statement (.disec mask) := by constructor <;> simp [mayChange]
theorem getpid : Statement .getpid := by constructor <;> simp [mayChange]
theorem getbcr : Statement .getbcr := by constructor <;> simp [mayChange]
theorem getdcr : Statement .getdcr := by constructor <;> simp [mayChange]
theorem getmrl : Statement .getmrl := by constructor <;> simp [mayChange]
theorem getmwl : Statement .getmwl := by constructor <;> simp [mayChange]
theorem setmrl (v : BitVec 16) : Statement (.setmrl v) := by constructor <;> simp [mayChange]
theorem setmwl (v : BitVec 16) : Statement (.setmwl v) := by constructor <;> simp [mayChange]
theorem coreSelfTestDone (pass : Bool) : Statement (.coreSelfTestDone pass) := by constructor <;> simp [mayChange]
theorem i3cMctpTransfer (rq : Rq) (bytes : Nat) (last : Bool) : Statement (.i3cMctpTransfer rq bytes last) := by constructor <;> simp [mayChange]
theorem unsupportedSpdmRequest (rq : Rq) (code : BitVec 8) : Statement (.unsupportedSpdmRequest rq code) := by constructor <;> simp [mayChange]
theorem corePowerLoss : Statement .corePowerLoss := by constructor <;> simp [mayChange]
theorem selectEntryDeal (shot : BitVec 16) : Statement (.selectEntryDeal shot) := by constructor <;> simp [mayChange]
theorem checkValueBlock (shot : BitVec 16) : Statement (.checkValueBlock shot) := by constructor <;> simp [mayChange]
theorem dollyShotTransfer (shot : BitVec 16) : Statement (.dollyShotTransfer shot) := by constructor <;> simp [mayChange]
theorem fillShotWrite (shot : BitVec 16) : Statement (.fillShotWrite shot) := by constructor <;> simp [mayChange]
theorem lostLineRewrite (stack : Fin 32) : Statement (.lostLineRewrite stack) := by constructor <;> simp [mayChange]

end Sys2Proof.Laws.queue
end

