-- ==== Sys2Proof/Laws/State.lean ====
section
/-! SUPPORT. State.lean: what each named update does to each field of the state, one lemma per field and update, so that no
later proof unfolds a record update. -/

-- theorems one after another: many at once would ask for too many threads
set_option Elab.async false

namespace Sys2Proof.Machine

variable (s : State)

/-! ### modPc -/

@[simp] theorem State.modPc_time (p : Nat) (f : PcState → PcState) : (s.modPc p f).time = s.time := rfl
@[simp] theorem State.modPc_block (p : Nat) (f : PcState → PcState) : (s.modPc p f).block = s.block := rfl
@[simp] theorem State.modPc_mgmt (p : Nat) (f : PcState → PcState) : (s.modPc p f).mgmt = s.mgmt := rfl
@[simp] theorem State.modPc_objs (p : Nat) (f : PcState → PcState) : (s.modPc p f).objs = s.objs := rfl
@[simp] theorem State.modPc_live (p : Nat) (f : PcState → PcState) : (s.modPc p f).live = s.live := rfl
@[simp] theorem State.modPc_live2 (p : Nat) (f : PcState → PcState) : (s.modPc p f).live2 = s.live2 := rfl
@[simp] theorem State.modPc_regions (p : Nat) (f : PcState → PcState) : (s.modPc p f).regions = s.regions := rfl
@[simp] theorem State.modPc_dram (p : Nat) (f : PcState → PcState) : (s.modPc p f).dram = s.dram := rfl
@[simp] theorem State.modPc_reqs (p : Nat) (f : PcState → PcState) : (s.modPc p f).reqs = s.reqs := rfl
@[simp] theorem State.modPc_nextReq (p : Nat) (f : PcState → PcState) : (s.modPc p f).nextReq = s.nextReq := rfl
@[simp] theorem State.modPc_ports (p : Nat) (f : PcState → PcState) : (s.modPc p f).ports = s.ports := rfl
@[simp] theorem State.modPc_stackTab (p : Nat) (f : PcState → PcState) : (s.modPc p f).stackTab = s.stackTab := rfl
@[simp] theorem State.modPc_pcs (p : Nat) (f : PcState → PcState) : (s.modPc p f).pcs = Map.upd {} p f s.pcs := rfl
@[simp] theorem State.modPc_loft (p : Nat) (f : PcState → PcState) : (s.modPc p f).loft = s.loft := rfl
@[simp] theorem State.modPc_shot (p : Nat) (f : PcState → PcState) : (s.modPc p f).shot = s.shot := rfl
@[simp] theorem State.modPc_entry (p : Nat) (f : PcState → PcState) : (s.modPc p f).entry = s.entry := rfl
@[simp] theorem State.modPc_packet (p : Nat) (f : PcState → PcState) : (s.modPc p f).packet = s.packet := rfl
@[simp] theorem State.modPc_seqNo (p : Nat) (f : PcState → PcState) : (s.modPc p f).seqNo = s.seqNo := rfl
@[simp] theorem State.modPc_keys (p : Nat) (f : PcState → PcState) : (s.modPc p f).keys = s.keys := rfl
@[simp] theorem State.modPc_test (p : Nat) (f : PcState → PcState) : (s.modPc p f).test = s.test := rfl
@[simp] theorem State.modPc_tokens (p : Nat) (f : PcState → PcState) : (s.modPc p f).tokens = s.tokens := rfl
@[simp] theorem State.modPc_free (p : Nat) (f : PcState → PcState) : (s.modPc p f).free = s.free := rfl
@[simp] theorem State.modPc_outbox (p : Nat) (f : PcState → PcState) : (s.modPc p f).outbox = s.outbox := rfl
@[simp] theorem State.modPc_pending (p : Nat) (f : PcState → PcState) : (s.modPc p f).pending = s.pending := rfl

/-! ### eachPc -/

@[simp] theorem State.eachPc_time (f : PcState → PcState) : (s.eachPc f).time = s.time := rfl
@[simp] theorem State.eachPc_block (f : PcState → PcState) : (s.eachPc f).block = s.block := rfl
@[simp] theorem State.eachPc_mgmt (f : PcState → PcState) : (s.eachPc f).mgmt = s.mgmt := rfl
@[simp] theorem State.eachPc_objs (f : PcState → PcState) : (s.eachPc f).objs = s.objs := rfl
@[simp] theorem State.eachPc_live (f : PcState → PcState) : (s.eachPc f).live = s.live := rfl
@[simp] theorem State.eachPc_live2 (f : PcState → PcState) : (s.eachPc f).live2 = s.live2 := rfl
@[simp] theorem State.eachPc_regions (f : PcState → PcState) : (s.eachPc f).regions = s.regions := rfl
@[simp] theorem State.eachPc_dram (f : PcState → PcState) : (s.eachPc f).dram = s.dram := rfl
@[simp] theorem State.eachPc_reqs (f : PcState → PcState) : (s.eachPc f).reqs = s.reqs := rfl
@[simp] theorem State.eachPc_nextReq (f : PcState → PcState) : (s.eachPc f).nextReq = s.nextReq := rfl
@[simp] theorem State.eachPc_ports (f : PcState → PcState) : (s.eachPc f).ports = s.ports := rfl
@[simp] theorem State.eachPc_stackTab (f : PcState → PcState) : (s.eachPc f).stackTab = s.stackTab := rfl
@[simp] theorem State.eachPc_pcs (f : PcState → PcState) : (s.eachPc f).pcs = Map.vals {} f s.pcs := rfl
@[simp] theorem State.eachPc_loft (f : PcState → PcState) : (s.eachPc f).loft = s.loft := rfl
@[simp] theorem State.eachPc_shot (f : PcState → PcState) : (s.eachPc f).shot = s.shot := rfl
@[simp] theorem State.eachPc_entry (f : PcState → PcState) : (s.eachPc f).entry = s.entry := rfl
@[simp] theorem State.eachPc_packet (f : PcState → PcState) : (s.eachPc f).packet = s.packet := rfl
@[simp] theorem State.eachPc_seqNo (f : PcState → PcState) : (s.eachPc f).seqNo = s.seqNo := rfl
@[simp] theorem State.eachPc_keys (f : PcState → PcState) : (s.eachPc f).keys = s.keys := rfl
@[simp] theorem State.eachPc_test (f : PcState → PcState) : (s.eachPc f).test = s.test := rfl
@[simp] theorem State.eachPc_tokens (f : PcState → PcState) : (s.eachPc f).tokens = s.tokens := rfl
@[simp] theorem State.eachPc_free (f : PcState → PcState) : (s.eachPc f).free = s.free := rfl
@[simp] theorem State.eachPc_outbox (f : PcState → PcState) : (s.eachPc f).outbox = s.outbox := rfl
@[simp] theorem State.eachPc_pending (f : PcState → PcState) : (s.eachPc f).pending = s.pending := rfl

/-! ### modStack -/

@[simp] theorem State.modStack_time (st : Nat) (f : StackState → StackState) : (s.modStack st f).time = s.time := rfl
@[simp] theorem State.modStack_block (st : Nat) (f : StackState → StackState) : (s.modStack st f).block = s.block := rfl
@[simp] theorem State.modStack_mgmt (st : Nat) (f : StackState → StackState) : (s.modStack st f).mgmt = s.mgmt := rfl
@[simp] theorem State.modStack_objs (st : Nat) (f : StackState → StackState) : (s.modStack st f).objs = s.objs := rfl
@[simp] theorem State.modStack_live (st : Nat) (f : StackState → StackState) : (s.modStack st f).live = s.live := rfl
@[simp] theorem State.modStack_live2 (st : Nat) (f : StackState → StackState) : (s.modStack st f).live2 = s.live2 := rfl
@[simp] theorem State.modStack_regions (st : Nat) (f : StackState → StackState) : (s.modStack st f).regions = s.regions := rfl
@[simp] theorem State.modStack_dram (st : Nat) (f : StackState → StackState) : (s.modStack st f).dram = s.dram := rfl
@[simp] theorem State.modStack_reqs (st : Nat) (f : StackState → StackState) : (s.modStack st f).reqs = s.reqs := rfl
@[simp] theorem State.modStack_nextReq (st : Nat) (f : StackState → StackState) : (s.modStack st f).nextReq = s.nextReq := rfl
@[simp] theorem State.modStack_ports (st : Nat) (f : StackState → StackState) : (s.modStack st f).ports = s.ports := rfl
@[simp] theorem State.modStack_stackTab (st : Nat) (f : StackState → StackState) : (s.modStack st f).stackTab = Map.upd {} st f s.stackTab := rfl
@[simp] theorem State.modStack_pcs (st : Nat) (f : StackState → StackState) : (s.modStack st f).pcs = s.pcs := rfl
@[simp] theorem State.modStack_loft (st : Nat) (f : StackState → StackState) : (s.modStack st f).loft = s.loft := rfl
@[simp] theorem State.modStack_shot (st : Nat) (f : StackState → StackState) : (s.modStack st f).shot = s.shot := rfl
@[simp] theorem State.modStack_entry (st : Nat) (f : StackState → StackState) : (s.modStack st f).entry = s.entry := rfl
@[simp] theorem State.modStack_packet (st : Nat) (f : StackState → StackState) : (s.modStack st f).packet = s.packet := rfl
@[simp] theorem State.modStack_seqNo (st : Nat) (f : StackState → StackState) : (s.modStack st f).seqNo = s.seqNo := rfl
@[simp] theorem State.modStack_keys (st : Nat) (f : StackState → StackState) : (s.modStack st f).keys = s.keys := rfl
@[simp] theorem State.modStack_test (st : Nat) (f : StackState → StackState) : (s.modStack st f).test = s.test := rfl
@[simp] theorem State.modStack_tokens (st : Nat) (f : StackState → StackState) : (s.modStack st f).tokens = s.tokens := rfl
@[simp] theorem State.modStack_free (st : Nat) (f : StackState → StackState) : (s.modStack st f).free = s.free := rfl
@[simp] theorem State.modStack_outbox (st : Nat) (f : StackState → StackState) : (s.modStack st f).outbox = s.outbox := rfl
@[simp] theorem State.modStack_pending (st : Nat) (f : StackState → StackState) : (s.modStack st f).pending = s.pending := rfl

/-! ### modPort -/

@[simp] theorem State.modPort_time (p : Nat) (f : PortState → PortState) : (s.modPort p f).time = s.time := rfl
@[simp] theorem State.modPort_block (p : Nat) (f : PortState → PortState) : (s.modPort p f).block = s.block := rfl
@[simp] theorem State.modPort_mgmt (p : Nat) (f : PortState → PortState) : (s.modPort p f).mgmt = s.mgmt := rfl
@[simp] theorem State.modPort_objs (p : Nat) (f : PortState → PortState) : (s.modPort p f).objs = s.objs := rfl
@[simp] theorem State.modPort_live (p : Nat) (f : PortState → PortState) : (s.modPort p f).live = s.live := rfl
@[simp] theorem State.modPort_live2 (p : Nat) (f : PortState → PortState) : (s.modPort p f).live2 = s.live2 := rfl
@[simp] theorem State.modPort_regions (p : Nat) (f : PortState → PortState) : (s.modPort p f).regions = s.regions := rfl
@[simp] theorem State.modPort_dram (p : Nat) (f : PortState → PortState) : (s.modPort p f).dram = s.dram := rfl
@[simp] theorem State.modPort_reqs (p : Nat) (f : PortState → PortState) : (s.modPort p f).reqs = s.reqs := rfl
@[simp] theorem State.modPort_nextReq (p : Nat) (f : PortState → PortState) : (s.modPort p f).nextReq = s.nextReq := rfl
@[simp] theorem State.modPort_ports (p : Nat) (f : PortState → PortState) : (s.modPort p f).ports = Map.upd {} p f s.ports := rfl
@[simp] theorem State.modPort_stackTab (p : Nat) (f : PortState → PortState) : (s.modPort p f).stackTab = s.stackTab := rfl
@[simp] theorem State.modPort_pcs (p : Nat) (f : PortState → PortState) : (s.modPort p f).pcs = s.pcs := rfl
@[simp] theorem State.modPort_loft (p : Nat) (f : PortState → PortState) : (s.modPort p f).loft = s.loft := rfl
@[simp] theorem State.modPort_shot (p : Nat) (f : PortState → PortState) : (s.modPort p f).shot = s.shot := rfl
@[simp] theorem State.modPort_entry (p : Nat) (f : PortState → PortState) : (s.modPort p f).entry = s.entry := rfl
@[simp] theorem State.modPort_packet (p : Nat) (f : PortState → PortState) : (s.modPort p f).packet = s.packet := rfl
@[simp] theorem State.modPort_seqNo (p : Nat) (f : PortState → PortState) : (s.modPort p f).seqNo = s.seqNo := rfl
@[simp] theorem State.modPort_keys (p : Nat) (f : PortState → PortState) : (s.modPort p f).keys = s.keys := rfl
@[simp] theorem State.modPort_test (p : Nat) (f : PortState → PortState) : (s.modPort p f).test = s.test := rfl
@[simp] theorem State.modPort_tokens (p : Nat) (f : PortState → PortState) : (s.modPort p f).tokens = s.tokens := rfl
@[simp] theorem State.modPort_free (p : Nat) (f : PortState → PortState) : (s.modPort p f).free = s.free := rfl
@[simp] theorem State.modPort_outbox (p : Nat) (f : PortState → PortState) : (s.modPort p f).outbox = s.outbox := rfl
@[simp] theorem State.modPort_pending (p : Nat) (f : PortState → PortState) : (s.modPort p f).pending = s.pending := rfl

/-! ### modTime -/

@[simp] theorem State.modTime_time (f : TimeState → TimeState) : (s.modTime f).time = f s.time := rfl
@[simp] theorem State.modTime_block (f : TimeState → TimeState) : (s.modTime f).block = s.block := rfl
@[simp] theorem State.modTime_mgmt (f : TimeState → TimeState) : (s.modTime f).mgmt = s.mgmt := rfl
@[simp] theorem State.modTime_objs (f : TimeState → TimeState) : (s.modTime f).objs = s.objs := rfl
@[simp] theorem State.modTime_live (f : TimeState → TimeState) : (s.modTime f).live = s.live := rfl
@[simp] theorem State.modTime_live2 (f : TimeState → TimeState) : (s.modTime f).live2 = s.live2 := rfl
@[simp] theorem State.modTime_regions (f : TimeState → TimeState) : (s.modTime f).regions = s.regions := rfl
@[simp] theorem State.modTime_dram (f : TimeState → TimeState) : (s.modTime f).dram = s.dram := rfl
@[simp] theorem State.modTime_reqs (f : TimeState → TimeState) : (s.modTime f).reqs = s.reqs := rfl
@[simp] theorem State.modTime_nextReq (f : TimeState → TimeState) : (s.modTime f).nextReq = s.nextReq := rfl
@[simp] theorem State.modTime_ports (f : TimeState → TimeState) : (s.modTime f).ports = s.ports := rfl
@[simp] theorem State.modTime_stackTab (f : TimeState → TimeState) : (s.modTime f).stackTab = s.stackTab := rfl
@[simp] theorem State.modTime_pcs (f : TimeState → TimeState) : (s.modTime f).pcs = s.pcs := rfl
@[simp] theorem State.modTime_loft (f : TimeState → TimeState) : (s.modTime f).loft = s.loft := rfl
@[simp] theorem State.modTime_shot (f : TimeState → TimeState) : (s.modTime f).shot = s.shot := rfl
@[simp] theorem State.modTime_entry (f : TimeState → TimeState) : (s.modTime f).entry = s.entry := rfl
@[simp] theorem State.modTime_packet (f : TimeState → TimeState) : (s.modTime f).packet = s.packet := rfl
@[simp] theorem State.modTime_seqNo (f : TimeState → TimeState) : (s.modTime f).seqNo = s.seqNo := rfl
@[simp] theorem State.modTime_keys (f : TimeState → TimeState) : (s.modTime f).keys = s.keys := rfl
@[simp] theorem State.modTime_test (f : TimeState → TimeState) : (s.modTime f).test = s.test := rfl
@[simp] theorem State.modTime_tokens (f : TimeState → TimeState) : (s.modTime f).tokens = s.tokens := rfl
@[simp] theorem State.modTime_free (f : TimeState → TimeState) : (s.modTime f).free = s.free := rfl
@[simp] theorem State.modTime_outbox (f : TimeState → TimeState) : (s.modTime f).outbox = s.outbox := rfl
@[simp] theorem State.modTime_pending (f : TimeState → TimeState) : (s.modTime f).pending = s.pending := rfl

/-! ### modBlock -/

@[simp] theorem State.modBlock_time (f : BlockState → BlockState) : (s.modBlock f).time = s.time := rfl
@[simp] theorem State.modBlock_block (f : BlockState → BlockState) : (s.modBlock f).block = f s.block := rfl
@[simp] theorem State.modBlock_mgmt (f : BlockState → BlockState) : (s.modBlock f).mgmt = s.mgmt := rfl
@[simp] theorem State.modBlock_objs (f : BlockState → BlockState) : (s.modBlock f).objs = s.objs := rfl
@[simp] theorem State.modBlock_live (f : BlockState → BlockState) : (s.modBlock f).live = s.live := rfl
@[simp] theorem State.modBlock_live2 (f : BlockState → BlockState) : (s.modBlock f).live2 = s.live2 := rfl
@[simp] theorem State.modBlock_regions (f : BlockState → BlockState) : (s.modBlock f).regions = s.regions := rfl
@[simp] theorem State.modBlock_dram (f : BlockState → BlockState) : (s.modBlock f).dram = s.dram := rfl
@[simp] theorem State.modBlock_reqs (f : BlockState → BlockState) : (s.modBlock f).reqs = s.reqs := rfl
@[simp] theorem State.modBlock_nextReq (f : BlockState → BlockState) : (s.modBlock f).nextReq = s.nextReq := rfl
@[simp] theorem State.modBlock_ports (f : BlockState → BlockState) : (s.modBlock f).ports = s.ports := rfl
@[simp] theorem State.modBlock_stackTab (f : BlockState → BlockState) : (s.modBlock f).stackTab = s.stackTab := rfl
@[simp] theorem State.modBlock_pcs (f : BlockState → BlockState) : (s.modBlock f).pcs = s.pcs := rfl
@[simp] theorem State.modBlock_loft (f : BlockState → BlockState) : (s.modBlock f).loft = s.loft := rfl
@[simp] theorem State.modBlock_shot (f : BlockState → BlockState) : (s.modBlock f).shot = s.shot := rfl
@[simp] theorem State.modBlock_entry (f : BlockState → BlockState) : (s.modBlock f).entry = s.entry := rfl
@[simp] theorem State.modBlock_packet (f : BlockState → BlockState) : (s.modBlock f).packet = s.packet := rfl
@[simp] theorem State.modBlock_seqNo (f : BlockState → BlockState) : (s.modBlock f).seqNo = s.seqNo := rfl
@[simp] theorem State.modBlock_keys (f : BlockState → BlockState) : (s.modBlock f).keys = s.keys := rfl
@[simp] theorem State.modBlock_test (f : BlockState → BlockState) : (s.modBlock f).test = s.test := rfl
@[simp] theorem State.modBlock_tokens (f : BlockState → BlockState) : (s.modBlock f).tokens = s.tokens := rfl
@[simp] theorem State.modBlock_free (f : BlockState → BlockState) : (s.modBlock f).free = s.free := rfl
@[simp] theorem State.modBlock_outbox (f : BlockState → BlockState) : (s.modBlock f).outbox = s.outbox := rfl
@[simp] theorem State.modBlock_pending (f : BlockState → BlockState) : (s.modBlock f).pending = s.pending := rfl

/-! ### modMgmt -/

@[simp] theorem State.modMgmt_time (f : MgmtState → MgmtState) : (s.modMgmt f).time = s.time := rfl
@[simp] theorem State.modMgmt_block (f : MgmtState → MgmtState) : (s.modMgmt f).block = s.block := rfl
@[simp] theorem State.modMgmt_mgmt (f : MgmtState → MgmtState) : (s.modMgmt f).mgmt = f s.mgmt := rfl
@[simp] theorem State.modMgmt_objs (f : MgmtState → MgmtState) : (s.modMgmt f).objs = s.objs := rfl
@[simp] theorem State.modMgmt_live (f : MgmtState → MgmtState) : (s.modMgmt f).live = s.live := rfl
@[simp] theorem State.modMgmt_live2 (f : MgmtState → MgmtState) : (s.modMgmt f).live2 = s.live2 := rfl
@[simp] theorem State.modMgmt_regions (f : MgmtState → MgmtState) : (s.modMgmt f).regions = s.regions := rfl
@[simp] theorem State.modMgmt_dram (f : MgmtState → MgmtState) : (s.modMgmt f).dram = s.dram := rfl
@[simp] theorem State.modMgmt_reqs (f : MgmtState → MgmtState) : (s.modMgmt f).reqs = s.reqs := rfl
@[simp] theorem State.modMgmt_nextReq (f : MgmtState → MgmtState) : (s.modMgmt f).nextReq = s.nextReq := rfl
@[simp] theorem State.modMgmt_ports (f : MgmtState → MgmtState) : (s.modMgmt f).ports = s.ports := rfl
@[simp] theorem State.modMgmt_stackTab (f : MgmtState → MgmtState) : (s.modMgmt f).stackTab = s.stackTab := rfl
@[simp] theorem State.modMgmt_pcs (f : MgmtState → MgmtState) : (s.modMgmt f).pcs = s.pcs := rfl
@[simp] theorem State.modMgmt_loft (f : MgmtState → MgmtState) : (s.modMgmt f).loft = s.loft := rfl
@[simp] theorem State.modMgmt_shot (f : MgmtState → MgmtState) : (s.modMgmt f).shot = s.shot := rfl
@[simp] theorem State.modMgmt_entry (f : MgmtState → MgmtState) : (s.modMgmt f).entry = s.entry := rfl
@[simp] theorem State.modMgmt_packet (f : MgmtState → MgmtState) : (s.modMgmt f).packet = s.packet := rfl
@[simp] theorem State.modMgmt_seqNo (f : MgmtState → MgmtState) : (s.modMgmt f).seqNo = s.seqNo := rfl
@[simp] theorem State.modMgmt_keys (f : MgmtState → MgmtState) : (s.modMgmt f).keys = s.keys := rfl
@[simp] theorem State.modMgmt_test (f : MgmtState → MgmtState) : (s.modMgmt f).test = s.test := rfl
@[simp] theorem State.modMgmt_tokens (f : MgmtState → MgmtState) : (s.modMgmt f).tokens = s.tokens := rfl
@[simp] theorem State.modMgmt_free (f : MgmtState → MgmtState) : (s.modMgmt f).free = s.free := rfl
@[simp] theorem State.modMgmt_outbox (f : MgmtState → MgmtState) : (s.modMgmt f).outbox = s.outbox := rfl
@[simp] theorem State.modMgmt_pending (f : MgmtState → MgmtState) : (s.modMgmt f).pending = s.pending := rfl

/-! ### modLoft -/

@[simp] theorem State.modLoft_time (f : LoftState → LoftState) : (s.modLoft f).time = s.time := rfl
@[simp] theorem State.modLoft_block (f : LoftState → LoftState) : (s.modLoft f).block = s.block := rfl
@[simp] theorem State.modLoft_mgmt (f : LoftState → LoftState) : (s.modLoft f).mgmt = s.mgmt := rfl
@[simp] theorem State.modLoft_objs (f : LoftState → LoftState) : (s.modLoft f).objs = s.objs := rfl
@[simp] theorem State.modLoft_live (f : LoftState → LoftState) : (s.modLoft f).live = s.live := rfl
@[simp] theorem State.modLoft_live2 (f : LoftState → LoftState) : (s.modLoft f).live2 = s.live2 := rfl
@[simp] theorem State.modLoft_regions (f : LoftState → LoftState) : (s.modLoft f).regions = s.regions := rfl
@[simp] theorem State.modLoft_dram (f : LoftState → LoftState) : (s.modLoft f).dram = s.dram := rfl
@[simp] theorem State.modLoft_reqs (f : LoftState → LoftState) : (s.modLoft f).reqs = s.reqs := rfl
@[simp] theorem State.modLoft_nextReq (f : LoftState → LoftState) : (s.modLoft f).nextReq = s.nextReq := rfl
@[simp] theorem State.modLoft_ports (f : LoftState → LoftState) : (s.modLoft f).ports = s.ports := rfl
@[simp] theorem State.modLoft_stackTab (f : LoftState → LoftState) : (s.modLoft f).stackTab = s.stackTab := rfl
@[simp] theorem State.modLoft_pcs (f : LoftState → LoftState) : (s.modLoft f).pcs = s.pcs := rfl
@[simp] theorem State.modLoft_loft (f : LoftState → LoftState) : (s.modLoft f).loft = f s.loft := rfl
@[simp] theorem State.modLoft_shot (f : LoftState → LoftState) : (s.modLoft f).shot = s.shot := rfl
@[simp] theorem State.modLoft_entry (f : LoftState → LoftState) : (s.modLoft f).entry = s.entry := rfl
@[simp] theorem State.modLoft_packet (f : LoftState → LoftState) : (s.modLoft f).packet = s.packet := rfl
@[simp] theorem State.modLoft_seqNo (f : LoftState → LoftState) : (s.modLoft f).seqNo = s.seqNo := rfl
@[simp] theorem State.modLoft_keys (f : LoftState → LoftState) : (s.modLoft f).keys = s.keys := rfl
@[simp] theorem State.modLoft_test (f : LoftState → LoftState) : (s.modLoft f).test = s.test := rfl
@[simp] theorem State.modLoft_tokens (f : LoftState → LoftState) : (s.modLoft f).tokens = s.tokens := rfl
@[simp] theorem State.modLoft_free (f : LoftState → LoftState) : (s.modLoft f).free = s.free := rfl
@[simp] theorem State.modLoft_outbox (f : LoftState → LoftState) : (s.modLoft f).outbox = s.outbox := rfl
@[simp] theorem State.modLoft_pending (f : LoftState → LoftState) : (s.modLoft f).pending = s.pending := rfl

/-! ### modShotS -/

@[simp] theorem State.modShotS_time (f : ShotState → ShotState) : (s.modShotS f).time = s.time := rfl
@[simp] theorem State.modShotS_block (f : ShotState → ShotState) : (s.modShotS f).block = s.block := rfl
@[simp] theorem State.modShotS_mgmt (f : ShotState → ShotState) : (s.modShotS f).mgmt = s.mgmt := rfl
@[simp] theorem State.modShotS_objs (f : ShotState → ShotState) : (s.modShotS f).objs = s.objs := rfl
@[simp] theorem State.modShotS_live (f : ShotState → ShotState) : (s.modShotS f).live = s.live := rfl
@[simp] theorem State.modShotS_live2 (f : ShotState → ShotState) : (s.modShotS f).live2 = s.live2 := rfl
@[simp] theorem State.modShotS_regions (f : ShotState → ShotState) : (s.modShotS f).regions = s.regions := rfl
@[simp] theorem State.modShotS_dram (f : ShotState → ShotState) : (s.modShotS f).dram = s.dram := rfl
@[simp] theorem State.modShotS_reqs (f : ShotState → ShotState) : (s.modShotS f).reqs = s.reqs := rfl
@[simp] theorem State.modShotS_nextReq (f : ShotState → ShotState) : (s.modShotS f).nextReq = s.nextReq := rfl
@[simp] theorem State.modShotS_ports (f : ShotState → ShotState) : (s.modShotS f).ports = s.ports := rfl
@[simp] theorem State.modShotS_stackTab (f : ShotState → ShotState) : (s.modShotS f).stackTab = s.stackTab := rfl
@[simp] theorem State.modShotS_pcs (f : ShotState → ShotState) : (s.modShotS f).pcs = s.pcs := rfl
@[simp] theorem State.modShotS_loft (f : ShotState → ShotState) : (s.modShotS f).loft = s.loft := rfl
@[simp] theorem State.modShotS_shot (f : ShotState → ShotState) : (s.modShotS f).shot = f s.shot := rfl
@[simp] theorem State.modShotS_entry (f : ShotState → ShotState) : (s.modShotS f).entry = s.entry := rfl
@[simp] theorem State.modShotS_packet (f : ShotState → ShotState) : (s.modShotS f).packet = s.packet := rfl
@[simp] theorem State.modShotS_seqNo (f : ShotState → ShotState) : (s.modShotS f).seqNo = s.seqNo := rfl
@[simp] theorem State.modShotS_keys (f : ShotState → ShotState) : (s.modShotS f).keys = s.keys := rfl
@[simp] theorem State.modShotS_test (f : ShotState → ShotState) : (s.modShotS f).test = s.test := rfl
@[simp] theorem State.modShotS_tokens (f : ShotState → ShotState) : (s.modShotS f).tokens = s.tokens := rfl
@[simp] theorem State.modShotS_free (f : ShotState → ShotState) : (s.modShotS f).free = s.free := rfl
@[simp] theorem State.modShotS_outbox (f : ShotState → ShotState) : (s.modShotS f).outbox = s.outbox := rfl
@[simp] theorem State.modShotS_pending (f : ShotState → ShotState) : (s.modShotS f).pending = s.pending := rfl

/-! ### modEntry -/

@[simp] theorem State.modEntry_time (f : EntryState → EntryState) : (s.modEntry f).time = s.time := rfl
@[simp] theorem State.modEntry_block (f : EntryState → EntryState) : (s.modEntry f).block = s.block := rfl
@[simp] theorem State.modEntry_mgmt (f : EntryState → EntryState) : (s.modEntry f).mgmt = s.mgmt := rfl
@[simp] theorem State.modEntry_objs (f : EntryState → EntryState) : (s.modEntry f).objs = s.objs := rfl
@[simp] theorem State.modEntry_live (f : EntryState → EntryState) : (s.modEntry f).live = s.live := rfl
@[simp] theorem State.modEntry_live2 (f : EntryState → EntryState) : (s.modEntry f).live2 = s.live2 := rfl
@[simp] theorem State.modEntry_regions (f : EntryState → EntryState) : (s.modEntry f).regions = s.regions := rfl
@[simp] theorem State.modEntry_dram (f : EntryState → EntryState) : (s.modEntry f).dram = s.dram := rfl
@[simp] theorem State.modEntry_reqs (f : EntryState → EntryState) : (s.modEntry f).reqs = s.reqs := rfl
@[simp] theorem State.modEntry_nextReq (f : EntryState → EntryState) : (s.modEntry f).nextReq = s.nextReq := rfl
@[simp] theorem State.modEntry_ports (f : EntryState → EntryState) : (s.modEntry f).ports = s.ports := rfl
@[simp] theorem State.modEntry_stackTab (f : EntryState → EntryState) : (s.modEntry f).stackTab = s.stackTab := rfl
@[simp] theorem State.modEntry_pcs (f : EntryState → EntryState) : (s.modEntry f).pcs = s.pcs := rfl
@[simp] theorem State.modEntry_loft (f : EntryState → EntryState) : (s.modEntry f).loft = s.loft := rfl
@[simp] theorem State.modEntry_shot (f : EntryState → EntryState) : (s.modEntry f).shot = s.shot := rfl
@[simp] theorem State.modEntry_entry (f : EntryState → EntryState) : (s.modEntry f).entry = f s.entry := rfl
@[simp] theorem State.modEntry_packet (f : EntryState → EntryState) : (s.modEntry f).packet = s.packet := rfl
@[simp] theorem State.modEntry_seqNo (f : EntryState → EntryState) : (s.modEntry f).seqNo = s.seqNo := rfl
@[simp] theorem State.modEntry_keys (f : EntryState → EntryState) : (s.modEntry f).keys = s.keys := rfl
@[simp] theorem State.modEntry_test (f : EntryState → EntryState) : (s.modEntry f).test = s.test := rfl
@[simp] theorem State.modEntry_tokens (f : EntryState → EntryState) : (s.modEntry f).tokens = s.tokens := rfl
@[simp] theorem State.modEntry_free (f : EntryState → EntryState) : (s.modEntry f).free = s.free := rfl
@[simp] theorem State.modEntry_outbox (f : EntryState → EntryState) : (s.modEntry f).outbox = s.outbox := rfl
@[simp] theorem State.modEntry_pending (f : EntryState → EntryState) : (s.modEntry f).pending = s.pending := rfl

/-! ### modPacket -/

@[simp] theorem State.modPacket_time (f : PacketState → PacketState) : (s.modPacket f).time = s.time := rfl
@[simp] theorem State.modPacket_block (f : PacketState → PacketState) : (s.modPacket f).block = s.block := rfl
@[simp] theorem State.modPacket_mgmt (f : PacketState → PacketState) : (s.modPacket f).mgmt = s.mgmt := rfl
@[simp] theorem State.modPacket_objs (f : PacketState → PacketState) : (s.modPacket f).objs = s.objs := rfl
@[simp] theorem State.modPacket_live (f : PacketState → PacketState) : (s.modPacket f).live = s.live := rfl
@[simp] theorem State.modPacket_live2 (f : PacketState → PacketState) : (s.modPacket f).live2 = s.live2 := rfl
@[simp] theorem State.modPacket_regions (f : PacketState → PacketState) : (s.modPacket f).regions = s.regions := rfl
@[simp] theorem State.modPacket_dram (f : PacketState → PacketState) : (s.modPacket f).dram = s.dram := rfl
@[simp] theorem State.modPacket_reqs (f : PacketState → PacketState) : (s.modPacket f).reqs = s.reqs := rfl
@[simp] theorem State.modPacket_nextReq (f : PacketState → PacketState) : (s.modPacket f).nextReq = s.nextReq := rfl
@[simp] theorem State.modPacket_ports (f : PacketState → PacketState) : (s.modPacket f).ports = s.ports := rfl
@[simp] theorem State.modPacket_stackTab (f : PacketState → PacketState) : (s.modPacket f).stackTab = s.stackTab := rfl
@[simp] theorem State.modPacket_pcs (f : PacketState → PacketState) : (s.modPacket f).pcs = s.pcs := rfl
@[simp] theorem State.modPacket_loft (f : PacketState → PacketState) : (s.modPacket f).loft = s.loft := rfl
@[simp] theorem State.modPacket_shot (f : PacketState → PacketState) : (s.modPacket f).shot = s.shot := rfl
@[simp] theorem State.modPacket_entry (f : PacketState → PacketState) : (s.modPacket f).entry = s.entry := rfl
@[simp] theorem State.modPacket_packet (f : PacketState → PacketState) : (s.modPacket f).packet = f s.packet := rfl
@[simp] theorem State.modPacket_seqNo (f : PacketState → PacketState) : (s.modPacket f).seqNo = s.seqNo := rfl
@[simp] theorem State.modPacket_keys (f : PacketState → PacketState) : (s.modPacket f).keys = s.keys := rfl
@[simp] theorem State.modPacket_test (f : PacketState → PacketState) : (s.modPacket f).test = s.test := rfl
@[simp] theorem State.modPacket_tokens (f : PacketState → PacketState) : (s.modPacket f).tokens = s.tokens := rfl
@[simp] theorem State.modPacket_free (f : PacketState → PacketState) : (s.modPacket f).free = s.free := rfl
@[simp] theorem State.modPacket_outbox (f : PacketState → PacketState) : (s.modPacket f).outbox = s.outbox := rfl
@[simp] theorem State.modPacket_pending (f : PacketState → PacketState) : (s.modPacket f).pending = s.pending := rfl

/-! ### modKeys -/

@[simp] theorem State.modKeys_time (f : KeyState → KeyState) : (s.modKeys f).time = s.time := rfl
@[simp] theorem State.modKeys_block (f : KeyState → KeyState) : (s.modKeys f).block = s.block := rfl
@[simp] theorem State.modKeys_mgmt (f : KeyState → KeyState) : (s.modKeys f).mgmt = s.mgmt := rfl
@[simp] theorem State.modKeys_objs (f : KeyState → KeyState) : (s.modKeys f).objs = s.objs := rfl
@[simp] theorem State.modKeys_live (f : KeyState → KeyState) : (s.modKeys f).live = s.live := rfl
@[simp] theorem State.modKeys_live2 (f : KeyState → KeyState) : (s.modKeys f).live2 = s.live2 := rfl
@[simp] theorem State.modKeys_regions (f : KeyState → KeyState) : (s.modKeys f).regions = s.regions := rfl
@[simp] theorem State.modKeys_dram (f : KeyState → KeyState) : (s.modKeys f).dram = s.dram := rfl
@[simp] theorem State.modKeys_reqs (f : KeyState → KeyState) : (s.modKeys f).reqs = s.reqs := rfl
@[simp] theorem State.modKeys_nextReq (f : KeyState → KeyState) : (s.modKeys f).nextReq = s.nextReq := rfl
@[simp] theorem State.modKeys_ports (f : KeyState → KeyState) : (s.modKeys f).ports = s.ports := rfl
@[simp] theorem State.modKeys_stackTab (f : KeyState → KeyState) : (s.modKeys f).stackTab = s.stackTab := rfl
@[simp] theorem State.modKeys_pcs (f : KeyState → KeyState) : (s.modKeys f).pcs = s.pcs := rfl
@[simp] theorem State.modKeys_loft (f : KeyState → KeyState) : (s.modKeys f).loft = s.loft := rfl
@[simp] theorem State.modKeys_shot (f : KeyState → KeyState) : (s.modKeys f).shot = s.shot := rfl
@[simp] theorem State.modKeys_entry (f : KeyState → KeyState) : (s.modKeys f).entry = s.entry := rfl
@[simp] theorem State.modKeys_packet (f : KeyState → KeyState) : (s.modKeys f).packet = s.packet := rfl
@[simp] theorem State.modKeys_seqNo (f : KeyState → KeyState) : (s.modKeys f).seqNo = s.seqNo := rfl
@[simp] theorem State.modKeys_keys (f : KeyState → KeyState) : (s.modKeys f).keys = f s.keys := rfl
@[simp] theorem State.modKeys_test (f : KeyState → KeyState) : (s.modKeys f).test = s.test := rfl
@[simp] theorem State.modKeys_tokens (f : KeyState → KeyState) : (s.modKeys f).tokens = s.tokens := rfl
@[simp] theorem State.modKeys_free (f : KeyState → KeyState) : (s.modKeys f).free = s.free := rfl
@[simp] theorem State.modKeys_outbox (f : KeyState → KeyState) : (s.modKeys f).outbox = s.outbox := rfl
@[simp] theorem State.modKeys_pending (f : KeyState → KeyState) : (s.modKeys f).pending = s.pending := rfl

/-! ### modTest -/

@[simp] theorem State.modTest_time (f : TestState → TestState) : (s.modTest f).time = s.time := rfl
@[simp] theorem State.modTest_block (f : TestState → TestState) : (s.modTest f).block = s.block := rfl
@[simp] theorem State.modTest_mgmt (f : TestState → TestState) : (s.modTest f).mgmt = s.mgmt := rfl
@[simp] theorem State.modTest_objs (f : TestState → TestState) : (s.modTest f).objs = s.objs := rfl
@[simp] theorem State.modTest_live (f : TestState → TestState) : (s.modTest f).live = s.live := rfl
@[simp] theorem State.modTest_live2 (f : TestState → TestState) : (s.modTest f).live2 = s.live2 := rfl
@[simp] theorem State.modTest_regions (f : TestState → TestState) : (s.modTest f).regions = s.regions := rfl
@[simp] theorem State.modTest_dram (f : TestState → TestState) : (s.modTest f).dram = s.dram := rfl
@[simp] theorem State.modTest_reqs (f : TestState → TestState) : (s.modTest f).reqs = s.reqs := rfl
@[simp] theorem State.modTest_nextReq (f : TestState → TestState) : (s.modTest f).nextReq = s.nextReq := rfl
@[simp] theorem State.modTest_ports (f : TestState → TestState) : (s.modTest f).ports = s.ports := rfl
@[simp] theorem State.modTest_stackTab (f : TestState → TestState) : (s.modTest f).stackTab = s.stackTab := rfl
@[simp] theorem State.modTest_pcs (f : TestState → TestState) : (s.modTest f).pcs = s.pcs := rfl
@[simp] theorem State.modTest_loft (f : TestState → TestState) : (s.modTest f).loft = s.loft := rfl
@[simp] theorem State.modTest_shot (f : TestState → TestState) : (s.modTest f).shot = s.shot := rfl
@[simp] theorem State.modTest_entry (f : TestState → TestState) : (s.modTest f).entry = s.entry := rfl
@[simp] theorem State.modTest_packet (f : TestState → TestState) : (s.modTest f).packet = s.packet := rfl
@[simp] theorem State.modTest_seqNo (f : TestState → TestState) : (s.modTest f).seqNo = s.seqNo := rfl
@[simp] theorem State.modTest_keys (f : TestState → TestState) : (s.modTest f).keys = s.keys := rfl
@[simp] theorem State.modTest_test (f : TestState → TestState) : (s.modTest f).test = f s.test := rfl
@[simp] theorem State.modTest_tokens (f : TestState → TestState) : (s.modTest f).tokens = s.tokens := rfl
@[simp] theorem State.modTest_free (f : TestState → TestState) : (s.modTest f).free = s.free := rfl
@[simp] theorem State.modTest_outbox (f : TestState → TestState) : (s.modTest f).outbox = s.outbox := rfl
@[simp] theorem State.modTest_pending (f : TestState → TestState) : (s.modTest f).pending = s.pending := rfl

/-! ### modRegions -/

@[simp] theorem State.modRegions_time (f : RegionState → RegionState) : (s.modRegions f).time = s.time := rfl
@[simp] theorem State.modRegions_block (f : RegionState → RegionState) : (s.modRegions f).block = s.block := rfl
@[simp] theorem State.modRegions_mgmt (f : RegionState → RegionState) : (s.modRegions f).mgmt = s.mgmt := rfl
@[simp] theorem State.modRegions_objs (f : RegionState → RegionState) : (s.modRegions f).objs = s.objs := rfl
@[simp] theorem State.modRegions_live (f : RegionState → RegionState) : (s.modRegions f).live = s.live := rfl
@[simp] theorem State.modRegions_live2 (f : RegionState → RegionState) : (s.modRegions f).live2 = s.live2 := rfl
@[simp] theorem State.modRegions_regions (f : RegionState → RegionState) : (s.modRegions f).regions = f s.regions := rfl
@[simp] theorem State.modRegions_dram (f : RegionState → RegionState) : (s.modRegions f).dram = s.dram := rfl
@[simp] theorem State.modRegions_reqs (f : RegionState → RegionState) : (s.modRegions f).reqs = s.reqs := rfl
@[simp] theorem State.modRegions_nextReq (f : RegionState → RegionState) : (s.modRegions f).nextReq = s.nextReq := rfl
@[simp] theorem State.modRegions_ports (f : RegionState → RegionState) : (s.modRegions f).ports = s.ports := rfl
@[simp] theorem State.modRegions_stackTab (f : RegionState → RegionState) : (s.modRegions f).stackTab = s.stackTab := rfl
@[simp] theorem State.modRegions_pcs (f : RegionState → RegionState) : (s.modRegions f).pcs = s.pcs := rfl
@[simp] theorem State.modRegions_loft (f : RegionState → RegionState) : (s.modRegions f).loft = s.loft := rfl
@[simp] theorem State.modRegions_shot (f : RegionState → RegionState) : (s.modRegions f).shot = s.shot := rfl
@[simp] theorem State.modRegions_entry (f : RegionState → RegionState) : (s.modRegions f).entry = s.entry := rfl
@[simp] theorem State.modRegions_packet (f : RegionState → RegionState) : (s.modRegions f).packet = s.packet := rfl
@[simp] theorem State.modRegions_seqNo (f : RegionState → RegionState) : (s.modRegions f).seqNo = s.seqNo := rfl
@[simp] theorem State.modRegions_keys (f : RegionState → RegionState) : (s.modRegions f).keys = s.keys := rfl
@[simp] theorem State.modRegions_test (f : RegionState → RegionState) : (s.modRegions f).test = s.test := rfl
@[simp] theorem State.modRegions_tokens (f : RegionState → RegionState) : (s.modRegions f).tokens = s.tokens := rfl
@[simp] theorem State.modRegions_free (f : RegionState → RegionState) : (s.modRegions f).free = s.free := rfl
@[simp] theorem State.modRegions_outbox (f : RegionState → RegionState) : (s.modRegions f).outbox = s.outbox := rfl
@[simp] theorem State.modRegions_pending (f : RegionState → RegionState) : (s.modRegions f).pending = s.pending := rfl

/-! ### modSlot -/

@[simp] theorem State.modSlot_time (r : Nat) (f : RegionSlot → RegionSlot) : (s.modSlot r f).time = s.time := rfl
@[simp] theorem State.modSlot_block (r : Nat) (f : RegionSlot → RegionSlot) : (s.modSlot r f).block = s.block := rfl
@[simp] theorem State.modSlot_mgmt (r : Nat) (f : RegionSlot → RegionSlot) : (s.modSlot r f).mgmt = s.mgmt := rfl
@[simp] theorem State.modSlot_objs (r : Nat) (f : RegionSlot → RegionSlot) : (s.modSlot r f).objs = s.objs := rfl
@[simp] theorem State.modSlot_live (r : Nat) (f : RegionSlot → RegionSlot) : (s.modSlot r f).live = s.live := rfl
@[simp] theorem State.modSlot_live2 (r : Nat) (f : RegionSlot → RegionSlot) : (s.modSlot r f).live2 = s.live2 := rfl
@[simp] theorem State.modSlot_regions (r : Nat) (f : RegionSlot → RegionSlot) : (s.modSlot r f).regions = { s.regions with slots := Map.upd {} r f s.regions.slots } := rfl
@[simp] theorem State.modSlot_dram (r : Nat) (f : RegionSlot → RegionSlot) : (s.modSlot r f).dram = s.dram := rfl
@[simp] theorem State.modSlot_reqs (r : Nat) (f : RegionSlot → RegionSlot) : (s.modSlot r f).reqs = s.reqs := rfl
@[simp] theorem State.modSlot_nextReq (r : Nat) (f : RegionSlot → RegionSlot) : (s.modSlot r f).nextReq = s.nextReq := rfl
@[simp] theorem State.modSlot_ports (r : Nat) (f : RegionSlot → RegionSlot) : (s.modSlot r f).ports = s.ports := rfl
@[simp] theorem State.modSlot_stackTab (r : Nat) (f : RegionSlot → RegionSlot) : (s.modSlot r f).stackTab = s.stackTab := rfl
@[simp] theorem State.modSlot_pcs (r : Nat) (f : RegionSlot → RegionSlot) : (s.modSlot r f).pcs = s.pcs := rfl
@[simp] theorem State.modSlot_loft (r : Nat) (f : RegionSlot → RegionSlot) : (s.modSlot r f).loft = s.loft := rfl
@[simp] theorem State.modSlot_shot (r : Nat) (f : RegionSlot → RegionSlot) : (s.modSlot r f).shot = s.shot := rfl
@[simp] theorem State.modSlot_entry (r : Nat) (f : RegionSlot → RegionSlot) : (s.modSlot r f).entry = s.entry := rfl
@[simp] theorem State.modSlot_packet (r : Nat) (f : RegionSlot → RegionSlot) : (s.modSlot r f).packet = s.packet := rfl
@[simp] theorem State.modSlot_seqNo (r : Nat) (f : RegionSlot → RegionSlot) : (s.modSlot r f).seqNo = s.seqNo := rfl
@[simp] theorem State.modSlot_keys (r : Nat) (f : RegionSlot → RegionSlot) : (s.modSlot r f).keys = s.keys := rfl
@[simp] theorem State.modSlot_test (r : Nat) (f : RegionSlot → RegionSlot) : (s.modSlot r f).test = s.test := rfl
@[simp] theorem State.modSlot_tokens (r : Nat) (f : RegionSlot → RegionSlot) : (s.modSlot r f).tokens = s.tokens := rfl
@[simp] theorem State.modSlot_free (r : Nat) (f : RegionSlot → RegionSlot) : (s.modSlot r f).free = s.free := rfl
@[simp] theorem State.modSlot_outbox (r : Nat) (f : RegionSlot → RegionSlot) : (s.modSlot r f).outbox = s.outbox := rfl
@[simp] theorem State.modSlot_pending (r : Nat) (f : RegionSlot → RegionSlot) : (s.modSlot r f).pending = s.pending := rfl

/-! ### modSession -/

@[simp] theorem State.modSession_time (n : Nat) (f : Session → Session) : (s.modSession n f).time = s.time := rfl
@[simp] theorem State.modSession_block (n : Nat) (f : Session → Session) : (s.modSession n f).block = s.block := rfl
@[simp] theorem State.modSession_mgmt (n : Nat) (f : Session → Session) : (s.modSession n f).mgmt = { s.mgmt with sessions := Map.upd {} n f s.mgmt.sessions } := rfl
@[simp] theorem State.modSession_objs (n : Nat) (f : Session → Session) : (s.modSession n f).objs = s.objs := rfl
@[simp] theorem State.modSession_live (n : Nat) (f : Session → Session) : (s.modSession n f).live = s.live := rfl
@[simp] theorem State.modSession_live2 (n : Nat) (f : Session → Session) : (s.modSession n f).live2 = s.live2 := rfl
@[simp] theorem State.modSession_regions (n : Nat) (f : Session → Session) : (s.modSession n f).regions = s.regions := rfl
@[simp] theorem State.modSession_dram (n : Nat) (f : Session → Session) : (s.modSession n f).dram = s.dram := rfl
@[simp] theorem State.modSession_reqs (n : Nat) (f : Session → Session) : (s.modSession n f).reqs = s.reqs := rfl
@[simp] theorem State.modSession_nextReq (n : Nat) (f : Session → Session) : (s.modSession n f).nextReq = s.nextReq := rfl
@[simp] theorem State.modSession_ports (n : Nat) (f : Session → Session) : (s.modSession n f).ports = s.ports := rfl
@[simp] theorem State.modSession_stackTab (n : Nat) (f : Session → Session) : (s.modSession n f).stackTab = s.stackTab := rfl
@[simp] theorem State.modSession_pcs (n : Nat) (f : Session → Session) : (s.modSession n f).pcs = s.pcs := rfl
@[simp] theorem State.modSession_loft (n : Nat) (f : Session → Session) : (s.modSession n f).loft = s.loft := rfl
@[simp] theorem State.modSession_shot (n : Nat) (f : Session → Session) : (s.modSession n f).shot = s.shot := rfl
@[simp] theorem State.modSession_entry (n : Nat) (f : Session → Session) : (s.modSession n f).entry = s.entry := rfl
@[simp] theorem State.modSession_packet (n : Nat) (f : Session → Session) : (s.modSession n f).packet = s.packet := rfl
@[simp] theorem State.modSession_seqNo (n : Nat) (f : Session → Session) : (s.modSession n f).seqNo = s.seqNo := rfl
@[simp] theorem State.modSession_keys (n : Nat) (f : Session → Session) : (s.modSession n f).keys = s.keys := rfl
@[simp] theorem State.modSession_test (n : Nat) (f : Session → Session) : (s.modSession n f).test = s.test := rfl
@[simp] theorem State.modSession_tokens (n : Nat) (f : Session → Session) : (s.modSession n f).tokens = s.tokens := rfl
@[simp] theorem State.modSession_free (n : Nat) (f : Session → Session) : (s.modSession n f).free = s.free := rfl
@[simp] theorem State.modSession_outbox (n : Nat) (f : Session → Session) : (s.modSession n f).outbox = s.outbox := rfl
@[simp] theorem State.modSession_pending (n : Nat) (f : Session → Session) : (s.modSession n f).pending = s.pending := rfl

/-! ### modCtx -/

@[simp] theorem State.modCtx_time (n : Nat) (f : Ctx → Ctx) : (s.modCtx n f).time = s.time := rfl
@[simp] theorem State.modCtx_block (n : Nat) (f : Ctx → Ctx) : (s.modCtx n f).block = s.block := rfl
@[simp] theorem State.modCtx_mgmt (n : Nat) (f : Ctx → Ctx) : (s.modCtx n f).mgmt = s.mgmt := rfl
@[simp] theorem State.modCtx_objs (n : Nat) (f : Ctx → Ctx) : (s.modCtx n f).objs = s.objs := rfl
@[simp] theorem State.modCtx_live (n : Nat) (f : Ctx → Ctx) : (s.modCtx n f).live = s.live := rfl
@[simp] theorem State.modCtx_live2 (n : Nat) (f : Ctx → Ctx) : (s.modCtx n f).live2 = s.live2 := rfl
@[simp] theorem State.modCtx_regions (n : Nat) (f : Ctx → Ctx) : (s.modCtx n f).regions = s.regions := rfl
@[simp] theorem State.modCtx_dram (n : Nat) (f : Ctx → Ctx) : (s.modCtx n f).dram = s.dram := rfl
@[simp] theorem State.modCtx_reqs (n : Nat) (f : Ctx → Ctx) : (s.modCtx n f).reqs = s.reqs := rfl
@[simp] theorem State.modCtx_nextReq (n : Nat) (f : Ctx → Ctx) : (s.modCtx n f).nextReq = s.nextReq := rfl
@[simp] theorem State.modCtx_ports (n : Nat) (f : Ctx → Ctx) : (s.modCtx n f).ports = s.ports := rfl
@[simp] theorem State.modCtx_stackTab (n : Nat) (f : Ctx → Ctx) : (s.modCtx n f).stackTab = s.stackTab := rfl
@[simp] theorem State.modCtx_pcs (n : Nat) (f : Ctx → Ctx) : (s.modCtx n f).pcs = s.pcs := rfl
@[simp] theorem State.modCtx_loft (n : Nat) (f : Ctx → Ctx) : (s.modCtx n f).loft = s.loft := rfl
@[simp] theorem State.modCtx_shot (n : Nat) (f : Ctx → Ctx) : (s.modCtx n f).shot = { s.shot with ctxs := Map.upd {} n f s.shot.ctxs } := rfl
@[simp] theorem State.modCtx_entry (n : Nat) (f : Ctx → Ctx) : (s.modCtx n f).entry = s.entry := rfl
@[simp] theorem State.modCtx_packet (n : Nat) (f : Ctx → Ctx) : (s.modCtx n f).packet = s.packet := rfl
@[simp] theorem State.modCtx_seqNo (n : Nat) (f : Ctx → Ctx) : (s.modCtx n f).seqNo = s.seqNo := rfl
@[simp] theorem State.modCtx_keys (n : Nat) (f : Ctx → Ctx) : (s.modCtx n f).keys = s.keys := rfl
@[simp] theorem State.modCtx_test (n : Nat) (f : Ctx → Ctx) : (s.modCtx n f).test = s.test := rfl
@[simp] theorem State.modCtx_tokens (n : Nat) (f : Ctx → Ctx) : (s.modCtx n f).tokens = s.tokens := rfl
@[simp] theorem State.modCtx_free (n : Nat) (f : Ctx → Ctx) : (s.modCtx n f).free = s.free := rfl
@[simp] theorem State.modCtx_outbox (n : Nat) (f : Ctx → Ctx) : (s.modCtx n f).outbox = s.outbox := rfl
@[simp] theorem State.modCtx_pending (n : Nat) (f : Ctx → Ctx) : (s.modCtx n f).pending = s.pending := rfl

/-! ### modTslot -/

@[simp] theorem State.modTslot_time (t : Nat) (f : TableSlot → TableSlot) : (s.modTslot t f).time = s.time := rfl
@[simp] theorem State.modTslot_block (t : Nat) (f : TableSlot → TableSlot) : (s.modTslot t f).block = s.block := rfl
@[simp] theorem State.modTslot_mgmt (t : Nat) (f : TableSlot → TableSlot) : (s.modTslot t f).mgmt = s.mgmt := rfl
@[simp] theorem State.modTslot_objs (t : Nat) (f : TableSlot → TableSlot) : (s.modTslot t f).objs = s.objs := rfl
@[simp] theorem State.modTslot_live (t : Nat) (f : TableSlot → TableSlot) : (s.modTslot t f).live = s.live := rfl
@[simp] theorem State.modTslot_live2 (t : Nat) (f : TableSlot → TableSlot) : (s.modTslot t f).live2 = s.live2 := rfl
@[simp] theorem State.modTslot_regions (t : Nat) (f : TableSlot → TableSlot) : (s.modTslot t f).regions = s.regions := rfl
@[simp] theorem State.modTslot_dram (t : Nat) (f : TableSlot → TableSlot) : (s.modTslot t f).dram = s.dram := rfl
@[simp] theorem State.modTslot_reqs (t : Nat) (f : TableSlot → TableSlot) : (s.modTslot t f).reqs = s.reqs := rfl
@[simp] theorem State.modTslot_nextReq (t : Nat) (f : TableSlot → TableSlot) : (s.modTslot t f).nextReq = s.nextReq := rfl
@[simp] theorem State.modTslot_ports (t : Nat) (f : TableSlot → TableSlot) : (s.modTslot t f).ports = s.ports := rfl
@[simp] theorem State.modTslot_stackTab (t : Nat) (f : TableSlot → TableSlot) : (s.modTslot t f).stackTab = s.stackTab := rfl
@[simp] theorem State.modTslot_pcs (t : Nat) (f : TableSlot → TableSlot) : (s.modTslot t f).pcs = s.pcs := rfl
@[simp] theorem State.modTslot_loft (t : Nat) (f : TableSlot → TableSlot) : (s.modTslot t f).loft = s.loft := rfl
@[simp] theorem State.modTslot_shot (t : Nat) (f : TableSlot → TableSlot) : (s.modTslot t f).shot = { s.shot with table := Map.upd {} t f s.shot.table } := rfl
@[simp] theorem State.modTslot_entry (t : Nat) (f : TableSlot → TableSlot) : (s.modTslot t f).entry = s.entry := rfl
@[simp] theorem State.modTslot_packet (t : Nat) (f : TableSlot → TableSlot) : (s.modTslot t f).packet = s.packet := rfl
@[simp] theorem State.modTslot_seqNo (t : Nat) (f : TableSlot → TableSlot) : (s.modTslot t f).seqNo = s.seqNo := rfl
@[simp] theorem State.modTslot_keys (t : Nat) (f : TableSlot → TableSlot) : (s.modTslot t f).keys = s.keys := rfl
@[simp] theorem State.modTslot_test (t : Nat) (f : TableSlot → TableSlot) : (s.modTslot t f).test = s.test := rfl
@[simp] theorem State.modTslot_tokens (t : Nat) (f : TableSlot → TableSlot) : (s.modTslot t f).tokens = s.tokens := rfl
@[simp] theorem State.modTslot_free (t : Nat) (f : TableSlot → TableSlot) : (s.modTslot t f).free = s.free := rfl
@[simp] theorem State.modTslot_outbox (t : Nat) (f : TableSlot → TableSlot) : (s.modTslot t f).outbox = s.outbox := rfl
@[simp] theorem State.modTslot_pending (t : Nat) (f : TableSlot → TableSlot) : (s.modTslot t f).pending = s.pending := rfl

/-! ### modEgress -/

@[simp] theorem State.modEgress_time (p : Nat) (f : Egress → Egress) : (s.modEgress p f).time = s.time := rfl
@[simp] theorem State.modEgress_block (p : Nat) (f : Egress → Egress) : (s.modEgress p f).block = s.block := rfl
@[simp] theorem State.modEgress_mgmt (p : Nat) (f : Egress → Egress) : (s.modEgress p f).mgmt = s.mgmt := rfl
@[simp] theorem State.modEgress_objs (p : Nat) (f : Egress → Egress) : (s.modEgress p f).objs = s.objs := rfl
@[simp] theorem State.modEgress_live (p : Nat) (f : Egress → Egress) : (s.modEgress p f).live = s.live := rfl
@[simp] theorem State.modEgress_live2 (p : Nat) (f : Egress → Egress) : (s.modEgress p f).live2 = s.live2 := rfl
@[simp] theorem State.modEgress_regions (p : Nat) (f : Egress → Egress) : (s.modEgress p f).regions = s.regions := rfl
@[simp] theorem State.modEgress_dram (p : Nat) (f : Egress → Egress) : (s.modEgress p f).dram = s.dram := rfl
@[simp] theorem State.modEgress_reqs (p : Nat) (f : Egress → Egress) : (s.modEgress p f).reqs = s.reqs := rfl
@[simp] theorem State.modEgress_nextReq (p : Nat) (f : Egress → Egress) : (s.modEgress p f).nextReq = s.nextReq := rfl
@[simp] theorem State.modEgress_ports (p : Nat) (f : Egress → Egress) : (s.modEgress p f).ports = s.ports := rfl
@[simp] theorem State.modEgress_stackTab (p : Nat) (f : Egress → Egress) : (s.modEgress p f).stackTab = s.stackTab := rfl
@[simp] theorem State.modEgress_pcs (p : Nat) (f : Egress → Egress) : (s.modEgress p f).pcs = s.pcs := rfl
@[simp] theorem State.modEgress_loft (p : Nat) (f : Egress → Egress) : (s.modEgress p f).loft = s.loft := rfl
@[simp] theorem State.modEgress_shot (p : Nat) (f : Egress → Egress) : (s.modEgress p f).shot = s.shot := rfl
@[simp] theorem State.modEgress_entry (p : Nat) (f : Egress → Egress) : (s.modEgress p f).entry = s.entry := rfl
@[simp] theorem State.modEgress_packet (p : Nat) (f : Egress → Egress) : (s.modEgress p f).packet = { s.packet with queues := Map.upd {} p f s.packet.queues } := rfl
@[simp] theorem State.modEgress_seqNo (p : Nat) (f : Egress → Egress) : (s.modEgress p f).seqNo = s.seqNo := rfl
@[simp] theorem State.modEgress_keys (p : Nat) (f : Egress → Egress) : (s.modEgress p f).keys = s.keys := rfl
@[simp] theorem State.modEgress_test (p : Nat) (f : Egress → Egress) : (s.modEgress p f).test = s.test := rfl
@[simp] theorem State.modEgress_tokens (p : Nat) (f : Egress → Egress) : (s.modEgress p f).tokens = s.tokens := rfl
@[simp] theorem State.modEgress_free (p : Nat) (f : Egress → Egress) : (s.modEgress p f).free = s.free := rfl
@[simp] theorem State.modEgress_outbox (p : Nat) (f : Egress → Egress) : (s.modEgress p f).outbox = s.outbox := rfl
@[simp] theorem State.modEgress_pending (p : Nat) (f : Egress → Egress) : (s.modEgress p f).pending = s.pending := rfl

/-! ### modReq -/

@[simp] theorem State.modReq_time (id : Nat) (f : Req → Req) : (s.modReq id f).time = s.time := rfl
@[simp] theorem State.modReq_block (id : Nat) (f : Req → Req) : (s.modReq id f).block = s.block := rfl
@[simp] theorem State.modReq_mgmt (id : Nat) (f : Req → Req) : (s.modReq id f).mgmt = s.mgmt := rfl
@[simp] theorem State.modReq_objs (id : Nat) (f : Req → Req) : (s.modReq id f).objs = s.objs := rfl
@[simp] theorem State.modReq_live (id : Nat) (f : Req → Req) : (s.modReq id f).live = s.live := rfl
@[simp] theorem State.modReq_live2 (id : Nat) (f : Req → Req) : (s.modReq id f).live2 = s.live2 := rfl
@[simp] theorem State.modReq_regions (id : Nat) (f : Req → Req) : (s.modReq id f).regions = s.regions := rfl
@[simp] theorem State.modReq_dram (id : Nat) (f : Req → Req) : (s.modReq id f).dram = s.dram := rfl
@[simp] theorem State.modReq_reqs (id : Nat) (f : Req → Req) : (s.modReq id f).reqs = s.reqs.map fun r => if r.id == id then f r else r := rfl
@[simp] theorem State.modReq_nextReq (id : Nat) (f : Req → Req) : (s.modReq id f).nextReq = s.nextReq := rfl
@[simp] theorem State.modReq_ports (id : Nat) (f : Req → Req) : (s.modReq id f).ports = s.ports := rfl
@[simp] theorem State.modReq_stackTab (id : Nat) (f : Req → Req) : (s.modReq id f).stackTab = s.stackTab := rfl
@[simp] theorem State.modReq_pcs (id : Nat) (f : Req → Req) : (s.modReq id f).pcs = s.pcs := rfl
@[simp] theorem State.modReq_loft (id : Nat) (f : Req → Req) : (s.modReq id f).loft = s.loft := rfl
@[simp] theorem State.modReq_shot (id : Nat) (f : Req → Req) : (s.modReq id f).shot = s.shot := rfl
@[simp] theorem State.modReq_entry (id : Nat) (f : Req → Req) : (s.modReq id f).entry = s.entry := rfl
@[simp] theorem State.modReq_packet (id : Nat) (f : Req → Req) : (s.modReq id f).packet = s.packet := rfl
@[simp] theorem State.modReq_seqNo (id : Nat) (f : Req → Req) : (s.modReq id f).seqNo = s.seqNo := rfl
@[simp] theorem State.modReq_keys (id : Nat) (f : Req → Req) : (s.modReq id f).keys = s.keys := rfl
@[simp] theorem State.modReq_test (id : Nat) (f : Req → Req) : (s.modReq id f).test = s.test := rfl
@[simp] theorem State.modReq_tokens (id : Nat) (f : Req → Req) : (s.modReq id f).tokens = s.tokens := rfl
@[simp] theorem State.modReq_free (id : Nat) (f : Req → Req) : (s.modReq id f).free = s.free := rfl
@[simp] theorem State.modReq_outbox (id : Nat) (f : Req → Req) : (s.modReq id f).outbox = s.outbox := rfl
@[simp] theorem State.modReq_pending (id : Nat) (f : Req → Req) : (s.modReq id f).pending = s.pending := rfl

/-! ### modShot -/

@[simp] theorem State.modShot_time (id : Nat) (f : Shot → Shot) : (s.modShot id f).time = s.time := rfl
@[simp] theorem State.modShot_block (id : Nat) (f : Shot → Shot) : (s.modShot id f).block = s.block := rfl
@[simp] theorem State.modShot_mgmt (id : Nat) (f : Shot → Shot) : (s.modShot id f).mgmt = s.mgmt := rfl
@[simp] theorem State.modShot_objs (id : Nat) (f : Shot → Shot) : (s.modShot id f).objs = s.objs := rfl
@[simp] theorem State.modShot_live (id : Nat) (f : Shot → Shot) : (s.modShot id f).live = s.live := rfl
@[simp] theorem State.modShot_live2 (id : Nat) (f : Shot → Shot) : (s.modShot id f).live2 = s.live2 := rfl
@[simp] theorem State.modShot_regions (id : Nat) (f : Shot → Shot) : (s.modShot id f).regions = s.regions := rfl
@[simp] theorem State.modShot_dram (id : Nat) (f : Shot → Shot) : (s.modShot id f).dram = s.dram := rfl
@[simp] theorem State.modShot_reqs (id : Nat) (f : Shot → Shot) : (s.modShot id f).reqs = s.reqs := rfl
@[simp] theorem State.modShot_nextReq (id : Nat) (f : Shot → Shot) : (s.modShot id f).nextReq = s.nextReq := rfl
@[simp] theorem State.modShot_ports (id : Nat) (f : Shot → Shot) : (s.modShot id f).ports = s.ports := rfl
@[simp] theorem State.modShot_stackTab (id : Nat) (f : Shot → Shot) : (s.modShot id f).stackTab = s.stackTab := rfl
@[simp] theorem State.modShot_pcs (id : Nat) (f : Shot → Shot) : (s.modShot id f).pcs = s.pcs := rfl
@[simp] theorem State.modShot_loft (id : Nat) (f : Shot → Shot) : (s.modShot id f).loft = s.loft := rfl
@[simp] theorem State.modShot_shot (id : Nat) (f : Shot → Shot) : (s.modShot id f).shot = { s.shot with shots := s.shot.shots.map fun x => if x.id == id then f x else x } := rfl
@[simp] theorem State.modShot_entry (id : Nat) (f : Shot → Shot) : (s.modShot id f).entry = s.entry := rfl
@[simp] theorem State.modShot_packet (id : Nat) (f : Shot → Shot) : (s.modShot id f).packet = s.packet := rfl
@[simp] theorem State.modShot_seqNo (id : Nat) (f : Shot → Shot) : (s.modShot id f).seqNo = s.seqNo := rfl
@[simp] theorem State.modShot_keys (id : Nat) (f : Shot → Shot) : (s.modShot id f).keys = s.keys := rfl
@[simp] theorem State.modShot_test (id : Nat) (f : Shot → Shot) : (s.modShot id f).test = s.test := rfl
@[simp] theorem State.modShot_tokens (id : Nat) (f : Shot → Shot) : (s.modShot id f).tokens = s.tokens := rfl
@[simp] theorem State.modShot_free (id : Nat) (f : Shot → Shot) : (s.modShot id f).free = s.free := rfl
@[simp] theorem State.modShot_outbox (id : Nat) (f : Shot → Shot) : (s.modShot id f).outbox = s.outbox := rfl
@[simp] theorem State.modShot_pending (id : Nat) (f : Shot → Shot) : (s.modShot id f).pending = s.pending := rfl

/-! ### emit -/

@[simp] theorem State.emit_time (o : Output) : (s.emit o).time = s.time := rfl
@[simp] theorem State.emit_block (o : Output) : (s.emit o).block = s.block := rfl
@[simp] theorem State.emit_mgmt (o : Output) : (s.emit o).mgmt = s.mgmt := rfl
@[simp] theorem State.emit_objs (o : Output) : (s.emit o).objs = s.objs := rfl
@[simp] theorem State.emit_live (o : Output) : (s.emit o).live = s.live := rfl
@[simp] theorem State.emit_live2 (o : Output) : (s.emit o).live2 = s.live2 := rfl
@[simp] theorem State.emit_regions (o : Output) : (s.emit o).regions = s.regions := rfl
@[simp] theorem State.emit_dram (o : Output) : (s.emit o).dram = s.dram := rfl
@[simp] theorem State.emit_reqs (o : Output) : (s.emit o).reqs = s.reqs := rfl
@[simp] theorem State.emit_nextReq (o : Output) : (s.emit o).nextReq = s.nextReq := rfl
@[simp] theorem State.emit_ports (o : Output) : (s.emit o).ports = s.ports := rfl
@[simp] theorem State.emit_stackTab (o : Output) : (s.emit o).stackTab = s.stackTab := rfl
@[simp] theorem State.emit_pcs (o : Output) : (s.emit o).pcs = s.pcs := rfl
@[simp] theorem State.emit_loft (o : Output) : (s.emit o).loft = s.loft := rfl
@[simp] theorem State.emit_shot (o : Output) : (s.emit o).shot = s.shot := rfl
@[simp] theorem State.emit_entry (o : Output) : (s.emit o).entry = s.entry := rfl
@[simp] theorem State.emit_packet (o : Output) : (s.emit o).packet = s.packet := rfl
@[simp] theorem State.emit_seqNo (o : Output) : (s.emit o).seqNo = s.seqNo := rfl
@[simp] theorem State.emit_keys (o : Output) : (s.emit o).keys = s.keys := rfl
@[simp] theorem State.emit_test (o : Output) : (s.emit o).test = s.test := rfl
@[simp] theorem State.emit_tokens (o : Output) : (s.emit o).tokens = s.tokens := rfl
@[simp] theorem State.emit_free (o : Output) : (s.emit o).free = s.free := rfl
@[simp] theorem State.emit_outbox (o : Output) : (s.emit o).outbox = s.outbox ++ [o] := rfl
@[simp] theorem State.emit_pending (o : Output) : (s.emit o).pending = s.pending := rfl

/-! ### dramPut -/

@[simp] theorem State.dramPut_time (p : Nat) (v : StoredSector) : (s.dramPut p v).time = s.time := rfl
@[simp] theorem State.dramPut_block (p : Nat) (v : StoredSector) : (s.dramPut p v).block = s.block := rfl
@[simp] theorem State.dramPut_mgmt (p : Nat) (v : StoredSector) : (s.dramPut p v).mgmt = s.mgmt := rfl
@[simp] theorem State.dramPut_objs (p : Nat) (v : StoredSector) : (s.dramPut p v).objs = s.objs := rfl
@[simp] theorem State.dramPut_live (p : Nat) (v : StoredSector) : (s.dramPut p v).live = s.live := rfl
@[simp] theorem State.dramPut_live2 (p : Nat) (v : StoredSector) : (s.dramPut p v).live2 = s.live2 := rfl
@[simp] theorem State.dramPut_regions (p : Nat) (v : StoredSector) : (s.dramPut p v).regions = s.regions := rfl
@[simp] theorem State.dramPut_dram (p : Nat) (v : StoredSector) : (s.dramPut p v).dram = Map.put (fillSector p) v p s.dram := rfl
@[simp] theorem State.dramPut_reqs (p : Nat) (v : StoredSector) : (s.dramPut p v).reqs = s.reqs := rfl
@[simp] theorem State.dramPut_nextReq (p : Nat) (v : StoredSector) : (s.dramPut p v).nextReq = s.nextReq := rfl
@[simp] theorem State.dramPut_ports (p : Nat) (v : StoredSector) : (s.dramPut p v).ports = s.ports := rfl
@[simp] theorem State.dramPut_stackTab (p : Nat) (v : StoredSector) : (s.dramPut p v).stackTab = s.stackTab := rfl
@[simp] theorem State.dramPut_pcs (p : Nat) (v : StoredSector) : (s.dramPut p v).pcs = s.pcs := rfl
@[simp] theorem State.dramPut_loft (p : Nat) (v : StoredSector) : (s.dramPut p v).loft = s.loft := rfl
@[simp] theorem State.dramPut_shot (p : Nat) (v : StoredSector) : (s.dramPut p v).shot = s.shot := rfl
@[simp] theorem State.dramPut_entry (p : Nat) (v : StoredSector) : (s.dramPut p v).entry = s.entry := rfl
@[simp] theorem State.dramPut_packet (p : Nat) (v : StoredSector) : (s.dramPut p v).packet = s.packet := rfl
@[simp] theorem State.dramPut_seqNo (p : Nat) (v : StoredSector) : (s.dramPut p v).seqNo = s.seqNo := rfl
@[simp] theorem State.dramPut_keys (p : Nat) (v : StoredSector) : (s.dramPut p v).keys = s.keys := rfl
@[simp] theorem State.dramPut_test (p : Nat) (v : StoredSector) : (s.dramPut p v).test = s.test := rfl
@[simp] theorem State.dramPut_tokens (p : Nat) (v : StoredSector) : (s.dramPut p v).tokens = s.tokens := rfl
@[simp] theorem State.dramPut_free (p : Nat) (v : StoredSector) : (s.dramPut p v).free = s.free := rfl
@[simp] theorem State.dramPut_outbox (p : Nat) (v : StoredSector) : (s.dramPut p v).outbox = s.outbox := rfl
@[simp] theorem State.dramPut_pending (p : Nat) (v : StoredSector) : (s.dramPut p v).pending = s.pending := rfl

/-! ### setObj -/

@[simp] theorem State.setObj_time (ix sub el v : Nat) : (s.setObj ix sub el v).time = s.time := rfl
@[simp] theorem State.setObj_block (ix sub el v : Nat) : (s.setObj ix sub el v).block = s.block := rfl
@[simp] theorem State.setObj_mgmt (ix sub el v : Nat) : (s.setObj ix sub el v).mgmt = s.mgmt := rfl
@[simp] theorem State.setObj_objs (ix sub el v : Nat) : (s.setObj ix sub el v).objs = Map.put (objDefault ix sub el) v (oKey ix sub el) s.objs := rfl
@[simp] theorem State.setObj_live (ix sub el v : Nat) : (s.setObj ix sub el v).live = s.live := rfl
@[simp] theorem State.setObj_live2 (ix sub el v : Nat) : (s.setObj ix sub el v).live2 = s.live2 := rfl
@[simp] theorem State.setObj_regions (ix sub el v : Nat) : (s.setObj ix sub el v).regions = s.regions := rfl
@[simp] theorem State.setObj_dram (ix sub el v : Nat) : (s.setObj ix sub el v).dram = s.dram := rfl
@[simp] theorem State.setObj_reqs (ix sub el v : Nat) : (s.setObj ix sub el v).reqs = s.reqs := rfl
@[simp] theorem State.setObj_nextReq (ix sub el v : Nat) : (s.setObj ix sub el v).nextReq = s.nextReq := rfl
@[simp] theorem State.setObj_ports (ix sub el v : Nat) : (s.setObj ix sub el v).ports = s.ports := rfl
@[simp] theorem State.setObj_stackTab (ix sub el v : Nat) : (s.setObj ix sub el v).stackTab = s.stackTab := rfl
@[simp] theorem State.setObj_pcs (ix sub el v : Nat) : (s.setObj ix sub el v).pcs = s.pcs := rfl
@[simp] theorem State.setObj_loft (ix sub el v : Nat) : (s.setObj ix sub el v).loft = s.loft := rfl
@[simp] theorem State.setObj_shot (ix sub el v : Nat) : (s.setObj ix sub el v).shot = s.shot := rfl
@[simp] theorem State.setObj_entry (ix sub el v : Nat) : (s.setObj ix sub el v).entry = s.entry := rfl
@[simp] theorem State.setObj_packet (ix sub el v : Nat) : (s.setObj ix sub el v).packet = s.packet := rfl
@[simp] theorem State.setObj_seqNo (ix sub el v : Nat) : (s.setObj ix sub el v).seqNo = s.seqNo := rfl
@[simp] theorem State.setObj_keys (ix sub el v : Nat) : (s.setObj ix sub el v).keys = s.keys := rfl
@[simp] theorem State.setObj_test (ix sub el v : Nat) : (s.setObj ix sub el v).test = s.test := rfl
@[simp] theorem State.setObj_tokens (ix sub el v : Nat) : (s.setObj ix sub el v).tokens = s.tokens := rfl
@[simp] theorem State.setObj_free (ix sub el v : Nat) : (s.setObj ix sub el v).free = s.free := rfl
@[simp] theorem State.setObj_outbox (ix sub el v : Nat) : (s.setObj ix sub el v).outbox = s.outbox := rfl
@[simp] theorem State.setObj_pending (ix sub el v : Nat) : (s.setObj ix sub el v).pending = s.pending := rfl

/-! ### setNow -/

@[simp] theorem State.setNow_time (ix sub el v : Nat) : (s.setNow ix sub el v).time = s.time := rfl
@[simp] theorem State.setNow_block (ix sub el v : Nat) : (s.setNow ix sub el v).block = s.block := rfl
@[simp] theorem State.setNow_mgmt (ix sub el v : Nat) : (s.setNow ix sub el v).mgmt = s.mgmt := rfl
@[simp] theorem State.setNow_objs (ix sub el v : Nat) : (s.setNow ix sub el v).objs = Map.put (objDefault ix sub el) v (oKey ix sub el) s.objs := rfl
@[simp] theorem State.setNow_live (ix sub el v : Nat) : (s.setNow ix sub el v).live = Map.put (objDefault ix sub el) v (oKey ix sub el) s.live := rfl
@[simp] theorem State.setNow_live2 (ix sub el v : Nat) : (s.setNow ix sub el v).live2 = s.live2 := rfl
@[simp] theorem State.setNow_regions (ix sub el v : Nat) : (s.setNow ix sub el v).regions = s.regions := rfl
@[simp] theorem State.setNow_dram (ix sub el v : Nat) : (s.setNow ix sub el v).dram = s.dram := rfl
@[simp] theorem State.setNow_reqs (ix sub el v : Nat) : (s.setNow ix sub el v).reqs = s.reqs := rfl
@[simp] theorem State.setNow_nextReq (ix sub el v : Nat) : (s.setNow ix sub el v).nextReq = s.nextReq := rfl
@[simp] theorem State.setNow_ports (ix sub el v : Nat) : (s.setNow ix sub el v).ports = s.ports := rfl
@[simp] theorem State.setNow_stackTab (ix sub el v : Nat) : (s.setNow ix sub el v).stackTab = s.stackTab := rfl
@[simp] theorem State.setNow_pcs (ix sub el v : Nat) : (s.setNow ix sub el v).pcs = s.pcs := rfl
@[simp] theorem State.setNow_loft (ix sub el v : Nat) : (s.setNow ix sub el v).loft = s.loft := rfl
@[simp] theorem State.setNow_shot (ix sub el v : Nat) : (s.setNow ix sub el v).shot = s.shot := rfl
@[simp] theorem State.setNow_entry (ix sub el v : Nat) : (s.setNow ix sub el v).entry = s.entry := rfl
@[simp] theorem State.setNow_packet (ix sub el v : Nat) : (s.setNow ix sub el v).packet = s.packet := rfl
@[simp] theorem State.setNow_seqNo (ix sub el v : Nat) : (s.setNow ix sub el v).seqNo = s.seqNo := rfl
@[simp] theorem State.setNow_keys (ix sub el v : Nat) : (s.setNow ix sub el v).keys = s.keys := rfl
@[simp] theorem State.setNow_test (ix sub el v : Nat) : (s.setNow ix sub el v).test = s.test := rfl
@[simp] theorem State.setNow_tokens (ix sub el v : Nat) : (s.setNow ix sub el v).tokens = s.tokens := rfl
@[simp] theorem State.setNow_free (ix sub el v : Nat) : (s.setNow ix sub el v).free = s.free := rfl
@[simp] theorem State.setNow_outbox (ix sub el v : Nat) : (s.setNow ix sub el v).outbox = s.outbox := rfl
@[simp] theorem State.setNow_pending (ix sub el v : Nat) : (s.setNow ix sub el v).pending = s.pending := rfl

/-! ### bump -/

@[simp] theorem State.bump_time (ix sub el n : Nat) : (s.bump ix sub el n).time = s.time := rfl
@[simp] theorem State.bump_block (ix sub el n : Nat) : (s.bump ix sub el n).block = s.block := rfl
@[simp] theorem State.bump_mgmt (ix sub el n : Nat) : (s.bump ix sub el n).mgmt = s.mgmt := rfl
@[simp] theorem State.bump_objs (ix sub el n : Nat) : (s.bump ix sub el n).objs = Map.put (objDefault ix sub el) (s.obj ix sub el + n) (oKey ix sub el) s.objs := rfl
@[simp] theorem State.bump_live (ix sub el n : Nat) : (s.bump ix sub el n).live = s.live := rfl
@[simp] theorem State.bump_live2 (ix sub el n : Nat) : (s.bump ix sub el n).live2 = s.live2 := rfl
@[simp] theorem State.bump_regions (ix sub el n : Nat) : (s.bump ix sub el n).regions = s.regions := rfl
@[simp] theorem State.bump_dram (ix sub el n : Nat) : (s.bump ix sub el n).dram = s.dram := rfl
@[simp] theorem State.bump_reqs (ix sub el n : Nat) : (s.bump ix sub el n).reqs = s.reqs := rfl
@[simp] theorem State.bump_nextReq (ix sub el n : Nat) : (s.bump ix sub el n).nextReq = s.nextReq := rfl
@[simp] theorem State.bump_ports (ix sub el n : Nat) : (s.bump ix sub el n).ports = s.ports := rfl
@[simp] theorem State.bump_stackTab (ix sub el n : Nat) : (s.bump ix sub el n).stackTab = s.stackTab := rfl
@[simp] theorem State.bump_pcs (ix sub el n : Nat) : (s.bump ix sub el n).pcs = s.pcs := rfl
@[simp] theorem State.bump_loft (ix sub el n : Nat) : (s.bump ix sub el n).loft = s.loft := rfl
@[simp] theorem State.bump_shot (ix sub el n : Nat) : (s.bump ix sub el n).shot = s.shot := rfl
@[simp] theorem State.bump_entry (ix sub el n : Nat) : (s.bump ix sub el n).entry = s.entry := rfl
@[simp] theorem State.bump_packet (ix sub el n : Nat) : (s.bump ix sub el n).packet = s.packet := rfl
@[simp] theorem State.bump_seqNo (ix sub el n : Nat) : (s.bump ix sub el n).seqNo = s.seqNo := rfl
@[simp] theorem State.bump_keys (ix sub el n : Nat) : (s.bump ix sub el n).keys = s.keys := rfl
@[simp] theorem State.bump_test (ix sub el n : Nat) : (s.bump ix sub el n).test = s.test := rfl
@[simp] theorem State.bump_tokens (ix sub el n : Nat) : (s.bump ix sub el n).tokens = s.tokens := rfl
@[simp] theorem State.bump_free (ix sub el n : Nat) : (s.bump ix sub el n).free = s.free := rfl
@[simp] theorem State.bump_outbox (ix sub el n : Nat) : (s.bump ix sub el n).outbox = s.outbox := rfl
@[simp] theorem State.bump_pending (ix sub el n : Nat) : (s.bump ix sub el n).pending = s.pending := rfl

/-! ### count -/

@[simp] theorem State.count_time (ix sub : Nat) : (s.count ix sub).time = s.time := rfl
@[simp] theorem State.count_block (ix sub : Nat) : (s.count ix sub).block = s.block := rfl
@[simp] theorem State.count_mgmt (ix sub : Nat) : (s.count ix sub).mgmt = s.mgmt := rfl
@[simp] theorem State.count_objs (ix sub : Nat) : (s.count ix sub).objs = Map.put (objDefault ix sub 0) (s.obj ix sub 0 + 1) (oKey ix sub 0) s.objs := rfl
@[simp] theorem State.count_live (ix sub : Nat) : (s.count ix sub).live = s.live := rfl
@[simp] theorem State.count_live2 (ix sub : Nat) : (s.count ix sub).live2 = s.live2 := rfl
@[simp] theorem State.count_regions (ix sub : Nat) : (s.count ix sub).regions = s.regions := rfl
@[simp] theorem State.count_dram (ix sub : Nat) : (s.count ix sub).dram = s.dram := rfl
@[simp] theorem State.count_reqs (ix sub : Nat) : (s.count ix sub).reqs = s.reqs := rfl
@[simp] theorem State.count_nextReq (ix sub : Nat) : (s.count ix sub).nextReq = s.nextReq := rfl
@[simp] theorem State.count_ports (ix sub : Nat) : (s.count ix sub).ports = s.ports := rfl
@[simp] theorem State.count_stackTab (ix sub : Nat) : (s.count ix sub).stackTab = s.stackTab := rfl
@[simp] theorem State.count_pcs (ix sub : Nat) : (s.count ix sub).pcs = s.pcs := rfl
@[simp] theorem State.count_loft (ix sub : Nat) : (s.count ix sub).loft = s.loft := rfl
@[simp] theorem State.count_shot (ix sub : Nat) : (s.count ix sub).shot = s.shot := rfl
@[simp] theorem State.count_entry (ix sub : Nat) : (s.count ix sub).entry = s.entry := rfl
@[simp] theorem State.count_packet (ix sub : Nat) : (s.count ix sub).packet = s.packet := rfl
@[simp] theorem State.count_seqNo (ix sub : Nat) : (s.count ix sub).seqNo = s.seqNo := rfl
@[simp] theorem State.count_keys (ix sub : Nat) : (s.count ix sub).keys = s.keys := rfl
@[simp] theorem State.count_test (ix sub : Nat) : (s.count ix sub).test = s.test := rfl
@[simp] theorem State.count_tokens (ix sub : Nat) : (s.count ix sub).tokens = s.tokens := rfl
@[simp] theorem State.count_free (ix sub : Nat) : (s.count ix sub).free = s.free := rfl
@[simp] theorem State.count_outbox (ix sub : Nat) : (s.count ix sub).outbox = s.outbox := rfl
@[simp] theorem State.count_pending (ix sub : Nat) : (s.count ix sub).pending = s.pending := rfl

end Sys2Proof.Machine
end

