-- ==== Sys2Proof/WellFormed.lean ====
section
/-! DEFINITION. WellFormed.lean: which commands can be given at all: the bounds that a field's width, a bus or a table of
the specification puts on the operands that a type alone leaves wider. No meaning asks for it: an ill-formed command is
still given its meaning by the step. -/
namespace Sys2Proof

/-- Error symbols of one sector: positions 0 to 77, each off by a non-zero byte (R355). -/
def errsWf (l : List (Nat × Nat)) : Bool := l.all fun e => decide (e.1 < 78) && decide (0 < e.2) && decide (e.2 < 256)

/-- Error symbols met by the reads of one step. -/
def ReadErrs.wf (e : ReadErrs) : Bool := errsWf (e.first.map (·.2)) && errsWf (e.second.map (·.2))

/-- A start of a block transfer: element below 2^32, at most 131,071 bytes (R433, R434). -/
def lengthWf (n : Nat) : Bool := decide (n ≤ 131071)

/-- Passing ranges that run upwards (R182). -/
def LaneEye.wf (e : LaneEye) : Bool :=
  decide (e.rdLo.toNat ≤ e.rdHi.toNat) && decide (e.refLo.toNat ≤ e.refHi.toNat) &&
    decide (e.wrLo.toNat ≤ e.wrHi.toNat) && decide (e.wrefLo.toNat ≤ e.wrefHi.toNat)

/-- What training reports lies on the stack (R182). -/
def TrainResult.wf (r : TrainResult) : Bool :=
  r.badLanes.all (fun x => decide (x.1 < 64) && decide (x.2 < 38)) && r.eyes.all LaneEye.wf

/-- What a bring-up step reports lies on the stack (R471). -/
def BringResult.wf (r : BringResult) : Bool :=
  r.train.wf &&
    r.rows.all (fun x => decide (x.1 < 256) && decide (x.2.1 < 16) && decide (x.2.2 < 32768)) &&
    r.badPcs.all (fun x => decide (x < 64)) && r.ppr.all (fun x => decide (x.1 < 64))

/-- The boot image carries its four profiles (R450). -/
def BootImage.wf (b : BootImage) : Bool := b.profiles.length == 4

/-- What a self-test slice reports (R481). -/
def SliceResult.wf (r : SliceResult) : Bool :=
  r.rows.all (fun x => decide (x.1 < 16) && decide (x.2 < 32768)) && r.words.all (fun w => decide (w < 4096)) && r.errs.wf

/-- No element twice. -/
def distinct {A : Type} [DecidableEq A] : List A → Bool
  | [] => true
  | x :: l => !l.contains x && distinct l

/-- Well-formed commands. -/
def Instr.wf : Instr → Bool
  | .reservedOperation _ op cls => decide (7 ≤ op.toNat) || decide (4 ≤ cls.toNat)
  | .writeData _ ps => decide (0 < ps.length) && decide (ps.length ≤ 8)
  | .readDataReturn _ _ errs | .secondLookResult _ _ errs => errsWf errs
  | .contribution _ _ beats payload => decide (0 < beats) && decide (payload.length + 64 ≤ 512 * beats)
  | .spillPacket _ bytes => decide (0 < bytes.length) && decide (bytes.length ≤ 16384)
  | .patrolStep _ e | .spliceLineCopy _ e | .migrationLineCopy _ e | .rebuildLineCopy _ e | .sweepStep _ _ e => e.wf
  | .histogramBinAdvance _ _ dis => dis.length == 38 && dis.all fun n => decide (n ≤ 1024)
  | .retrainingApply _ _ res => distinct (res.map (·.lane))
  | .pcRetrainComplete _ _ eyes => eyes.all LaneEye.wf
  | .stackWakeService _ _ res train => distinct (res.map fun x => (x.1, x.2.lane)) && train.wf
  | .loftPortCycle _ d => (d.found.all fun x => decide (x.1 < 4194304 + 131072)) && distinct (d.found.map (·.1))
  | .mailboxDoorbell packet _ => decide (0 < packet.length) && decide (packet.length ≤ 4096)
  | .powerTelemetry domains rails => domains.length == 43 && rails.length == 32
  | .stackBringUpStepDone _ r => r.wf
  | .loftQuadrantTestDone _ bad => bad.length == 16 && bad.all fun l => l.all fun w => decide (w < 4194304)
  | .engineSelfTestDone unit _ => decide (88096 ≤ unit) && (decide (unit < 88228) || (decide (88328 ≤ unit) && decide (unit < 88332)))
  | .selfTestSliceEnd unit r => decide (unit < 88328) && r.wf
  | .declareDead _ unit | .readmit _ unit => decide (unit.toNat < 88328)
  | .microcodeImage img => img.wf
  | .reservedKind _ kind => kind == 0 || decide (0x0B ≤ kind.toNat)
  | .reservedDictionaryOp _ op => op == 0 || decide (8 ≤ op.toNat)
  | .dictionaryRead _ _ _ length => lengthWf length
  | .dictionaryWrite _ _ data => lengthWf data.length
  | .stateRequestService _ | .stateRequestDrain _ | .stateRequestTest _ | .stateRequestSafe _ => true
  | .spillPull _ | .gatherBagStart _ | .arrayRun _ | .filterKey _ | .selectEntryDeal _ | .checkValueBlock _ | .dollyShotTransfer _
  | .read _ | .write _ | .add _ | .swap _ | .cas _ | .fence _ | .holdBufferRelease _ _ | .responseRelease _
  | .arbiterCycle _ _ | .agePromotion _ | .watchdogBite _ | .pcControllerCycle _ _ _ | .rowIdleClose _ _ _ _ _
  | .correctiveRewrite _ | .parityError _ _ _ | .replayTakeEnd _ _ | .frameBoundary | .callSheetComplete _
  | .referenceCycle | .ptpOffset _ | .ptpRate _ | .stepRequest _ _ | .correctionModeSelect _ _
  | .rateCorrectionWrite _ _ | .referenceFrequencyWrite _ _ | .laneAccumulate _ | .creditReturn _ | .resultSend
  | .linkStatus _ _ | .holdExpiry _ | .backPressureRefresh | .captureHeader _ _ _ _ | .captureReadIndex _ _
  | .stockroomEnable _ | .stockroomDisable _ | .chunkFillEnd _ | .fillAllowanceTaken _ | .backgroundFillWrite _
  | .engineWaitEnd | .versionDrop _ | .shotTableVersionDrop _ | .refreshWindowStart _ | .selfRefreshEntry _ _ _
  | .selfRefreshExit _ _ _ | .stackSelfRefreshEnter _ _ | .stackWakeRequest _ _ | .stackIdleExpiry _ | .stackGate _
  | .stackWake _ | .timingSwitchRequest _ _ _ | .timingSwitchChannelDone _
  | .domainGateRequest _ _ _ | .domainWakeComplete _ | .temperatureRead _ _ | .stackT4Gate _ | .thermalSlipRecord _
  | .loftLineFill _ | .loftWriteBack _ | .loftPatrolStep _ _ | .partitionChangeEffect _
  | .sliceFail _ _ | .sliceFence _ | .sliceMapReturn _ | .reduce _ | .gather _ | .score _ | .project _ | .select _
  | .filter _ | .convert _ | .copy _ | .scan _ | .fill _ | .shotExtend _ | .shotTimeAbort _ | .listHeadTimeout _
  | .contextFree _ | .jobAbort _ _ | .gatherRowData _ | .selectMerge _ | .bucketLeak | .migrationStart _
  | .migrationCommit _ | .readmitResult _ | .retirementReadIndex _ _ | .keyRotate _ _ | .sweepComplete _
  | .keyErase _ _ | .eraseEffect _ | .entropyHealthChange _ | .drbgReseed | .microcodeSegment _ _ _ _ _
  | .raiseMinimumVersion _ | .scanRequest | .scanClearComplete _ | .resetAssert _ | .resetRelease _ _
  | .dictionaryReachable | .hardwareFillDone _ | .selfTestSliceRequest | .counterSample _ | .counterGrant _ _ _
  | .sampleReadIndex _ _ | .managementPacket _ _ | .lock _ _ | .commit _ | .discard _ | .renew _
  | .sessionReset _ | .leaseExpiry _ | .sessionTimeout _ | .eventAcknowledge _ _ | .keyExchange _ | .finish _ _
  | .endSession _ | .getMeasurements _ _ | .getVersion _ | .getCapabilities _ | .negotiateAlgorithms _ _
  | .getDigests _ | .getCertificate _ _ _ _ | .challenge _ _ _ | .heartbeat _ | .keyUpdate _ | .entdaa _ | .rstdaa
  | .enec _ | .disec _ | .getpid | .getbcr | .getdcr | .getmrl | .getmwl | .setmrl _ | .setmwl _
  | .coreSelfTestDone _ | .i3cMctpTransfer _ _ _ | .unsupportedSpdmRequest _ _ | .corePowerLoss | .fillShotWrite _
  | .lostLineRewrite _ => true

end Sys2Proof
end

