-- ==== Sys2Proof/Tests/Slice0.lean ====
section
/-! SUPPORT. Slice0.lean: small tests. The theorems named test_hyp_… show, for each statement with hypotheses, states and
operands that meet them, clause by clause; test_wf_… give the well-formedness check a term it refuses for each of its
checks; the others run one command or one function on values of the specification. -/

-- theorems one after another: many at once would ask for too many threads
set_option Elab.async false

namespace Sys2Proof.Tests

open Sys2Proof.Machine Sys2Proof.Safety

/-! ### Small states and operands -/

/-- A block that is up in a state, its identity known, with session 0 open to every role. -/
def up (b : BlkState) : State :=
  { State.reset with
    block := { state := b, boot := .up }
    keys := { State.reset.keys with identity := true }
    mgmt := { sessions := [(0, { isOpen := true, transport := 2, endpoint := 9, roles := 15 })] } }

/-- The same block in SERVICE. -/
def svc : State := up .service

/-- A request from session 0. -/
def rq0 : Rq := ⟨some 0, 2, 9, 7⟩

/-- A request outside a session. -/
def rqOut : Rq := ⟨none, 2, 9, 7⟩

/-! ### Witnesses: time -/

theorem test_hyp_goes : ∃ t, step { svc with pending := [.referenceCycle, .rstdaa] } = .next t ∧ t.pending = [.rstdaa] := ⟨_, rfl, rfl⟩

theorem test_hyp_up_not_down : svc.block.boot ≠ .down := by decide

theorem test_hyp_canonical : Canonical svc ∧ Canonical (up .bringUp) ∧ Canonical State.reset := by unfold Canonical; decide

theorem test_hyp_heard : Heard svc rq0 0 roleO ∧ Heard svc rq0 0 roleK ∧ Heard svc rq0 0 roleAll := by unfold Heard; decide

theorem test_hyp_heard_bringUp : Heard (up .bringUp) rq0 0 roleO ∧ (up .bringUp).block.state = .bringUp := by unfold Heard; decide

theorem test_hyp_time_carry : timeWord (10 ^ 9 - 1) % 2 ^ 32 = 10 ^ 9 - 1 ∧ timeWord (10 ^ 9) = 2 ^ 32 := by decide

theorem test_hyp_release : ({ State.reset with block := { rstLow := true } } : State).block.rstLow = true := rfl

/-! ### Witnesses: corrections of the time, call sheets -/

/-- The serving block in TRACK. -/
def trk : State := { svc with time := { svc.time with mode := .track } }

theorem test_hyp_track : trk.time.mode = .track ∧ Canonical trk ∧ Heard trk rq0 0 roleO := by unfold Canonical Heard; decide

theorem test_hyp_servo : svc.time.mode = .servo ∧ svc.time.pendingStep = none := by decide

theorem test_hyp_step_pending : ({ svc with time := { svc.time with pendingStep := some 5 } } : State).time.pendingStep = some 5 := by decide

theorem test_hyp_servo_mode_write : (1 : BitVec 8).toNat ≤ 1 ∧ ¬ ((1 : BitVec 8).toNat = 1 ∧ (up .drain).block.state = .service) ∧
    svc.block.state = .service := by decide

theorem test_hyp_rate_limits : -200000 ≤ (BitVec.ofInt 32 (-200000)).toInt ∧ (BitVec.ofInt 32 (-200000)).toInt ≤ 200000 ∧
    200000 < (BitVec.ofInt 32 200001).toInt ∧ (BitVec.ofInt 32 (-200001)).toInt < -200000 := by decide

theorem test_hyp_reference_limits : 100000000 ≤ (100000000 : BitVec 32).toNat ∧ (400000000 : BitVec 32).toNat ≤ 400000000 ∧
    400000000 < (400000001 : BitVec 32).toNat ∧ (99999999 : BitVec 32).toNat < 100000000 := by decide

/-! ### Witnesses: ports and arbiters -/

/-- A region entry of tenant 5: one chunk, pinned on stack 0. -/
def entry0 : RegionEntry := { base := 0, size := 1, mode := 2, stackMask := 1, extentBase := 0, tenant := 5, live := true }

/-- A serving block whose domains are ready and whose stacks serve, with region 0 live and its chunk written. -/
def lived : State :=
  { svc with
    block := { svc.block with ready := (upTo 43).map fun d => (d, 1) }
    stackTab := (upTo 32).map fun i => (i, { power := .service, bring := 5 })
    regions := { slots := [(0, { now := entry0, homeMask := 1, cur := some { epoch := 0, handle := 1 } })], written := [(0, true)] } }

/-- A slot of port 3, class Bulk, tag 1, tenant 5. -/
def slot3 (addr : BitVec 48) (tenant : BitVec 10) : PortReq :=
  { port := 3, size := 0, addr, cls := .bulk, stream := 0, tag := 1, tenant }

theorem test_hyp_access : accessOf .read (slot3 64 5) = some (.read (slot3 64 5)) := rfl

theorem test_hyp_access_read : Accepts lived .read (slot3 64 5) 0 64 := by unfold Accepts; dsimp only; decide +kernel

theorem test_hyp_access_last_write : Accepts lived .write (slot3 (2097152 - 32) 5) 0 (2097152 - 32) := by
  unfold Accepts; dsimp only; decide +kernel

theorem test_hyp_access_cas : Accepts lived .cas (slot3 8 5) 0 8 := by unfold Accepts; dsimp only; decide +kernel

/-- One request of port 3 with tag 1. -/
def held3 : Req := { id := 4, master := 3, op := .read, bytes := 32, addr := 64, cls := .bulk, tag := 1, tenant := 5 }

theorem test_hyp_access_refused : lived.portReady 3 .bulk = true ∧ reqBytes .write 0 = 32 ∧ (slot3 33 5).addr.toNat % 32 ≠ 0 ∧
    ({ lived with reqs := [held3] } : State).tagOut 3 1 = true ∧ lived.lookup 2097152 32 = none ∧
    lived.lookup 2097120 32 = some (0, 2097120) ∧ (slot3 64 4).tenant.toNat ≠ (lived.slot 0).now.tenant ∧
    ({ lived with block := { lived.block with scanEn := true } } : State).block.scanEn = true := by decide +kernel

theorem test_hyp_fence : lived.portReady 3 .bulk = true ∧ lived.tagOut 3 1 = false ∧ lived.block.state ≠ .safe ∧
    lived.block.scanEn = false ∧ lived.sheetsRun 0 = true ∧ lived.pcSheets 0 63 = true ∧ (lived.pc 63).sleeping = false := by decide +kernel

theorem test_hyp_reserved : lived.block.boot = .up ∧ 4 ≤ (4 : BitVec 4).toNat ∧ lived.portReady 3 (clsOf 3) = true := by decide +kernel

theorem test_hyp_held : let s : State := { lived with reqs := [held3] }
    (s.portReqs 3).find? (fun q => q.cls == .bulk && q.phase == .held && !q.reserved) = some held3 ∧ s.req? 4 = some held3 ∧
      held3.op ≠ .post ∧ held3.notReady = false ∧ s.capRoom held3 = true ∧ s.behindHeld held3 = false ∧
        ({ s with live := [(oKey 0x4001 1 3, 0)] } : State).capRoom held3 = false ∧
          ({ lived with reqs := [{ held3 with id := 3, cls := .critical }, held3] } : State).behindHeld held3 = true := by decide +kernel

theorem test_hyp_held_post : let p : Req := { held3 with op := .post }
    let s : State := { lived with reqs := [p] }
    (s.portReqs 3).find? (fun q => q.cls == .bulk && q.phase == .held && !q.reserved) = some p ∧ s.req? 4 = some p ∧ p.data = none ∧
      s.capRoom p = true ∧ WriteReady s 3 := by unfold WriteReady; decide +kernel

/-- Port 3 waits for the two positions of a write. -/
def writeDue (x : Due) : State := { lived with reqs := [{ held3 with op := .write, bytes := 128 }], ports := [(3, { due := [x] })] }

theorem test_hyp_write_data : let s := writeDue { req := 4, n := 2 }
    WriteReady s 3 ∧ Canonical s ∧ (s.port 3).due = [{ req := 4, n := 2 }] ∧ (s.port 3).gathered = [] ∧
      s.req? 4 = some { held3 with op := .write, bytes := 128 } := by unfold WriteReady Canonical; decide +kernel

theorem test_hyp_write_data_late : let s := writeDue { req := 4, n := 1, late := true }
    WriteReady s 3 ∧ Canonical s ∧ 1 ≤ ((s.port 3).gathered ++ [0]).length + 0 ∧ (lived.port 3).due = [] ∧ WriteReady lived 3 := by
  unfold WriteReady Canonical; decide +kernel

theorem test_hyp_write_data_lost : let s := writeDue { req := 4, n := 2, lost := 1 }
    WriteReady s 3 ∧ Canonical s ∧ (s.port 3).due = [{ req := 4, n := 2, lost := 1 }] ∧ [(0 : Sector)].length < 2 ∧ 2 ≤ 1 + 1 := by
  unfold WriteReady Canonical; decide +kernel

theorem test_hyp_write_data_post : let p : Req := { held3 with op := .post, phase := .wait, routed := true }
    let s : State := { lived with reqs := [p], ports := [(3, { due := [{ req := 4, n := 1 }] })] }
    WriteReady s 3 ∧ Canonical s ∧ s.req? 4 = some p ∧ p.master = 3 ∧ p.dest = .port := by unfold WriteReady Canonical; decide +kernel

theorem test_hyp_write_full :
    65024 < ({ lived with ports := [(3, { gathered := List.replicate 1017 0 })] } : State).writeBuffer 3 := by decide +kernel

theorem test_hyp_response : let r : Req := { held3 with whole := some (.done, .none), phase := .done }
    ({ lived with reqs := [r] } : State).portReqs 3 = [r] ∧ ({ lived with reqs := [r] } : State).req? 4 = some r := by decide +kernel

/-- A READ of region 0 that waits at stack 0's arbiter. -/
def arb3 : Req := { held3 with region := 0, phase := .arb }

theorem test_hyp_arbiter : let s : State := { lived with reqs := [arb3] }
    s.arbiterRuns 0 = true ∧ s.ownerAt 0 0 = 0xFF ∧ arb3.bytes ≤ 2048 ∧ s.reqStack arb3 = 0 ∧ s.blindLine arb3 = none ∧
      s.lostRead arb3.region arb3.version (s.reqOff arb3) = false ∧ (s.pc (plPcNo (s.reqPlace arb3))).sr = .awake ∧
        s.grantable 0 (s.rankOf 0 (oldestUpkeep [arb3]) arb3) arb3 = true := by decide +kernel

theorem test_hyp_age : let s : State := { lived with reqs := [arb3], time := { lived.time with frame := 1000 } }
    Canonical s ∧ s.req? 4 = some arb3 ∧ arb3.promoted = false ∧ arb3.phase ≠ .done ∧
      arb3.bornNs + s.live' 0x4000 2 0 ≤ s.frameNs ∧
        ({ s with time := {} } : State).frameNs < arb3.bornNs + s.live' 0x4000 2 0 := by
  unfold Canonical; decide +kernel

theorem test_hyp_watchdog : let s : State := { lived with reqs := [held3], time := { lived.time with frame := 10001 } }
    s.req? 4 = some held3 ∧ s.waitClass held3 ≠ none ∧ held3.notReady = false ∧ held3.dest = .port ∧
      held3.waitSince + s.live' 0x4000 4 0 < s.time.frame ∧ Canonical s ∧
        ({ s with time := {} } : State).time.frame ≤ held3.waitSince + s.live' 0x4000 4 0 ∧
          s.waitClass { held3 with phase := .queued } = none := by unfold Canonical; decide +kernel

theorem test_hyp_watchdog_engine : let r : Req := { held3 with master := 0x24, region := 0, phase := .arb, dest := .row 31 7 0 0 }
    let s : State := { lived with reqs := [r], time := { lived.time with frame := 10001 } }
    s.req? 4 = some r ∧ r.notReady = false ∧ r.dest ≠ .port ∧ s.arbiterRuns (s.reqStack r) = true ∧
      r.waitSince + s.live' 0x4000 4 0 < s.time.frame ∧ Canonical s := by unfold Canonical; decide +kernel

/-! ### Witnesses: pseudo-channels, refresh and training -/

/-- The write that the controller of stack 0's pseudo-channel 0 holds. -/
def wr0 : QEntry := { req := 4, place := 0, kind := .write, op := .write, data := 9 }

/-- The serving block with a given pseudo-channel 0 of stack 0. -/
def withPc (x : PcState) : State := { lived with pcs := [(0, x)] }

/-- A frame count in the middle of time. -/
def late0 (s : State) : State := { s with time := { s.time with frame := 50, nextNs := 51000 } }

theorem test_hyp_controller : (withPc { queue := [wr0] }).pcRuns 0 0 = true ∧ wr0.kind = .write ∧ wr0.stage = .waiting ∧
    (((withPc { queue := [wr0] }).pc 0).bank wr0.bank).openRow = none ∧ ({ queue := [wr0] } : PcState).triggers.length < 64 ∧
      (let v := (withPc { queue := [wr0] }).look 0 0 9
       ((withPc { queue := [wr0] }).pc 0).actReady v.t v.c wr0.bank = true ∧ 0 < v.t.rcd) := by decide +kernel

theorem test_hyp_controller_open : let x : PcState := { queue := [wr0], banks := [(wr0.bank, { openRow := some wr0.row })] }
    (x.bank wr0.bank).openRow = some wr0.row ∧
      (let v := (withPc x).look 0 0 9
       x.colFits v.t v.frame v.c wr0.bank false = true) := by decide +kernel

theorem test_hyp_row_idle : let s := late0 (withPc { banks := [(0, { openRow := some 3, actAt := some 10, lastCol := 12 })] })
    let v := s.look 0 0 0
    s.pcRuns 0 0 = true ∧ (s.pc 0).sr = .awake ∧ (s.pc v.p).rowSpent v.c = false ∧
      ((s.pc v.p).due v.k).any ((s.pc v.p).refreshReady v) = false ∧ (s.pc v.p).sheet.inCut v.k = false ∧ (s.pc 0).recovery = none ∧
        ((s.pc 0).bank 0).preReady (s.timing 0 0) (s.cycle 0) = true ∧ ((s.pc 0).bank 0).lastCol + 200 ≤ s.cycle 0 ∧
          ((s.pc 0).bank 0).actAt = some 10 ∧ 10 + 200 ≤ s.cycle 0 := by decide +kernel

theorem test_hyp_parity : let s := late0 (withPc {})
    let x : PcState := { log := [{ cyc := s.cycle 0 - (s.timing 0 0).par, kind := .wr }] }
    let u := late0 (withPc x)
    u.pcRuns 0 0 = true ∧ x.recovery = none ∧ x.notExecuted (u.timing 0 0) (u.cycle 0) ≠ [] ∧
      x.parityReel + 1 ≤ u.stLive 0 0x2003 5 0 ∧ 1 ≤ u.stLive 0 0x2003 4 0 := by decide +kernel

theorem test_hyp_take_end : let s := withPc { recovery := some { prea := true } }
    (s.pc 0).recovery = some { prea := true } ∧ ({ prea := true } : Recovery).replay = [] ∧ ({ prea := true } : Recovery).out = [] ∧
      s.packet.pulls = [] ∧ Canonical s := by unfold Canonical; decide +kernel

/-- A read in flight. -/
def flight : PcState := { queue := [{ wr0 with kind := .read, op := .read, stage := .reading }], inflight := [{ req := 4 }] }

theorem test_hyp_read_data : let s := { withPc flight with reqs := [{ arb3 with phase := .queued }] }
    s.packet.pulls = [] ∧ (s.pc 0).lanes = [] ∧ (s.pc 0).recovery = none ∧ s.req? 4 = some { arb3 with phase := .queued } ∧
    (s.pc 0).inflight.find? (fun f => !f.second) = some { req := 4 } ∧ s.fencedData 0 = false ∧
      (s.pc 0).queue.find? (fun q => q.req == 4 && q.seq == 0) = some { wr0 with kind := .read, op := .read, stage := .reading } ∧
        plPcNo 0 = pcNo 0 0 ∧ (s.dramAt 0).epoch < 16 ∧ (s.dramAt 0).poison = false ∧
          s.keyOf 0 (s.dramAt 0).epoch = some { epoch := 0, handle := 1 } := by decide +kernel

theorem test_hyp_read_poisoned : let s := { withPc flight with dram := [(0, { poison := true })] }
    (s.dramAt 0).poison = true ∧ Canonical s := by unfold Canonical; decide +kernel

theorem test_hyp_second_look : let s := withPc { flight with inflight := [{ req := 4, second := true }] }
    (s.pc 0).inflight.find? (fun f => f.second) = some { req := 4, second := true } ∧
      (s.decode 0 [(0, 1), (1, 1), (2, 1), (3, 1), (4, 1)]).finding = .uncorrectable := by decide +kernel

theorem test_hyp_corrective_rewrite : let s := { lived with stackTab := Map.upd {} 0 (fun k => { k with rewrites := [{ place := 64 }] }) lived.stackTab }
    (s.stack 0).rewrites = [{ place := 64 }] ∧ s.upkeepOn 0 = true ∧ Canonical s := by unfold Canonical; decide +kernel

theorem test_hyp_refresh_window : lived.time.frame % lived.windowFrames 0 = 0 ∧ (late0 lived).time.frame % lived.windowFrames 0 ≠ 0 := by
  decide +kernel

theorem test_hyp_self_refresh : let s (p : SrPhase) (q : List QEntry) := late0 { withPc { sr := p, idle := 10 ^ 9, queue := q } with
      live := [(oKey 0x2008 1 0, 5)] }
    (s .awake []).mayEnter 0 0 999 = true ∧ 20 + 20 ≤ (s (.preparing 20) []).cycle 0 ∧
      20 + ((s (.committed 20) []).timing 0 0).rfcab ≤ (s (.committed 20) []).cycle 0 ∧
        20 + ((s (.asleep 20) [wr0]).timing 0 0).rfcab + ((s (.asleep 20) [wr0]).timing 0 0).sr ≤ (s (.asleep 20) [wr0]).cycle 0 ∧
          40 ≤ (s (.exiting 40) []).cycle 0 := by decide +kernel

/-- The serving block with a given stack 0. -/
def withStack (f : StackState → StackState) : State := { lived with stackTab := Map.upd {} 0 f lived.stackTab }

theorem test_hyp_stack_enter : (lived.activeRes.any fun w => lived.shareOf w 0 != 0) = false ∧ lived.ownedCycles 0 = 0 ∧
    (lived.stack 0).switch = none ∧ Heard lived rq0 0 roleO ∧ Canonical lived ∧
      0 < ({ lived with objs := [(oKey 0x4004 1 0, 3)], live := [(oKey 0x4004 1 0, 3)] } : State).ownedCycles 0 ∧
        ((withStack fun k => { k with switch := some (1, 0) }).stack 0).switch ≠ none := by unfold Heard Canonical; decide +kernel

theorem test_hyp_stack_wake_gated : ((withStack fun k => { k with power := .gated, srRequest := true }).stack 0).power = .gated := by
  decide +kernel

/-- Every pseudo-channel of stack 0 asleep. -/
def sleepers : Map PcState := (upTo 64).map fun i => (i, { sr := .asleep 20 })

theorem test_hyp_stack_idle : let s := { withStack (fun k => { k with allIdle := 50 }) with pcs := sleepers, live := [(oKey 0x2008 7 0, 50)] }
    0 < s.stLive 0 0x2008 7 0 ∧ s.stLive 0 0x2008 7 0 ≤ (s.stack 0).allIdle ∧ (s.stack 0).power = .service ∧ s.notAsleep 0 = [] := by
  decide +kernel

theorem test_hyp_stack_gate : let s := { withStack (fun k => { k with power := .entering, srRequest := true }) with pcs := sleepers }
    (s.stack 0).power = .entering ∧ (s.stack 0).srRequest = true ∧ s.notAsleep 0 = [] ∧ s.reqs = [] ∧
      (∀ pc, pc < 64 → (s.pc (pcNo 0 pc)).queue = []) := by decide +kernel

theorem test_hyp_stack_wake : let s := withStack fun k => { k with power := .gated, wakeReq := true }
    (s.stack 0).power = .gated ∧ (s.stack 0).wakeReq = true ∧ Canonical s := by unfold Canonical; decide +kernel

theorem test_hyp_stack_waking : let s := { withStack (fun k => { k with power := .waking 2 }) with pcs := sleepers }
    (s.stack 0).power = .waking 2 ∧ s.level 0 < 4 ∧ (s.pc (pcNo 0 63)).sr = .asleep 20 ∧ Canonical s := by
  unfold Canonical; decide +kernel

/-- Training that passes with nothing to change, and training that fails. -/
def trained (ok : Bool) : TrainResult := ⟨ok, 15, [], []⟩

theorem test_hyp_stack_serves : let s := withStack fun k => { k with power := .training }
    (s.stack 0).power = .training ∧ (s.notAsleep 0).length = (List.range 64).countP (s.pcSheets 0) ∧ (s.stack 0).loseNext = false ∧
      (trained true).cmdOk = true ∧ (s.fullTrain 0 (trained true)).1 = [] ∧ (trained false).cmdOk = false ∧
        (0 : BitVec 256).toNat = (s.stack 0).identity ∧ (1 : BitVec 256).toNat ≠ (s.stack 0).identity ∧ Canonical s := by
  unfold Canonical; decide +kernel

theorem test_hyp_stack_confirmed : let s := withStack fun k => { k with power := .waking 3 }
    (s.stack 0).power = .waking 3 ∧ (s.notAsleep 0).length = (List.range 64).countP (s.pcSheets 0) ∧ (s.stack 0).loseNext = false ∧
      (0 : BitVec 256).toNat = (s.stack 0).identity ∧ Canonical s := by unfold Canonical; decide +kernel

/-- Session 0 holds every block scope. -/
def locked (s : State) : State :=
  s.modSession 0 fun x => { x with scopes := [0, 1, 2, 3, 4, 5, 6, 7], lockNo := 1, leaseEnd := 1000 }

theorem test_hyp_switch : let s := { locked lived with objs := [(oKey 0x2800 2 1, 1)] }
    Canonical s ∧ Heard s rq0 0 roleO ∧ (3 : BitVec 8).toNat ≤ 3 ∧ 3 < (4 : BitVec 8).toNat ∧ (s.session 0).broken = false ∧
      0 ∈ (s.session 0).scopes ∧ s.switchCheck 0 1 = 0 := by unfold Canonical Heard; decide +kernel

theorem test_hyp_switch_channel : let s := { withStack (fun k => { k with switch := some (1, 31), switchNext := some 32 }) with
      pcs := [(62, { switched := true }), (63, { switched := true })] }
    (s.stack 0).switch = some (1, 31) ∧ (s.stack 0).switchNext = some 32 ∧ (s.pc (pcNo 0 62)).switched = true ∧
      (s.pc (pcNo 0 63)).switched = true ∧ Canonical s ∧
        ((withStack fun k => { k with switch := some (1, 31), switchNext := some 31 }).stack 0).switchNext = some 31 := by
  unfold Canonical; decide +kernel

theorem test_hyp_histogram : ((withPc { probeBursts := 128, probeBin := 63 }).pc 0).probeBursts = 128 ∧
    (withPc { probeBursts := 128, probeBin := 63 }).laneState 0 35 = 0 := by decide +kernel

theorem test_hyp_calibration : ((withPc { pendingCal := some [] }).pc 0).pendingCal = some [] := by decide +kernel

/-- Wide passing ranges of lane 0. -/
def eye0 : LaneEye := ⟨0, 0, 0, 0, 127, 0, 127, 0, 127, 0, 127⟩

theorem test_hyp_retrained : let s := withPc { retraining := true }
    (s.pc 0).retraining = true ∧ eye0.pc = 0 ∧ eye0.set.val = s.setOf 0 ∧ s.eyePasses eye0 = true := by decide +kernel

/-! ### Witnesses: regions and the Loft -/

/-- The serving block with fills in progress. -/
def filling (l : List Fill) : State := { lived with regions := { lived.regions with fills := l } }

/-- A priority fill of chunk 0 that has every sector of its share on stack 0 to write. -/
def prio0 : Fill := { chunk := 0, span := 1, stackMask := 1 }

theorem test_hyp_fill_end : (filling [{ prio0 with stackMask := 0 }]).fill? 0 = some { prio0 with stackMask := 0 } ∧
    ({ prio0 with stackMask := 0 } : Fill).span ≠ 0 ∧ prio0.prio = true ∧ prio0.run = none ∧ prio0.stackMask = 2 ^ 0 ∧
      Map.look 0 0 prio0.wrote < prio0.sectors ∧ (filling [prio0]).arbiterRuns 0 = true ∧ (filling [prio0]).level 0 < 3 ∧
        (filling [{ prio0 with span := 0, stackMask := 0 }]).scratchDone { prio0 with span := 0, stackMask := 0 } = true ∧
          (filling [{ prio0 with run := some 7 }]).runDone { prio0 with run := some 7 } 7 = true := by decide +kernel

/-- A raised background fill. -/
def raised1 : Fill := { chunk := 1, prio := false, raised := true, taken := false, stackMask := 1 }

theorem test_hyp_fill_allowance : (filling [raised1]).fill? 1 = some raised1 ∧ raised1.prio = false ∧
    (filling [raised1]).fillRoom ((filling [raised1]).slot raised1.region).known = true ∧ Canonical (filling [raised1]) ∧
      ((filling [raised1]).regions.fills.filter (·.prio)).length < 96 := by unfold Canonical; decide +kernel

theorem test_hyp_background_fill : let f : Fill := { raised1 with span := 1 }
    let s : State := { withStack (fun k => { k with dNow := 1000 }) with
      live := [(oKey 0x3402 5 0, 1)], regions := { lived.regions with fills := [f] } }
    s.live' 0x3402 5 0 = 1 ∧ s.upkeepOn 0 = true ∧ s.regions.fills = [f] ∧ bit f.stackMask 0 = true ∧ 0 < s.fillGo f 0 ∧
      s.fillGo f 0 < f.sectors ∧ s.fillGo { f with wrote := [(0, f.sectors - 1)] } 0 = 1 ∧ 0 < f.sectors := by decide +kernel

/-- A write of the last sector of region 0 that waits with its engine. -/
def ew : Req :=
  { id := 9, master := 0x26, op := .write, bytes := 64, addr := 2097088, region := 0, cls := .upkeep, phase := .wait, dest := .sink, data := some 0 }

theorem test_hyp_engine_wait : let s : State := { lived with reqs := [ew] }
    s.packet.pulls = [] ∧ s.waitEnds = some ew ∧ s.req? ew.id = some ew ∧ (s.entryFor ew.region ew.version (s.reqOff ew)).live = true ∧
      s.lostWrite ew.region ew.version (s.reqOff ew) = false := by decide +kernel

theorem test_hyp_engine_wait_drop : let s : State := { svc with reqs := [ew] }
    s.waitEnds = some ew ∧ s.req? ew.id = some ew ∧ (s.entryFor ew.region ew.version (s.reqOff ew)).live = false ∧ ew.dest = .sink := by
  decide +kernel

theorem test_hyp_engine_wait_none : lived.waitEnds = none := by decide +kernel

/-- Region 0 at version 1 with version 0 held. -/
def twoVersions (now : RegionEntry) (drained : Bool) : State :=
  { lived with regions := { lived.regions with slots := [(0, { now, old := some entry0, cur := some { epoch := 0, handle := 1 }, drained })] } }

theorem test_hyp_version_drop : let live := twoVersions { entry0 with version := 1 } true
    let dead := twoVersions { entry0 with version := 1, live := false } true
    (live.slot 0).old = some entry0 ∧ (live.slot 0).drained = true ∧ (live.slot 0).rebuildWm = none ∧
      (∀ c ∈ goneChunks entry0 (live.slot 0).now, live.fill? c = none) ∧ (live.slot 0).now.live = true ∧
        (dead.slot 0).drained = true ∧ (∀ c ∈ goneChunks entry0 (dead.slot 0).now, dead.fill? c = none) ∧
          (dead.slot 0).now.live = false ∧ ((twoVersions entry0 false).slot 0).drained = false ∧ Canonical live := by
  unfold Canonical; decide +kernel

theorem test_hyp_table_drop : let s (d : Bool) : State :=
      { lived with shot := { lived.shot with table := [(4095, { old := some 1, unitsOld := [(0, 2)], drained := d })] } }
    ((s true).tslot 4095).old = some 1 ∧ ((s true).tslot 4095).drained = true ∧ ((s false).tslot 4095).drained = false := by decide +kernel

theorem test_hyp_loft_port : lived.reqs = [] ∧ lived.loft.zeroing = [] ∧ lived.loft.wbs = [] ∧ lived.loft.rewrites = [] ∧
    lived.clearing 63 = [] ∧ lived.capWaits ≠ some 63 ∧ lived.withheld (32 + 63 / 16) 4 = false ∧
      Map.look 0 63 lived.loft.rdLane * 16 < 1500 * lived.test.laneDuty ∧ Map.look 0 63 lived.loft.wrLane * 16 < 1500 * lived.test.laneDuty := by
  decide +kernel

/-- The fetch of line key 131072 * 63, answered and its fill granted a port cycle. -/
def fetch63 : Req :=
  { id := 8, master := 0x2B, dest := .line (131072 * 63), phase := .done, visible := true, addr := 192, rsp := [(0, { poison := true })] }

theorem test_hyp_line_fill : let s (l : List (Nat × LoftLine)) : State := { lived with reqs := [fetch63], loft := { lived.loft with lines := l } }
    (s []).reqs = [fetch63] ∧ fetch63.whole = none ∧ 131072 * 63 / 131072 = (63 : Fin 64).val ∧
      (let l := Map.look ({} : LoftLine) (131072 * 63) (s [(131072 * 63, { busy := true })]).loft.lines
       l.busy = true ∧ l.region = fetch63.region ∧ l.a = fetch63.addr / 256 ∧ l.valid.getLsbD 3 = false) ∧
        (Map.look ({} : LoftLine) (131072 * 63) (s [(131072 * 63, { busy := true, valid := 8 })]).loft.lines).valid.getLsbD 3 = true ∧
          (Map.look ({} : LoftLine) (131072 * 63) (s []).loft.lines).busy = false := by decide +kernel

/-- A write-back of slice 63 to region 0, its line copied to the buffer. -/
def wb63 : WriteBack := { slice := 63, region := 0, a := 0, dirty := 1, copied := true }

/-- A block with region 0 live and one write-back waiting. -/
def backing : State := { svc with regions := lived.regions, loft := { svc.loft with wbs := [wb63] } }

theorem test_hyp_write_back : backing.loft.wbs.find? (fun w => w.slice == 63 && w.copied && !w.asked) = some wb63 ∧
    (backing.slot wb63.region).now.live = true := by decide +kernel

theorem test_hyp_write_back_lost (off : Nat) : backing.lostWrite 0 0 off = false := by
  have h : (backing.slot 0).lost = false := by decide +kernel
  have k (e : RegionEntry) : backing.lostUnit? e off = none := rfl
  simp [State.lostWrite, h, k]

theorem test_hyp_write_back_cleans : let l : LoftLine := { valid := 1, dirty := 1 }
    let s : State := { lived with loft := { lived.loft with lines := [(131072 * 63, l)], evac := [63] } }
    s.loft.wbs.find? (fun w => w.slice == 63 && w.copied && !w.asked) = none ∧
      s.loft.lines.find? (fun p => p.1 / 131072 == 63 && p.2.dirty != 0 && !p.2.busy && s.mustClean p.1 p.2) = some (131072 * 63, l) ∧
        s.bufferRoom 63 1 false = true ∧ Map.look {} (131072 * 63) s.loft.lines = l ∧ l.valid ≠ 0 := by decide +kernel

theorem test_hyp_loft_patrol : lived.obj 0x3005 1 63 = 0 ∧ Canonical lived ∧ lived.patrolDue 63 = true := by unfold Canonical; decide +kernel

/-- The serving block with a change of the Loft. -/
def withLoft (f : LoftState → LoftState) : State := { lived with loft := f lived.loft }

theorem test_hyp_partition : let s := withLoft fun l => { l with partNext := [(3, some 0x448)], partReady := [3], lines := [(131072 * 48 + 9, { valid := 1 })] }
    Map.look none 3 s.loft.partNext = some 0x448 ∧ 3 ∈ s.loft.partReady ∧
      (∀ p ∈ s.loft.lines, p.1 / 131072 / 16 = 3 → partCache 0x448 ≤ p.1 % 16 → p.2.dirty = 0 ∧ p.2.busy = false) ∧
        partCache 0x448 ≤ (131072 * 48 + 9) % 16 := by decide +kernel

theorem test_hyp_slice_fail : let s := withLoft fun l => { l with failNext := [(63, true)] }
    (∃ f ∈ s.loft.failNext, f.1 = 63) ∧ Canonical s := by unfold Canonical; decide +kernel

theorem test_hyp_slice_fence : let s := withLoft fun l => { l with evac := [63], lines := [(131072 * 63, { valid := 1 })] }
    63 ∈ s.loft.evac ∧ (∀ w ∈ s.loft.wbs, w.slice ≠ 63) ∧
      (∀ p ∈ s.loft.lines, p.1 / 131072 = 63 → p.2.dirty = 0 ∧ p.2.busy = false) := by decide +kernel

theorem test_hyp_slice_return : let s : State := { lived with objs := [(oKey 0x3001 1 63, 62)] }
    s.obj 0x3001 1 63 ≠ 63 ∧ s.eligible 63 = true ∧ s.loft.lines = [] ∧ Canonical s := by unfold Canonical; decide +kernel

theorem test_hyp_slice_return_held :
    let s : State := { withLoft (fun l => { l with lines := [(131072 * 62, { a := 63, valid := 1, dirty := 1 })] }) with
      objs := [(oKey 0x3001 1 63, 62)] }
    s.eligible 63 = true ∧ ∃ p ∈ s.loft.lines, p.1 / 131072 = 62 ∧ sliceEntry p.2.a = 63 ∧ (p.2.dirty ≠ 0 ∨ p.2.busy = true) := by
  decide +kernel

/-! ### Witnesses: shots and engines -/

/-- A slate of a kind: shot 7, epoch 1, tenant 5, a budget of one frame, and the fields given by their lowest bit. -/
def slate (kind : Nat) (fields : List (Nat × Nat)) : BitVec 512 :=
  BitVec.ofNat 512 (7 + 2 ^ 16 + kind * 2 ^ 24 + 5 * 2 ^ 32 + 2 ^ 48 + fields.foldl (fun n f => n + f.2 * 2 ^ f.1) 0)

/-- The serving block with list 0 enabled for tenant 5, up to 256 deep. -/
def listed : State := { lived with objs := [(oKey 0x5001 1 0, 5 + 2 ^ 10 + 256 * 2 ^ 11)] }

/-- A FILL of 64 B at offset 0 of region 0. -/
def fillSlate : BitVec 512 := slate 10 [(42, 3), (192, 64)]
/-- A COPY of 64 B. -/
def copySlate : BitVec 512 := slate 8 [(42, 3), (192, 64), (304, 64)]

theorem test_hyp_post : listed.postCheck fillSlate.toNat 0 none 0 true = (0, .none, 0) ∧
    listed.postCheck copySlate.toNat 0 none 0 true = (0, .none, 0) ∧ lived.postCheck copySlate.toNat 0 none 0 true = (1, .state, abObjState) ∧
    listed.postCheck (slate 11 []).toNat 0 none 0 true = (2, .range, abRange) ∧ Canonical listed ∧ Heard listed rq0 0 roleO ∧
    bit (listed.obj 0x5001 1 0) 10 = true := by unfold Canonical Heard; decide +kernel

/-- A FILL post of port 3 with its slate still to come or with it. -/
def post3 (sent : Bool) : Post := ⟨.port (slot3 0 5) sent, fillSlate⟩

theorem test_hyp_port_post : listed.portReady 3 .bulk = true ∧ listed.tagOut 3 1 = false ∧ listed.reqs = [] ∧ (listed.port 3).due = [] ∧
    (listed.port 3).gathered = [] ∧ (slot3 0 5).addr.toNat < 64 ∧ listed.capRoom (listed.newReq .post (slot3 0 5)) = true ∧
      (post3 true).origin = .port (slot3 0 5) true ∧ (post3 false).origin = .port (slot3 0 5) false ∧
        (listed.postCheck fillSlate.toNat 0 (some 3) 5 false).1 = 0 ∧ slOut fillSlate.toNat ≠ 3 := by decide +kernel

/-- A block that runs one shot, region 0's chunk BLANK. -/
def running (x : Shot) : State :=
  { lived with regions := { lived.regions with written := [] }, shot := { lived.shot with shots := [x] }, time := { lived.time with frame := 9 } }

/-- A FILL shot as admitted. -/
def fillShot : Shot := { id := 7, slate := fillSlate, budgetEnd := 5, finalEnd := 9 }

theorem test_hyp_shot_times : (running fillShot).shot? 7 = some fillShot ∧ fillShot.budgetEnd ≤ (running fillShot).time.frame ∧
    (running fillShot).time.frame < ({ fillShot with finalEnd := 10 } : Shot).finalEnd ∧ fillShot.extFrame ≠ some 9 ∧
      fillShot.finalEnd ≤ (running fillShot).time.frame ∧ lived.time.frame < fillShot.budgetEnd ∧ Canonical (running fillShot) := by
  unfold Canonical; decide +kernel

theorem test_hyp_list_head : let s : State := { lived with shot := { lived.shot with lists := [(63, [{ headSince := some 0 }, {}])] } }
    s.list 63 = [{ headSince := some 0 }, {}] ∧ s.time.frame < 0 + s.live' 0x5000 7 0 ∧
      0 + s.live' 0x5000 7 0 ≤ ({ s with time := { s.time with frame := 10 ^ 9 } } : State).time.frame := by decide +kernel

theorem test_hyp_context_free : let s : State := { lived with time := { lived.time with frame := 10 ^ 9 }, shot := { lived.shot with ctxs := [(7, { state := 4 })] } }
    (s.ctx 7).state = 4 ∧ (s.ctx 7).frame + s.live' 0x5000 4 0 ≤ s.time.frame := by decide +kernel

/-- A gather table of 16 rows of 64 B in region 0, FP32. -/
def tableEntry : BitVec 512 := BitVec.ofNat 512 (2 + 5 * 2 ^ 12 + 16 * 2 ^ 96 + 16 * 2 ^ 128 + 1 * 2 ^ 144 + 64 * 2 ^ 160)

/-- A GATHER of one bag of two rows on unit 31. -/
def gather (bags : List Bag) : Shot :=
  { id := 7, slate := slate 2 [(192, 2), (240, 64), (46, 1), (104, 1), (112, 1), (356, 1)]
    work := { table := tableEntry, lanesL := [31], lens := some [2], bags } }

/-- Nothing goes wrong in any read. -/
def noErr : ReadErrs := ⟨[], []⟩

/-- The reads that an engine has made of region 0 from an offset, all answered with zeros. -/
def answered (who off bytes : Nat) : Req :=
  { id := off, master := 0x25, dest := .eng who, addr := off, bytes, phase := .done, rsp := (upTo (bytes / 64)).map fun i => (i, {}) }

/-- A block that runs one shot, with the reads of its engine. -/
def reading (x : Shot) (l : List Req) : State := { running x with reqs := l }

theorem test_hyp_bag_start : let s := running (gather [])
    s.unitState (unitGather 31) = 0 ∧ s.isReady 41 = true ∧ s.issueRoom 41 3 = true ∧ s.underTest (unitGather 31) = false ∧
      s.shot.shots = [gather []] ∧ slKind (gather []).slate.toNat = 2 ∧ 31 ∈ (gather []).work.lanesL ∧
        (gather []).work.lens = some [2] ∧ (gather []).nextBagFor 31 = some 0 ∧ ((gather []).bagSpan 0).2 ≠ 0 := by decide +kernel

theorem test_hyp_bag_lengths : let x : Shot := { gather [] with work := { (gather []).work with lens := none } }
    let w := x.slate.toNat
    let s := reading x [answered 7 0 64]
    x.work.lens = none ∧ gaPool w ≠ 4 ∧ s.engHas 7 [x.part (slSrc w) (slSrcOff w + slCount w * 8) (gaBags w * 4)] = true ∧
      (s.engBytes? 7 (slSrc w) (slSrcOff w + slCount w * 8) (gaBags w * 4)).isSome = true := by decide +kernel

theorem test_hyp_bag_entry : let g : Bag := { bag := 0, len := 2 }
    let x := gather [g]
    let w := x.slate.toNat
    let need := [x.listPart (slSrcOff w) (slSrcOff w + slCount w * 8) 0 8]
    x.bagUnit 0 = 31 ∧ g.issued < g.len ∧ (running x).engHas 7 need = false ∧ (reading x [answered 7 0 64]).engHas 7 need = true ∧
      (reading x [answered 7 0 64]).engBytes? 7 0 0 8 = some (List.replicate 8 0) ∧
        ofLe (List.replicate 4 (0 : Byte)) < tbRows x.entry := by decide +kernel

theorem test_hyp_row_data : let g : Bag := { bag := 0, len := 2, rows := [(0, 0, 0)], issued := 1 }
    let s : State := reading (gather [g]) [{ id := 1, dest := .row 31 7 0 0, phase := .done }]
    s.working 7 [2] = some (gather [g]) ∧ (gather [g]).work.bags.find? (fun y => y.bag == 0) = some g ∧ g.pooled + 1 < g.len ∧
      Canonical s := by unfold Canonical; decide +kernel

/-- A SCORE of two rows with one query. -/
def score (w : ShotWork) : Shot :=
  { id := 7, slate := slate 3 [(42, 3), (192, 2), (240, 64), (46, 1), (104, 1), (112, 1), (352, 1), (368, 4)]
    work := { w with table := BitVec.ofNat 512 (4 + 5 * 2 ^ 12 + 16 * 2 ^ 96 + 16 * 2 ^ 128 + 2 * 2 ^ 144 + 64 * 2 ^ 160) } }

theorem test_hyp_array_start : let x := score {}
    let w := x.slate.toNat
    let n := scQ w * scStride w x.entry
    let s := reading x [answered 7 0 64]
    3 ∈ s.arraysIn ∧ s.issueRoom (36 + 3) 3 = true ∧ s.underTest (unitArray 3) = false ∧ s.arrayTurn 3 = some x ∧ s.shot? 7 = some x ∧
      x.work.started = false ∧ (running x).engHas 7 [x.part (slSrc w) (slSrcOff w) n] = false ∧
        s.engHas 7 [x.part (slSrc w) (slSrcOff w) n] = true ∧ (s.engBytes? 7 (slSrc w) (slSrcOff w) n).isSome = true := by decide +kernel

theorem test_hyp_array_row : let x := score { started := true, pos := 1 }
    let s := reading x [answered 7 64 64]
    s.arrayTurn 0 = some x ∧ min (s.live' 0x5400 6 0) (slCount x.slate.toNat - x.work.pos) = 1 ∧ x.work.started = true ∧
      s.engHas 7 [x.rowsPart 1 1] = true ∧ (s.readRow x 1).isSome = true ∧ s.selectGo = true ∧ scFirst x.slate.toNat = 0 := by decide +kernel

/-- A SELECT of one list of two entries, two to keep, sent out. -/
def select (w : ShotWork) : Shot :=
  { id := 7, slate := slate 5 [(42, 3), (192, 1), (240, 2), (46, 2), (80, 9), (104, 1), (112, 1), (352, 2)], work := w }

theorem test_hyp_select_deal : let x := select { pos := 1 }
    let s := reading x [answered 7 0 64]
    let need : List EngPart := [{ region := 0, version := x.ver 0, reads := coverReads (([0].map fun i => seOff x.slate.toNat (1 + i) / 64).eraseDups) }]
    s.working 7 [5] = some x ∧ s.selectUnits ≠ [] ∧ (∀ u ∈ s.selectUnits, s.underTest (unitSelect u) = false) ∧ s.issueRoom 40 3 = true ∧
      min 64 (slCount x.slate.toNat * slSize x.slate.toNat - x.work.pos) = 1 ∧ (running x).engHas 7 need = false ∧
        s.engHas 7 need = true ∧ (s.engBytes? 7 0 (seOff x.slate.toNat 1) 8).isSome = true := by decide +kernel

theorem test_hyp_select_merge : let x := select { pos := 2 }
    let s := running x
    s.issueRoom 40 3 = true ∧ s.working 7 [3, 5] = some x ∧ s.selectUnits = 0 :: (List.range 15).map (· + 1) ∧ s.underTest (unitSelect 0) = false ∧
      x.work.merged = false ∧ seK x.slate.toNat ≠ 0 ∧ slCount x.slate.toNat * slSize x.slate.toNat ≤ x.work.pos ∧
        slOut x.slate.toNat = 2 := by decide +kernel

/-- A FILTER that inserts one key into a cuckoo set of 2^10 buckets. -/
def filter : Shot :=
  { id := 7, slate := slate 6 [(42, 3), (192, 1), (240, 8), (46, 1)], work := { table := BitVec.ofNat 512 (3 + 5 * 2 ^ 12 + 10 * 2 ^ 34) } }

theorem test_hyp_filter : let s := reading filter [answered 7 0 64]
    s.working 7 [6] = some filter ∧ filter.work.pos < slCount filter.slate.toNat ∧ s.isReady 40 = true ∧ s.issueRoom 40 3 = true ∧
      (running filter).engHas 7 [filter.part 0 0 8] = false ∧ s.engHas 7 [filter.part 0 0 8] = true ∧
        s.engBytes? 7 0 0 8 = some (List.replicate 8 0) ∧
          s.unitState (unitFilter (keyHash filter.entry (ofLe (List.replicate 8 (0 : Byte))) % 16)) = 0 ∧
            s.underTest (unitFilter (keyHash filter.entry (ofLe (List.replicate 8 (0 : Byte))) % 16)) = false := by decide +kernel

/-- A SCAN of 100 B. -/
def scan : Shot := { id := 7, slate := slate 9 [(42, 3), (192, 100)], work := { pos := 64 } }

theorem test_hyp_scan : let s := reading scan [answered 7 0 128]
    s.working 7 [9] = some scan ∧ s.isReady 41 = true ∧ s.issueRoom 41 1 = true ∧ min 64 (slCount scan.slate.toNat - scan.work.pos) = 36 ∧
      (running scan).engHas 7 [scan.part 0 0 100] = false ∧ s.engHas 7 [scan.part 0 0 100] = true ∧
        (s.engBytes? 7 0 64 36).isSome = true := by decide +kernel

theorem test_hyp_copy : let x : Shot := { id := 7, slate := copySlate }
    let s := reading x [answered 7 0 64]
    s.working 7 [7, 8] = some x ∧ slKind x.slate.toNat = 8 ∧ (∀ st, st < 32 → (s.stack st).mig = none) ∧ s.issueRoom 41 1 = true ∧
      s.runRoom (s.runStarts (x.req 0x26 .upkeep 0) 64 (64 + 64) 64 64).length = true ∧ (running x).engHas 7 [x.part 0 0 64] = false ∧
        s.engHas 7 [x.part 0 0 64] = true := by decide +kernel

theorem test_hyp_convert : let x : Shot := { id := 7, slate := slate 7 [(42, 3), (192, 300), (104, 1), (112, 2), (304, 4096)], work := { pos := 256 } }
    let s := reading x [answered 7 1024 256]
    let need : List EngPart := [{ region := 0, version := x.ver 0, reads := coverReads (sectorsOf 1024 176 ++ sectorsOf (1200 + 8) 0).eraseDups }]
    s.working 7 [7, 8] = some x ∧ slKind x.slate.toNat = 7 ∧ elemBits 1 = 32 ∧ isMx (slIn x.slate.toNat) = false ∧ slOutFmt x.slate.toNat = 2 ∧
      isMx 2 = false ∧ s.issueRoom 41 (if clsOf (slClass x.slate.toNat) == .upkeep then 1 else 6) = true ∧
        s.runRoom ((s.runStarts (x.req 0x26 .upkeep 0) 4096 (4096 + 600) (4096 + 512) 88).length + 0) = true ∧
          (running x).engHas 7 need = false ∧ s.engHas 7 need = true := by decide +kernel

theorem test_hyp_fill_shot : (running fillShot).working 7 [10] = some fillShot ∧
    (running fillShot).runRoom ((running fillShot).runStarts (fillShot.req 0x28 .upkeep 0) 0 64 0 64).length = true := by
  decide +kernel

/-! ### Witnesses: packets -/

/-- A REDUCE over 4 chunks of 64 B (16 FP32 elements) of members 0 and 1, window 4. -/
def reduce (w : ShotWork) : Shot :=
  { id := 7, slate := slate 1 [(44, 1), (46, 2), (80, 9), (104, 1), (112, 1), (192, 4), (240, 64), (368, 4)]
    work := { w with table := BitVec.ofNat 512 (1 + 5 * 2 ^ 12 + 2 ^ 32 + 2 * 2 ^ 89), lanesL := [0] } }

/-- A contribution of member 0 to chunk 3. -/
def hdr0 : ContribHdr := { shot := 7, epoch := 1, kind := 1, chunk := 3, contributor := 0, leaves := 1, length := 64 }

theorem test_hyp_contribution : let s := running (reduce {})
    let x := reduce {}
    s.block.boot = .up ∧ s.reduceShot 7 1 = some x ∧ hdr0.chunk.toNat < slCount x.slate.toNat ∧ hdr0.length.toNat = slSize x.slate.toNat ∧
      1 = (64 + hdr0.length.toNat + 511) / 512 ∧ isMember x.entry 0 = true ∧ isMember x.entry 2 = false ∧
        s.reduceShot 8 1 = none ∧ slCount x.slate.toNat ≤ 4 ∧ min 1 (128 - 128) < 1 := by decide +kernel

/-- A contribution that waits in its lane. -/
def item0 : LaneItem := { shot := 7, epoch := 1, slot := 0, chunk := 0, contributor := 1, leaves := 1, pipe := 3, beats := 1 }

theorem test_hyp_lane : let x := reduce { slots := [(0, { arrived := 1, bitmap := 1, leaves := 1 })] }
    let s : State := { running x with shot := { (running x).shot with lanes := [(0, [item0])] } }
    Map.look [] 0 s.shot.lanes = [item0] ∧ s.underTest (unitRedLane 0) = false ∧ s.reduceShot 7 1 = some x ∧
      item0.chunk = item0.slot + rdWindow x.slate.toNat * (x.rslot 0).next ∧ (x.rslot 0).bitmap.getLsbD 1 = false ∧
        (x.rslot 0).bitmap.getLsbD 0 = true ∧ memberCount x.entry ≤ (x.rslot 0).arrived + 1 ∧ mbLeaves x.entry = 0 ∧
          0 + 1 < memberCount x.entry ∧ 0 + rdWindow x.slate.toNat * 0 < 4 ∧
            (0 : Nat) < 0 + rdWindow x.slate.toNat * ({ next := 1 } : RSlot).next := by decide +kernel

theorem test_hyp_lane_room : let x := reduce { slots := [(0, { arrived := 1, bitmap := 1, leaves := 1 })] }
    let ports := x.lanePorts (x.rslot 0)
    ({ running x with loft := { lived.loft with rdLane := [(0, 9)], wrLane := [(0, 9)] } } : State).laneRoom 0 ports = true ∧
      (running x).laneRoom 0 ports = false := by decide +kernel

theorem test_hyp_credit : 31 ∈ ({ lived with entry := { owed := [31] } } : State).entry.owed := by decide +kernel

theorem test_hyp_result : let p : RsPacket := { ty := 1, shot := 7, last := true }
    let s : State := { running (reduce {}) with entry := { results := [p, { ty := 2 }] } }
    s.entry.results = [p, { ty := 2 }] ∧ s.shot? p.shot = some (reduce {}) ∧ (({ ty := 2 } : RsPacket).ty ≠ 1) := by decide +kernel

/-- The Stockroom enabled with one unit. -/
def stocked (q : Egress) : State :=
  { lived with packet := { enabled := true, pages := 4, units := [(0, 0)], queues := [(511, q)] } }

/-- A descriptor for queue 511 of a packet of so many bytes. -/
def desc511 (len : Nat) : BitVec 64 := BitVec.ofNat 64 (511 + len * 2 ^ 21 + len * 2 ^ 37)

theorem test_hyp_spill : (stocked {}).packet.enabled = true ∧ (stocked {}).spillStaged + 16448 ≤ 65536 ∧
    65536 < ({ stocked {} with reqs := List.replicate 200 { master := 0x29, op := .write, bytes := 256, dest := .sink } } : State).spillStaged + 16448 ∧ (stocked {}).isReady 41 = true ∧ dsPort (desc511 100).toNat = 511 ∧
    dsLen (desc511 100).toNat = 100 ∧ dsBuf (desc511 100).toNat = 100 ∧ dsLen (desc511 0).toNat = 0 ∧
    16383 < dsLen (desc511 16384).toNat ∧ ((stocked {}).egress 511).link ≠ 1 ∧ ((stocked { link := 2 }).egress 511).link = 2 ∧
      2 ^ (stocked {}).live' 0x5801 1 511 * (stocked {}).freeBytes ≥ 64 * (0 + recordBytes 100) ∧
        ({ stocked {} with packet := { (stocked {}).packet with pages := 0 } } : State).freeBytes = 0 ∧
          (desc511 100).toNat / 512 % 2 = 0 := by decide +kernel

theorem test_hyp_pull_empty : (stocked {}).block.boot = .up ∧ ((stocked {}).egress 511).link ≠ 1 ∧ ((stocked {}).egress 511).recs = [] := by
  decide +kernel

/-- One record of 64 B in page 0, and one behind it. -/
def rec64 : SpillRec := { desc := (desc511 32).toNat, pos := 64, bytes := 64 }

theorem test_hyp_pull : let q : Egress := { recs := [rec64, { rec64 with pos := 128, seq := 1 }], pages := [0], tail := 192, occ := 128 }
    let s : State := { stocked q with objs := [(oKey 0x5800 1 0, 0)] }
    let u : State := { s with reqs := [answered (pullReader 511) 128 64] }
    s.packet.enabled = true ∧ s.packet.pulls = [] ∧ (s.egress 511).link = 0 ∧ (s.egress 511).recs = rec64 :: [{ rec64 with pos := 128, seq := 1 }] ∧
      s.engHas (pullReader 511) [s.pullPart q rec64] = false ∧ u.engHas (pullReader 511) [u.pullPart q rec64] = true ∧
        u.readRecord 511 q rec64 = .ok (List.replicate 64 0) := by decide +kernel

theorem test_hyp_link : ((stocked { recs := [rec64], link := 1, holdEnd := 5 }).egress 511).link = 1 ∧ lived.time.frame < 5 ∧
    ((stocked { recs := [rec64] }).egress 511).recs ≠ [] ∧ (running fillShot).time.frame < 10 ∧ 9 ≤ (running fillShot).time.frame := by
  decide +kernel

/-- A capture ring of 4 records on the stacks with stop. -/
def capturing (wi : Nat) : State := { lived with objs := [(oKey 0x5900 1 0, 2 + 4 + 4 * 2 ^ 80), (oKey 0x5900 3 0, wi)] }

theorem test_hyp_capture : crPlace (capturing 4).capRing ≠ 0 ∧ (capturing 4).isReady 41 = true ∧ (capturing 4).packet.capStage = [] ∧
    crStop (capturing 4).capRing = true ∧ crRecords (capturing 4).capRing ≤ (capturing 4).obj 0x5900 3 0 - (capturing 4).obj 0x5900 4 0 ∧
    (capturing 4).capStaged < 64 ∧
    64 ≤ ({ capturing 4 with packet := { (capturing 4).packet with capStage := List.replicate 64 0 } } : State).capStaged ∧
    ¬ crRecords (capturing 3).capRing ≤ (capturing 3).obj 0x5900 3 0 - (capturing 3).obj 0x5900 4 0 ∧
      (capturing 4).obj 0x5900 4 0 ≤ (4 : BitVec 64).toNat ∧ (capturing 4).obj 0x5900 3 0 < (5 : BitVec 64).toNat ∧
        Canonical (capturing 4) ∧ Heard (capturing 4) rq0 0 roleO := by unfold Canonical Heard; decide +kernel

theorem test_hyp_stockroom : lived.packet.enabled = false ∧ lived.packet.enableReq = none ∧ lived.packet.units = [] ∧
    (stocked {}).packet.enableReq = none ∧ (0, 0) ∈ (stocked {}).packet.units ∧
      ({ stocked {} with objs := [(oKey 0x3005 1 0, 1)] } : State).obj 0x3005 1 0 ≠ 0 := by decide +kernel

theorem test_hyp_stockroom_fits : let s : State := { lived with
      objs := [(oKey 0x5800 1 0, 0)], regions := { lived.regions with slots := [(0, { now := { entry0 with loft := 0 } })] } }
    s.spillFits = true ∧ (s.unitsAscending s.bitmapUnits).isSome = true := by decide +kernel

/-! ### Witnesses: integrity, repair and self-test -/

theorem test_hyp_patrol : let s : State := { lived with live := [(oKey 0x6001 2 0, 1)], objs := [(oKey 0x6001 3 0, 134217727)], time := { lived.time with frame := 10 ^ 12 } }
    s.live' 0x6001 2 0 = 1 ∧ s.upkeepOn 0 = true ∧ s.test.trimStep = 0 ∧ (s.stack 0).trim = 0 ∧ (s.stack 0).patrolLast ≤ s.time.frame ∧
      s.obj 0x6001 3 0 < 134217728 ∧
        (s.stack 0).patrolStart + s.obj 0x6001 3 0 * patrolGap (s.stack 0).patrolFor ≤ s.time.frame := by decide +kernel

theorem test_hyp_leak : ({ lived with test := { lived.test with boundaryLeak := true } } : State).test.boundaryLeak = true := rfl

/-- Stack 0 copies line 3 of entry 0. -/
def splicing : State := withStack fun k => { k with copies := [{ entry := 0, line := 3 }] }

theorem test_hyp_splice : (splicing.stack 0).copies = [{ entry := 0, line := 3 }] ∧
    splicing.stackServes 0 .critical = true ∧ splicing.lineNeed (mkPlace 0 0 0 0 0 12) = .copy ∧
      ({ splicing with regions := {} } : State).lineNeed (mkPlace 0 0 0 0 0 12) = .skip ∧
        ({ splicing with regions := { lived.regions with written := [], fills := [{ chunk := 0 }] } } : State).lineNeed
          (mkPlace 0 0 0 0 0 12) = .wait := by decide +kernel

theorem test_hyp_lost_line : let s := withStack fun k => { k with lostUnits := [{ dst := some 3, last := 1 }] }
    s.upkeepOn 0 = true ∧ (s.stack 0).lostUnits = [{ dst := some 3, last := 1 }] ∧
      s.placeRegion (unitLinePlace 0 (s.rankMap 0 0) 0) = some (0, 0) ∧ s.written (chunkOf (s.slot 0).now 0) = true := by decide +kernel

theorem test_hyp_migration_start : let s := withStack fun k => { k with migQ := [(0, false, false)], migGo := true }
    (s.stack 0).migGo = true ∧ (s.stack 0).mig = none ∧ s.rankState 0 0 = 0 ∧ (s.lowSpare 0).isSome = true ∧
      ((List.range 32).filter fun i => (s.stack i).mig.isSome).length < 8 ∧ (s.stack 0).power = .service := by decide +kernel

theorem test_hyp_migration_no_spare : let s := { withStack (fun k => { k with migQ := [(0, false, false)] }) with
      objs := [60, 125, 190, 255].map fun u => (oKey 0x6030 3 u, 2) }
    s.lowSpare 0 = none := by decide +kernel

/-- Stack 0 migrates a unit to a spare. -/
def migrating (m : Migration) : State := withStack fun k => { k with mig := some m, migCommit := true }

theorem test_hyp_migration : let m : Migration := { src := 0, dst := 252 }
    let s := migrating m
    (s.stack 0).mig = some m ∧ m.wanted = [] ∧ m.pulled = [] ∧ m.wm < 2097152 ∧ s.stackHolds 0 = true ∧
      s.lineNeed (m.line 0 m.wm) = .copy ∧ s.upkeepOn 0 = true ∧ (s.stack 0).dollyUsed + 4 ≤ s.live' 0x6030 1 0 ∧
        (s.stack 0).migCommit = true ∧ (s.stack 0).evacuate = [] ∧ m.src ≠ m.dst := by decide +kernel

/-- Region 0 moves from stack 1 to stack 0 in a rebuild. -/
def rebuilding (wm : Nat) : State :=
  { lived with
    objs := [(oKey 0x6031 2 1, 2)]
    regions := { slots := [(0, { now := { entry0 with version := 1 }, old := some { entry0 with stackMask := 2 }, rebuildWm := some wm, homeMask := 1 })]
                 written := [(0, true)] } }

theorem test_hyp_rebuild : (rebuilding 8191).rebuildPull 0 = none ∧ ((rebuilding 8191).slot 0).pulled = [] ∧
    8191 < entry0.size * 8192 ∧ entry0.size * 8192 ≤ 8192 ∧
    (rebuilding 8191).written (chunkOf { entry0 with stackMask := 2 } (8191 * 256)) = true ∧
      (rebuilding 8191).obj 0x6031 2 ((rebuilding 8191).stackOf { entry0 with stackMask := 2 } (8191 * 256)) ≠ 0 ∧
        (rebuilding 8191).upkeepOn ((rebuilding 8191).stackOf ((rebuilding 8191).slot 0).now (8191 * 256)) = true := by decide +kernel

theorem test_hyp_declare : (88327 : BitVec 32).toNat < 88328 ∧ 88328 ≤ (88328 : BitVec 32).toNat := by decide

theorem test_hyp_readmit : let s : State := { lived with objs := [(oKey 0x6040 5 88227, 1)] }
    s.unitState 88227 = 1 ∧ s.block.state = .service ∧ s.test.readmit = none ∧ (88227 : BitVec 32).toNat < 88228 := by decide +kernel

theorem test_hyp_readmit_result : ({ lived with test := { lived.test with readmit := some 88327 } } : State).test.readmit = some 88327 := rfl

theorem test_hyp_retirement_index : lived.obj 0x6050 3 0 ≤ (0 : BitVec 64).toNat ∧ (0 : BitVec 64).toNat ≤ lived.obj 0x6050 2 0 ∧
    lived.obj 0x6050 2 0 < (1 : BitVec 64).toNat ∧ ({ lived with objs := [(oKey 0x6050 3 0, 1)] } : State).obj 0x6050 3 0 > 0 := by
  decide +kernel

theorem test_hyp_slice_request : let s : State := { lived with live := [(oKey 0x8800 1 0, 1)] }
    s.live' 0x8800 1 0 = 1 ∧ s.test.slices.length < s.live' 0x8800 2 0 ∧ s.test.trimStep < 4 ∧ s.test.reruns = [] ∧
      s.test.passPos < passSlices ∧ (s.nextSlice 3 s.test.passPos).isSome = true := by decide +kernel

theorem test_hyp_slice_end : let s : State := { lived with test := { lived.test with slices := [{ kind := 2, unit := unitArray 0 }] } }
    s.test.slices.find? (fun x => x.unit == unitArray 0) = some { kind := 2, unit := unitArray 0 } ∧ unitArray 0 < 2 ^ 32 ∧
      0 < fullCount 2 ∧ fullCount 2 ≤ (BitVec.ofNat 16 (fullCount 2)).toNat := by decide +kernel

theorem test_hyp_sample : (Map.look ({} : CapReg) 1087 ({ lived with test := { lived.test with capture := [(1087, { held := some 5 })] } } : State).test.capture).held =
    some 5 := by decide +kernel

theorem test_hyp_sample_index : lived.obj 0x9003 3 0 ≤ (0 : BitVec 64).toNat ∧ (0 : BitVec 64).toNat ≤ lived.obj 0x9003 2 0 ∧
    lived.obj 0x9003 2 0 < (1 : BitVec 64).toNat := by decide +kernel

/-! ### Witnesses: keys, reset, bring-up, power -/

theorem test_hyp_rotate : (lived.slot 0).now.live = true ∧ (lived.slot 0).now.loft ≠ 2 ∧ (lived.slot 0).sweep = none ∧
    (lived.slot 0).keyNext = none ∧ lived.obj 0x6800 4 0 = 0 ∧ Heard lived rq0 0 roleK ∧ Canonical lived := by
  unfold Heard Canonical; decide +kernel

/-- Region 0 of two keys being swept on stack 0, from a sector of its line order. -/
def sweeping (pos : Nat) (w : Sweep) : State :=
  { lived with
    regions := { lived.regions with
      slots := [(0, { now := entry0, homeMask := 1, cur := some { epoch := 1, handle := 2 }, prev := some { epoch := 0, handle := 1 }, sweep := some w })] }
    stackTab := Map.upd {} 0 (fun k => { k with sweepPos := [(0, pos)] }) lived.stackTab }

theorem test_hyp_sweep : let s := sweeping 5 { stackMask := 1 }
    (s.slot 0).sweep = some { stackMask := 1 } ∧ bit 1 0 = true ∧ bit 0 0 = false ∧ s.upkeepOn 0 = true ∧
      (s.stack 0).sweepUsed < s.live' 0x6802 4 0 ∧ Map.look 0 0 (s.stack 0).sweepPos % 4 ≠ 0 ∧
        s.blindAt (s.mappedPlace (s.entryFor 0 0 320) 320) = false ∧ s.sectorBusy (s.sectorPlace 0 0 320) = false := by decide +kernel

theorem test_hyp_sweep_last : let s := sweeping 32768 { stackMask := 1 }
    Map.look 0 0 (s.stack 0).sweepPos % 4 = 0 ∧
      s.nextSweepLine 0 0 entry0 (entry0.size * 8192 - 32768 / 4) (32768 / 4) = none := by decide +kernel

theorem test_hyp_sweep_complete : ((sweeping 0 { stackMask := 1, done := 1, destroy := true }).slot 0).sweep =
      some { stackMask := 1, done := 1, destroy := true } ∧
    ((sweeping 0 { stackMask := 1, done := 1, destroy := true }).slot 0).prev = some { epoch := 0, handle := 1 } := by decide +kernel

theorem test_hyp_erase : lived.shotNames 0 = false ∧ (lived.slot 0).next = none ∧ (lived.slot 0).old = none ∧
    (∀ x ∈ lived.regions.slots, x.2.erasing = false) := by decide +kernel

theorem test_hyp_erase_effect : let s : State :=
      { lived with regions := { lived.regions with
        slots := [(0, { now := entry0, cur := some { epoch := 0, handle := 1 }, erasing := true, eraseNow := true })] } }
    (s.slot 0).erasing = true ∧ (s.slot 0).eraseNow = true ∧ (s.slot 0).now.live = true ∧ (s.slot 0).now.loft ≠ 2 ∧
      s.obj 0x6800 4 0 = 0 ∧ Canonical s := by unfold Canonical; decide +kernel

theorem test_hyp_health : let s : State := { lived with objs := [(oKey 0x6800 4 0, 2)], keys := { lived.keys with goodRun := 1024 } }
    s.obj 0x6800 4 0 = 2 ∧ 1024 ≤ s.keys.goodRun ∧ s.obj 0x6800 4 0 ≠ 0 ∧ lived.obj 0x6800 4 0 = 0 := by decide +kernel

theorem test_hyp_microcode : let s : State := { svc with keys := { svc.keys with minimum := 3, running := 4, raises := 1 } }
    s.keys.minimum ≤ (3 : BitVec 16).toNat ∧ (2 : BitVec 16).toNat < s.keys.minimum ∧ s.keys.minimum < s.keys.running ∧
      0 < s.keys.raises ∧ Heard s rq0 0 roleK := by unfold Heard; decide

theorem test_hyp_scan_request : svc.block.scanEn = false ∧ svc.block.rstLow = false ∧
    ({ svc with block := { svc.block with scanStep := 2 } } : State).block.scanStep = 2 := by decide

theorem test_hyp_boot : State.reset.block.boot = .coreTest ∧ ({ State.reset with block := { boot := .image } } : State).block.boot = .image ∧
    ({ State.reset with block := { boot := .boundary } } : State).block.boot = .boundary := by decide

/-- An image with a good signature, below a minimum of 3 or at it. -/
def image (v : BitVec 16) : BootImage := ⟨true, v, 0, [], false⟩

theorem test_hyp_image : (image 3).sigOk = true ∧ 3 ≤ (image 3).version.toNat ∧ (image 2).version.toNat < 3 := by decide

/-- Stack 0 in bring-up at a step. -/
def bringing (n : Nat) : State := withStack fun k => { k with power := .bringUp, bring := n }

/-- A step's good result at 30 degrees. -/
def good : BringResult := ⟨true, 0, some 240, true, trained true, [], [], []⟩

theorem test_hyp_bring : ((bringing 1).stack 0).power = .bringUp ∧ ((bringing 1).stack 0).bring = 1 ∧ good.answered = true ∧
    good.reading = some 240 ∧ (240 : Int) < (bringing 1).threshold 4 ∧ ((bringing 1).stack 0).hotStart = false ∧
      ((bringing 1).pcsLost 0).length ≤ 4 ∧ good.rows = [] ∧ good.badPcs = [] ∧ ((bringing 5).stack 0).bring = 5 ∧
        ({ good with answered := false } : BringResult).answered = false ∧ Canonical (bringing 1) := by
  unfold Canonical; decide +kernel

theorem test_hyp_quadrant : let s := up .bringUp
    s.readiness 35 = 0 ∧ s.obj 0x8801 5 35 = 0 ∧ s.obj 0x3005 1 48 = 0 ∧ s.obj 0x8801 5 39 = 0 ∧ s.test.tested = [] := by decide +kernel

theorem test_hyp_gate : (withLoft fun l => { l with retested := [0] }).loft.retested.contains (32 - 32) = true ∧ (lived.gateHeld 41 = false) ∧ lived.readiness 41 = 1 ∧ (stocked {}).gateHeld 41 = true ∧
    ({ lived with block := { lived.block with ready := [(32, 4)] } } : State).readiness 32 = 4 := by decide +kernel

theorem test_hyp_rail : let s : State := { lived with time := { frame := 1 } }
    s.live' 0x7002 2 0 * 100 < [10 ^ 9].getD 0 0 ∧ (s.stack 0).power ≠ .bringUp ∧ (s.stack 0).shareFrom < s.time.frame := by
  decide +kernel

theorem test_hyp_temperature : (lived.stack 0).power = .service ∧ lived.nextLevel 0 1200 = 4 ∧ lived.nextLevel 0 (-320) = 0 := by
  decide +kernel

theorem test_hyp_t4 : let s := { withStack (fun k => { k with power := .entering, t4Since := some 0 }) with
      pcs := sleepers, time := { lived.time with frame := 100000 } }
    (s.stack 0).t4Since = some 0 ∧ 0 + 100000 ≤ s.time.frame ∧ (s.stack 0).power = .entering ∧ s.notAsleep 0 = [] := by decide +kernel

theorem test_hyp_slip : let x : Shot := { id := 7, slate := slate 10 [(80, 9)], runSince := some 3 }
    (running x).shot? 7 = some x ∧ (running x).shot.tails = [] ∧ x.affected = false ∧ x.slipFrame ≠ some 9 ∧ slGroup x.slate.toNat ≠ 0 := by decide +kernel

/-! ### Witnesses: management -/

theorem test_hyp_state_requests : (up .drain).block.state = .drain ∧ (up .test).block.state = .test ∧
    (∀ d, d < 43 → ({ up .bringUp with block := { (up .bringUp).block with ready := (upTo 43).map fun d => (d, 1) } } : State).readiness d ≠ 0) ∧
      (up .bringUp).readiness 42 = 0 ∧ svc.shot.shots = [] ∧ svc.shot.lists = [] ∧ Heard (up .drain) rq0 0 roleO ∧
        Heard (up .test) rq0 0 roleO ∧ svc.block.boot = .up ∧
          ({ svc with block := { svc.block with request := some .safe } } : State).block.request = some .safe := by
  unfold Heard; decide +kernel

theorem test_hyp_lock : (svc.session 0).broken = false ∧ scopeRole (svc.session 0) 7 = 0 ∧ scopeRole (svc.session 0) 0x4FF = 0 ∧
    (∀ m : Fin 4, m ≠ 0 → 7 ∉ (svc.session m.val).scopes) ∧
      7 ∈ (({ svc with mgmt := { svc.mgmt with sessions := svc.mgmt.sessions ++ [(3, { isOpen := true, scopes := [7] })] } } : State).session 3).scopes := by
  decide +kernel

theorem test_hyp_locked : Heard (locked svc) rq0 0 roleAll ∧ ((locked svc).session 0).scopes ≠ [] ∧ ((locked svc).session 0).staged = [] ∧
    ((locked svc).session 0).broken = false ∧
      ((locked { svc with time := { svc.time with frame := 1000 } }).session 0).leaseEnd ≤ 1000 := by unfold Heard; decide +kernel

/-- A staged write of 0x4000.01. -/
def staged1 : Staged := { index := 0x4000, sub := 1, elem := 0, value := 1, bytes := 1 }

theorem test_hyp_commit : (match (((locked svc).modSession 0 fun x => { x with lastMsg := 0 }).modSession 0 fun x =>
    { x with broken := false }).commitStaged [staged1] with | .ok _ => true | .error _ => false) = true := by decide +kernel

theorem test_hyp_session_timeout : (svc.session 0).isOpen = true ∧ (svc.session 0).lastMsg + 2 * (svc.session 0).hbFrames ≤ svc.time.frame := by
  decide +kernel

theorem test_hyp_outside : rqOut.session = none ∧ aliasIx svc.compat 0x7800 ≠ 0x1000 ∧ aliasIx svc.compat 0x7800 ≠ 0x1100 := by decide +kernel

theorem test_hyp_write_locked : let s := locked svc
    let x := s.session 0
    Heard s rq0 0 (writers 0x4000 1) ∧ (objRow? 0x4000 1).isSome = true ∧
      (match objRow? 0x4000 1 with | some r => r.acc == 1 && decide (0 < r.elems) && decide (0 < r.size) && r.locked | none => false) = true ∧
        s.writeTenant x 0 0x4000 0 1 = 0 ∧ s.lockedShape 0x4000 1 0 1 = 0 ∧ (∀ k ∈ s.scopesFor 0x4000 1 0 1, k ∈ x.scopes) ∧
          (x.stage staged1).stagedBytes ≤ 262144 := by unfold Heard; decide +kernel

theorem test_hyp_write_direct : (match objRow? 0x7002 1 with | some r => r.acc == 1 && decide (0 < r.elems) && decide (0 < r.size) && !r.locked | none => false) = true ∧
    svc.directRange 0x7002 1 [(0, 900)] 0 900 = 0 ∧ svc.directState 0x7002 1 0 = 0 ∧ Heard svc rq0 0 (writers 0x7002 1) := by
  unfold Heard; decide +kernel

theorem test_hyp_write_direct_own (u : State) : u.ownCommand rq0 0x7002 1 0 900 = none := by
  unfold State.ownCommand; rfl

theorem test_hyp_acknowledge : svc.obj 0x1301 1 0 ≤ (0 : BitVec 64).toNat ∧ (0 : BitVec 64).toNat ≤ svc.obj 0x1300 2 0 := by decide +kernel

theorem test_hyp_doorbell : svc.mgmt.mbBusy = false ∧ ({ svc with mgmt := { svc.mgmt with mbBusy := true } } : State).mgmt.mbBusy = true ∧
    svc.block.rstLow = false ∧ svc.mgmt.i3cAddr = none := by decide

theorem test_hyp_spdm : svc.block.boot = .up ∧ svc.keys.identity = true ∧ (svc.session 1).isOpen = false ∧ (svc.session 0).isOpen = true ∧
    (∀ k : Fin 4, (({ svc with mgmt := { sessions := (upTo 4).map fun n => (n, { isOpen := true }) } } : State).session k.val).isOpen = true) ∧
      ({ svc with mgmt := { svc.mgmt with handshake := some { transport := 2, endpoint := 9 } } } : State).mgmt.handshake =
        some { transport := rqOut.transport.val, endpoint := rqOut.endpoint.toNat } := by decide +kernel

theorem test_hyp_leaf : ({ ok := true, root := 3, roles := 8, tenant := 1023 } : LeafCert).ok = true := rfl

theorem test_hyp_i3c : ({ svc with mgmt := { svc.mgmt with i3cAddr := some 127 } } : State).mgmt.i3cAddr ≠ none ∧ svc.block.rstLow = false ∧
    (({ svc with mgmt := { sessions := [(0, { isOpen := true, transport := 0 })] } } : State).session 0).transport = 0 := by decide

theorem test_hyp_safe_held : SafeHeld (up .safe) ∧ (up .safe).block.state = .safe ∧ SafeHeld svc := by unfold SafeHeld; decide

/-! ### Ill-formed commands are refused by the check -/

/-- An error symbol beyond the last position, and one that changes nothing. -/
def badErr : ReadErrs := ⟨[(0, 78, 1)], []⟩

theorem test_wf_ports : Instr.wf (.reservedOperation (slot3 0 5) 6 3) = false ∧ Instr.wf (.reservedOperation (slot3 0 5) 7 0) = true ∧
    Instr.wf (.writeData 3 []) = false ∧ Instr.wf (.writeData 3 (List.replicate 9 0)) = false := by decide

theorem test_wf_errors : Instr.wf (.readDataReturn 0 0 [(78, 1)]) = false ∧ Instr.wf (.readDataReturn 0 0 [(77, 0)]) = false ∧
    Instr.wf (.secondLookResult 0 0 [(0, 256)]) = false ∧ Instr.wf (.patrolStep 0 badErr) = false ∧
        Instr.wf (.patrolStep 0 noErr) = true := by decide

theorem test_wf_more_errors : Instr.wf (.spliceLineCopy 0 badErr) = false ∧ Instr.wf (.migrationLineCopy 0 badErr) = false ∧
    Instr.wf (.rebuildLineCopy 0 badErr) = false ∧ Instr.wf (.sweepStep 0 0 badErr) = false := by decide

theorem test_wf_packets : Instr.wf (.contribution 0 hdr0 0 []) = false ∧ Instr.wf (.contribution 0 hdr0 1 (List.replicate 449 0)) = false ∧
    Instr.wf (.spillPacket 0 []) = false ∧ Instr.wf (.powerTelemetry [] []) = false := by decide +kernel

theorem test_wf_training : Instr.wf (.histogramBinAdvance 0 0 [0]) = false ∧
    Instr.wf (.histogramBinAdvance 0 0 (List.replicate 38 1025)) = false ∧
      Instr.wf (.retrainingApply 0 0 [⟨1, true, 0, false, false⟩, ⟨1, true, 0, false, false⟩]) = false ∧
        Instr.wf (.pcRetrainComplete 0 0 [{ eye0 with rdLo := 5, rdHi := 4 }]) = false := by decide

theorem test_wf_bring_up : Instr.wf (.stackBringUpStepDone 0 { good with badPcs := [64] }) = false ∧
    Instr.wf (.stackBringUpStepDone 0 { good with train := { trained true with badLanes := [(0, 38)] } }) = false ∧
      Instr.wf (.stackBringUpStepDone 0 { good with rows := [(0, 16, 0)] }) = false ∧ Instr.wf (.stackBringUpStepDone 0 good) = true ∧
        Instr.wf (.loftQuadrantTestDone 0 []) = false ∧ Instr.wf (.loftQuadrantTestDone 0 (List.replicate 16 [4194304])) = false ∧
          Instr.wf (.engineSelfTestDone 88095 true) = false ∧ Instr.wf (.microcodeImage (image 0)) = false := by decide +kernel

theorem test_wf_repair : Instr.wf (.selfTestSliceEnd 88328 ⟨0, true, [], none, [], noErr⟩) = false ∧
    Instr.wf (.selfTestSliceEnd 0 ⟨0, true, [(16, 0)], none, [], noErr⟩) = false ∧ Instr.wf (.declareDead rq0 88328) = false ∧
      Instr.wf (.readmit rq0 88328) = false := by decide

theorem test_wf_management : Instr.wf (.reservedKind ⟨.host rq0 0, 0⟩ 10) = false ∧ Instr.wf (.reservedDictionaryOp rq0 7) = false ∧
    Instr.wf (.dictionaryRead rq0 ⟨0, 0, 0⟩ false 131072) = false := by decide

theorem test_wf_transports : Instr.wf (.mailboxDoorbell [] true) = false ∧ Instr.wf (.mailboxDoorbell (List.replicate 4097 0) true) = false ∧
    Instr.wf (.mailboxDoorbell [0] true) = true ∧ Instr.wf (.stackWakeService 0 0 [] { trained true with badLanes := [(64, 0)] }) = false ∧
      Instr.wf (.loftPortCycle 0 { laneRead := false, laneWrite := false, found := [(4325376, .ok)] }) = false := by decide +kernel

/-! ### Steps and values -/

theorem test_no_word : decodeTableWord 32 0 = none := rfl

/-- R28: the first boundary after reset opens frame 1. -/
theorem test_first_boundary : (match step { State.reset with pending := [.frameBoundary] } with
    | .next t => t.time.frame | _ => 0) = 1 := by decide +kernel

/-- R463: object 0x2004 of S07. -/
theorem test_stack_index : stackIx 0x2004 7 = 0x20E4 ∧ normIx 0x20E4 = 0x2004 ∧ stackOfIx 0x20E4 = 7 := by decide

/-- R463: a length of 12 and an element beyond the last are refused with their codes. -/
theorem test_read_lengths : (lived.readObject (some 0) 0x20E4 2 12 false 8).1 = 0 ∧ (lived.readObject (some 0) 0x20E4 2 12 false 12).1 = 0x02000002 ∧
    (lived.readObject (some 0) 0x20E4 2 60 false 40).1 = 0x02000003 ∧ (lived.readObject (some 0) 0x20E4 2 0 false 512).1 = 0 := by
  decide +kernel

/-- R429: outside a session 0x1000.01 reads the name of the block. -/
theorem test_read_name : (match exec (.dictionaryRead rqOut ⟨0x1000, 1, 0⟩ false 5) svc with
    | .next t => t.outbox | _ => []) = [.rykin rqOut 1 0 [0x4B, 0x56, 0x2D, 0x34, 0x54]] := by decide +kernel

/-- R449's example: a lease restarted at frame 2,000,020 runs out at 2,100,020. -/
theorem test_lease : (match exec (.renew rq0) (locked { svc with time := { svc.time with frame := 2000020 } }) with
    | .next t => (t.session 0).leaseEnd | _ => 0) = 2100020 := by decide +kernel

/-- R324: the mixing function by hand. -/
theorem test_mix : mix 1 = 0x5692161D100B05E5 := by decide

/-- R256: the greatest E4M3 value is 448, and 1.0 in FP16 and FP32. -/
theorem test_formats : e4m3.decode 0x7E = .fin false 448 1 ∧ (e4m3.encode true (.fin false 1000 1)).code = 0x7E ∧
    (fp16.encode false (.fin false 1 1)).code = 0x3C00 ∧ (fp32.encode false (.fin true 1 1)).code = 0xBF800000 := by decide +kernel

/-- R359: one wrong symbol is corrected. -/
theorem test_decode_one : (k72Decode [(70, 0x40)] []).finding = .dataCorrectable := by decide +kernel

/-- R440: kv_scan_en takes the block to SAFE. -/
theorem test_scan_safe : (match exec .scanRequest svc with | .next t => (t.block.state, t.block.safeCause) | _ => (.off, 0)) = (.safe, 4) := by
  decide +kernel

/-- R513: a READ of an address in no region is refused RANGE. -/
theorem test_read_nowhere : (match exec (.read (slot3 (2 ^ 40) 5)) lived with | .next t => t.reqs.map (·.whole) | _ => []) =
    [some (.refused, .range)] := by decide +kernel

/-- R48: the two positions of a 128 B WRITE complete it, the first one lowest. -/
theorem test_write_data : (match exec (.writeData 3 [1, 2]) (writeDue { req := 4, n := 2 }) with
    | .next t => (t.port 3, t.reqs.map (·.data)) | _ => ({}, [])) = ({}, [some (1 + 2 * 2 ^ 512)]) := by decide +kernel

/-- R48: a position lost to a full buffer leaves its own request without data, not the next one. -/
theorem test_write_data_lost : (match exec (.writeData 3 [2]) (writeDue { req := 4, n := 2, lost := 1 }) with
    | .next t => (t.port 3, t.reqs.map (·.data)) | _ => ({}, [some 0])) = ({}, [none]) := by decide +kernel

/-- R172: a write of 1 to 0x2008.06 asks for self-refresh; one of 0 takes it back. -/
theorem test_self_refresh_request : (match exec (.stackSelfRefreshEnter rq0 0) lived with
    | .next t => ((t.stack 0).srRequest, t.stObj 0 0x2008 6 0) | _ => (false, 0)) = (true, 1) ∧
    (match exec (.stackWakeRequest rq0 0) (withStack fun k => { k with srRequest := true }) with
    | .next t => (t.stack 0).srRequest | _ => true) = false := by decide +kernel

/-- R171: a stack of which every pseudo-channel has been asleep for its count of frames is asked into self-refresh. -/
theorem test_idle_expiry : (match exec (.stackIdleExpiry 0)
      { withStack (fun k => { k with allIdle := 50 }) with pcs := sleepers, live := [(oKey 0x2008 7 0, 50)] } with
    | .next t => (t.stack 0).srRequest | _ => false) = true := by decide +kernel

/-- R60: a doorbell while a request is in service is counted and takes nothing. -/
theorem test_doorbell_busy : (match exec (.mailboxDoorbell [1] true) { svc with mgmt := { svc.mgmt with mbBusy := true } } with
    | .next t => (t.obj 0x1311 4 0, t.mgmt.mbRequest) | _ => (0, [])) = (1, []) := by decide +kernel

/-- R59: with its target events enabled, the block raises an in-band interrupt before a response on the sideband. -/
theorem test_in_band : (match exec (.getVersion ⟨none, 0, 9, 7⟩) { svc with mgmt := { i3cAddr := some 9, i3cEvents := 1 } } with
    | .next t => t.outbox | _ => []) = [.inBand, .spdm ⟨none, 0, 9, 7⟩ .version] := by decide +kernel

end Sys2Proof.Tests
end

/-! Step: what one command can do to the parts of the state, said once for all commands. -/

namespace Sys2Proof.Laws

open Sys2Proof.Machine Sys2Proof.Safety

/-- The number of a part in the sets of `Only`. -/
def partNo : Part → Nat
  | .time => 0 | .block => 1 | .mgmt => 2 | .objs => 3 | .live => 4 | .live2 => 5 | .regions => 6 | .dram => 7 | .reqs => 8
  | .nextReq => 9 | .ports => 10 | .stackTab => 11 | .pcs => 12 | .loft => 13 | .shot => 14 | .entry => 15 | .packet => 16
  | .seqNo => 17 | .keys => 18 | .test => 19 | .tokens => 20 | .free => 21 | .outbox => 22 | .pending => 23

/-- Numbers of parts as a set of `Only`. -/
def bitSet (l : List Nat) : Nat := l.foldl (fun m i => m ||| 2 ^ i) 0

theorem foldl_or_testBit (i : Nat) : ∀ (l : List Nat) (m : Nat),
    (l.foldl (fun m i => m ||| 2 ^ i) m).testBit i = (m.testBit i || l.contains i)
  | [], m => by simp
  | j :: l, m => by
    rw [List.foldl_cons, foldl_or_testBit i l, Nat.testBit_or, Nat.testBit_two_pow, List.contains_cons, Bool.or_assoc,
      Bool.beq_comm]
    rfl

/-- What the set of a list holds. -/
theorem bitSet_testBit (l : List Nat) (i : Nat) : (bitSet l).testBit i = l.contains i := by
  rw [bitSet, foldl_or_testBit, Nat.zero_testBit, Bool.false_or]

theorem partNo_lt (p : Part) : partNo p < 24 := by cases p <;> decide

theorem partNo_injective : Function.Injective partNo := by
  intro p q
  cases p <;> cases q <;> decide

/-- A part outside the set is the same. -/
theorem Only.same {m : Nat} {s t : State} (h : Only m s t) : ∀ p : Part, m.testBit (partNo p) = false → p.Same s t
  | .time, b => h.time_eq b
  | .block, b => h.block_eq b
  | .mgmt, b => h.mgmt_eq b
  | .objs, b => h.objs_eq b
  | .live, b => h.live_eq b
  | .live2, b => h.live2_eq b
  | .regions, b => h.regions_eq b
  | .dram, b => h.dram_eq b
  | .reqs, b => h.reqs_eq b
  | .nextReq, b => h.nextReq_eq b
  | .ports, b => h.ports_eq b
  | .stackTab, b => h.stackTab_eq b
  | .pcs, b => h.pcs_eq b
  | .loft, b => h.loft_eq b
  | .shot, b => h.shot_eq b
  | .entry, b => h.entry_eq b
  | .packet, b => h.packet_eq b
  | .seqNo, b => h.seqNo_eq b
  | .keys, b => h.keys_eq b
  | .test, b => h.test_eq b
  | .tokens, b => h.tokens_eq b
  | .free, b => h.free_eq b
  | .outbox, b => h.outbox_eq b
  | .pending, b => h.pending_eq b

/-- `Only` of a list of parts, in the terms of the statements. -/
theorem Only.changes {l : List Part} {s t : State} (h : Only (bitSet (l.map partNo)) s t) : Changes l s t := by
  intro p hp
  refine h.same p ?_
  simpa [bitSet_testBit, partNo_injective.eq_iff] using hp

/-- What the laws of the commands allow beyond `mayChange`: the frame count (24) and the block's state (25), which lie within
parts; everything to a reset; and to PTP_OFFSET the management state, where its step has no asker from then on. -/
def beyond : Instr → List Nat
  | .frameBoundary => [24, 25]
  | .resetAssert _ | .resetRelease _ _ | .corePowerLoss => List.range 26
  | .ptpOffset _ => [partNo .mgmt]
  | .scanRequest | .microcodeImage _ | .dictionaryReachable | .dictionaryWrite _ _ _ | .stateRequestService _
  | .stateRequestDrain _ | .stateRequestTest _ | .stateRequestSafe _ | .coreSelfTestDone _ => [25]
  | _ => []

/-- The set of parts that a command can change. -/
def reach (c : Instr) : Nat := bitSet ((mayChange c).map partNo ++ beyond c)

/-- Everything one command can do, whatever the state. -/
theorem exec_only {c : Instr} {s t : State} (h : exec c s = .next t) : Only (reach c) s t := by
  cases c with
  | read r => exact execRead_only (.refl s) r t h (Nat.and_self _)
  | write r => exact execWrite_only (.refl s) r t h (Nat.and_self _)
  | add r => exact execAdd_only (.refl s) r t h (Nat.and_self _)
  | swap r => exact execSwap_only (.refl s) r t h (Nat.and_self _)
  | cas r => exact execCas_only (.refl s) r t h (Nat.and_self _)
  | fence r => exact execFence_only (.refl s) r t h (Nat.and_self _)
  | reservedOperation r op cls => exact execReservedOperation_only (.refl s) r op cls t h (Nat.and_self _)
  | writeData port ps => exact execWriteData_only (.refl s) port ps t h (Nat.and_self _)
  | holdBufferRelease port c => exact execHoldBufferRelease_only (.refl s) port c t h (Nat.and_self _)
  | responseRelease port => exact execResponseRelease_only (.refl s) port t h (Nat.and_self _)
  | arbiterCycle stack k => exact execArbiterCycle_only (.refl s) stack k t h (Nat.and_self _)
  | agePromotion req => exact execAgePromotion_only (.refl s) req t h (Nat.and_self _)
  | watchdogBite req => exact execWatchdogBite_only (.refl s) req t h (Nat.and_self _)
  | pcControllerCycle stack pc k => exact execPcControllerCycle_only (.refl s) stack pc k t h (Nat.and_self _)
  | rowIdleClose stack pc sid bank k => exact execRowIdleClose_only (.refl s) stack pc sid bank k t h (Nat.and_self _)
  | readDataReturn stack pc errs => exact execReadDataReturn_only (.refl s) stack pc errs t h (Nat.and_self _)
  | secondLookResult stack pc errs => exact execSecondLookResult_only (.refl s) stack pc errs t h (Nat.and_self _)
  | correctiveRewrite stack => exact execCorrectiveRewrite_only (.refl s) stack t h (Nat.and_self _)
  | parityError stack pc k => exact execParityError_only (.refl s) stack pc k t h (Nat.and_self _)
  | replayTakeEnd stack pc => exact execReplayTakeEnd_only (.refl s) stack pc t h (Nat.and_self _)
  | frameBoundary => exact execFrameBoundary_only (.refl s) t h (Nat.and_self _)
  | callSheetComplete stack => exact execCallSheetComplete_only (.refl s) stack t h (Nat.and_self _)
  | referenceCycle => exact execReferenceCycle_only (.refl s) t h (Nat.and_self _)
  | ptpOffset ofs => exact execPtpOffset_only (.refl s) ofs t h (Nat.and_self _)
  | ptpRate rate => exact execPtpRate_only (.refl s) rate t h (Nat.and_self _)
  | stepRequest rq ns => exact execStepRequest_only (.refl s) rq ns t h (Nat.and_self _)
  | correctionModeSelect rq v => exact execCorrectionModeSelect_only (.refl s) rq v t h (Nat.and_self _)
  | rateCorrectionWrite rq v => exact execRateCorrectionWrite_only (.refl s) rq v t h (Nat.and_self _)
  | referenceFrequencyWrite rq hz => exact execReferenceFrequencyWrite_only (.refl s) rq hz t h (Nat.and_self _)
  | contribution pipe hdr beats payload => exact execContribution_only (.refl s) pipe hdr beats payload t h (Nat.and_self _)
  | laneAccumulate lane => exact execLaneAccumulate_only (.refl s) lane t h (Nat.and_self _)
  | creditReturn pipe => exact execCreditReturn_only (.refl s) pipe t h (Nat.and_self _)
  | resultSend => exact execResultSend_only (.refl s) t h (Nat.and_self _)
  | spillPacket desc bytes => exact execSpillPacket_only (.refl s) desc bytes t h (Nat.and_self _)
  | spillPull port => exact execSpillPull_only (.refl s) port t h (Nat.and_self _)
  | linkStatus port up => exact execLinkStatus_only (.refl s) port up t h (Nat.and_self _)
  | holdExpiry port => exact execHoldExpiry_only (.refl s) port t h (Nat.and_self _)
  | backPressureRefresh => exact execBackPressureRefresh_only (.refl s) t h (Nat.and_self _)
  | captureHeader port queue len hdr => exact execCaptureHeader_only (.refl s) port queue len hdr t h (Nat.and_self _)
  | captureReadIndex rq v => exact execCaptureReadIndex_only (.refl s) rq v t h (Nat.and_self _)
  | stockroomEnable rq => exact execStockroomEnable_only (.refl s) rq t h (Nat.and_self _)
  | stockroomDisable rq => exact execStockroomDisable_only (.refl s) rq t h (Nat.and_self _)
  | chunkFillEnd chunk => exact execChunkFillEnd_only (.refl s) chunk t h (Nat.and_self _)
  | fillAllowanceTaken chunk => exact execFillAllowanceTaken_only (.refl s) chunk t h (Nat.and_self _)
  | backgroundFillWrite stack => exact execBackgroundFillWrite_only (.refl s) stack t h (Nat.and_self _)
  | engineWaitEnd => exact execEngineWaitEnd_only (.refl s) t h (Nat.and_self _)
  | versionDrop region => exact execVersionDrop_only (.refl s) region t h (Nat.and_self _)
  | shotTableVersionDrop entry => exact execShotTableVersionDrop_only (.refl s) entry t h (Nat.and_self _)
  | refreshWindowStart stack => exact execRefreshWindowStart_only (.refl s) stack t h (Nat.and_self _)
  | selfRefreshEntry stack pc k => exact execSelfRefreshEntry_only (.refl s) stack pc k t h (Nat.and_self _)
  | selfRefreshExit stack pc k => exact execSelfRefreshExit_only (.refl s) stack pc k t h (Nat.and_self _)
  | stackSelfRefreshEnter rq stack => exact execStackSelfRefreshEnter_only (.refl s) rq stack t h (Nat.and_self _)
  | stackWakeRequest rq stack => exact execStackWakeRequest_only (.refl s) rq stack t h (Nat.and_self _)
  | stackIdleExpiry stack => exact execStackIdleExpiry_only (.refl s) stack t h (Nat.and_self _)
  | stackGate stack => exact execStackGate_only (.refl s) stack t h (Nat.and_self _)
  | stackWake stack => exact execStackWake_only (.refl s) stack t h (Nat.and_self _)
  | stackWakeService stack identity res train => exact execStackWakeService_only (.refl s) stack identity res train t h (Nat.and_self _)
  | timingSwitchRequest rq stack set => exact execTimingSwitchRequest_only (.refl s) rq stack set t h (Nat.and_self _)
  | timingSwitchChannelDone stack => exact execTimingSwitchChannelDone_only (.refl s) stack t h (Nat.and_self _)
  | histogramBinAdvance stack pc dis => exact execHistogramBinAdvance_only (.refl s) stack pc dis t h (Nat.and_self _)
  | retrainingApply stack pc res => exact execRetrainingApply_only (.refl s) stack pc res t h (Nat.and_self _)
  | pcRetrainComplete stack pc eyes => exact execPcRetrainComplete_only (.refl s) stack pc eyes t h (Nat.and_self _)
  | domainGateRequest rq domain v => exact execDomainGateRequest_only (.refl s) rq domain v t h (Nat.and_self _)
  | domainWakeComplete domain => exact execDomainWakeComplete_only (.refl s) domain t h (Nat.and_self _)
  | powerTelemetry domains rails => exact execPowerTelemetry_only (.refl s) domains rails t h (Nat.and_self _)
  | temperatureRead stack reading => exact execTemperatureRead_only (.refl s) stack reading t h (Nat.and_self _)
  | stackT4Gate stack => exact execStackT4Gate_only (.refl s) stack t h (Nat.and_self _)
  | thermalSlipRecord shot => exact execThermalSlipRecord_only (.refl s) shot t h (Nat.and_self _)
  | loftPortCycle slice d => exact execLoftPortCycle_only (.refl s) slice d t h (Nat.and_self _)
  | loftLineFill slice => exact execLoftLineFill_only (.refl s) slice t h (Nat.and_self _)
  | loftWriteBack slice => exact execLoftWriteBack_only (.refl s) slice t h (Nat.and_self _)
  | loftPatrolStep slice found => exact execLoftPatrolStep_only (.refl s) slice found t h (Nat.and_self _)
  | partitionChangeEffect q => exact execPartitionChangeEffect_only (.refl s) q t h (Nat.and_self _)
  | sliceFail slice tagsLost => exact execSliceFail_only (.refl s) slice tagsLost t h (Nat.and_self _)
  | sliceFence slice => exact execSliceFence_only (.refl s) slice t h (Nat.and_self _)
  | sliceMapReturn slice => exact execSliceMapReturn_only (.refl s) slice t h (Nat.and_self _)
  | reduce p => exact execReduce_only (.refl s) p t h (Nat.and_self _)
  | gather p => exact execGather_only (.refl s) p t h (Nat.and_self _)
  | score p => exact execScore_only (.refl s) p t h (Nat.and_self _)
  | project p => exact execProject_only (.refl s) p t h (Nat.and_self _)
  | select p => exact execSelect_only (.refl s) p t h (Nat.and_self _)
  | filter p => exact execFilter_only (.refl s) p t h (Nat.and_self _)
  | convert p => exact execConvert_only (.refl s) p t h (Nat.and_self _)
  | copy p => exact execCopy_only (.refl s) p t h (Nat.and_self _)
  | scan p => exact execScan_only (.refl s) p t h (Nat.and_self _)
  | fill p => exact execFill_only (.refl s) p t h (Nat.and_self _)
  | reservedKind p kind => exact execReservedKind_only (.refl s) p kind t h (Nat.and_self _)
  | shotExtend shot => exact execShotExtend_only (.refl s) shot t h (Nat.and_self _)
  | shotTimeAbort shot => exact execShotTimeAbort_only (.refl s) shot t h (Nat.and_self _)
  | listHeadTimeout list => exact execListHeadTimeout_only (.refl s) list t h (Nat.and_self _)
  | contextFree shot => exact execContextFree_only (.refl s) shot t h (Nat.and_self _)
  | jobAbort rq v => exact execJobAbort_only (.refl s) rq v t h (Nat.and_self _)
  | gatherBagStart unit => exact execGatherBagStart_only (.refl s) unit t h (Nat.and_self _)
  | gatherRowData unit => exact execGatherRowData_only (.refl s) unit t h (Nat.and_self _)
  | arrayRun array => exact execArrayRun_only (.refl s) array t h (Nat.and_self _)
  | selectMerge shot => exact execSelectMerge_only (.refl s) shot t h (Nat.and_self _)
  | filterKey shot => exact execFilterKey_only (.refl s) shot t h (Nat.and_self _)
  | patrolStep stack e => exact execPatrolStep_only (.refl s) stack e t h (Nat.and_self _)
  | bucketLeak => exact execBucketLeak_only (.refl s) t h (Nat.and_self _)
  | spliceLineCopy stack e => exact execSpliceLineCopy_only (.refl s) stack e t h (Nat.and_self _)
  | migrationStart stack => exact execMigrationStart_only (.refl s) stack t h (Nat.and_self _)
  | migrationLineCopy stack e => exact execMigrationLineCopy_only (.refl s) stack e t h (Nat.and_self _)
  | migrationCommit stack => exact execMigrationCommit_only (.refl s) stack t h (Nat.and_self _)
  | rebuildLineCopy region e => exact execRebuildLineCopy_only (.refl s) region e t h (Nat.and_self _)
  | declareDead rq unit => exact execDeclareDead_only (.refl s) rq unit t h (Nat.and_self _)
  | readmit rq unit => exact execReadmit_only (.refl s) rq unit t h (Nat.and_self _)
  | readmitResult pass => exact execReadmitResult_only (.refl s) pass t h (Nat.and_self _)
  | retirementReadIndex rq v => exact execRetirementReadIndex_only (.refl s) rq v t h (Nat.and_self _)
  | keyRotate rq region => exact execKeyRotate_only (.refl s) rq region t h (Nat.and_self _)
  | sweepStep stack region e => exact execSweepStep_only (.refl s) stack region e t h (Nat.and_self _)
  | sweepComplete region => exact execSweepComplete_only (.refl s) region t h (Nat.and_self _)
  | keyErase rq region => exact execKeyErase_only (.refl s) rq region t h (Nat.and_self _)
  | eraseEffect region => exact execEraseEffect_only (.refl s) region t h (Nat.and_self _)
  | entropyHealthChange e => exact execEntropyHealthChange_only (.refl s) e t h (Nat.and_self _)
  | drbgReseed => exact execDrbgReseed_only (.refl s) t h (Nat.and_self _)
  | microcodeSegment rq segment last sigOk version =>
    exact execMicrocodeSegment_only (.refl s) rq segment last sigOk version t h (Nat.and_self _)
  | raiseMinimumVersion rq => exact execRaiseMinimumVersion_only (.refl s) rq t h (Nat.and_self _)
  | scanRequest => exact execScanRequest_only (.refl s) t h (Nat.and_self _)
  | scanClearComplete ok => exact execScanClearComplete_only (.refl s) ok t h (Nat.and_self _)
  | resetAssert lowNs => exact execResetAssert_only (.refl s) lowNs t h (Nat.and_self _)
  | resetRelease profile compat => exact execResetRelease_only (.refl s) profile compat t h (Nat.and_self _)
  | microcodeImage img => exact execMicrocodeImage_only (.refl s) img t h (Nat.and_self _)
  | dictionaryReachable => exact execDictionaryReachable_only (.refl s) t h (Nat.and_self _)
  | stackBringUpStepDone stack r => exact execStackBringUpStepDone_only (.refl s) stack r t h (Nat.and_self _)
  | hardwareFillDone stack => exact execHardwareFillDone_only (.refl s) stack t h (Nat.and_self _)
  | loftQuadrantTestDone q bad => exact execLoftQuadrantTestDone_only (.refl s) q bad t h (Nat.and_self _)
  | engineSelfTestDone unit pass => exact execEngineSelfTestDone_only (.refl s) unit pass t h (Nat.and_self _)
  | selfTestSliceRequest => exact execSelfTestSliceRequest_only (.refl s) t h (Nat.and_self _)
  | selfTestSliceEnd unit r => exact execSelfTestSliceEnd_only (.refl s) unit r t h (Nat.and_self _)
  | counterSample counter => exact execCounterSample_only (.refl s) counter t h (Nat.and_self _)
  | counterGrant rq elem v => exact execCounterGrant_only (.refl s) rq elem v t h (Nat.and_self _)
  | sampleReadIndex rq v => exact execSampleReadIndex_only (.refl s) rq v t h (Nat.and_self _)
  | mailboxDoorbell packet last => exact execMailboxDoorbell_only (.refl s) packet last t h (Nat.and_self _)
  | managementPacket rq bytes => exact execManagementPacket_only (.refl s) rq bytes t h (Nat.and_self _)
  | dictionaryRead rq o staged length => exact execDictionaryRead_only (.refl s) rq o staged length t h (Nat.and_self _)
  | dictionaryWrite rq o data => exact execDictionaryWrite_only (.refl s) rq o data t h (Nat.and_self _)
  | lock rq scopes => exact execLock_only (.refl s) rq scopes t h (Nat.and_self _)
  | commit rq => exact execCommit_only (.refl s) rq t h (Nat.and_self _)
  | discard rq => exact execDiscard_only (.refl s) rq t h (Nat.and_self _)
  | renew rq => exact execRenew_only (.refl s) rq t h (Nat.and_self _)
  | sessionReset rq => exact execSessionReset_only (.refl s) rq t h (Nat.and_self _)
  | reservedDictionaryOp rq op => exact execReservedDictionaryOp_only (.refl s) rq op t h (Nat.and_self _)
  | leaseExpiry n => exact execLeaseExpiry_only (.refl s) n t h (Nat.and_self _)
  | sessionTimeout n => exact execSessionTimeout_only (.refl s) n t h (Nat.and_self _)
  | eventAcknowledge rq v => exact execEventAcknowledge_only (.refl s) rq v t h (Nat.and_self _)
  | stateRequestService rq => exact execStateRequestService_only (.refl s) rq t h (Nat.and_self _)
  | stateRequestDrain rq => exact execStateRequestDrain_only (.refl s) rq t h (Nat.and_self _)
  | stateRequestTest rq => exact execStateRequestTest_only (.refl s) rq t h (Nat.and_self _)
  | stateRequestSafe rq => exact execStateRequestSafe_only (.refl s) rq t h (Nat.and_self _)
  | keyExchange rq => exact execKeyExchange_only (.refl s) rq t h (Nat.and_self _)
  | finish rq leaf => exact execFinish_only (.refl s) rq leaf t h (Nat.and_self _)
  | endSession rq => exact execEndSession_only (.refl s) rq t h (Nat.and_self _)
  | getMeasurements rq index => exact execGetMeasurements_only (.refl s) rq index t h (Nat.and_self _)
  | getVersion rq => exact execGetVersion_only (.refl s) rq t h (Nat.and_self _)
  | getCapabilities rq => exact execGetCapabilities_only (.refl s) rq t h (Nat.and_self _)
  | negotiateAlgorithms rq supported => exact execNegotiateAlgorithms_only (.refl s) rq supported t h (Nat.and_self _)
  | getDigests rq => exact execGetDigests_only (.refl s) rq t h (Nat.and_self _)
  | getCertificate rq slot offset length => exact execGetCertificate_only (.refl s) rq slot offset length t h (Nat.and_self _)
  | challenge rq slot nonce => exact execChallenge_only (.refl s) rq slot nonce t h (Nat.and_self _)
  | heartbeat rq => exact execHeartbeat_only (.refl s) rq t h (Nat.and_self _)
  | keyUpdate rq => exact execKeyUpdate_only (.refl s) rq t h (Nat.and_self _)
  | entdaa addr => exact execEntdaa_only (.refl s) addr t h (Nat.and_self _)
  | rstdaa => exact execRstdaa_only (.refl s) t h (Nat.and_self _)
  | enec mask => exact execEnec_only (.refl s) mask t h (Nat.and_self _)
  | disec mask => exact execDisec_only (.refl s) mask t h (Nat.and_self _)
  | getpid => exact execGetpid_only (.refl s) t h (Nat.and_self _)
  | getbcr => exact execGetbcr_only (.refl s) t h (Nat.and_self _)
  | getdcr => exact execGetdcr_only (.refl s) t h (Nat.and_self _)
  | getmrl => exact execGetmrl_only (.refl s) t h (Nat.and_self _)
  | getmwl => exact execGetmwl_only (.refl s) t h (Nat.and_self _)
  | setmrl v => exact execSetmrl_only (.refl s) v t h (Nat.and_self _)
  | setmwl v => exact execSetmwl_only (.refl s) v t h (Nat.and_self _)
  | coreSelfTestDone pass => exact execCoreSelfTestDone_only (.refl s) pass t h (Nat.and_self _)
  | i3cMctpTransfer rq bytes last => exact execI3cMctpTransfer_only (.refl s) rq bytes last t h (Nat.and_self _)
  | unsupportedSpdmRequest rq code => exact execUnsupportedSpdmRequest_only (.refl s) rq code t h (Nat.and_self _)
  | corePowerLoss => exact execCorePowerLoss_only (.refl s) t h (Nat.and_self _)
  | selectEntryDeal shot => exact execSelectEntryDeal_only (.refl s) shot t h (Nat.and_self _)
  | checkValueBlock shot => exact execCheckValueBlock_only (.refl s) shot t h (Nat.and_self _)
  | dollyShotTransfer shot => exact execDollyShotTransfer_only (.refl s) shot t h (Nat.and_self _)
  | fillShotWrite shot => exact execFillShotWrite_only (.refl s) shot t h (Nat.and_self _)
  | lostLineRewrite stack => exact execLostLineRewrite_only (.refl s) stack t h (Nat.and_self _)

/-- The commands whose laws allow a change of the frame count. -/
theorem of_frame_mem_beyond {c : Instr} (h : 24 ∈ beyond c) :
    c = .frameBoundary ∨ (∃ n, c = .resetAssert n) ∨ (∃ p k, c = .resetRelease p k) ∨ c = .corePowerLoss := by
  cases c with
  | frameBoundary => exact .inl rfl
  | resetAssert n => exact .inr (.inl ⟨n, rfl⟩)
  | resetRelease p k => exact .inr (.inr (.inl ⟨p, k, rfl⟩))
  | corePowerLoss => exact .inr (.inr (.inr rfl))
  | ptpOffset _ | scanRequest | microcodeImage _ | dictionaryReachable | dictionaryWrite _ _ _ | stateRequestService _
  | stateRequestDrain _ | stateRequestTest _ | stateRequestSafe _ | coreSelfTestDone _ =>
    exact absurd (List.mem_singleton.mp h) (by decide)
  | _ => exact absurd h List.not_mem_nil

/-- Every other command leaves the frame count as it is. -/
theorem exec_frame_eq {c : Instr} {s t : State} (h : exec c s = .next t) (hc : 24 ∉ beyond c) : t.time.frame = s.time.frame := by
  refine (exec_only h).frame_eq ?_
  have hp : 24 ∉ (mayChange c).map partNo := fun hm => by
    obtain ⟨p, -, hp⟩ := List.mem_map.mp hm
    exact absurd hp (partNo_lt p).ne
  simp [reach, bitSet_testBit, hp, hc]

end Sys2Proof.Laws

/-! Frames: what the boundary does to the frame count. -/

namespace Sys2Proof.Laws

open Sys2Proof.Machine Sys2Proof.Safety

/-- Every part of the state but the frame count. -/
abbrev exceptFrame : Nat := 2 ^ 26 - 1 - 2 ^ 24

/-- The time's part of a boundary adds one to the frame count, whatever step, mode or rate it applies (R27, R28). -/
theorem timeBoundary_frame (s : State) (toService : Bool) : (s.timeBoundary toService).time.frame = s.time.frame + 1 := by
  unfold State.timeBoundary
  extract_lets s1 s2 asked s3 s4
  have hs1 : s1.time.frame = s.time.frame + 1 := rfl
  clear_value s1
  have g2 : Only exceptFrame s1 s2 := by
    unfold s2
    split
    · exact setObj_only (jump_only (modTime_only (.refl s1) _ fun _ => by rfl) _ _) _ _ _ _
    · exact .refl s1
  clear_value s2 asked
  have g3 : Only exceptFrame s1 s3 := by
    unfold s3
    split
    · exact ite_only (setNow_only g2 _ _ _ _) g2
    · split
      · exact selectTrack_only g2
      · exact modTime_only g2 _ fun _ => by rfl
  clear_value s3
  have g4 : Only exceptFrame s1 s4 := by
    unfold s4
    split
    · exact jump_only (modTime_only g3 _ fun _ => by rfl) _ _
    · exact g3
  exact g4.frame_eq.trans hs1

/-- Scan, time and objects at a boundary, as every block outside OFF has them. -/
theorem dated_frame (s : State) (toService : Bool) :
    ((s.scanBoundary.timeBoundary toService).objectBoundary).time.frame = s.time.frame + 1 := calc
  _ = (s.scanBoundary.timeBoundary toService).time.frame := (objectBoundary_only (m := exceptFrame) (.refl _)).frame_eq
  _ = s.scanBoundary.time.frame + 1 := timeBoundary_frame _ _
  _ = s.time.frame + 1 := congrArg (· + 1) (scanBoundary_only (m := exceptFrame) (.refl s)).frame_eq

/-- The first part of the boundary adds one to the frame count. -/
theorem boundaryOpen_frame (s : State) : s.boundaryOpen.time.frame = s.time.frame + 1 := by
  unfold State.boundaryOpen
  extract_lets x s1 s2
  have hx : Only exceptFrame s x.2 := stateBoundary_only (.refl s)
  have h1 : s1.time.frame = x.2.time.frame + 1 := dated_frame _ _
  clear_value s1
  have h2 : Only exceptFrame s1 s2 :=
    retrainBoundary_only (sheetBoundary_only (reelBoundary_only (cutBoundary_only (.refl s1))))
  have h3 : Only exceptFrame s1 s2.patrolBoundary.sessionBoundary.readyBoundary.pauseWaits :=
    pauseWaits_only (readyBoundary_only (sessionBoundary_only (patrolBoundary_only h2)))
  rw [h3.frame_eq, h1, hx.frame_eq]

/-- FRAME_BOUNDARY in OFF. -/
theorem execFrameBoundary_down {s : State} (h : s.block.boot = .down) : execFrameBoundary s = .next s := by
  simp only [execFrameBoundary, h]

/-- The boundary of a block that is up. -/
theorem full_boundary_frame (s : State) :
    s.boundaryOpen.boundaryPower.boundaryWork.boundaryAllot.reportBoundary.time.frame = s.time.frame + 1 :=
  (reportBoundary_only (m := exceptFrame) (boundaryAllot_only (boundaryWork_only (boundaryPower_only (.refl _))))).frame_eq.trans
    (boundaryOpen_frame s)

/-- FRAME_BOUNDARY outside OFF completes and adds one to the frame count. -/
theorem execFrameBoundary_counts {s : State} (h : s.block.boot ≠ .down) :
    ∃ t, execFrameBoundary s = .next t ∧ t.time.frame = s.time.frame + 1 := by
  unfold execFrameBoundary
  split
  · exact absurd ‹_› h
  · exact ⟨_, rfl, full_boundary_frame s⟩
  · exact ⟨_, rfl, dated_frame s false⟩

/-- Settles O3: every command but the boundary and the resets keeps the frame count (`exec_frame_eq`), and the boundary adds one
outside OFF (`execFrameBoundary_counts`). -/
theorem onlyBoundariesAndResetsMoveTheFrameCount : Obligations.OnlyBoundariesAndResetsMoveTheFrameCount := by
  refine ⟨rfl, fun s h => execFrameBoundary_counts h, fun c s t h => ?_⟩
  by_cases hc : 24 ∈ beyond c
  · obtain rfl | ha | hr | hl := of_frame_mem_beyond hc
    · refine .inl ⟨rfl, ?_⟩
      by_cases hd : s.block.boot = .down
      · cases (execFrameBoundary_down hd).symm.trans h
        exact .inl ⟨hd, rfl⟩
      · obtain ⟨u, hu, hf⟩ := execFrameBoundary_counts hd
        cases hu.symm.trans h
        exact .inr hf
    · exact .inr (.inl ha)
    · exact .inr (.inr (.inl hr))
    · exact .inr (.inr (.inr (.inl hl)))
  · exact .inr (.inr (.inr (.inr (exec_frame_eq h hc))))

end Sys2Proof.Laws

/-! Requests: what an object reads as after the shared operations, and what a direct write of a session that is heard does. -/

namespace Sys2Proof.Laws

open Sys2Proof.Machine Sys2Proof.Safety

variable {s t u : State}

/-! ### Objects -/

/-- An object's value lies in the table of objects. -/
theorem obj_congr (h : t.objs = s.objs) (ix sub el : Nat) : t.obj ix sub el = s.obj ix sub el := by
  unfold State.obj
  rw [h]

theorem Canonical.objs_rising (h : Canonical s) : Map.rising s.objs = true := by
  obtain ⟨-, -, -, -, -, ho, -, -⟩ := h
  exact ho

theorem obj_setObj (h : Map.rising s.objs = true) (ix sub el v : Nat) : (s.setObj ix sub el v).obj ix sub el = v :=
  Map.look_put_rising h

theorem obj_setObj_ne {ix sub el jx tub fl : Nat} (v : Nat) (h : oKey jx tub fl ≠ oKey ix sub el) :
    (s.setObj ix sub el v).obj jx tub fl = s.obj jx tub fl :=
  Map.look_put_ne h s.objs

/-- Something that each change of a list leaves alone is as before after all of them. -/
theorem each_keeps {A B : Type} {f : State → A → State} (g : State → B) :
    ∀ {l : List A} {s : State}, (∀ t, ∀ x ∈ l, g (f t x) = g t) → g (s.each l f) = g s
  | [], _, _ => rfl
  | x :: l, s, h =>
    (each_keeps (s := f s x) g (l := l) fun t y hy => h t y (List.mem_cons_of_mem x hy)).trans (h s x (List.mem_cons_self ..))

/-- Moving a session's read index leaves the objects behind the ring's alone (R443). -/
theorem obj_overtake {n ix sub el : Nat} (hn : n < 4) (h : oKey 0x1302 0 0 ≤ oKey ix sub el) :
    (s.overtake n).obj ix sub el = s.obj ix sub el := by
  unfold oKey at h
  unfold State.overtake
  extract_lets wi ri
  split
  · exact (obj_setObj_ne _ (by unfold oKey; omega)).trans (obj_setObj_ne _ (by unfold oKey; omega))
  · rfl

/-- An event leaves the objects behind the ring's alone (R442, R443). -/
theorem obj_logEvent {ix sub el : Nat} (h : oKey 0x1302 0 0 ≤ oKey ix sub el) (cls code body : Nat) (tenant : Option Nat)
    (session : Nat) (quiet : Bool) : (s.logEvent cls code body tenant session quiet).obj ix sub el = s.obj ix sub el := by
  unfold State.logEvent
  refine (each_keeps (fun s => s.obj ix sub el) fun t n hn => obj_overtake (List.mem_range.mp hn) h).trans ?_
  refine (obj_setObj_ne _ ?_).trans rfl
  unfold oKey at h ⊢
  omega

/-- Counting an event adds to its counter. -/
theorem obj_count (h : Map.rising s.objs = true) (ix sub : Nat) : (s.count ix sub).obj ix sub 0 = s.obj ix sub 0 + 1 :=
  obj_setObj h ix sub 0 _

theorem obj_count_ne {ix sub jx tub fl : Nat} (h : oKey jx tub fl ≠ oKey ix sub 0) : (s.count ix sub).obj jx tub fl = s.obj jx tub fl :=
  obj_setObj_ne _ h

/-! ### Answers -/

/-- Nothing has been sent from `s` to `u`, and the I3C controller's part is as before. -/
def Silent (s u : State) : Prop :=
  u.outbox = s.outbox ∧ u.mgmt.i3cAddr = s.mgmt.i3cAddr ∧ u.mgmt.i3cEvents = s.mgmt.i3cEvents

theorem Silent.notice_eq (h : Silent s u) (rq : Rq) : notice rq u = notice rq s := by
  obtain ⟨-, ha, he⟩ := h
  unfold notice
  rw [ha, he]

/-- An answer is sent as the statements say: a notice, the answer and the doorbell. -/
theorem answers_answer (rq : Rq) (op code : Nat) (data : List Byte) (s : State) : Answers rq op code data s (s.answer rq op code data) := by
  unfold Answers Sends State.answer State.mailboxDone State.signalPending notice bell
  split_ifs <;> simp

theorem Silent.answers (h : Silent s u) (rq : Rq) (op code : Nat) (data : List Byte) :
    Answers rq op code data s (u.answer rq op code data) := by
  have e := answers_answer rq op code data u
  have hn := h.notice_eq rq
  obtain ⟨ho, -⟩ := h
  unfold Answers Sends at e ⊢
  rwa [hn, ho] at e

/-- A refusal is answered with its code, whatever it logs and counts (R437). -/
theorem refuse_outbox (rq : Rq) (op code ix sub el : Nat) (s : State) :
    (s.refuse rq op code ix sub el).outbox = (s.answer rq op code []).outbox := by
  unfold State.refuse
  extract_lets s1 n x t
  split
  · exact (logEvent_only (m := 12) (count_only (.refl s1) _ _) _ _ _ _ _ _).outbox_eq
  · rfl

theorem Silent.refuses (h : Silent s u) (rq : Rq) (op code ix sub el : Nat) :
    Answers rq op code [] s (u.refuse rq op code ix sub el) :=
  (refuse_outbox rq op code ix sub el u).trans (h.answers rq op code [])

theorem obj_answer (rq : Rq) (op code : Nat) (data : List Byte) (ix sub el : Nat) :
    (s.answer rq op code data).obj ix sub el = s.obj ix sub el :=
  obj_congr (answer_only (m := 4194308) (.refl s) rq op code data).objs_eq ix sub el

theorem answer_time (rq : Rq) (op code : Nat) (data : List Byte) (s : State) : (s.answer rq op code data).time = s.time :=
  (answer_only (m := 4194308) (.refl s) rq op code data).time_eq

theorem refuse_time (rq : Rq) (op code ix sub el : Nat) (s : State) : (s.refuse rq op code ix sub el).time = s.time :=
  (refuse_only (m := 4194316) (.refl s) rq op code ix sub el).time_eq

/-- A refusal leaves the objects behind the ring's and its own counter alone (R437, R442). -/
theorem obj_refuse {ix sub el : Nat} (h : oKey 0x1312 0 0 ≤ oKey ix sub el) (rq : Rq) (op code jx tub fl : Nat) :
    (s.refuse rq op code jx tub fl).obj ix sub el = s.obj ix sub el := by
  unfold oKey at h
  unfold State.refuse
  extract_lets s1 n x t
  have h1 : s1.obj ix sub el = s.obj ix sub el := obj_answer _ _ _ _ _ _ _
  split
  · exact ((obj_logEvent (by unfold oKey; omega) _ _ _ _ _ _).trans (obj_count_ne (by unfold oKey; omega))).trans h1
  · exact h1

/-! ### Direct writes -/

/-- The state in which the message of session `n` has been noted (R431). -/
def noted (s : State) (n : Nat) : State := s.modSession n fun x => { x with lastMsg := s.time.frame }

theorem silent_noted (s : State) (n : Nat) : Silent s (noted s n) := ⟨rfl, rfl, rfl⟩

section Heard

variable {rq : Rq} {n : Fin 4} {roles : Nat} (h : Heard s rq n roles)

include h

theorem gate_of_heard : s.gate rq = .go n.val (noted s n.val) := by
  obtain ⟨hup, -, hs, hopen, htr, hep, hend, -⟩ := h
  simp [State.gate, hup, hs, hopen, htr, hep, hend, noted]

theorem noted_session : (noted s n.val).session n.val = { s.session n.val with lastMsg := s.time.frame } := by
  obtain ⟨-, -, -, hopen, -⟩ := h
  refine Map.look_put_listed (fun e => ?_) s.mgmt.sessions
  have e' : (s.session n.val).isOpen = false := congrArg Session.isOpen e
  simp [hopen] at e'

theorem noted_has : ((noted s n.val).session n.val).has roles = true := by
  rw [noted_session h]
  obtain ⟨-, -, -, -, -, -, -, hr⟩ := h
  exact hr

theorem noted_serves (ix : Nat) : (noted s n.val).safeRefuses ix = false := by
  obtain ⟨-, hns, -⟩ := h
  have hb : (noted s n.val).block.state ≠ .safe := hns
  simp [State.safeRefuses, hb]

variable {ix sub el : Nat} {range state resource : State → Nat → Nat} {apply : State → Nat → State}

/-- A direct write whose value is out of range is refused with the range's code (R436). -/
theorem directWrite_out_of_range (hr : range (noted s n.val) n.val ≠ 0) :
    s.directWrite rq ix sub el roles range state resource apply =
      (noted s n.val).refuse rq 2 (range (noted s n.val) n.val) ix sub el := by
  simp [State.directWrite, gate_of_heard h, noted_has h, hr]

/-- One that the block's state does not allow is refused with that state's code (R436). -/
theorem directWrite_wrong_state (hr : range (noted s n.val) n.val = 0) (hs : state (noted s n.val) n.val ≠ 0) :
    s.directWrite rq ix sub el roles range state resource apply =
      (noted s n.val).refuse rq 2 (state (noted s n.val) n.val) ix sub el := by
  simp [State.directWrite, gate_of_heard h, noted_has h, noted_serves h, hr, hs]

/-- One that passes every check is applied and answered 0 (R436). -/
theorem directWrite_accepts (hr : range (noted s n.val) n.val = 0) (hs : state (noted s n.val) n.val = 0)
    (hp : resource (noted s n.val) n.val = 0) :
    s.directWrite rq ix sub el roles range state resource apply = (apply (noted s n.val) n.val).answer rq 2 0 [] := by
  simp [State.directWrite, gate_of_heard h, noted_has h, noted_serves h, hr, hs, hp]

end Heard

end Sys2Proof.Laws

/-! Times: the commands of the local clock (R25 to R35, R58). -/

namespace Sys2Proof.Laws

open Sys2Proof.Machine Sys2Proof.Safety

variable {s t : State}

/-! ### Rates and increments -/

theorem clampRate_range (r : Int) : -200000 ≤ clampRate r ∧ clampRate r ≤ 200000 := by
  unfold clampRate rateLimit
  omega

theorem clampRate_eq_iff (r : Int) : clampRate r = r ↔ -200000 ≤ r ∧ r ≤ 200000 := by
  unfold clampRate rateLimit
  omega

/-- The nominal increment is the nearest one (R58). -/
theorem nominalOf_nearest {hz : Nat} (h : 0 < hz) :
    2 * (nominalOf hz * hz) ≤ 2 * 4294967296 * 1000000000 + hz ∧
      2 * 4294967296 * 1000000000 < 2 * (nominalOf hz * hz) + hz + 1 := by
  have hd := Nat.div_add_mod (4294967296 * 1000000000 * 2 + hz) (2 * hz)
  have hm := Nat.mod_lt (4294967296 * 1000000000 * 2 + hz) (show 2 * hz > 0 by omega)
  have hk : 2 * hz * nominalOf hz = 2 * (nominalOf hz * hz) := by ring
  unfold nominalOf at hk ⊢
  omega

/-- A check from a condition refuses exactly when the condition holds. -/
theorem refuseIf_of_not {c : Bool} {code : Nat} (h : c = false) : refuseIf c code = 0 := by
  simp [refuseIf, h]

theorem refuseIf_of {c : Bool} {code : Nat} (h : c = true) : refuseIf c code = code := by
  simp [refuseIf, h]

/-! ### Steps -/

section Heard

variable {rq : Rq} {n : Fin 4} (h : Heard s rq n roleO)

include h

/-- STEP_REQUEST in SERVO with no step pending (R34, R35). -/
theorem execStepRequest_accepts (ns : BitVec 64) (hm : s.time.mode = .servo) (hp : s.time.pendingStep = none) :
    execStepRequest rq ns s = .next
      ((((noted s n.val).modTime fun t => { t with pendingStep := some ns.toInt }).asks (askKey 8 1 0) n.val).answer rq 2 0 []) := by
  have hc : ((noted s n.val).time.mode == CorrMode.track || (noted s n.val).time.pendingStep.isSome) = false := by
    simp [noted, hm, hp]
  unfold execStepRequest
  rw [directWrite_accepts h rfl (refuseIf_of_not hc) rfl]

/-- STEP_REQUEST in TRACK, or with a step pending (R34, R35). -/
theorem execStepRequest_refuses (ns : BitVec 64) (hm : s.time.mode = .track ∨ s.time.pendingStep ≠ none) :
    execStepRequest rq ns s = .next ((noted s n.val).refuse rq 2 abObjState 0x7801 3 0) := by
  have hc : ((noted s n.val).time.mode == CorrMode.track || (noted s n.val).time.pendingStep.isSome) = true := by
    simpa [noted, Option.isSome_iff_ne_none] using hm
  unfold execStepRequest
  rw [directWrite_wrong_state h rfl (by rw [refuseIf_of hc]; decide), refuseIf_of hc]

/-- CORRECTION_MODE_SELECT outside SERVO in SERVICE (R33). -/
theorem execCorrectionModeSelect_accepts (v : BitVec 8) (hv : v.toNat ≤ 1) (hs : ¬ (v.toNat = 1 ∧ s.block.state = .service)) :
    execCorrectionModeSelect rq v s = .next
      ((((noted s n.val).setObj 0x7801 1 0 v.toNat).asks (askKey 8 1 1) n.val).answer rq 2 0 []) := by
  have hr : decide (1 < v.toNat) = false := by simpa using hv
  have hc : (v.toNat == 1 && (noted s n.val).block.state == BlkState.service) = false := by simpa [noted] using hs
  unfold execCorrectionModeSelect
  rw [directWrite_accepts h (refuseIf_of_not hr) (refuseIf_of_not hc) rfl]

/-- SERVO is refused in SERVICE (R34). -/
theorem execCorrectionModeSelect_refuses (v : BitVec 8) (hv : v.toNat = 1) (hs : s.block.state = .service) :
    execCorrectionModeSelect rq v s = .next ((noted s n.val).refuse rq 2 abBlockState 0x7801 1 0) := by
  have hr : decide (1 < v.toNat) = false := by simp [hv]
  have hc : (v.toNat == 1 && (noted s n.val).block.state == BlkState.service) = true := by simp [noted, hv, hs]
  unfold execCorrectionModeSelect
  rw [directWrite_wrong_state h (refuseIf_of_not hr) (by rw [refuseIf_of hc]; decide), refuseIf_of hc]

/-- RATE_CORRECTION_WRITE within the limits (R30). -/
theorem execRateCorrectionWrite_accepts (v : BitVec 32) (hl : -200000 ≤ v.toInt) (hu : v.toInt ≤ 200000) :
    execRateCorrectionWrite rq v s = .next (((noted s n.val).setObj 0x7801 2 0 v.toNat).answer rq 2 0 []) := by
  have hr : (clampRate v.toInt != v.toInt) = false := by simpa using (clampRate_eq_iff _).mpr ⟨hl, hu⟩
  unfold execRateCorrectionWrite
  rw [directWrite_accepts h (refuseIf_of_not hr) rfl rfl]

/-- RATE_CORRECTION_WRITE outside the limits (R30). -/
theorem execRateCorrectionWrite_refuses (v : BitVec 32) (ho : v.toInt < -200000 ∨ 200000 < v.toInt) :
    execRateCorrectionWrite rq v s = .next ((noted s n.val).refuse rq 2 abRange 0x7801 2 0) := by
  have hr : (clampRate v.toInt != v.toInt) = true := by
    simp only [bne_iff_ne, ne_eq, clampRate_eq_iff]
    omega
  unfold execRateCorrectionWrite
  rw [directWrite_out_of_range h (by rw [refuseIf_of hr]; decide), refuseIf_of hr]

/-- REFERENCE_FREQUENCY_WRITE of 100 to 400 MHz in BRING-UP (R58). -/
theorem execReferenceFrequencyWrite_accepts (hz : BitVec 32) (hb : s.block.state = .bringUp) (hl : 100000000 ≤ hz.toNat)
    (hu : hz.toNat ≤ 400000000) :
    execReferenceFrequencyWrite rq hz s = .next
      ((((noted s n.val).setObj 0x7803 1 0 hz.toNat).modTime fun t => { t with nominalReq := some (nominalOf hz.toNat) }).answer
        rq 2 0 []) := by
  have hr : (decide (hz.toNat < 100000000) || decide (400000000 < hz.toNat)) = false := by simp [hl, hu]
  have hc : ((noted s n.val).block.state != BlkState.bringUp) = false := by simp [noted, hb]
  unfold execReferenceFrequencyWrite
  rw [directWrite_accepts h (refuseIf_of_not hr) (refuseIf_of_not hc) rfl]

/-- REFERENCE_FREQUENCY_WRITE outside 100 to 400 MHz (R58). -/
theorem execReferenceFrequencyWrite_refuses (hz : BitVec 32) (ho : hz.toNat < 100000000 ∨ 400000000 < hz.toNat) :
    execReferenceFrequencyWrite rq hz s = .next ((noted s n.val).refuse rq 2 abRange 0x7803 1 0) := by
  have hr : (decide (hz.toNat < 100000000) || decide (400000000 < hz.toNat)) = true := by simpa using ho
  unfold execReferenceFrequencyWrite
  rw [directWrite_out_of_range h (by rw [refuseIf_of hr]; decide), refuseIf_of hr]

end Heard

/-- An object of the clock keeps its value through a refusal. -/
theorem refuse_noted_obj {ix : Nat} (hx : 0x1313 ≤ ix) (n : Nat) (rq : Rq) (code jx tub sub : Nat) :
    ((noted s n).refuse rq 2 code jx tub 0).obj ix sub 0 = s.obj ix sub 0 :=
  (obj_refuse (by unfold oKey; omega) rq 2 code jx tub 0).trans rfl

/-- An object reads as the value that a direct write answered with 0 has given it. -/
theorem answer_noted_obj {u : State} {n ix sub v : Nat} (hc : Canonical s) (hu : u.objs = ((noted s n).setObj ix sub 0 v).objs)
    (rq : Rq) : (u.answer rq 2 0 []).obj ix sub 0 = v :=
  (obj_answer rq 2 0 [] ix sub 0).trans ((obj_congr hu ix sub 0).trans (obj_setObj (s := noted s n) (Canonical.objs_rising hc) _ _ _ _))

/-- Settles O12: each of the four writes is taken or refused by the check that its operands fail, and either way answered once. -/
theorem timeWritesAreCheckedAndApplied : Obligations.TimeWritesAreCheckedAndApplied := by
  refine ⟨fun rq n ns s h => ?_, fun rq n v s hc h hv => ?_, fun rq n v s hc h => ?_, fun rq n hz s hc h hb => ?_⟩
  · by_cases hok : s.time.mode = .servo ∧ s.time.pendingStep = none
    · obtain ⟨hm, hp⟩ := hok
      exact ⟨_, execStepRequest_accepts h ns hm hp,
        fun _ _ => ⟨answer_time _ _ _ _ _, Silent.answers ⟨rfl, rfl, rfl⟩ _ _ _ _⟩,
        fun hno => by simp [hm, hp] at hno⟩
    · have hno : s.time.mode = .track ∨ s.time.pendingStep ≠ none := by
        cases hm : s.time.mode <;> simp_all
      exact ⟨_, execStepRequest_refuses h ns hno,
        fun hm hp => absurd ⟨hm, hp⟩ hok,
        fun _ => ⟨refuse_time _ _ _ _ _ _ _, (silent_noted s n).refuses _ _ _ _ _ _⟩⟩
  · by_cases hs : v.toNat = 1 ∧ s.block.state = .service
    · obtain ⟨hv1, hb⟩ := hs
      exact ⟨_, execCorrectionModeSelect_refuses h v hv1 hb,
        fun hno => absurd ⟨hv1, hb⟩ hno,
        fun _ _ => ⟨refuse_noted_obj (by omega) _ _ _ _ _ _, (silent_noted s n).refuses _ _ _ _ _ _⟩⟩
    · exact ⟨_, execCorrectionModeSelect_accepts h v hv hs,
        fun _ => ⟨answer_noted_obj (n := n) hc (by rfl) _, Silent.answers ⟨rfl, rfl, rfl⟩ _ _ _ _⟩,
        fun hv1 hb => absurd ⟨hv1, hb⟩ hs⟩
  · by_cases hr : -200000 ≤ v.toInt ∧ v.toInt ≤ 200000
    · obtain ⟨hl, hu⟩ := hr
      exact ⟨_, execRateCorrectionWrite_accepts h v hl hu,
        fun _ _ => ⟨answer_noted_obj (n := n) hc (by rfl) _, Silent.answers ⟨rfl, rfl, rfl⟩ _ _ _ _⟩,
        fun hno => by omega⟩
    · exact ⟨_, execRateCorrectionWrite_refuses h v (by omega),
        fun hl hu => absurd ⟨hl, hu⟩ hr,
        fun _ => ⟨refuse_noted_obj (by omega) _ _ _ _ _ _, (silent_noted s n).refuses _ _ _ _ _ _⟩⟩
  · by_cases hr : 100000000 ≤ hz.toNat ∧ hz.toNat ≤ 400000000
    · obtain ⟨hl, hu⟩ := hr
      exact ⟨_, execReferenceFrequencyWrite_accepts h hz hb hl hu,
        fun _ _ => ⟨answer_noted_obj (n := n) hc (by rfl) _, Silent.answers ⟨rfl, rfl, rfl⟩ _ _ _ _,
          nominalOf hz.toNat, answer_time _ _ _ _ _, nominalOf_nearest (by omega)⟩,
        fun hno => by omega⟩
    · exact ⟨_, execReferenceFrequencyWrite_refuses h hz (by omega),
        fun hl hu => absurd ⟨hl, hu⟩ hr,
        fun _ => ⟨refuse_noted_obj (by omega) _ _ _ _ _ _, refuse_time _ _ _ _ _ _ _,
          (silent_noted s n).refuses _ _ _ _ _ _⟩⟩

end Sys2Proof.Laws

/-! Measures: the reference and the 1588 engine (R26, R29, R32, R34), and the state after reset. -/

namespace Sys2Proof.Laws

open Sys2Proof.Machine Sys2Proof.Safety

variable {s : State}

/-! ### The time of day -/

theorem timeWord_ns (n : Nat) : timeWord n % 2 ^ 32 = n % 10 ^ 9 := by
  unfold timeWord
  omega

theorem timeWord_seconds (n : Nat) : timeWord n / 2 ^ 32 = n / 10 ^ 9 := by
  unfold timeWord
  omega

/-- The last nanosecond of a second carries. -/
theorem timeWord_carry {n : Nat} (h : timeWord n % 2 ^ 32 = 10 ^ 9 - 1) : timeWord (n + 1) = (timeWord n / 2 ^ 32 + 1) * 2 ^ 32 := by
  rw [timeWord_seconds]
  rw [timeWord_ns] at h
  unfold timeWord
  omega

/-- The first cycle at the nominal rate (R26, R29). -/
theorem execReferenceCycle_nominal (h0 : s.time.tod = 0) (hr : s.time.rate = 0) :
    execReferenceCycle s = .next { s with time := { s.time with tod := s.time.nominal * 10 ^ 9 } } := by
  have hn : ((1000000000 : Int) + 0).toNat = 10 ^ 9 := by rw [add_zero]; exact Int.toNat_natCast (10 ^ 9)
  simp only [execReferenceCycle, State.modTime, h0, hr, hn, Nat.zero_add]

/-- Settles O10: seconds and nanoseconds are quotient and remainder, and a released block counts from 0 at the nominal rate. -/
theorem timeOfDayCarriesAndStarts : Obligations.TimeOfDayCarriesAndStarts := by
  refine ⟨fun n => ⟨timeWord_ns n, timeWord_seconds n⟩, fun n => timeWord_carry, fun straps compat s h => ?_⟩
  have he : execResetRelease straps compat s = .next { s.cleared with block := { profile := straps.toNat, compat } } := by
    simp [execResetRelease, h]
  exact ⟨_, he, rfl, execReferenceCycle_nominal rfl rfl⟩

/-- Settles O4: by computation, at the reset state. -/
theorem resetState : Obligations.ResetState :=
  ⟨rfl, rfl, rfl, rfl, rfl, rfl, fun _ => rfl, rfl, rfl, fun _ => rfl, rfl, rfl, rfl⟩

/-! ### The 1588 engine -/

/-- PTP_OFFSET in TRACK records the measurement (R32). -/
theorem execPtpOffset_track (ofs : BitVec 64) (hm : s.time.mode = .track) :
    execPtpOffset ofs s = .next (s.setObj 0x7802 1 0 ofs.toNat) := by
  simp [execPtpOffset, hm]

/-- PTP_OFFSET in SERVO records the measurement, takes a rate within the limits and asks for a step against an offset beyond
0x7801.06 (R30, R32). -/
theorem execPtpOffset_servo (ofs : BitVec 64) (hm : s.time.mode = .servo) :
    ∃ t, execPtpOffset ofs s = .next t ∧ t.objs = (s.setObj 0x7802 1 0 ofs.toNat).objs ∧
      (-200000 ≤ t.time.servoRate ∧ t.time.servoRate ≤ 200000) ∧
      t.time.pendingStep = if s.obj 0x7801 6 0 < ofs.toInt.natAbs ∧ s.time.pendingStep = none then some (-ofs.toInt)
        else s.time.pendingStep := by
  have hb : (decide (s.obj 0x7801 6 0 < ofs.toInt.natAbs) && s.time.pendingStep.isNone) = true ↔
      s.obj 0x7801 6 0 < ofs.toInt.natAbs ∧ s.time.pendingStep = none := by simp
  unfold execPtpOffset
  rw [hm]
  refine ⟨_, rfl, ?_, ?_, ?_⟩ <;> unfold State.when
  · split <;> rfl
  · split <;> exact clampRate_range _
  · split
    · exact (if_pos (hb.mp ‹_›)).symm
    · exact (if_neg (mt hb.mpr ‹_›)).symm

/-- PTP_RATE in SERVO (R34). -/
theorem execPtpRate_servo (rate : BitVec 32) (hm : s.time.mode = .servo) : execPtpRate rate s = .next s := by
  simp [execPtpRate, hm]

/-- PTP_RATE in TRACK takes the rate clamped to the limits, and counts a clamp (R34). -/
theorem execPtpRate_track (rate : BitVec 32) (ho : Map.rising s.objs = true) (hm : s.time.mode = .track) :
    ∃ t, execPtpRate rate s = .next t ∧ t.obj 0x7801 2 0 = ofInt 32 (clampRate rate.toInt) ∧
      t.obj 0x7802 3 0 = s.obj 0x7802 3 0 + if clampRate rate.toInt = rate.toInt then 0 else 1 := by
  unfold execPtpRate
  rw [hm]
  extract_lets r s1
  have h1 : s1.obj 0x7801 2 0 = ofInt 32 r := obj_setObj ho _ _ _ _
  have h2 : s1.obj 0x7802 3 0 = s.obj 0x7802 3 0 := obj_setObj_ne _ (by decide)
  have hr : Map.rising s1.objs = true := Map.put_rising ho
  clear_value s1
  by_cases hc : r = rate.toInt
  · refine ⟨s1, if_pos hc, h1, ?_⟩
    rw [h2, if_pos hc]
    rfl
  · refine ⟨_, if_neg hc, ?_, ?_⟩
    · exact (obj_logEvent (by decide) _ _ _ _ _ _).trans ((obj_count_ne (by decide)).trans h1)
    · rw [obj_logEvent (by decide), obj_count hr, h2, if_neg hc]

/-- Settles O11: a reference cycle adds its increment; an offset is recorded, and in SERVO feeds the servo and may ask for a step; a
rate is ignored in SERVO and clamped in TRACK. -/
theorem referenceCyclesAndMeasurements : Obligations.ReferenceCyclesAndMeasurements := by
  refine ⟨fun s => rfl, fun ofs s hc => ?_, fun rate s hm => execPtpRate_servo rate hm, fun rate s hc hm => ?_⟩
  · have hrec := obj_setObj (Canonical.objs_rising hc) 0x7802 1 0 ofs.toNat
    cases hm : s.time.mode with
    | track =>
      have hch : Changes [.objs] s (s.setObj 0x7802 1 0 ofs.toNat) := Only.changes (setObj_only (.refl s) _ _ _ _)
      exact ⟨_, execPtpOffset_track ofs hm, hrec, fun _ => hch, (fun h => nomatch h)⟩
    | servo =>
      obtain ⟨t, ht, hobjs, ⟨hlo, hhi⟩, hstep⟩ := execPtpOffset_servo ofs hm
      refine ⟨t, ht, (obj_congr hobjs _ _ _).trans hrec, (fun h => nomatch h), fun _ => ⟨hlo, hhi, fun d hd => ?_, fun hn => ?_⟩⟩
      · simp [hstep, hd]
      · simp [hstep, hn]
  · obtain ⟨t, ht, hrate, hcount⟩ := execPtpRate_track rate (Canonical.objs_rising hc) hm
    refine ⟨t, ht, hrate, hcount.trans ?_⟩
    have hiff := clampRate_eq_iff rate.toInt
    by_cases hr : -200000 ≤ rate.toInt ∧ rate.toInt ≤ 200000
    · rw [if_pos (hiff.mpr hr), if_neg (by omega)]
    · rw [if_neg (fun e => hr (hiff.mp e)), if_pos (by omega)]

end Sys2Proof.Laws

/-! Sheets: a stack whose timing set is numbered so high that its burst count is read where the ledger stands. -/

namespace Sys2Proof.Laws

open Sys2Proof.Machine Sys2Proof.Safety

/-- A number of a timing set, far beyond the U8 of 0x2002.01, whose parameter 27 (0x2800.01, the burst slots) has the key of the
ledger of stack 27 (0x4020.01). -/
def aliasSet : Nat := (0x4020 - 0x2800) * 256 * 2 ^ 27

theorem aliasSet_key : oKey 0x2800 1 (aliasSet * 32 + 27) = oKey 0x4020 1 27 := by decide

/-- The reset state with stack 27 in bring-up under that set, a ledger of 1,000 slots left from before, and all its
pseudo-channels lost but the first. -/
def aliased : State :=
  { State.reset with
    stackTab := [(27, { power := .bringUp, bring := 4 })]
    objs := (oKey (stackIx 0x2002 27) 1 0, aliasSet) :: (oKey 0x4020 1 27, 1000) ::
      (List.range 63).map fun i => (oKey 0x6031 1 (pcNo 27 (i + 1)), 2) }

theorem aliased_canonical : Canonical aliased := by
  unfold Canonical
  decide +kernel

/-- The sheet of the first pseudo-channel, counted while the burst count still read 1,000: 12 cycles of band, no cut, 988 slots;
with the ledger at 0 the burst count reads 250. -/
def AliasedSheet (t : State) : Prop :=
  (t.pc (pcNo 27 0)).sheetNext.map (fun h => (h.deliver, h.band, h.cut)) = some (988, 12, none) ∧
    (t.timingFor (t.setNext (pcNo 27 0))).burst = 250 ∧ t.level 27 = 0

theorem aliased_sheet : ∃ t, exec (.callSheetComplete 27) aliased = .next t ∧ AliasedSheet t := by
  unfold AliasedSheet
  exact ⟨_, rfl, by decide +kernel⟩

/-- With a burst in one cycle of four (R174), that sheet leaves 247 slots. -/
theorem AliasedSheet.leaves {t : State} {h : Sheet} (ht : AliasedSheet t) (hh : (t.pc (pcNo 27 0)).sheetNext = some h) :
    h.deliver = 988 ∧ t.deliverOf 27 0 h = 247 := by
  obtain ⟨hs, hburst, hlevel⟩ := ht
  rw [hh] at hs
  simp only [Option.map_some, Option.some.injEq, Prod.mk.injEq] at hs
  obtain ⟨hdeliver, hband, hcut⟩ := hs
  refine ⟨hdeliver, ?_⟩
  simp only [State.deliverOf, hburst, hlevel, hband, Sheet.inCut, hcut]
  decide +kernel

/-- Refutes O13: nothing bounds the number of a timing set, and under one whose burst count has the key of the stack's own ledger a
sheet is given 988 slots, while the state after the ledger's write counts 247 for it. -/
theorem not_callSheetsAreCompleteAndCounted : ¬ Obligations.CallSheetsAreCompleteAndCounted := by
  intro hall
  obtain ⟨t, ht, hsheet⟩ := aliased_sheet
  obtain ⟨u, hu, hpcs, -⟩ := hall 27 aliased aliased_canonical (by decide +kernel)
  cases ht.symm.trans hu
  obtain ⟨h, hh, -, hawake⟩ := hpcs 0 (by decide)
  obtain ⟨hdeliver, hleaves⟩ := hsheet.leaves hh
  obtain ⟨-, hcount⟩ := hawake (by decide +kernel) (by decide +kernel)
  have hbelow : h.deliver = t.deliverOf 27 0 h := hcount (by decide +kernel)
  omega

end Sys2Proof.Laws

/-! Accesses: what the port takes at acceptance, and the check that refuses what it does not take (R44 to R47, R513). -/

namespace Sys2Proof.Laws

open Sys2Proof.Machine Sys2Proof.Safety

variable {s t u : State}

/-! ### Ports -/

theorem port_congr (h : t.ports = s.ports) (p : Nat) : t.port p = s.port p := by
  unfold State.port
  rw [h]

/-- A change of a port that leaves something to list is read back. -/
theorem port_modPort_listed {p : Nat} {f : PortState → PortState} (h : f (s.port p) ≠ {}) : (s.modPort p f).port p = f (s.port p) :=
  Map.look_put_listed h s.ports

/-! ### Requests taken and refused -/

/-- Whatever comes before a request is taken, if it leaves the tracker alone. -/
theorem Takes.after {q : Req} {m : Nat} (h : Only m s t) (g : Takes q t u) (hr : m.testBit 8 = false := by decide)
    (hn : m.testBit 9 = false := by decide) : Takes q s u := by
  obtain ⟨hreqs, hnext⟩ := g
  exact ⟨by rw [hreqs, h.reqs_eq hr], by rw [hnext, h.nextReq_eq hn]⟩

theorem takes_pushReq (q : Req) (s : State) : Takes q s (s.pushReq q) := ⟨rfl, rfl⟩

/-- A slot that is taken waits behind the write data due before it, for as many positions as its operation brings (R48). -/
theorem due_pushReq {q : Req} (h : q.reserved = false) :
    ((s.pushReq q).port q.master).due =
      if q.op.needsData then (s.port q.master).due ++ [{ req := q.id, n := dataPositions q.op q.bytes }] else (s.port q.master).due := by
  refine (congrArg PortState.due (port_modPort_listed fun e => ?_)).trans rfl
  have hslot := congrArg (fun k : PortState => Map.look 0 (clsCode q.cls) k.slots) e
  simp [h, Map.upd, Map.look_put_listed, Map.look] at hslot

/-- A refusal of a slot is tracked and answered, and only events have been counted before it (R51, R97). -/
theorem refusedWith_refuseReq {op : ReqOp} {r : PortReq} {q : Req} (h : Only 524296 s t) (d : Detail) (hid : q.id = s.nextReq)
    (hm : q.master = r.port.val) (ho : q.op = op) (ht : q.tag = r.tag.toNat) : RefusedWith d op r s (t.refuseReq q d) :=
  ⟨_, Takes.after h (takes_pushReq _ t), hid, hm, ho, ht, rfl, rfl, h.regions_eq, h.loft_eq, h.dram_eq⟩

/-- Counting programmable counters leaves every object below theirs alone (R485). -/
theorem obj_tallyBlock {ix sub el : Nat} (h : oKey ix sub el < oKey 0x9002 1 0) (code n : Nat) (x : Txn) :
    (s.tallyBlock code n x).obj ix sub el = s.obj ix sub el := by
  refine each_keeps (fun s => s.obj ix sub el) fun t i _ => ?_
  have hne : oKey ix sub el ≠ oKey 0x9002 1 i := by unfold oKey at h ⊢; omega
  unfold State.countOn
  extract_lets
  split
  · split
    · exact obj_setObj_ne _ hne
    · exact obj_setObj_ne _ hne
  · rfl

/-- A counter of the block that starts from 0 adds one, whatever the table of objects lists. -/
theorem obj_count_plain {ix sub : Nat} (h : objDefault ix sub 0 = 0) : (s.count ix sub).obj ix sub 0 = s.obj ix sub 0 + 1 :=
  Map.look_put_listed (by rw [h]; omega) s.objs

/-! ### The checks of an access, in their order (R513) -/

/-- The state in which an accepted slot's sectors have been counted (R490). -/
def slotCounted (s : State) (op : ReqOp) (r : PortReq) : State := s.tallyBlock 1 (s.newReq op r).sectors (s.newReq op r).txn

theorem slotCounted_only (s : State) (op : ReqOp) (r : PortReq) : Only 524296 s (slotCounted s op r) :=
  tallyBlock_only (.refl s) _ _ _

/-- A refusal that is counted, after its slot was. -/
theorem obj_count_slot {op : ReqOp} {r : PortReq} {ix sub : Nat} (hd : objDefault ix sub 0 = 0) (hk : oKey ix sub 0 < oKey 0x9002 1 0)
    (q : Req) (d : Detail) : (((slotCounted s op r).count ix sub).refuseReq q d).obj ix sub 0 = s.obj ix sub 0 + 1 := by
  have hslot : (slotCounted s op r).obj ix sub 0 = s.obj ix sub 0 := obj_tallyBlock hk _ _ _
  rw [obj_congr (refuseReq_only (m := 1792) (.refl _) q d).objs_eq, obj_count_plain hd, hslot]

/-- The record of a slot that names an extent of a region (R72, R92). -/
def regionReq (s : State) (op : ReqOp) (r : PortReq) (region : Nat) : Req :=
  { s.newReq op r with region, version := (s.slot region).now.version }

section Slot

variable {op : ReqOp} {r : PortReq} (hready : s.portReady r.port.val r.cls = true)

include hready

theorem acceptAccess_misaligned (h : r.addr.toNat % reqBytes op r.size.toNat ≠ 0) :
    s.acceptAccess op r = (slotCounted s op r).refuseReq (s.newReq op r) .range := by
  unfold State.acceptAccess
  simp [hready, slotCounted, State.newReq, h]

variable (haligned : r.addr.toNat % reqBytes op r.size.toNat = 0)

include haligned

theorem acceptAccess_tagged (h : s.tagOut r.port.val r.tag.toNat = true) :
    s.acceptAccess op r = ((slotCounted s op r).count 0x1311 2).refuseReq (s.newReq op r) .state := by
  unfold State.acceptAccess
  simp [hready, slotCounted, State.newReq, haligned, h]

variable (hfree : s.tagOut r.port.val r.tag.toNat = false)

include hfree

theorem acceptAccess_nowhere (h : s.lookup r.addr.toNat (reqBytes op r.size.toNat) = none) :
    s.acceptAccess op r = (slotCounted s op r).refuseReq (s.newReq op r) .range := by
  unfold State.acceptAccess
  simp [hready, slotCounted, State.newReq, haligned, hfree, h]

variable {region off : Nat} (hfound : s.lookup r.addr.toNat (reqBytes op r.size.toNat) = some (region, off))

include hfound

theorem acceptAccess_foreign (h : r.tenant.toNat ≠ (s.slot region).now.tenant) :
    s.acceptAccess op r = ((slotCounted s op r).count 0x3403 1).refuseReq (regionReq s op r region) .denied := by
  unfold State.acceptAccess
  simp [hready, slotCounted, regionReq, State.newReq, haligned, hfree, hfound, h]

variable (hown : r.tenant.toNat = (s.slot region).now.tenant)

include hown

theorem acceptAccess_stopped (h : s.block.state = .safe ∨ s.block.scanEn = true) :
    s.acceptAccess op r = (slotCounted s op r).refuseReq (regionReq s op r region) .state := by
  unfold State.acceptAccess
  simp only [hready, State.newReq, haligned, hfree, hfound, hown, slotCounted, regionReq]
  rcases h with h | h <;> simp [h]

end Slot

/-- The command of a slot is its acceptance. -/
theorem exec_accessOf {op : ReqOp} {r : PortReq} {c : Instr} (h : accessOf op r = some c) : exec c s = .next (s.acceptAccess op r) := by
  cases op with
  | read | write | add | swap | cas => cases h; rfl
  | fence | post | reserved n => cases h

/-- Settles O15: each check that fails first has its equation of `acceptAccess`, and its answer is a refusal. -/
theorem accessChecksRefuseInOrder : Obligations.AccessChecksRefuseInOrder := by
  intro op r c s hc hready
  have hcounted := slotCounted_only s op r
  refine ⟨_, exec_accessOf hc, fun hmis => ?_, fun hal htag => ?_, fun hal hfree hno => ?_, fun region off hal hfree hat => ⟨fun hten => ?_, fun hown hstop => ?_⟩⟩
  · rw [acceptAccess_misaligned hready hmis]
    exact refusedWith_refuseReq hcounted _ rfl rfl rfl rfl
  · rw [acceptAccess_tagged hready hal htag]
    exact ⟨refusedWith_refuseReq (count_only hcounted _ _) _ rfl rfl rfl rfl, obj_count_slot (by decide) (by decide) _ _⟩
  · rw [acceptAccess_nowhere hready hal hfree hno]
    exact refusedWith_refuseReq hcounted _ rfl rfl rfl rfl
  · rw [acceptAccess_foreign hready hal hfree hat hten]
    exact ⟨refusedWith_refuseReq (count_only hcounted _ _) _ rfl rfl rfl rfl, obj_count_slot (by decide) (by decide) _ _⟩
  · rw [acceptAccess_stopped hready hal hfree hat hown hstop]
    exact refusedWith_refuseReq hcounted _ rfl rfl rfl rfl

/-! ### An access that passes every check -/

/-- A request with what its chunk makes of it: the FILLING chunk that holds it, and whether it found a BLANK one (R22, R84). -/
def atChunk (q : Req) (c : Option Nat) (b : Bool) : Req := { q with chunk := c, blank := b }

theorem takeChunk_req (s : State) (q : Req) (region off : Nat) : ∃ c b, (s.takeChunk q region off).1 = atChunk q c b := by
  unfold State.takeChunk
  extract_lets e c
  split
  · exact ⟨q.chunk, q.blank, rfl⟩
  · split
    · split
      · exact ⟨q.chunk, q.blank, rfl⟩
      · exact ⟨some c, q.blank, rfl⟩
    · split
      · exact ⟨q.chunk, true, rfl⟩
      · exact ⟨some c, q.blank, rfl⟩

/-- The request and the state of an accepted access, after its unit's wake and its chunk's fill have been started (R83, R173). -/
def chunkTaken (s : State) (op : ReqOp) (r : PortReq) (region off : Nat) : Req × State :=
  ((slotCounted s op r).startWake op region (s.slot region).now.version off).takeChunk (regionReq s op r region) region off

theorem chunkTaken_only (s : State) (op : ReqOp) (r : PortReq) (region off : Nat) : Only 526414 s (chunkTaken s op r region off).2 :=
  takeChunk_only (startWake_only ((slotCounted_only s op r).mono rfl) _ _ _ _) _ _ _

theorem acceptAccess_accepts {op : ReqOp} {r : PortReq} {region off : Nat} (h : Accepts s op r region off) :
    s.acceptAccess op r = (chunkTaken s op r region off).2.pushReq (chunkTaken s op r region off).1 := by
  obtain ⟨hready, hal, hfree, hfound, hown, hsafe, hscan, herase, hwrite, hscratch, hread, hok⟩ := h
  have hlost : (op.writes && s.lostWrite region (s.slot region).now.version off) = false := by
    cases ho : op.writes
    · rfl
    · exact hwrite ho
  have hline : (op.writes && (s.slot region).now.loft == 2 && s.loft.lostLines.contains
      ((s.scratchKey (chunkOf (s.slot region).now off) (off % 2097152 / 256)).getD (2 ^ 40))) = false := by
    cases ho : op.writes
    · rfl
    · by_cases hl : (s.slot region).now.loft = 2
      · rw [hscratch ho hl, Bool.and_false]
      · simp [hl]
  have hdata : (op == .read && !s.blank (chunkOf (s.slot region).now off) &&
      ((s.slot region).lost || s.lostRebuild region off)) = false := by
    by_cases ho : op = .read
    · rcases hread ho with hb | ⟨hl, hr⟩
      · simp [hb]
      · simp [hl, hr]
    · simp [ho]
  unfold State.acceptAccess
  simp only [hready, State.newReq, hal, hfree, hfound, ← hown, hlost, hline, hdata, hscan, herase, hok]
  simp [hsafe, chunkTaken, slotCounted, regionReq, State.newReq]

/-- Positions of write data (R48), as the statements write them. -/
theorem dataPositions_eq (op : ReqOp) (bytes : Nat) : dataPositions op bytes = if op = .write then (bytes + 63) / 64 else 1 := by
  simp [dataPositions, ceilDiv]

/-- Settles O14: the access is pushed with the chunk and blank marks that its chunk gives it, and nothing else of it changes. -/
theorem acceptedAccessIsTracked : Obligations.AcceptedAccessIsTracked := by
  intro op r c s region off hc h
  have honly := chunkTaken_only s op r region off
  obtain ⟨k, b, hq⟩ : ∃ k b, (chunkTaken s op r region off).1 = atChunk (regionReq s op r region) k b := takeChunk_req _ _ _ _
  have hex := exec_accessOf (s := s) hc
  rw [acceptAccess_accepts h, hq] at hex
  refine ⟨_, atChunk (regionReq s op r region) k b, hex, Takes.after honly (takes_pushReq _ _), rfl, rfl, rfl, rfl, rfl, rfl, rfl, rfl, rfl, rfl, rfl, rfl, rfl, rfl, ?_⟩
  have hdue := due_pushReq (s := (chunkTaken s op r region off).2) (q := atChunk (regionReq s op r region) k b) rfl
  rw [dataPositions_eq, port_congr honly.ports_eq] at hdue
  cases op with
  | read | write | add | swap | cas => exact hdue
  | fence | post | reserved n => cases hc

end Sys2Proof.Laws

/-! Holds: fences, reserved slots, and what leaves a hold buffer (R44, R46, R96, R109). -/

namespace Sys2Proof.Laws

open Sys2Proof.Machine Sys2Proof.Safety

variable {s t u : State}

/-! ### Fences and reserved slots -/

theorem execFence_accepts {r : PortReq} (hready : s.portReady r.port.val r.cls = true) (hfree : s.tagOut r.port.val r.tag.toNat = false)
    (hsafe : s.block.state ≠ .safe) (hscan : s.block.scanEn = false) :
    execFence r s = .next ((s.tallyBlock 1 0 (s.newReq .fence r).txn).pushReq
      { s.newReq .fence r with whole := some (.done, .none), phase := .done }) := by
  unfold execFence
  simp [hready, State.newReq, hfree, hsafe, hscan]

theorem execReservedOperation_refuses (r : PortReq) (op cls : BitVec 4) (hup : s.block.boot = .up)
    (hc : 4 ≤ cls.toNat ∨ s.portReady r.port.val (clsOf cls.toNat) = true) :
    execReservedOperation r op cls s = .next (s.refuseReq
      { s.newReq (opOf op.toNat) { r with cls := clsOf cls.toNat } with reserved := decide (4 ≤ cls.toNat) } .range) := by
  have hgo : (s.block.boot != .up || (!decide (4 ≤ cls.toNat) && !s.portReady r.port.val (clsOf cls.toNat))) = false := by
    rcases hc with h | h <;> simp [hup, h]
  unfold execReservedOperation
  simp [hgo]

/-! ### The request of a serial number -/

theorem req?_congr (h : t.reqs = s.reqs) (id : Nat) : t.req? id = s.req? id := by
  unfold State.req?
  rw [h]

theorem req?_id {id : Nat} {q : Req} (h : s.req? id = some q) : q.id = id := by
  simpa using List.find?_some h

/-- A change of one number's request that keeps the number leaves every number's search where it was. -/
theorem find_modReq {f : Req → Req} {id : Nat} (hf : ∀ x : Req, x.id = id → (f x).id = id) (j : Nat) :
    (s.modReq id f).req? j = (s.req? j).map fun x => if x.id == id then f x else x := by
  refine List.find?_map.trans (congrArg _ (congrArg (List.find? · s.reqs) (funext fun x => ?_)))
  by_cases hx : x.id = id
  · simp [hx, hf x hx]
  · simp [hx]

theorem req?_modReq {f : Req → Req} {id : Nat} {q : Req} (h : s.req? id = some q) (hf : ∀ x : Req, x.id = id → (f x).id = id) :
    (s.modReq id f).req? id = some (f q) := by
  rw [find_modReq hf, h, Option.map_some, if_pos (by simp [req?_id h])]

theorem req?_modReq_ne {f : Req → Req} {id j : Nat} (h : j ≠ id) (hf : ∀ x : Req, x.id = id → (f x).id = id) :
    (s.modReq id f).req? j = s.req? j := by
  rw [find_modReq hf]
  cases hq : s.req? j with
  | none => rfl
  | some q => simp [req?_id hq, h]

/-! ### A request that has left its hold buffer -/

/-- The request of a serial number is a port's, counts against the caps and has left its hold buffer (R109). -/
def LeftHold (id : Nat) (s : State) : Prop :=
  ∃ q, s.req? id = some q ∧ q.dest = .port ∧ q.routed = true ∧ q.phase ≠ .held

theorem LeftHold.congr {id : Nat} (h : LeftHold id s) (g : t.reqs = s.reqs) : LeftHold id t := by
  obtain ⟨q, hq, hrest⟩ := h
  exact ⟨q, (req?_congr g id).trans hq, hrest⟩

theorem LeftHold.only {id m : Nat} (h : LeftHold id s) (g : Only m s t) (b : m.testBit 8 = false := by decide) : LeftHold id t :=
  h.congr (g.reqs_eq b)

/-- A change that puts the request of the number in another place but its hold buffer. -/
theorem LeftHold.modReq {id : Nat} (h : LeftHold id s) {f : Req → Req}
    (hf : ∀ x : Req, (f x).id = x.id ∧ (f x).dest = x.dest ∧ (f x).routed = x.routed ∧ (f x).phase ≠ .held) : LeftHold id (s.modReq id f) := by
  obtain ⟨q, hq, hdest, hrouted, -⟩ := h
  obtain ⟨-, hd, hr, hp⟩ := hf q
  exact ⟨f q, req?_modReq hq fun x hx => (hf x).1.trans hx, hd.trans hdest, hr.trans hrouted, hp⟩

theorem LeftHold.reach {id : Nat} (h : LeftHold id s) : LeftHold id (s.reach id) := by
  unfold State.reach
  extract_lets moved s1
  have h1 : LeftHold id s1 := (h.modReq (f := fun r => { r.moves s.time.frame .loft with chunk := none, reached := s.seqNo })
    fun x => ⟨rfl, rfl, rfl, by simp [Req.moves]⟩).congr rfl
  clear_value moved s1
  split
  · split
    · exact h1.only (slipOn_only (m := 16384) (.refl _) _ _)
    · exact h1
  · exact h1

theorem LeftHold.answerRead {id : Nat} (h : LeftHold id s) (f : Nat → SectorRsp) : LeftHold id (s.answerRead id f) :=
  (h.modReq (f := fun r => { r with rsp := (upTo r.sectors).map fun i => (i, f i), phase := .done, chunk := none, landed := s.seqNo })
    fun x => ⟨rfl, rfl, rfl, by simp⟩).congr rfl

/-- A whole answer of a port's request stays until it is delivered (R51). -/
theorem LeftHold.settle {id : Nat} (h : LeftHold id s) (c : RspCode) (d : Detail) : LeftHold id (s.settle id c d) := by
  have h1 : LeftHold id (s.modReq id fun r => { r with whole := some (c, d), phase := .done, chunk := none }) :=
    h.modReq fun x => ⟨rfl, rfl, rfl, by simp⟩
  obtain ⟨q, hq, hdest, -⟩ := h
  unfold State.settle
  rw [hq]
  simp only [hdest]
  exact h1

theorem LeftHold.goArb {id : Nat} (h : LeftHold id s) (e : RegionEntry) (off : Nat) : LeftHold id (s.goArb id e off) :=
  (h.modReq (f := fun r => { r.moves s.time.frame .arb with chunk := none }) fun x => ⟨rfl, rfl, rfl, by simp [Req.moves]⟩).only
    (callStack_only (m := 2048) (.refl _) _)

theorem LeftHold.route {id : Nat} (h : LeftHold id s) : LeftHold id (s.route id) := by
  unfold State.route
  split
  · exact h
  · extract_lets off e
    split
    · exact h.reach
    · split
      · exact h.answerRead _
      · split
        · exact h.settle _ _
        · split
          · exact h.reach
          · exact h.goArb _ _

/-- A port's request that goes on from its hold buffer has left it, wherever it goes (R109). -/
theorem leftHold_leaveHold {r : Req} (h : s.req? r.id = some r) (hd : r.dest = .port) : LeftHold r.id (s.leaveHold r) := by
  unfold State.leaveHold
  extract_lets s1
  have h1 : LeftHold r.id s1 :=
    ⟨_, req?_modReq h fun x hx => hx, hd, rfl, by simp [Req.moves]⟩
  split
  · exact (h1.answerRead _).only (tallyBlock_only (m := 524296) (count_only (.refl _) _ _) _ _ _)
  · split
    · split
      · exact h1
      · exact h1.route
    · exact h1.route

theorem LeftHold.mem {id : Nat} (h : LeftHold id s) : ∃ q ∈ s.reqs, q.id = id ∧ q.routed = true ∧ q.phase ≠ .held := by
  obtain ⟨q, hq, -, hrouted, hphase⟩ := h
  exact ⟨q, List.mem_of_find?_eq_some hq, req?_id hq, hrouted, hphase⟩

/-! ### The first held request of a class -/

section FirstHeld

variable {p : Nat} {c : Cls} {r : Req}
  (hfirst : (s.portReqs p).find? (fun q => q.cls == c && q.phase == .held && !q.reserved) = some r)

include hfirst

theorem firstHeld_dest : r.dest = .port := by
  have hr := List.mem_of_find?_eq_some hfirst
  simp only [State.portReqs, List.mem_filter, Bool.and_eq_true, beq_iff_eq] at hr
  exact hr.2.2

/-- An access whose unit is ready leaves when nothing stands before it (R96, R109). -/
theorem holdRelease_access (hop : r.op ≠ .post) (hready : r.notReady = false) :
    s.holdRelease p c = if s.capRoom r && !s.behindHeld r then s.leaveHold r else s := by
  unfold State.holdRelease
  rw [hfirst]
  simp [hop, hready]

/-- A POST leaves when both caps have room, and is taken if its slate has come (R49, R109). -/
theorem holdRelease_post (hop : r.op = .post) :
    s.holdRelease p c =
      if s.capRoom r then (s.modReq r.id fun q => { q with phase := .wait, routed := true }).takePosts p else s := by
  unfold State.holdRelease
  rw [hfirst]
  simp [hop]

end FirstHeld

/-- No post of a port that waits for its slate has it (R49). -/
def SlatesDue (s : State) (p : Nat) : Prop := ∀ r ∈ s.portReqs p, r.op = .post → r.phase = .wait → r.data = none

theorem SlatesDue.takePosts {p : Nat} (h : SlatesDue s p) : s.takePosts p = s := by
  unfold State.takePosts
  rw [List.filter_eq_nil_iff.mpr fun r hr hc => ?_]
  · rfl
  · simp only [Bool.and_eq_true, beq_iff_eq] at hc
    obtain ⟨⟨hop, hw⟩, hdata⟩ := hc
    simp [h r hr hop hw] at hdata

/-- Where each number is used once, a number has one request (R101). -/
theorem eq_of_id_eq {x y : Req} (hnd : (s.reqs.map (·.id)).Nodup) (hx : x ∈ s.reqs) (hy : s.req? x.id = some y) : x = y :=
  List.inj_on_of_nodup_map hnd hx (List.mem_of_find?_eq_some hy) (req?_id hy).symm

theorem SlatesDue.congr {p : Nat} (h : SlatesDue s p) (g : t.reqs = s.reqs) : SlatesDue t p := by
  unfold SlatesDue State.portReqs at h ⊢
  rwa [g]

/-- A request that is given its data leaves the posts as they were, unless it is one that waits for its slate. -/
theorem SlatesDue.modReq {p id : Nat} {q : Req} {f : Req → Req} (h : SlatesDue s p) (hnd : (s.reqs.map (·.id)).Nodup) (hq : s.req? id = some q)
    (hf : (f q).op = .post → (f q).phase = .wait → (f q).data = none) : SlatesDue (s.modReq id f) p := by
  intro r hr hop hw
  simp only [State.portReqs, State.modReq_reqs, List.mem_filter, List.mem_map] at hr
  obtain ⟨⟨y, hy, rfl⟩, hport⟩ := hr
  by_cases hid : y.id = id
  · have hyq : y = q := eq_of_id_eq hnd hy (hid ▸ hq)
    simp only [hyq, req?_id hq, beq_self_eq_true, if_true] at hop hw ⊢
    exact hf hop hw
  · simp only [beq_iff_eq, hid, if_false] at hport hop hw ⊢
    exact h y (List.mem_filter.mpr ⟨hy, hport⟩) hop hw

/-- A POST that leaves its hold buffer before its slate waits for it (R49). -/
theorem holdRelease_waits {p : Nat} {c : Cls} {r : Req}
    (hfirst : (s.portReqs p).find? (fun q => q.cls == c && q.phase == .held && !q.reserved) = some r) (hreq : s.req? r.id = some r)
    (hop : r.op = .post) (hdata : r.data = none) (hw : WriteReady s p) (hcap : s.capRoom r = true) :
    s.holdRelease p c = s.modReq r.id fun q => { q with phase := .wait, routed := true } := by
  obtain ⟨-, hnd, hdue⟩ := hw
  rw [holdRelease_post hfirst hop, if_pos hcap]
  exact (SlatesDue.modReq hdue hnd hreq fun _ _ => hdata).takePosts

/-- Settles O16: fences and reserved slots are pushed with their answers, and the first held request of a class leaves as `leaveHold`
says, or stays. -/
theorem fenceReservedAndHeldSlots : Obligations.FenceReservedAndHeldSlots := by
  refine ⟨fun r s hready hfree hsafe hscan => ?_, fun r op cls s hup hc => ?_, fun p c s r hfirst hreq => ⟨fun hop hnr => ⟨fun hcap hbehind => ?_, fun hno => ?_⟩, fun hop hdata hw => ⟨fun hcap => ?_, fun hcap => ?_⟩⟩⟩
  · exact ⟨_, _, execFence_accepts hready hfree hsafe hscan, Takes.after (tallyBlock_only (m := 524296) (.refl s) _ _ _) (takes_pushReq _ _),
      rfl, rfl, rfl, rfl, rfl, rfl⟩
  · exact ⟨_, execReservedOperation_refuses r op cls hup hc, refusedWith_refuseReq (.refl s) _ rfl rfl rfl rfl⟩
  · have hex : exec (.holdBufferRelease p c) s = .next (s.leaveHold r) := by
      refine congrArg Host.Outcome.next ((holdRelease_access hfirst hop hnr).trans (if_pos ?_))
      simp [hcap, hbehind]
    obtain ⟨q, hq, hrest⟩ := (leftHold_leaveHold hreq (firstHeld_dest hfirst)).mem
    exact ⟨_, q, hex, hq, hrest⟩
  · refine congrArg Host.Outcome.next ((holdRelease_access hfirst hop hnr).trans (if_neg ?_))
    rcases hno with h | h <;> simp [h]
  · refine ⟨_, congrArg Host.Outcome.next (holdRelease_waits hfirst hreq hop hdata hw hcap), Only.changes (modReq_only (.refl s) _ _), ?_⟩
    exact req?_modReq hreq fun x hx => hx
  · exact congrArg Host.Outcome.next ((holdRelease_post hfirst hop).trans (if_neg (by simp [hcap])))

end Sys2Proof.Laws

/-! WriteData: each position of write data goes to the first due request, or is discarded (R48, R49, R118). -/

namespace Sys2Proof.Laws

open Sys2Proof.Machine Sys2Proof.Safety

variable {s t u : State} {p : Nat}

/-! ### The first due request of a port -/

theorem Canonical.ports_wf (h : Canonical s) : Map.wf (fun _ => ({} : PortState)) s.ports = true := by
  obtain ⟨-, -, hp, -⟩ := h
  exact hp

theorem port_modPort (h : Canonical s) (p : Nat) (f : PortState → PortState) : (s.modPort p f).port p = f (s.port p) :=
  Map.look_upd p f _ (Canonical.ports_wf h)

theorem advance_waits {q : PortState} {x : Due} {rest : List Due} {got : List Sector} {lost : Nat} (h : got.length + lost < x.n) :
    q.advance x rest got lost = { q with gathered := got, due := { x with lost } :: rest } :=
  if_pos h

theorem advance_ends {q : PortState} {x : Due} {rest : List Due} {got : List Sector} {lost : Nat} (h : x.n ≤ got.length + lost) :
    q.advance x rest got lost = { q with gathered := [], due := rest } :=
  if_neg (by omega)

theorem giveData_idle (d : Sector) (h : (s.port p).due = []) : s.giveData p d = s := by
  unfold State.giveData
  simp only [h]

section FirstDue

variable {x : Due} {rest : List Due} (hdue : (s.port p).due = x :: rest) (d : Sector)

include hdue

/-- Data that comes late is discarded and counted (R49, R397). -/
theorem giveData_late (h : x.late = true) :
    s.giveData p d = ((s.modPort p fun q => q.advance x rest ((s.port p).gathered ++ [d]) x.lost).count 0x1311 3).bump 0x6040 3
      (unitPort p) 1 := by
  unfold State.giveData
  simp only [hdue, h, if_true]

/-- A position that does not complete its request, or one that can never be complete, changes the port alone (R48). -/
theorem giveData_waits (h : x.late = false) (hn : ((s.port p).gathered ++ [d]).length < x.n) :
    s.giveData p d = s.modPort p fun q => q.advance x rest ((s.port p).gathered ++ [d]) x.lost := by
  unfold State.giveData
  simp only [hdue, h, hn, if_true, Bool.false_eq_true, if_false]

/-- The last position: the request is due no more and has its data (R48). -/
theorem giveData_completes (h : x.late = false) (hn : x.n ≤ ((s.port p).gathered ++ [d]).length) :
    s.giveData p d = (s.modPort p fun q => { q with gathered := [], due := rest }).modReq x.req fun q =>
      withData s q ((s.port p).gathered ++ [d]) := by
  unfold State.giveData
  simp only [hdue, h, Nat.not_lt.mpr hn, Bool.false_eq_true, if_false,
    advance_ends (Nat.le_trans hn (Nat.le_add_right _ x.lost))]
  rfl

/-- What the port holds after a position, whatever becomes of it (R48). -/
theorem port_giveData (hc : Canonical s) :
    (s.giveData p d).port p = (s.port p).advance x rest ((s.port p).gathered ++ [d]) x.lost := by
  cases hl : x.late with
  | true =>
    rw [giveData_late hdue d hl]
    exact port_modPort hc p fun q => q.advance x rest _ x.lost
  | false =>
    by_cases hn : ((s.port p).gathered ++ [d]).length < x.n
    · rw [giveData_waits hdue d hl hn]
      exact port_modPort hc p _
    · rw [giveData_completes hdue d hl (by omega), advance_ends (by omega)]
      exact port_modPort hc p fun q => { q with gathered := [], due := rest }

end FirstDue

/-! ### Posts that have their slates -/

/-- What WRITE_DATA does with one position (R48, R49). -/
def positionTaken (p : Nat) (s : State) (d : Sector) : State := (s.giveData p d).takePosts p

theorem execWriteData_room {port : Fin 36} {s : State} (h : s.writeBuffer port.val ≤ 65024) (ps : List Sector) :
    execWriteData port ps s = .next (s.each ps (positionTaken port.val)) := by
  unfold execWriteData
  rw [if_neg (by omega)]
  rfl

theorem port_positionTaken {x : Due} {rest : List Due} (hdue : (s.port p).due = x :: rest) (hc : Canonical s) (d : Sector) :
    (positionTaken p s d).port p = (s.port p).advance x rest ((s.port p).gathered ++ [d]) x.lost :=
  (port_congr (takePosts_only (m := 18702) (.refl _) p).ports_eq p).trans (port_giveData hdue d hc)

/-- A position that completes no request's data, and what it leaves as it was. -/
theorem positionTaken_waits {x : Due} {rest : List Due} (hdue : (s.port p).due = x :: rest) (hs : SlatesDue s p) (d : Sector)
    (h : x.late = false) (hn : ((s.port p).gathered ++ [d]).length < x.n) :
    positionTaken p s d = s.modPort p fun q => q.advance x rest ((s.port p).gathered ++ [d]) x.lost := by
  unfold positionTaken
  rw [giveData_waits hdue d h hn]
  exact SlatesDue.takePosts (hs.congr (by rfl))

theorem positionTaken_late {x : Due} {rest : List Due} (hdue : (s.port p).due = x :: rest) (hs : SlatesDue s p) (d : Sector)
    (h : x.late = true) : positionTaken p s d = ((s.modPort p fun q =>
      q.advance x rest ((s.port p).gathered ++ [d]) x.lost).count 0x1311 3).bump 0x6040 3 (unitPort p) 1 := by
  unfold positionTaken
  rw [giveData_late hdue d h]
  exact SlatesDue.takePosts (hs.congr (by rfl))

/-- The last position of a request that is no post waiting for its slate. -/
theorem positionTaken_completes {x : Due} {rest : List Due} {q : Req} (hdue : (s.port p).due = x :: rest) (hs : SlatesDue s p)
    (hnd : (s.reqs.map (·.id)).Nodup) (d : Sector) (h : x.late = false) (hn : x.n ≤ ((s.port p).gathered ++ [d]).length)
    (hq : s.req? x.req = some q) (hp : q.op ≠ .post ∨ q.phase ≠ .wait) :
    positionTaken p s d = (s.modPort p fun q => { q with gathered := [], due := rest }).modReq x.req fun q =>
      withData s q ((s.port p).gathered ++ [d]) := by
  unfold positionTaken
  rw [giveData_completes hdue d h hn]
  exact (SlatesDue.modReq (s := s.modPort p _) hs hnd hq fun hop hw => absurd hw (hp.resolve_left (not_not.mpr hop))).takePosts

/-- Where each number is used once, a number picks its request alone (R101). -/
theorem filter_id_eq {l : List Req} {q : Req} (hnd : (l.map (·.id)).Nodup) (hq : q ∈ l) : l.filter (·.id == q.id) = [q] := by
  induction l with
  | nil => cases hq
  | cons a l ih =>
    obtain ⟨ha, hl⟩ := List.nodup_cons.mp hnd
    obtain rfl | hq := List.mem_cons.mp hq
    · have hnone : l.filter (·.id == q.id) = [] := by
        refine List.filter_eq_nil_iff.mpr fun y hy he => ha ?_
        exact List.mem_map.mpr ⟨y, hy, beq_iff_eq.mp he⟩
      rw [List.filter_cons_of_pos (by simp), hnone]
    · have hne : a.id ≠ q.id := fun e => ha (List.mem_map.mpr ⟨q, hq, e.symm⟩)
      rw [List.filter_cons_of_neg (by simp [hne]), ih hl hq]

/-- A post of a port that waits for its slate and is given it is the one that is taken (R49). -/
theorem takePosts_modReq {id : Nat} {q : Req} {f : Req → Req} (hs : SlatesDue s p) (hnd : (s.reqs.map (·.id)).Nodup)
    (hq : s.req? id = some q) (hpost : (f q).op = .post) (hw : (f q).phase = .wait) (hd : (f q).data.isSome = true)
    (hm : (f q).master = p) (hport : (f q).dest = .port) : (s.modReq id f).takePosts p = (s.modReq id f).portPost (f q) := by
  obtain rfl := req?_id hq
  have htaken : ((s.modReq q.id f).portReqs p).filter (fun r => r.op == .post && r.phase == .wait && r.data.isSome) = [f q] := by
    rw [State.portReqs, State.modReq_reqs, List.filter_filter, List.filter_map, List.filter_congr (q := (·.id == q.id)) fun r hr => ?_,
      filter_id_eq hnd (List.mem_of_find?_eq_some hq)]
    · simp
    · by_cases hid : r.id = q.id
      · have hrq : r = q := eq_of_id_eq hnd hr (hid ▸ hq)
        simp [hrq, hpost, hw, hd, hm, hport]
      · have hno : r.master = p → r.dest = .port → r.op = .post → r.phase = .wait → r.data = none := fun h1 h2 =>
          hs r (List.mem_filter.mpr ⟨hr, by simp [h1, h2]⟩)
        simp only [Function.comp, beq_iff_eq, hid, if_false]
        grind
  unfold State.takePosts
  rw [htaken]
  rfl

/-- The last position of a post that waits for its slate: the post is taken (R49, R243). -/
theorem positionTaken_posts {x : Due} {rest : List Due} {q : Req} (hdue : (s.port p).due = x :: rest) (hs : SlatesDue s p)
    (hnd : (s.reqs.map (·.id)).Nodup) (d : Sector) (h : x.late = false) (hn : x.n ≤ ((s.port p).gathered ++ [d]).length)
    (hq : s.req? x.req = some q) (hop : q.op = .post) (hw : q.phase = .wait) (hm : q.master = p) (hd : q.dest = .port) :
    positionTaken p s d = ((s.modPort p fun q => { q with gathered := [], due := rest }).modReq x.req fun q =>
      withData s q ((s.port p).gathered ++ [d])).portPost (withData s q ((s.port p).gathered ++ [d])) := by
  unfold positionTaken
  rw [giveData_completes hdue d h hn]
  exact takePosts_modReq (s := s.modPort p _) hs hnd hq hop hw rfl hm hd

/-- Whatever becomes of a position that completes no request, the tracker and the time are as before. -/
theorem positionTaken_only_ports {x : Due} {rest : List Due} (hdue : (s.port p).due = x :: rest) (hs : SlatesDue s p) (d : Sector)
    (h : x.late = false) (hn : ((s.port p).gathered ++ [d]).length < x.n) : Only 1024 s (positionTaken p s d) := by
  rw [positionTaken_waits hdue hs d h hn]
  exact modPort_only (.refl s) _ _

/-- The positions that a first due request still waits for, given one after another, complete it (R48). -/
theorem positionsTaken_complete {x : Due} {rest : List Due} {q : Req} (hlate : x.late = false) (hlost : x.lost = 0) (hop : q.op ≠ .post) :
    ∀ (ps : List Sector) (s : State), Canonical s → SlatesDue s p → (s.reqs.map (·.id)).Nodup → (s.port p).due = x :: rest →
      (s.port p).gathered.length + ps.length = x.n → ps ≠ [] → s.req? x.req = some q →
        ((s.each ps (positionTaken p)).port p).due = rest ∧ ((s.each ps (positionTaken p)).port p).gathered = [] ∧
          (s.each ps (positionTaken p)).req? x.req = some (withData s q ((s.port p).gathered ++ ps))
  | [], _, _, _, _, _, _, hne, _ => absurd rfl hne
  | [d], s, hc, hs, hnd, hdue, hn, _, hq => by
    have hlen : ((s.port p).gathered ++ [d]).length = x.n := by simpa using hn
    have hport := port_positionTaken hdue hc d
    rw [advance_ends (by omega)] at hport
    refine ⟨congrArg PortState.due hport, congrArg PortState.gathered hport, ?_⟩
    change (positionTaken p s d).req? x.req = _
    rw [positionTaken_completes hdue hs hnd d hlate hlen.ge hq (.inl hop)]
    exact req?_modReq (s := s.modPort p _) hq fun y hy => hy
  | d :: e :: ps, s, hc, hs, hnd, hdue, hn, _, hq => by
    have hlen : ((s.port p).gathered ++ [d]).length < x.n := by
      simp only [List.length_append, List.length_cons, List.length_nil] at hn ⊢
      omega
    have honly := positionTaken_only_ports hdue hs d hlate hlen
    have hport := port_positionTaken hdue hc d
    rw [advance_waits (by omega)] at hport
    have hdue' : ((positionTaken p s d).port p).due = x :: rest := congrArg PortState.due hport
    have hgot : ((positionTaken p s d).port p).gathered = (s.port p).gathered ++ [d] := congrArg PortState.gathered hport
    have ih := positionsTaken_complete hlate hlost hop (e :: ps) (positionTaken p s d) (honly.canon hc) (hs.congr honly.reqs_eq)
      (by rwa [honly.reqs_eq]) hdue' (by rw [hgot]; simp at hn ⊢; omega) (List.cons_ne_nil _ _) ((req?_congr honly.reqs_eq _).trans hq)
    rw [hgot, List.append_assoc] at ih
    have htime : withData (positionTaken p s d) q ((s.port p).gathered ++ ([d] ++ e :: ps)) =
        withData s q ((s.port p).gathered ++ d :: e :: ps) := by
      unfold withData
      rw [honly.time_eq]
      rfl
    rwa [htime] at ih

/-! ### A port without room -/

/-- What WRITE_DATA does with one position when the buffer has no room (R48). -/
def positionLost (p : Nat) (s : State) (_ : Sector) : State := (s.bump 0x1311 7 0 1).loseData p

theorem execWriteData_full {port : Fin 36} {s : State} (h : 65024 < s.writeBuffer port.val) (ps : List Sector) :
    execWriteData port ps s = .next (s.each ps (positionLost port.val)) := by
  unfold execWriteData
  rw [if_pos (by omega)]
  rfl

theorem positionLost_only {a : State} {m : Nat} (h : Only m a s) (d : Sector) (hm : Sub 1032 m := by decide) :
    Only m a (positionLost p s d) :=
  loseData_only (bump_only h _ _ _ _ (Sub.trans (by decide) hm)) _ (Sub.trans (by decide) hm)

/-- Each position without room is counted (R48). -/
theorem obj_positionsLost (p : Nat) :
    ∀ (ps : List Sector) (s : State), (s.each ps (positionLost p)).obj 0x1311 7 0 = s.obj 0x1311 7 0 + ps.length
  | [], _ => rfl
  | d :: ps, s => by
    have hone : (positionLost p s d).obj 0x1311 7 0 = s.obj 0x1311 7 0 + 1 :=
      (obj_congr (loseData_only (m := 1024) (.refl _) p).objs_eq _ _ _).trans (obj_count_plain (by decide))
    rw [List.length_cons, ← Nat.add_assoc, Nat.add_right_comm, ← hone]
    exact obj_positionsLost p ps (positionLost p s d)

/-- The first due request lacks a position that is lost (R48). -/
theorem port_positionLost (hc : Canonical s) {x : Due} {rest : List Due} (hdue : (s.port p).due = x :: rest) (d : Sector) :
    (positionLost p s d).port p = (s.port p).advance x rest (s.port p).gathered (x.lost + 1) := by
  have hdue' : ((s.bump 0x1311 7 0 1).port p).due = x :: rest := hdue
  unfold positionLost State.loseData
  simp only [hdue']
  exact port_modPort (s := s.bump 0x1311 7 0 1) ((bump_only (m := 8) (.refl s) _ _ _ _).canon hc) p _

/-- Settles O17: one position as the equations of `positionTaken` say, several by taking them one after another, and those without
room by `positionLost`. -/
theorem writeDataCompletesTheFirstDueRequest : Obligations.WriteDataCompletesTheFirstDueRequest := by
  refine ⟨fun port s => ?_, fun port d s hw hdue => ?_, fun port d s x rest hc hw hdue => ?_, fun port d ps s t hroom ht hroom' => ?_,
    fun port ps s x rest q hc hw hdue hgot hlate hlost hn hne hq hop => ?_, fun port ps s hc hfull => ?_⟩
  · by_cases hroom : s.writeBuffer port.val ≤ 65024
    · exact execWriteData_room hroom []
    · exact execWriteData_full (by omega) []
  · obtain ⟨hroom, -, hs⟩ := hw
    refine (execWriteData_room hroom [d]).trans (congrArg Host.Outcome.next ?_)
    change (s.giveData port.val d).takePosts port.val = s
    rw [giveData_idle d hdue]
    exact SlatesDue.takePosts hs
  · obtain ⟨hroom, hnd, hs⟩ := hw
    have hport := port_positionTaken hdue hc d
    refine ⟨_, execWriteData_room hroom [d], fun hno => ?_, fun hends => ?_, fun hlate => ?_, fun hlate hn => ?_, fun q hlate hn hq => ⟨fun hop => ?_, fun hop hwait hm hd => ?_⟩⟩
    · rw [advance_waits (by omega)] at hport
      exact ⟨congrArg PortState.due hport, congrArg PortState.gathered hport⟩
    · rw [advance_ends hends] at hport
      exact ⟨congrArg PortState.due hport, congrArg PortState.gathered hport⟩
    · change (positionTaken port.val s d).reqs = s.reqs ∧ (positionTaken port.val s d).obj 0x1311 3 0 = s.obj 0x1311 3 0 + 1
      rw [positionTaken_late hdue hs d hlate]
      refine ⟨rfl, ?_⟩
      rw [State.bump, obj_setObj_ne _ (by unfold oKey; omega), obj_count_plain (by decide)]
      rfl
    · exact Only.changes (positionTaken_only_ports hdue hs d hlate hn)
    · change Changes [.ports, .reqs] s (positionTaken port.val s d) ∧ (positionTaken port.val s d).req? x.req = _ ∧
        ∀ id, id ≠ x.req → (positionTaken port.val s d).req? id = _
      rw [positionTaken_completes hdue hs hnd d hlate hn hq hop]
      exact ⟨Only.changes (modReq_only (modPort_only (.refl s) _ _) _ _), req?_modReq (s := s.modPort port.val _) hq fun y hy => hy,
        fun id hid => req?_modReq_ne (s := s.modPort port.val _) hid fun y hy => hy⟩
    · exact positionTaken_posts hdue hs hnd d hlate hn hq hop hwait hm hd
  · cases (execWriteData_room hroom [d]).symm.trans ht
    exact (execWriteData_room hroom (d :: ps)).trans (execWriteData_room hroom' ps).symm
  · obtain ⟨hroom, hnd, hs⟩ := hw
    have hall := positionsTaken_complete hlate hlost hop ps s hc hs hnd hdue (by simpa [hgot] using hn) hne hq
    rw [hgot] at hall
    exact ⟨_, execWriteData_room hroom ps, hall⟩
  · refine ⟨_, execWriteData_full hfull ps, obj_positionsLost _ ps s, Only.changes (each_only (fun t d h => positionLost_only h d) ps (.refl s)), ?_⟩
    intro x rest hone hdue
    obtain ⟨d, rfl⟩ := List.length_eq_one_iff.mp hone
    refine (congrArg PortState.due (port_positionLost hc hdue d)).trans ?_
    by_cases hn : (s.port port.val).gathered.length + (x.lost + 1) < x.n
    · rw [advance_waits hn, if_pos (by omega)]
    · rw [advance_ends (by omega), if_neg (by omega)]

end Sys2Proof.Laws

/-! Responses: what a port's response channel delivers in one engine cycle (R50, R51, R96, R103). -/

namespace Sys2Proof.Laws

open Sys2Proof.Machine Sys2Proof.Safety

variable {s t u : State}

/-! ### Positions -/

/-- Besides its one output, a position only counts (R50, R490). -/
theorem position_counts (s : State) (r : Req) (code : RspCode) (d : Detail) (seq : Nat) (last : Bool) (data : Sector) :
    Only 524296 (s.emit (.rsp r.master r.tag code d seq last r.oor data)) (s.position r code d seq last data) := by
  unfold State.position
  extract_lets s1 s2
  have h2 : Only 524296 s1 s2 := tallyBlock_only (ite_only (count_only (.refl s1) _ _) (.refl s1)) _ _ _
  exact ite_only (tallyBlock_only h2 _ _ _) h2

/-- From `s` on, with room for `n` positions, some were sent: there is room for `x.1` more, and no request came. -/
structure Delivers (n : Nat) (s : State) (x : Nat × State) : Prop where
  sent : ∃ l, Sends l s x.2 ∧ l.length + x.1 = n
  known : ∀ q ∈ x.2.reqs, ∃ y ∈ s.reqs, y.id = q.id

theorem Delivers.refl (n : Nat) (s : State) : Delivers n s (n, s) :=
  ⟨⟨[], (List.append_nil _).symm, by simp⟩, fun q hq => ⟨q, hq, rfl⟩⟩

theorem Delivers.trans {n : Nat} {x y : Nat × State} (h : Delivers n s x) (g : Delivers x.1 x.2 y) : Delivers n s y := by
  obtain ⟨⟨l, hl, hn⟩, hk⟩ := h
  obtain ⟨⟨m, hm, hx⟩, hj⟩ := g
  refine ⟨⟨l ++ m, ?_, by simp; omega⟩, fun q hq => ?_⟩
  · unfold Sends at hl hm ⊢
    rw [hm, hl, List.append_assoc]
  · obtain ⟨z, hz, hzq⟩ := hj q hq
    obtain ⟨w, hw, hwz⟩ := hk z hz
    exact ⟨w, hw, hwz.trans hzq⟩

/-- One position sent, with requests of the numbers there were. -/
theorem delivers_position {n : Nat} {r : Req} {code : RspCode} {d : Detail} {seq : Nat} {last : Bool} {data : Sector} {l : List Req}
    (hk : ∀ q ∈ l, ∃ y ∈ s.reqs, y.id = q.id) : Delivers (n + 1) s (n, { s.position r code d seq last data with reqs := l }) :=
  ⟨⟨[_], (position_counts s r code d seq last data).outbox_eq, by simp; omega⟩, hk⟩

/-- Delivering what a request has ready sends at most as many positions as there is room for. -/
theorem delivers_deliver : ∀ (n : Nat) (s : State) (r : Req), Delivers n s (s.deliver r n)
  | 0, s, _ => .refl 0 s
  | n + 1, s, r => by
    have hpos (code d seq last data) : (s.position r code d seq last data).reqs = s.reqs :=
      (position_counts s r code d seq last data).reqs_eq
    unfold State.deliver
    split
    · exact delivers_position fun q hq => ⟨q, (List.mem_filter.mp hq).1, rfl⟩
    · split
      · exact .refl _ s
      · extract_lets total last s1 r1
        split
        · exact delivers_position fun q hq => ⟨q, hpos .. ▸ (List.mem_filter.mp hq).1, rfl⟩
        · refine (delivers_position fun q hq => ?_).trans (delivers_deliver n _ r1)
          obtain ⟨y, hy, rfl⟩ := List.mem_map.mp hq
          refine ⟨y, hpos .. ▸ hy, ?_⟩
          split
          · exact beq_iff_eq.mp ‹_›
          · rfl

/-! ### One cycle of the channel -/

/-- What the channel does with one request of its port (R96, R103). -/
def releaseStep (p : Nat) (acc : Nat × State) (r0 : Req) : Nat × State :=
  match acc.2.req? r0.id with
  | none => acc
  | some r => if ((acc.2.portReqs p).takeWhile fun q => q.id != r.id).any fun q => q.holdsBack r then acc else acc.2.deliver r acc.1

/-- The port at the start of a new engine cycle, with its classes without room counted (R490, log 141). -/
def cycleOpened (p : Nat) (s : State) : State :=
  (s.each [Cls.critical, .assured, .bulk, .upkeep] fun s c =>
    if s.portReady p c then s else s.tallyBlock 6 1 { master := p, cls := clsCode c, role := 0 }).modPort p fun q => { q with slots := [] }

theorem cycleOpened_only (p : Nat) (s : State) : Only 525320 s (cycleOpened p s) :=
  modPort_only (each_only (fun _ _ h => ite_only h (tallyBlock_only h _ _ _)) _ (.refl s)) _ _

theorem execResponseRelease_eq (port : Fin 36) (s : State) :
    execResponseRelease port s =
      .next (((cycleOpened port.val s).portReqs port.val).foldl (releaseStep port.val) (8, cycleOpened port.val s)).2 := rfl

theorem delivers_releaseStep (p : Nat) (acc : Nat × State) (r : Req) : Delivers acc.1 acc.2 (releaseStep p acc r) := by
  unfold releaseStep
  split
  · exact .refl ..
  · split
    · exact .refl ..
    · exact delivers_deliver ..

theorem delivers_releaseSteps (p : Nat) : ∀ (l : List Req) (acc : Nat × State), Delivers acc.1 acc.2 (l.foldl (releaseStep p) acc)
  | [], _ => .refl ..
  | r :: l, acc => (delivers_releaseStep p acc r).trans (delivers_releaseSteps p l (releaseStep p acc r))

/-- The state after a request that is answered as a whole has been delivered (R50, R51). -/
def deliveredWhole (s : State) (r : Req) (code : RspCode) (d : Detail) : State :=
  { s.position r code d 0 true 0 with reqs := s.reqs.filter fun x => x.id != r.id }

theorem deliveredWhole_outbox (s : State) (r : Req) (code : RspCode) (d : Detail) :
    (deliveredWhole s r code d).outbox = s.outbox ++ [.rsp r.master r.tag code d 0 true r.oor 0] := by
  dsimp only [deliveredWhole]
  exact (position_counts s r code d 0 true 0).outbox_eq

theorem deliveredWhole_id_ne {r q : Req} {code : RspCode} {d : Detail} (h : q ∈ (deliveredWhole s r code d).reqs) : q.id ≠ r.id := by
  unfold deliveredWhole at h
  simpa using (List.mem_filter.mp h).2

/-- A request of a port that no earlier one precedes is delivered at once when it is answered as a whole (R51). -/
theorem releaseStep_whole {p n : Nat} {r : Req} {rest : List Req} {code : RspCode} {d : Detail} (hfirst : s.portReqs p = r :: rest)
    (hreq : s.req? r.id = some r) (hw : r.whole = some (code, d)) : releaseStep p (n + 1, s) r = (n, deliveredWhole s r code d) := by
  unfold releaseStep
  simp only [hreq]
  rw [hfirst]
  simp [State.deliver, hw, deliveredWhole]

/-- Settles O18: eight positions are the room of the cycle, and the first request, answered as a whole, is delivered in the first
step. -/
theorem responsesLeaveInOrder : Obligations.ResponsesLeaveInOrder := by
  intro port s
  have hopen := cycleOpened_only port.val s
  obtain ⟨l, hl, hn⟩ := (delivers_releaseSteps port.val ((cycleOpened port.val s).portReqs port.val) (8, cycleOpened port.val s)).sent
  refine ⟨_, l, execResponseRelease_eq port s, hl.trans (by rw [hopen.outbox_eq]), by omega, fun r rest code d hfirst hreq hw hrest => ?_⟩
  have hfirst' : (cycleOpened port.val s).portReqs port.val = r :: rest := by
    rwa [State.portReqs, hopen.reqs_eq]
  have hm : r.master = port.val := by
    have hr : r ∈ s.portReqs port.val := hfirst ▸ List.mem_cons_self ..
    simp only [State.portReqs, List.mem_filter, Bool.and_eq_true, beq_iff_eq] at hr
    exact hr.2.1
  have hstep := releaseStep_whole (n := 7) hfirst' ((req?_congr hopen.reqs_eq _).trans hreq) hw
  obtain ⟨⟨l', hl', -⟩, hknown⟩ := delivers_releaseSteps port.val rest (7, deliveredWhole (cycleOpened port.val s) r code d)
  rw [hfirst', List.foldl_cons, hstep] at hl ⊢
  refine ⟨?_, fun q hq => ?_⟩
  · unfold Sends at hl hl'
    rw [deliveredWhole_outbox, hl, hm] at hl'
    have heq : l = [.rsp port.val r.tag code d 0 true r.oor 0] ++ l' := by simpa using hl'
    rw [heq]
    rfl
  · obtain ⟨y, hy, hyq⟩ := hknown q hq
    exact hyq ▸ deliveredWhole_id_ne hy

end Sys2Proof.Laws

/-! Watchdog: the reset of a port's path and the end of an engine's wait (R49, R118, R128). -/

namespace Sys2Proof.Laws

open Sys2Proof.Machine Sys2Proof.Safety

variable {s t u : State}

/-! ### When the watchdog bites -/

theorem execWatchdogBite_holds {id : Nat} {r : Req} (hreq : s.req? id = some r) (h : s.waitClass r = none) :
    execWatchdogBite id s = .next s := by
  unfold execWatchdogBite
  simp only [hreq, h]

theorem execWatchdogBite_early {id : Nat} {r : Req} (hreq : s.req? id = some r) (h : s.time.frame ≤ r.waitSince + s.live' 0x4000 4 0) :
    execWatchdogBite id s = .next s := by
  unfold execWatchdogBite
  simp only [hreq]
  split
  · rfl
  · rw [if_pos (by simp [h])]

/-- A unit's generation is raised, where the engine's unit has a number (R118, R396). -/
def unitRaised (s : State) (unit : Option Nat) : State :=
  match unit with
  | some u => s.raiseGen u
  | none => s

theorem unitRaised_only (s : State) (unit : Option Nat) : Only 8 s (unitRaised s unit) := by
  unfold unitRaised
  split
  · exact raiseGen_only (.refl s) _
  · exact .refl s

/-- Raising a generation counts no bite. -/
theorem obj_unitRaised (s : State) (unit : Option Nat) : (unitRaised s unit).obj 0x4030 3 0 = s.obj 0x4030 3 0 := by
  unfold unitRaised
  split
  · exact obj_setObj_ne _ (by unfold oKey; omega)
  · rfl

/-- The state in which an engine's shots have been asked to abort (R118, R250). -/
def shotsAsked (s : State) (r : Req) : State :=
  (unitRaised s (s.engUnit r)).each (s.shotsOf r (s.engUnit r)) fun s x => s.askAbort x.id 5 r.master

theorem shotsAsked_only (s : State) (r : Req) : Only 16392 s (shotsAsked s r) :=
  each_only (fun _ _ h => askAbort_only h _ _ _) _ ((unitRaised_only s _).mono rfl)

theorem obj_shotsAsked (s : State) (r : Req) : (shotsAsked s r).obj 0x4030 3 0 = s.obj 0x4030 3 0 := by
  have h : Only 16384 (unitRaised s (s.engUnit r)) (shotsAsked s r) := each_only (fun _ _ h => askAbort_only h _ _ _) _ (.refl _)
  rw [obj_congr h.objs_eq, obj_unitRaised]

section Bites

variable {id cls : Nat} {r : Req} (hreq : s.req? id = some r) (hcls : s.waitClass r = some cls) (hexempt : s.exempt r = false)
  (hlong : r.waitSince + s.live' 0x4000 4 0 < s.time.frame)

include hreq hcls hexempt hlong

/-- A request of a port resets its port's path (R49). -/
theorem execWatchdogBite_port (hd : r.dest = .port) :
    execWatchdogBite id s =
      .next ((s.resetPort r.master).biteEvent r cls ((s.resetPort r.master).obj 0x6040 1 (unitPort r.master))) := by
  unfold execWatchdogBite
  simp only [hreq, hcls]
  rw [if_neg (by simp [hexempt, hlong])]
  simp only [hd]

/-- A request of an engine at its stack's arbiter raises its unit's generation, asks its shots to abort and waits anew (R118). -/
theorem execWatchdogBite_engine (hport : r.dest ≠ .port) (hline : ∀ k, r.dest ≠ .line k) (hback : ∀ k, r.dest ≠ .back k) :
    ∃ gen, execWatchdogBite id s =
      .next (((shotsAsked s r).modReq id fun r => { r with waitSince := s.time.frame }).biteEvent r cls gen) := by
  have hshots : (unitRaised s (s.engUnit r)).shotsOf r (s.engUnit r) = s.shotsOf r (s.engUnit r) := by
    cases s.engUnit r <;> rfl
  unfold execWatchdogBite
  simp only [hreq, hcls]
  rw [if_neg (by simp [hexempt, hlong])]
  rw [shotsAsked, ← hshots]
  cases hd : r.dest with
  | port => exact absurd hd hport
  | line k => exact absurd hd (hline k)
  | back k => exact absurd hd (hback k)
  | row u shot bag entry => exact ⟨_, rfl⟩
  | eng who => exact ⟨_, rfl⟩
  | sink => exact ⟨_, rfl⟩

end Bites

/-! ### What a bite counts -/

/-- The objects behind the ring's, but for the count of bites, are as before (R118, R512). -/
theorem obj_biteEvent_ne {ix sub el : Nat} (h : oKey 0x1302 0 0 ≤ oKey ix sub el) (hne : oKey ix sub el ≠ oKey 0x4030 3 0) (r : Req)
    (cls gen : Nat) : (s.biteEvent r cls gen).obj ix sub el = s.obj ix sub el := by
  unfold State.biteEvent
  extract_lets st
  rw [obj_logEvent h, obj_count_ne hne]

theorem obj_biteEvent (r : Req) (cls gen : Nat) : (s.biteEvent r cls gen).obj 0x4030 3 0 = s.obj 0x4030 3 0 + 1 := by
  unfold State.biteEvent
  extract_lets st
  rw [obj_logEvent (by decide), obj_count_plain (by decide)]

theorem biteEvent_events (s : State) (r : Req) (cls gen : Nat) : Only 12 s (s.biteEvent r cls gen) := biteEvent_only (.refl s) r cls gen

/-! ### The reset of a port's path -/

/-- A request that the reset of its path ends (R49). -/
def pathAborted (r : Req) : Req :=
  { r with whole := some (.aborted, .generation), rsp := [], released := 0, phase := .done, chunk := none, notReady := false }

theorem resetPort_reqs (s : State) (p : Nat) :
    (s.resetPort p).reqs = s.reqs.map fun r => if r.master == p && r.dest == .port then pathAborted r else r := rfl

theorem port_resetPort (hc : Canonical s) (p : Nat) : (s.resetPort p).port p =
    { s.port p with gathered := [], due := (s.port p).due.map fun d => { d with late := true } } := by
  unfold State.resetPort
  extract_lets ids s1 s2
  have h2 : Only 4360 s (s2.raiseGen (unitPort p)) := raiseGen_only (eachPc_only (upd256_only (.refl s) _) _) _
  rw [port_modPort (h2.canon hc), port_congr h2.ports_eq]

theorem obj_resetPort (hc : Canonical s) (p : Nat) :
    (s.resetPort p).obj 0x6040 1 (unitPort p) = (s.obj 0x6040 1 (unitPort p) + 1) % 65536 := by
  unfold State.resetPort
  extract_lets ids s1 s2
  have h2 : Only 4352 s s2 := eachPc_only (upd256_only (.refl s) _) _
  exact obj_setObj (Canonical.objs_rising (h2.canon hc)) _ _ _ _

theorem obj_resetPort_ne {p ix sub el : Nat} (h : oKey ix sub el ≠ oKey 0x6040 1 (unitPort p)) :
    (s.resetPort p).obj ix sub el = s.obj ix sub el := by
  unfold State.resetPort
  extract_lets ids s1 s2
  exact obj_setObj_ne (s := s2) _ h

/-! ### Aborts that are asked for -/

/-- Every admitted shot of a number has been asked to abort (R250). -/
def AbortAsked (id : Nat) (s : State) : Prop := ∀ y ∈ s.shot.shots, y.id = id → y.abort ≠ none

theorem askAbort_ids (s : State) (id cause detail : Nat) :
    (s.askAbort id cause detail).shot.shots.map (·.id) = s.shot.shots.map (·.id) := by
  simp only [State.askAbort, State.modShot_shot, List.map_map]
  refine List.map_congr_left fun x _ => ?_
  simp only [Function.comp]
  split <;> rfl

theorem abortAsked_askAbort (s : State) (id cause detail : Nat) : AbortAsked id (s.askAbort id cause detail) := by
  intro y hy hid
  obtain ⟨x, hx, rfl⟩ := List.mem_map.mp hy
  by_cases h : x.id = id
  · cases ha : x.abort <;> simp [h, ha]
  · simp [h] at hid

theorem AbortAsked.askAbort {id : Nat} (h : AbortAsked id s) (j cause detail : Nat) : AbortAsked id (s.askAbort j cause detail) := by
  intro y hy hid
  obtain ⟨x, hx, rfl⟩ := List.mem_map.mp hy
  by_cases hj : x.id = j
  · cases ha : x.abort <;> simp [hj, ha]
  · simp only [beq_iff_eq, hj, if_false] at hid ⊢
    exact h x hx hid

theorem each_cons {A : Type} (s : State) (x : A) (l : List A) (f : State → A → State) : s.each (x :: l) f = (f s x).each l f := rfl

theorem AbortAsked.each {id : Nat} (h : AbortAsked id s) (cause detail : Nat) (l : List Shot) :
    AbortAsked id (s.each l fun s x => s.askAbort x.id cause detail) := by
  induction l generalizing s with
  | nil => exact h
  | cons a l ih => rw [each_cons]; exact ih (h.askAbort a.id cause detail)

theorem abortAsked_each (cause detail : Nat) {l : List Shot} {x : Shot} (hx : x ∈ l) :
    AbortAsked x.id (s.each l fun s x => s.askAbort x.id cause detail) := by
  induction l generalizing s with
  | nil => cases hx
  | cons a l ih =>
    rw [each_cons]
    obtain rfl | hx := List.mem_cons.mp hx
    · exact (abortAsked_askAbort s x.id cause detail).each cause detail l
    · exact ih hx

theorem shotsAsked_ids (s : State) (r : Req) : (shotsAsked s r).shot.shots.map (·.id) = s.shot.shots.map (·.id) := by
  rw [← (unitRaised_only s (s.engUnit r)).shot_eq]
  exact each_keeps (fun s => s.shot.shots.map (·.id)) fun t x _ => askAbort_ids t _ _ _

/-- Settles O21: a bite at a port is `resetPort` and its event, one at an engine's request `shotsAsked`, a new wait and the event. -/
theorem watchdogResetsThePortPath : Obligations.WatchdogResetsThePortPath := by
  refine ⟨fun id s r hc hreq hcls hnr hd => ⟨fun hlong => ?_, fun hshort => execWatchdogBite_early hreq hshort⟩,
    fun id s r hc hreq hphase hnr hport hline hback hruns hlong => ?_, fun id s r hreq hcls => execWatchdogBite_holds hreq hcls⟩
  · obtain ⟨cls, hcls⟩ := Option.ne_none_iff_exists'.mp hcls
    have hexempt : s.exempt r = false := by simp [State.exempt, hnr, hd]
    have hbite := biteEvent_events (s.resetPort r.master) r cls ((s.resetPort r.master).obj 0x6040 1 (unitPort r.master))
    have hpath := (port_congr hbite.ports_eq r.master).trans (port_resetPort hc r.master)
    refine ⟨_, execWatchdogBite_port hreq hcls hexempt hlong hd, ?_, fun q hq hm hqd => ?_, fun q hq hother => ?_, ?_, ?_, fun x hx => ?_, ?_⟩
    · rw [hbite.reqs_eq, resetPort_reqs, List.map_map]
      refine List.map_congr_left fun q _ => ?_
      simp only [Function.comp]
      split <;> rfl
    · rw [hbite.reqs_eq, resetPort_reqs] at hq
      obtain ⟨y, -, rfl⟩ := List.mem_map.mp hq
      by_cases hy : y.master = r.master ∧ y.dest = .port
      · simp [hy, pathAborted]
      · simp only [hy, Bool.and_eq_true, beq_iff_eq, if_false] at hm hqd
        exact absurd ⟨hm, hqd⟩ hy
    · rw [hbite.reqs_eq, resetPort_reqs]
      refine List.mem_map.mpr ⟨q, hq, if_neg ?_⟩
      rcases hother with h | h <;> simp [h]
    · rw [obj_biteEvent_ne (by unfold oKey; omega) (by unfold oKey; omega), obj_resetPort hc]
    · rw [hpath, List.length_map]
    · rw [hpath] at hx
      obtain ⟨y, -, rfl⟩ := List.mem_map.mp hx
      rfl
    · rw [obj_biteEvent, obj_resetPort_ne (by unfold oKey; omega)]
  · have hexempt : s.exempt r = false := by simp [State.exempt, hnr, hruns]
    obtain ⟨cls, hcls⟩ : ∃ cls, s.waitClass r = some cls := by
      unfold State.waitClass
      split
      · exact ⟨_, rfl⟩
      · exact ⟨3, by rw [hphase]⟩
    obtain ⟨gen, hex⟩ := execWatchdogBite_engine hreq hcls hexempt hlong hport hline hback
    have hasked := shotsAsked_only s r
    have hbite := biteEvent_events ((shotsAsked s r).modReq id fun r => { r with waitSince := s.time.frame }) r cls gen
    refine ⟨_, hex, ?_, ?_, fun x hx => ?_, ?_⟩
    · rw [req?_congr hbite.reqs_eq]
      exact req?_modReq ((req?_congr hasked.reqs_eq id).trans hreq) fun y hy => hy
    · rw [hbite.shot_eq, State.modReq_shot, shotsAsked_ids]
    · rw [hbite.shot_eq]
      exact abortAsked_each 5 r.master hx
    · rw [obj_biteEvent]
      exact congrArg (· + 1) (obj_shotsAsked s r)

end Sys2Proof.Laws

/-! Outputs: credits, result packets and back-pressure states as they leave the block (R52, R54, R56, R268, R279). -/

namespace Sys2Proof.Laws

open Sys2Proof.Machine Sys2Proof.Safety

variable {s t u : State}

/-! ### Credits -/

/-- The state in which a pipeline that stands still for want of credits has been counted (R490). -/
def creditCounted (s : State) (p : Nat) : State :=
  if s.entry.owed.count p < Map.look 0 p s.entry.credits then s.tallyBlock 0x1A 1 {} else s

theorem creditCounted_only (s : State) (p : Nat) : Only 524296 s (creditCounted s p) :=
  ite_only (tallyBlock_only (.refl s) _ _ _) (.refl s)

theorem execCreditReturn_owed {pipe : Fin 32} (h : pipe.val ∈ s.entry.owed) :
    execCreditReturn pipe s = .next (((creditCounted s pipe.val).modEntry fun e =>
      { e with owed := e.owed.erase pipe.val, credits := Map.put 0 (Map.look 0 pipe.val e.credits - 1) pipe.val e.credits }).emit
        (.credit pipe.val)) := by
  unfold execCreditReturn
  extract_lets p s1
  rw [if_pos (List.contains_iff_mem.mpr h)]
  rfl

theorem execCreditReturn_none {pipe : Fin 32} (h : pipe.val ∉ s.entry.owed) :
    execCreditReturn pipe s = .next (creditCounted s pipe.val) := by
  unfold execCreditReturn
  extract_lets p s1
  rw [if_neg fun hc => h (List.contains_iff_mem.mp hc)]
  rfl

/-! ### Results -/

/-- The state in which the head packet has left (R54). -/
def headSent (s : State) (p : RsPacket) (rest : List RsPacket) : State :=
  (s.modEntry fun e => { e with results := rest }).emit (.result p)

/-- A chunk result has left: its slot goes on to its next chunk (R268). -/
def slotAdvanced (s : State) (p : RsPacket) : State := (s.modRslot p.shot p.slot fun r => { next := r.next + 1 }).count 0x5200 3

/-- A shot with one chunk result more that has left (R279, R280). -/
def chunkSent (x : Shot) : Shot :=
  { x with
    work := { x.work with sentChunks := x.work.sentChunks + 1 }
    done := x.work.sentChunks + 1
    ended := decide (slCount x.slate.toNat ≤ x.work.sentChunks + 1) && !x.work.withheld }

section Results

variable {p : RsPacket} {rest : List RsPacket} (hres : s.entry.results = p :: rest)

include hres

theorem execResultSend_part (h : p.ty ≠ 1 ∨ p.last = false) : execResultSend s = .next (headSent s p rest) := by
  unfold execResultSend
  simp only [hres]
  rw [if_pos (by simpa using h)]
  rfl

theorem execResultSend_last (hty : p.ty = 1) (hlast : p.last = true) :
    execResultSend s = .next ((slotAdvanced (headSent s p rest) p).modShot p.shot chunkSent) := by
  unfold execResultSend
  simp only [hres]
  rw [if_neg (by simp [hty, hlast])]
  rfl

end Results

/-- The admitted shot of a number after a change that keeps numbers. -/
theorem shot?_modShot {id : Nat} {f : Shot → Shot} {x : Shot} (h : s.shot? id = some x) (hf : ∀ y : Shot, y.id = id → (f y).id = id) :
    (s.modShot id f).shot? id = some (f x) := by
  have hx : x.id = id := by simpa using List.find?_some h
  unfold State.shot? at h ⊢
  rw [State.modShot_shot, List.find?_map]
  have hp : ((fun y : Shot => y.id == id) ∘ fun y => if y.id == id then f y else y) = fun y => y.id == id := by
    funext y
    by_cases hy : y.id = id
    · simp [hy, hf y hy]
    · simp [hy]
  rw [hp, h]
  simp [hx]

/-- The slot of a chunk result that has left stands at its next chunk, empty (R268). -/
theorem slotAdvanced_shot? {p : RsPacket} {x : Shot} (h : s.shot? p.shot = some x) :
    ∃ y, (slotAdvanced s p).shot? p.shot = some y ∧ y.rslot p.slot = { next := (x.rslot p.slot).next + 1 } ∧ y.work.sentChunks = x.work.sentChunks := by
  refine ⟨_, shot?_modShot h fun y hy => hy, ?_, rfl⟩
  exact Map.look_put_listed (fun e => by simpa using congrArg RSlot.next e) _

/-! ### Back-pressure -/

/-- States sent one after another, each read before any is sent. -/
theorem each_emit_outbox {A : Type} (g : Map (Option Nat) → A → Output) (l : List A) (s : State) :
    (s.each l fun s x => s.emit (g s.packet.bp x)).outbox = s.outbox ++ l.map (g s.packet.bp) := by
  induction l generalizing s with
  | nil => exact (List.append_nil _).symm
  | cons a l ih => rw [each_cons, ih, State.emit_outbox, State.emit_packet, List.map_cons, List.append_assoc, List.singleton_append]

theorem execBackPressureRefresh_up (h : s.block.boot = .up) :
    execBackPressureRefresh s = .next (s.each (upTo 4096) fun s el =>
      s.emit (.backPressure (el / 8) (el % 8) (Map.look none el s.packet.bp).isSome)) := by
  unfold execBackPressureRefresh
  rw [if_neg (by simp [h])]

/-- Settles O43: each of the three commands is what its equations say, and what it sends is the end of the outbox. -/
theorem creditsResultsAndBackPressureLeave : Obligations.CreditsResultsAndBackPressureLeave := by
  refine ⟨fun pipe s => ?_, fun s p rest hc hres => ?_, fun s hup => ?_⟩
  · have hcounted := creditCounted_only s pipe.val
    by_cases h : pipe.val ∈ s.entry.owed
    · refine ⟨_, execCreditReturn_owed h, ?_, fun _ => ⟨?_, ?_⟩, fun hno => absurd h hno⟩
      · exact Only.changes (emit_only (modEntry_only (hcounted.mono rfl) _) _)
      · unfold Sends
        rw [State.emit_outbox, State.modEntry_outbox, hcounted.outbox_eq]
      · rw [State.emit_entry, State.modEntry_entry, hcounted.entry_eq]
    · exact ⟨_, execCreditReturn_none h, Only.changes (hcounted.mono rfl), fun hyes => absurd hyes h,
        fun _ => ⟨hcounted.entry_eq, hcounted.outbox_eq⟩⟩
  · by_cases h : p.ty ≠ 1 ∨ p.last = false
    · refine ⟨_, execResultSend_part hres h, rfl, rfl, fun _ => ⟨rfl, rfl⟩, fun hty hlast => ?_⟩
      simp [hty, hlast] at h
    · obtain ⟨hty, hlast⟩ : p.ty = 1 ∧ p.last = true := by simpa using h
      refine ⟨_, execResultSend_last hres hty hlast, rfl, rfl, fun hno => absurd hno h, fun _ _ => ⟨?_, fun x hx => ?_⟩⟩
      · exact obj_count_plain (s := (headSent s p rest).modRslot p.shot p.slot _) (by decide)
      · obtain ⟨y, hy, hslot, hsent⟩ := slotAdvanced_shot? (s := headSent s p rest) hx
        exact ⟨chunkSent y, shot?_modShot hy fun z hz => hz, hslot, congrArg (· + 1) hsent⟩
  · refine ⟨_, execBackPressureRefresh_up hup, ?_, ?_⟩
    · exact Only.changes (each_only (fun _ _ h => emit_only h _) _ (.refl s))
    · exact each_emit_outbox (fun bp el => .backPressure (el / 8) (el % 8) (Map.look none el bp).isSome) _ s

end Sys2Proof.Laws

/-! Resets: staged microcode, the scan sequence, resets and core power loss (R63 to R65, R423, R424, R440). -/

namespace Sys2Proof.Laws

open Sys2Proof.Machine Sys2Proof.Safety

variable {s t u : State}

/-- What each change of a list keeps holds after all of them. -/
theorem each_induct {A : Type} {P : State → Prop} {f : State → A → State} :
    ∀ {l : List A} {s : State}, P s → (∀ t, ∀ x ∈ l, P t → P (f t x)) → P (s.each l f)
  | [], _, h, _ => h
  | x :: l, s, h, hf =>
    each_induct (l := l) (s := f s x) (hf s x (List.mem_cons_self ..) h) fun t y hy => hf t y (List.mem_cons_of_mem x hy)

/-! ### Microcode -/

/-- The state in which a segment has been taken from session `n` (R423). -/
def segmentTaken (s : State) (n : Nat) (segment : BitVec 32) : State :=
  ((noted s n).setObj 0x6810 2 0 1).modKeys fun k =>
    { k with segments := if segment = 0 then [0] else k.segments ++ [segment.toNat], stagedVersion := none }

/-- The image has been verified, with its security version if it is staged (R423). -/
def imageVerified (s : State) (n : Nat) (segment : BitVec 32) (status : Nat) (version : Option Nat) : State :=
  ((segmentTaken s n segment).setObj 0x6810 2 0 status).modKeys fun k => { k with segments := [], stagedVersion := version }

theorem silent_imageVerified (s : State) (n : Nat) (segment : BitVec 32) (status : Nat) (version : Option Nat) :
    Silent s (imageVerified s n segment status version) := ⟨rfl, rfl, rfl⟩

theorem obj_imageVerified (hc : Canonical s) (n : Nat) (segment : BitVec 32) (status : Nat) (version : Option Nat) :
    (imageVerified s n segment status version).obj 0x6810 2 0 = status :=
  obj_setObj (s := segmentTaken s n segment) (Map.put_rising (Canonical.objs_rising hc)) _ _ _ _

/-- A rejected image reads 3, is not staged, and its last segment is refused (R423). -/
theorem imageRejected (hc : Canonical s) (rq : Rq) (n : Nat) (segment : BitVec 32) (code : Nat) :
    ((imageVerified s n segment 3 none).refuse rq 2 code 0x6810 1 segment.toNat).obj 0x6810 2 0 = 3 ∧
      ((imageVerified s n segment 3 none).refuse rq 2 code 0x6810 1 segment.toNat).keys.stagedVersion = none ∧
        Answers rq 2 code [] s ((imageVerified s n segment 3 none).refuse rq 2 code 0x6810 1 segment.toNat) :=
  ⟨(obj_refuse (by decide) ..).trans (obj_imageVerified hc _ _ _ _),
    congrArg KeyState.stagedVersion (refuse_only (m := 4194316) (.refl _) _ _ _ _ _ _).keys_eq,
    (silent_imageVerified s _ _ _ _).refuses _ _ _ _ _ _⟩

section Heard

variable {rq : Rq} {n : Fin 4} (h : Heard s rq n roleK)

include h

theorem execMicrocodeSegment_stages (segment : BitVec 32) (v : BitVec 16) (hv : s.keys.minimum ≤ v.toNat) :
    execMicrocodeSegment rq segment true true v s =
      .next ((imageVerified s n.val segment 2 (some v.toNat)).answer rq 2 0 []) := by
  unfold execMicrocodeSegment
  simp [gate_of_heard h, noted_has h, noted_serves h, Nat.not_lt.mpr hv, imageVerified, segmentTaken]

theorem execMicrocodeSegment_rejects (segment : BitVec 32) (v : BitVec 16) {ok : Bool} {code : Nat} (hcode : code ≠ 0)
    (hbad : (if !ok then abSignature else if v.toNat < s.keys.minimum then abVersion else 0) = code) :
    execMicrocodeSegment rq segment true ok v s =
      .next ((imageVerified s n.val segment 3 none).refuse rq 2 code 0x6810 1 segment.toNat) := by
  unfold execMicrocodeSegment
  simp only [gate_of_heard h, noted_has h, noted_serves h, hbad, hcode, Bool.not_true, Bool.false_eq_true, if_false, ne_eq, not_false_eq_true, if_true]
  rfl

theorem execRaiseMinimumVersion_raises (hb : s.keys.minimum < s.keys.running) (hr : 0 < s.keys.raises) :
    execRaiseMinimumVersion rq s = .next
      (((noted s n.val).modKeys fun k => { k with minimum := k.running, raises := k.raises - 1 }).answer rq 2 0 []) := by
  have hc : (decide ((noted s n.val).keys.running ≤ (noted s n.val).keys.minimum) || (noted s n.val).keys.raises == 0) = false := by
    simp [noted, Nat.not_le.mpr hb, hr.ne']
  unfold execRaiseMinimumVersion
  rw [directWrite_accepts h rfl (refuseIf_of_not hc) rfl]

end Heard

/-! ### Scan -/

/-- Every port request is answered ABORTED with EPOCH, and none waits for a chunk (R424). -/
def PortsEnded (s : State) : Prop := ∀ q ∈ s.reqs, q.dest = .port → q.whole = some (.aborted, .epoch) ∧ q.phase ≠ .chunk

theorem portsEnded_abortPorts (s : State) : PortsEnded (s.abortPorts .epoch) := by
  intro q hq hd
  obtain ⟨y, -, rfl⟩ := List.mem_map.mp hq
  by_cases hy : y.dest = .port
  · simp [hy]
  · simp [hy] at hd

theorem PortsEnded.subset (h : PortsEnded s) (g : ∀ q ∈ t.reqs, q ∈ s.reqs) : PortsEnded t := fun q hq => h q (g q hq)

theorem PortsEnded.only {m : Nat} (h : PortsEnded s) (g : Only m s t) (b : m.testBit 8 = false := by decide) : PortsEnded t :=
  h.subset fun _ hq => g.reqs_eq b ▸ hq

/-- A request of an engine that waits again for its chunk leaves the ports' answers as they are (R514). -/
theorem PortsEnded.modReq {f : Req → Req} (h : PortsEnded s) (id : Nat)
    (hf : ∀ q, (f q).dest = q.dest ∧ (f q).whole = q.whole ∧ (f q).phase ≠ .chunk) : PortsEnded (s.modReq id f) := by
  intro q hq hd
  obtain ⟨y, hy, rfl⟩ := List.mem_map.mp hq
  obtain ⟨hdest, hwhole, hphase⟩ := hf y
  by_cases hid : y.id = id
  · simp only [hid, beq_self_eq_true, if_true] at hd ⊢
    exact ⟨hwhole.trans (h y hy (hdest.symm.trans hd)).1, hphase⟩
  · simp only [beq_iff_eq, hid, if_false] at hd ⊢
    exact h y hy hd

/-- A fill that is given up finds no port's request on its chunk (R87). -/
theorem PortsEnded.dropFill (h : PortsEnded s) (f : Fill) : PortsEnded (s.dropFill f false) := by
  unfold State.dropFill
  extract_lets s1
  have h1 : PortsEnded s1 := h
  have hl : ∀ r ∈ s1.reqs.filter fun r => r.phase == .chunk && r.chunk == some f.chunk, r.dest ≠ .port := by
    intro r hr hd
    simp only [List.mem_filter, Bool.and_eq_true, beq_iff_eq] at hr
    exact (h1 r hr.1 hd).2 hr.2.1
  clear_value s1
  refine each_induct h1 fun t r hr ht => ?_
  rw [if_neg (by simpa using hl r hr)]
  exact ht.modReq r.id fun q => ⟨rfl, rfl, by simp⟩

theorem PortsEnded.dropShotWork (h : PortsEnded s) (id : Nat) : PortsEnded (s.dropShotWork id) := by
  unfold State.dropShotWork
  extract_lets mine ids s1 entry s2
  have h2 : PortsEnded s2 := h.subset fun q hq => (List.mem_filter.mp hq).1
  clear_value s2
  exact each_induct h2 fun t f _ ht => ht.dropFill f

/-- The reply on a shot's posting port is itself ABORTED with EPOCH (R252). -/
theorem PortsEnded.sendReply (h : PortsEnded s) (w : Nat) (o : Origin) (oor : Bool) :
    PortsEnded (s.sendReply w o (some (.aborted, .epoch)) [] oor) := by
  unfold State.sendReply
  split
  · split
    · intro q hq _
      obtain hq | hq := List.mem_append.mp hq
      · exact h q hq ‹_›
      · cases List.mem_singleton.mp hq
        exact ⟨rfl, by simp⟩
    · exact h
  · exact h

theorem PortsEnded.abortTell (h : PortsEnded s) (w : Nat) (o : Origin) (cause detail done slipped : Nat) :
    PortsEnded (s.abortTell w o cause detail done slipped) := by
  unfold State.abortTell
  extract_lets s1 s2 s3
  have h2 : PortsEnded s2 := PortsEnded.sendReply (s := s1) h w o false
  have h3 : Only 32768 s2 s3 := ite_only (.refl s2) (sendRecord_only (.refl s2) _ _ _)
  exact h2.only (tallyBlock_only (bump_only (abortEvent_only (h3.mono (m := 557068) rfl) _ _ _) _ _ _ _) _ _ _)

theorem PortsEnded.abortShot (h : PortsEnded s) (x : Shot) (cause detail : Nat) : PortsEnded (s.abortShot x cause detail) := by
  unfold State.abortShot
  exact PortsEnded.abortTell ((h.dropShotWork x.id).only (freeUnits_only (m := 24576) (modShotS_only (.refl _) _) _)) _ _ _ _ _ _

/-! ### Shots that are aborted -/

theorem abortTell_shots (s : State) (w : Nat) (o : Origin) (cause detail done slipped : Nat) :
    (s.abortTell w o cause detail done slipped).shot.shots = s.shot.shots := by
  unfold State.abortTell
  extract_lets s1 s2 s3
  have h3 : Only 33536 s1 s3 := ite_only (sendReply_only (.refl s1) _ _ _ _ _) (sendRecord_only (sendReply_only (.refl s1) _ _ _ _ _) _ _ _)
  have h : Only 557836 s1 _ := tallyBlock_only (bump_only (abortEvent_only (h3.mono rfl) w cause detail) 0x5000 3 cause 1) 0x15 1 (s.shotTxn w o)
  exact (congrArg ShotState.shots h.shot_eq).trans rfl

/-- An aborted shot is one of the admitted ones no longer (R252). -/
theorem abortShot_shots (s : State) (x : Shot) (cause detail : Nat) :
    (s.abortShot x cause detail).shot.shots = s.shot.shots.filter fun z => z.id != x.id := by
  unfold State.abortShot
  extract_lets s1
  have hw : Only 700744 s (s.dropShotWork x.id) := dropShotWork_only (.refl s) _
  rw [abortTell_shots]
  change (s.dropShotWork x.id).shot.shots.filter _ = _
  rw [hw.shot_eq]

/-- Every shot of a list is gone after their aborts. -/
theorem each_abortShot_shots (cause detail : Nat) (l : List Shot) (s : State) (z : Shot)
    (hz : z ∈ (s.each l fun s x => s.abortShot x cause detail).shot.shots) : z ∈ s.shot.shots ∧ z ∉ l := by
  induction l generalizing s with
  | nil => exact ⟨hz, List.not_mem_nil⟩
  | cons a l ih =>
    rw [each_cons] at hz
    obtain ⟨hmem, hnot⟩ := ih _ hz
    rw [abortShot_shots] at hmem
    obtain ⟨hs, hne⟩ := List.mem_filter.mp hmem
    refine ⟨hs, fun hc => ?_⟩
    obtain rfl | hc := List.mem_cons.mp hc
    · simp at hne
    · exact hnot hc

/-! ### The scan request -/

/-- The block in SAFE for a scan, its port requests ended (R424, R440). -/
def scanEntered (s : State) : State :=
  (s.modBlock fun b =>
    { b with
      scanEn := true, scanStep := 1, scanRdy := false, state := .safe, safeCause := 4, request := none
      boot := if b.boot == .up then .up else .held }).abortPorts .epoch

/-- The change to SAFE has been logged, where it is one (R440, R512). -/
def scanLogged (s : State) : State :=
  if s.block.state == .safe then scanEntered s
  else (scanEntered s).logEvent 10 8 (s.block.state.code + BlkState.safe.code * 2 ^ 8)

/-- Every admitted shot has been aborted for SAFE (R252). -/
def shotsStopped (s : State) : State := s.each s.shot.shots fun s x => s.abortShot x 8 BlkState.safe.code

/-- The staged writes of an open session are discarded (R446). -/
def stagedDropped (s : State) (n : Nat) : State :=
  if (s.session n).isOpen then s.modSession n fun x => { x with staged := [] } else s

theorem execScanRequest_enters (hscan : s.block.scanEn = false) (hrst : s.block.rstLow = false) :
    execScanRequest s = .next ((shotsStopped (scanLogged s)).each (upTo 4) stagedDropped) := by
  unfold execScanRequest
  rw [if_neg (by simp [hscan, hrst])]
  rfl

theorem scanLogged_only (s : State) : Only 12 (scanEntered s) (scanLogged s) := ite_only (.refl _) (logEvent_only (.refl _) _ _ _ _ _ _)

theorem shotsStopped_only (s : State) : Only 717644 s (shotsStopped s) := each_only (fun _ _ h => abortShot_only h _ _ _) _ (.refl s)

theorem stagedDropped_only (s : State) : Only 4 s (s.each (upTo 4) stagedDropped) :=
  each_only (fun _ _ h => ite_only (modSession_only h _ _) h) _ (.refl s)

/-! ### Resets -/

/-- A pulse of more than 40 ns is a reset (R63). -/
theorem execResetAssert_clears {low : Nat} (h : 40 < low) : execResetAssert low s = .next s.cleared := by
  unfold execResetAssert
  rw [if_neg (by omega), if_pos h]

/-- A pulse of 20 to 40 ns is rejected, or a reset, with one free value taken (R63, log 4). -/
theorem execResetAssert_between {low : Nat} (hl : 20 ≤ low) (hh : low ≤ 40) (s : State) :
    execResetAssert low s = .next { s with free := s.free + 1 } ∨ execResetAssert low s = .next { s with free := s.free + 1 }.cleared := by
  unfold execResetAssert
  rw [if_neg (by omega), if_neg (by omega)]
  by_cases hodd : s.takeFree.1 % 2 = 1
  · exact .inr (congrArg Host.Outcome.next (if_pos hodd))
  · exact .inl (congrArg Host.Outcome.next (if_neg hodd))

/-- Settles O52: the last segment, the raise, the scan's two commands and the resets each by their equations. -/
theorem microcodeScanAndReset : Obligations.MicrocodeScanAndReset := by
  refine ⟨fun rq n segment ok v s hc h => ?_, fun rq n s h hb hr => ?_, fun s hscan hrst => ?_, fun ok s hstep => ?_,
    fun low s => ⟨fun hlow => if_pos hlow, fun hhigh => ?_, fun hlow hhigh => ?_⟩, fun profile compat s hrst => ?_, fun s => rfl⟩
  · by_cases hok : ok = true
    · subst hok
      by_cases hv : s.keys.minimum ≤ v.toNat
      · have hstaged : Silent s (imageVerified s n.val segment 2 (some v.toNat)) := silent_imageVerified s _ _ _ _
        exact ⟨_, execMicrocodeSegment_stages h segment v hv,
          fun _ _ => ⟨(obj_answer ..).trans (obj_imageVerified hc _ _ _ _),
            congrArg KeyState.stagedVersion (answer_only (m := 4194308) (.refl _) _ _ _ _).keys_eq, hstaged.answers _ _ _ _⟩,
          fun hno => Bool.noConfusion hno, fun _ hlow => absurd hlow (Nat.not_lt.mpr hv)⟩
      · exact ⟨_, execMicrocodeSegment_rejects h segment v (ok := true) (code := abVersion) (by decide) (if_pos (Nat.not_le.mp hv)),
          fun _ hno => absurd hno hv, fun hno => Bool.noConfusion hno, fun _ _ => imageRejected hc rq n.val segment abVersion⟩
    · obtain rfl : ok = false := Bool.eq_false_of_not_eq_true hok
      exact ⟨_, execMicrocodeSegment_rejects h segment v (ok := false) (code := abSignature) (by decide) rfl,
        fun hno => Bool.noConfusion hno, fun _ => imageRejected hc rq n.val segment abSignature, fun hno => Bool.noConfusion hno⟩
  · exact ⟨_, execRaiseMinimumVersion_raises h hb hr, (answer_only (m := 4194308) (.refl _) _ _ _ _).keys_eq,
      Silent.answers ⟨rfl, rfl, rfl⟩ _ _ _ _⟩
  · have hstopped := shotsStopped_only (scanLogged s)
    have hdropped := stagedDropped_only (shotsStopped (scanLogged s))
    have hblock := hdropped.block_eq.trans (hstopped.block_eq.trans (scanLogged_only s).block_eq)
    refine ⟨_, execScanRequest_enters hscan hrst, congrArg BlockState.state hblock, congrArg BlockState.safeCause hblock,
      congrArg BlockState.scanEn hblock, congrArg BlockState.scanRdy hblock, ?_, fun q hq hd => ?_⟩
    · rw [hdropped.shot_eq]
      refine List.eq_nil_iff_forall_not_mem.mpr fun z hz => ?_
      obtain ⟨hmem, hnot⟩ := each_abortShot_shots _ _ _ _ z hz
      exact hnot hmem
    · have hlogged : PortsEnded (scanLogged s) := (portsEnded_abortPorts _).only (scanLogged_only s)
      have hshots : PortsEnded (shotsStopped (scanLogged s)) := each_induct hlogged fun t x _ ht => ht.abortShot x _ _
      obtain ⟨hwhole, -⟩ := PortsEnded.only hshots hdropped (by decide) q hq hd
      exact hwhole
  · exact ⟨_, if_neg (by simp [hstep]), rfl, rfl, rfl, rfl, rfl⟩
  · exact ⟨_, execResetAssert_clears hhigh, rfl, rfl, rfl, rfl, rfl, fun _ => rfl, rfl, rfl, rfl, rfl, rfl, rfl⟩
  · obtain h | h := execResetAssert_between hlow hhigh s
    · exact .inl h
    · exact .inr (h.trans (execResetAssert_clears (by decide)).symm)
  · exact ⟨_, if_neg (by simp [hrst]), rfl, rfl, rfl, rfl⟩

end Sys2Proof.Laws

/-! Fills: priority and background fills, and the chunks they make WRITTEN (R83, R85, R86, R88, R226, R334). -/

namespace Sys2Proof.Laws

open Sys2Proof.Machine Sys2Proof.Safety

variable {s t : State} {c : Nat} {f : Fill}

/-! ### Chunks and their fills -/

theorem fill?_chunk (h : s.fill? c = some f) : f.chunk = c := by
  simpa using List.find?_some h

/-- A change of the entries of the fill table that are for a chunk (R83). -/
def onChunk (c : Nat) (g : Fill → Fill) (x : Fill) : Fill := if x.chunk == c then g x else x

theorem fill?_onChunk {g : Fill → Fill} (ht : t.regions.fills = s.regions.fills.map (onChunk c g)) (hg : ∀ x, (g x).chunk = x.chunk)
    (h : s.fill? c = some f) : t.fill? c = some (g f) := by
  have hchunk (x : Fill) : (onChunk c g x).chunk = x.chunk := by unfold onChunk; split <;> simp [hg]
  have hfound : (s.regions.fills.find? fun x => x.chunk == c) = some f := h
  unfold State.fill?
  rw [ht, List.find?_map]
  simp only [Function.comp_def, hchunk, hfound, Option.map_some]
  exact congrArg some (if_pos (by simp [fill?_chunk h]))

/-- The regions with a chunk WRITTEN and its entry of the fill table free (R85). -/
def chunkEnded (g : RegionState) (c : Nat) : RegionState :=
  { g with written := Map.put false true c g.written, fills := g.fills.filter fun x => x.chunk != c }

theorem written_chunkEnded (h : t.regions = chunkEnded s.regions c) : t.written c = true := by
  unfold State.written
  rw [h]
  exact Map.look_put_listed (by decide) _

theorem fill?_chunkEnded (h : t.regions = chunkEnded s.regions c) : t.fill? c = none := by
  unfold State.fill?
  rw [h]
  simp [chunkEnded]

theorem endFill_regions (s : State) (f : Fill) : (s.endFill f).regions = chunkEnded s.regions f.chunk := by
  have hfill := (fillChunk_only (m := 8320) (.refl s) f.region f.chunk).regions_eq
  unfold State.endFill
  simp only [State.setWritten, State.modRegions_regions, hfill]
  rfl

theorem releaseChunk_regions (s : State) (c : Nat) : (s.releaseChunk c).regions = s.regions :=
  (releaseChunk_only (m := 682248) (.refl s) c).regions_eq

/-- A fill with no share left to write ends (R84, R85). -/
theorem fillDone_regions (h : s.fill? c = some f) (hmask : f.stackMask = 0) : (s.fillDone c).regions = chunkEnded s.regions c := by
  unfold State.fillDone
  simp only [h, hmask, if_true]
  rw [releaseChunk_regions, endFill_regions, fill?_chunk h]

/-- A fill with shares left to write goes on (R85). -/
theorem fillDone_goes_on (h : s.fill? c = some f) (hmask : f.stackMask ≠ 0) : s.fillDone c = s := by
  unfold State.fillDone
  simp only [h, hmask, if_false]

/-! ### A stack's part of a fill -/

/-- An entry of a fill's chunk once a stack has written `n` more sectors of its share (R85, R88). -/
def shareWritten (f : Fill) (st n : Nat) (x : Fill) : Fill :=
  { x with
    wrote := Map.upd 0 st (· + n) x.wrote
    stackMask := if f.sectors ≤ Map.look 0 st x.wrote + n then x.stackMask - 2 ^ st else x.stackMask }

theorem fillShareOn_regions {st : Nat} (h : 0 < s.fillGo f st) :
    (s.fillShareOn f st).regions =
      { s.regions with fills := s.regions.fills.map (onChunk f.chunk (shareWritten f st (s.fillGo f st))) } := by
  unfold State.fillShareOn
  simp only [Nat.ne_of_gt h, if_false, State.modRegions_regions, (ownWork_only (m := 1579016) (.refl s) _ _ _ _ _).regions_eq]
  rfl

theorem fillShareOn_fill? {st : Nat} (h : 0 < s.fillGo f st) (hf : s.fill? c = some f) :
    (s.fillShareOn f st).fill? c = some (shareWritten f st (s.fillGo f st) f) :=
  fill?_onChunk (fill?_chunk hf ▸ congrArg RegionState.fills (fillShareOn_regions h)) (fun _ => rfl) hf

/-- Below T3 a stack whose arbiter runs may write the whole of its share of a priority fill (R85, R87). -/
theorem fillGo_whole {st : Nat} (hp : f.prio = true) (hruns : s.arbiterRuns st = true) (hlevel : s.level st < 3) :
    s.fillGo f st = f.sectors - Map.look 0 st f.wrote := by
  unfold State.fillGo
  simp [hp, hruns, Nat.ne_of_lt hlevel]

theorem setBits_two_pow : ∀ st < 32, setBits 32 (2 ^ st) = [st] := by decide

/-! ### CHUNK_FILL_END -/

section PriorityFill

variable {chunk : BitVec 21} (hf : s.fill? chunk.toNat = some f) (hp : f.prio = true)

include hf hp

theorem execChunkFillEnd_shares (hrun : f.run = none) (hspan : f.span ≠ 0) :
    execChunkFillEnd chunk s = .next ((s.each (setBits 32 f.stackMask) fun s st => s.fillShareOn f st).fillDone chunk.toNat) := by
  unfold execChunkFillEnd
  simp [hf, hp, hrun, hspan]

theorem execChunkFillEnd_scratch (hrun : f.run = none) (hspan : f.span = 0) (hdone : s.scratchDone f = true) :
    execChunkFillEnd chunk s = .next (s.fillDone chunk.toNat) := by
  unfold execChunkFillEnd
  simp [hf, hp, hrun, hspan, hdone]

/-- The last write of a run that covers its chunk ends the chunk's fill (R334). -/
theorem execChunkFillEnd_run {shot : Nat} (hrun : f.run = some shot) (hdone : s.runDone f shot = true) :
    ∃ t, execChunkFillEnd chunk s = .next t ∧ t.regions = chunkEnded s.regions chunk.toNat := by
  unfold execChunkFillEnd
  simp only [hf, hp, hrun, hdone, Bool.not_true, Bool.false_eq_true, if_false, if_true]
  exact ⟨_, rfl, releaseChunk_regions _ _⟩

/-- The one share that is left, on a stack whose arbiter runs below T3, is written whole, and the fill ends (R85, R87). -/
theorem execChunkFillEnd_lastShare {st : Nat} (hst : st < 32) (hrun : f.run = none) (hspan : f.span ≠ 0) (hmask : f.stackMask = 2 ^ st)
    (hleft : Map.look 0 st f.wrote < f.sectors) (hruns : s.arbiterRuns st = true) (hlevel : s.level st < 3) :
    ∃ t, execChunkFillEnd chunk s = .next t ∧ t.regions = chunkEnded (s.fillShareOn f st).regions chunk.toNat := by
  have hwhole := fillGo_whole hp hruns hlevel
  have hgo : 0 < s.fillGo f st := by omega
  have hlast : (shareWritten f st (s.fillGo f st) f).stackMask = 0 := by
    simp only [shareWritten, hwhole, hmask]
    rw [if_pos (by omega), Nat.sub_self]
  rw [execChunkFillEnd_shares hf hp hrun hspan, hmask, setBits_two_pow st hst]
  exact ⟨_, rfl, fillDone_regions (fillShareOn_fill? hgo hf) hlast⟩

end PriorityFill

/-! ### FILL_ALLOWANCE_TAKEN -/

/-- An entry of a background fill's chunk as the priority fill that it becomes (R83). -/
def allowanceTaken (s : State) (f x : Fill) : Fill :=
  { x with prio := true, taken := true, raised := false, share := fillShare (s.slot f.region).known, started := s.time.frame }

theorem execFillAllowanceTaken_takes {chunk : BitVec 21} (hf : s.fill? chunk.toNat = some f) (hp : f.prio = false) (hraised : f.raised = true)
    (hroom : s.fillRoom (s.slot f.region).known = true) (htable : (s.regions.fills.filter (·.prio)).length < 96) :
    execFillAllowanceTaken chunk s =
      .next ((s.count 0x3402 2).modRegions fun g => { g with fills := g.fills.map (onChunk chunk.toNat (allowanceTaken s f)) }) := by
  unfold execFillAllowanceTaken
  simp only [hf, hp, hraised, hroom, decide_eq_false (Nat.not_le.mpr htable), Bool.not_true, Bool.or_false, Bool.false_eq_true, if_false]
  rw [← fill?_chunk hf]
  rfl

/-! ### BACKGROUND_FILL_WRITE -/

/-- With one background fill that has work on the stack, the stack writes of it what it may now (R88). -/
theorem execBackgroundFillWrite_one {stack : Fin 32} (hon : s.live' 0x3402 5 0 = 1) (hup : s.upkeepOn stack.val = true)
    (hfills : s.regions.fills = [f]) (hp : f.prio = false) (hbit : bit f.stackMask stack.val = true) :
    execBackgroundFillWrite stack s = .next ((s.fillShareOn f stack.val).fillDone f.chunk) := by
  unfold execBackgroundFillWrite
  simp [hon, hup, hfills, hp, hbit, leastBy]

theorem fillShareOn_one {st : Nat} (hfills : s.regions.fills = [f]) (hgo : 0 < s.fillGo f st) :
    (s.fillShareOn f st).regions = { s.regions with fills := [shareWritten f st (s.fillGo f st) f] } := by
  rw [fillShareOn_regions hgo, hfills, List.map_singleton]
  simp [onChunk]

/-- Settles O32: each form of CHUNK_FILL_END ends the fill through `chunkEnded`, the raised fill is the one entry of its chunk that
changes, and a background share ends its fill or leaves it with what is left to do. -/
theorem fillsMakeChunksWritten : Obligations.FillsMakeChunksWritten := by
  refine ⟨fun chunk s f hf hp hform => ?_, fun chunk s f hc hf hp hraised hroom htable => ?_, fun stack s f hon hup hfills hp hbit hgo => ?_⟩
  · obtain ⟨t, r, ht, hr⟩ : ∃ (t r : State), execChunkFillEnd chunk s = .next t ∧ t.regions = chunkEnded r.regions chunk.toNat := by
      rcases hform with ⟨hrun, hspan, hmask⟩ | ⟨hrun, hspan, hmask, hdone⟩ | ⟨shot, hrun, hdone⟩ | ⟨st, hst, hrun, hspan, hmask, hleft, hruns, hlevel⟩
      · have hnone : setBits 32 f.stackMask = [] := by rw [hmask]; decide
        rw [execChunkFillEnd_shares hf hp hrun hspan, hnone]
        exact ⟨_, s, rfl, fillDone_regions hf hmask⟩
      · exact ⟨_, s, execChunkFillEnd_scratch hf hp hrun hspan hdone, fillDone_regions hf hmask⟩
      · obtain ⟨t, ht, hr⟩ := execChunkFillEnd_run hf hp hrun hdone
        exact ⟨t, s, ht, hr⟩
      · obtain ⟨t, ht, hr⟩ := execChunkFillEnd_lastShare hf hp hst hrun hspan hmask hleft hruns hlevel
        exact ⟨t, _, ht, hr⟩
    exact ⟨t, ht, written_chunkEnded hr, fill?_chunkEnded hr⟩
  · exact ⟨_, execFillAllowanceTaken_takes hf hp hraised hroom htable, fill?_onChunk (g := allowanceTaken s f) rfl (fun _ => rfl) hf,
      obj_count (Canonical.objs_rising hc) 0x3402 2⟩
  · have hone : s.fill? f.chunk = some f := by simp [State.fill?, hfills]
    have hshare := fillShareOn_fill? hgo hone
    have htable := fillShareOn_one hfills hgo
    refine ⟨_, execBackgroundFillWrite_one hon hup hfills hp hbit, fun hleft => ?_, fun hleft => ?_⟩
    · have hended := fillDone_regions hshare hleft
      refine ⟨written_chunkEnded hended, ?_⟩
      rw [hended, htable]
      simp [chunkEnded, shareWritten]
    · rw [fillDone_goes_on hshare hleft, htable]
      rfl

end Sys2Proof.Laws

/-! Waits: a request of an engine whose wait has ended, behind an earlier one of its master's that still waits (R100, R514). -/

namespace Sys2Proof.Laws

open Sys2Proof.Machine Sys2Proof.Safety

variable {s : State} {r q : Req}

/-- With no pull waiting, ENGINE_WAIT_END is the going on of the request that `waitEnds` names (R514). -/
theorem execEngineWaitEnd_goes (hpulls : s.packet.pulls = []) (hends : s.waitEnds = some r) :
    execEngineWaitEnd s = .next (s.engGo r.id) := by
  have hnone : (s.engGo r.id).packet.pulls = [] := by rw [(engGo_only (m := 682318) (.refl s) r.id).packet_eq, hpulls]
  unfold execEngineWaitEnd State.pulled
  simp only [hends, hnone]
  rfl

/-- A request of which nothing is lost keeps its place behind an earlier one of its master to its line: it stays (R100, R514). -/
theorem engGo_stays (hreq : s.req? r.id = some r) (hlive : (s.entryFor r.region r.version (s.reqOff r)).live = true)
    (hkept : (r.op.writes && s.lostWrite r.region r.version (s.reqOff r)) = false) (hbefore : s.ownBefore r = some q) :
    s.engGo r.id = s.stay r.id q.notReady := by
  unfold State.engGo
  simp only [hreq, hlive, hkept, hbefore, Bool.not_true, Bool.or_false, Bool.false_eq_true, if_false]

theorem req?_stay (hreq : s.req? r.id = some r) (why : Bool) :
    (s.stay r.id why).req? r.id = some { r with phase := .wait, notReady := why } :=
  req?_modReq hreq fun _ h => h

/-! ### A read of lost data behind a write -/

/-- A write of COPY (master 0x26) to line 0 of region 0, which waits for a stack at T4 (R210, R514). -/
def heldWrite : Req :=
  { id := 1, master := 0x26, op := .write, bytes := 64, cls := .upkeep, phase := .wait, notReady := true, dest := .sink, data := some 0 }

/-- A read of COPY from the same line, issued after it. -/
def readBehind : Req := { id := 2, master := 0x26, op := .read, bytes := 64, cls := .upkeep, phase := .wait, notReady := true, dest := .eng 7 }

/-- A block in SERVICE whose stack 0 is at T4; the cached copy of line 0 of region 0, a WRITTEN chunk of that stack, was lost
with a slice's tags (R236). -/
def lostBehind : State :=
  { State.reset with
    block := { state := .service, boot := .up, ready := [(0, 1)] }
    stackTab := [(0, { power := .service, bring := 5, levelArb := 4 })]
    regions :=
      { slots := [(0, { now := { size := 1, mode := 2, stackMask := 1, extentBase := 0, loft := 1, live := true }, homeMask := 1,
                        cur := some { epoch := 0, handle := 1 }, lostG := [{ entries := [0] }] })]
        written := [(0, true)] }
    reqs := [heldWrite, readBehind] }

/-- The read's wait has ended, for its data is lost (R236), and its region lives. -/
theorem lostBehind_ends : lostBehind.packet.pulls = [] ∧ lostBehind.waitEnds = some readBehind ∧
    lostBehind.req? readBehind.id = some readBehind ∧
      (lostBehind.entryFor readBehind.region readBehind.version (lostBehind.reqOff readBehind)).live = true := by
  decide +kernel

theorem lostBehind_ownBefore : lostBehind.ownBefore readBehind = some heldWrite := by decide +kernel

/-- Refutes O33: a read of lost data counts as one whose wait has ended even while an earlier write of its master to its line waits,
and ENGINE_WAIT_END leaves it where it is, as R100's order asks. -/
theorem not_waitsAndOldVersionsEnd : ¬ Obligations.WaitsAndOldVersionsEnd := by
  rintro ⟨hgoes, -⟩
  obtain ⟨hpulls, hends, hreq, hlive⟩ := lostBehind_ends
  obtain ⟨-, hleaves⟩ := hgoes lostBehind readBehind hpulls hends hreq
  obtain ⟨t, q, ht, hq, hphase, -⟩ := hleaves hlive rfl
  have hstays : exec .engineWaitEnd lostBehind = .next (lostBehind.stay readBehind.id heldWrite.notReady) := by
    rw [← engGo_stays hreq hlive rfl lostBehind_ownBefore]
    exact execEngineWaitEnd_goes hpulls hends
  cases hstays.symm.trans ht
  cases (req?_stay hreq _).symm.trans hq
  exact hphase rfl

end Sys2Proof.Laws

/-! Promotions: a request at the age limit (R107). -/

namespace Sys2Proof.Laws

open Sys2Proof.Machine Sys2Proof.Safety

variable {s t : State}

/-! ### Every pseudo-channel changed -/

/-- What a key holds once every value has changed, where a value that is not listed would not change. -/
theorem look_vals {V : Type} [DecidableEq V] {d : V} {f : V → V} (hf : f d = d) (k : Nat) :
    ∀ {lo : Nat} {m : Map V}, Map.above (fun _ => d) lo m = true → Map.look d k (Map.vals d f m) = f (Map.look d k m)
  | _, [], _ => hf.symm
  | lo, (a, v) :: m, hm => by
    simp only [Map.above, Bool.and_eq_true] at hm
    obtain ⟨-, hm⟩ := hm
    have ih := look_vals hf k hm
    have hcons : Map.vals d f ((a, v) :: m) = if f v = d then Map.vals d f m else (a, f v) :: Map.vals d f m := by
      by_cases hv : f v = d <;> simp [Map.vals, hv]
    rw [hcons]
    by_cases hk : a = k
    · subst hk
      split
      · rename_i hv
        rw [ih, Map.look_below (Nat.lt_succ_self a) m hm, hf, Map.look, if_pos rfl, hv]
      · simp only [Map.look, if_true]
    · split
      · simp only [ih, Map.look, hk, if_false]
      · simp only [ih, Map.look, hk, if_false]

theorem Canonical.pcs_wf (h : Canonical s) : Map.wf (fun _ => ({} : PcState)) s.pcs = true := by
  obtain ⟨-, hp, -⟩ := h
  exact hp

theorem pc_congr (h : t.pcs = s.pcs) (p : Nat) : t.pc p = s.pc p := by
  unfold State.pc
  rw [h]

/-- A change that leaves an unlisted pseudo-channel as it is reaches every one. -/
theorem pc_eachPc (hc : Canonical s) {f : PcState → PcState} (hf : f {} = {}) (p : Nat) : (s.eachPc f).pc p = f (s.pc p) :=
  look_vals hf p (Canonical.pcs_wf hc)

theorem req?_eachPc (f : PcState → PcState) (id : Nat) : (s.eachPc f).req? id = s.req? id := rfl

theorem obj_eachPc (f : PcState → PcState) (ix sub el : Nat) : (s.eachPc f).obj ix sub el = s.obj ix sub el := rfl

/-! ### Programmable counters -/

/-- A programmable counter counts into its own value only (R485, R494). -/
theorem obj_countOn_ne {ix sub el jx fl : Nat} (h : oKey ix sub el ≠ oKey jx 1 fl) (no code n : Nat) (x : Txn) :
    (s.countOn jx fl no code n x).obj ix sub el = s.obj ix sub el := by
  unfold State.countOn
  extract_lets
  split
  · split
    · exact obj_setObj_ne _ h
    · exact obj_setObj_ne _ h
  · rfl

/-- A stack's event leaves every object below the stacks' counters alone (R489). -/
theorem obj_tallyStack {ix sub el : Nat} (h : oKey ix sub el < oKey 0x9000 1 0) (st code n : Nat) (x : Txn) :
    (s.tallyStack st code n x).obj ix sub el = s.obj ix sub el :=
  each_keeps (fun s => s.obj ix sub el) fun _ _ _ => obj_countOn_ne (by unfold oKey at h ⊢; omega) _ _ _ _

/-! ### AGE_PROMOTION -/

/-- The state in which a request has been marked promoted and its promotion counted (R107, R489). -/
def promotionCounted (s : State) (id : Nat) (r : Req) : State :=
  ((s.modReq id fun r => { r with promoted := true }).count 0x4030 1).tallyStack (s.reqStack r) 9 1 r.txn

/-- Its entries of a pseudo-channel's queue have Critical rank (R107). -/
def entriesRaised (id : Nat) (c : PcState) : PcState :=
  { c with queue := c.queue.map fun e => if e.req == id then { e with critical := true, rank := 1 } else e }

theorem entriesRaised_unlisted (id : Nat) : entriesRaised id {} = {} := rfl

/-- Counting a promotion leaves the requests as their marking left them. -/
theorem promotionCounted_only (s : State) (id : Nat) (r : Req) :
    Only 524296 (s.modReq id fun r => { r with promoted := true }) (promotionCounted s id r) :=
  tallyStack_only (count_only (.refl _) _ _) _ _ _ _

theorem obj_promotionCounted (s : State) (id : Nat) (r : Req) : (promotionCounted s id r).obj 0x4030 1 0 = s.obj 0x4030 1 0 + 1 := by
  unfold promotionCounted
  rw [obj_tallyStack (by decide), obj_count_plain (by decide)]
  rfl

section Aged

variable {id : Nat} {r : Req} (hreq : s.req? id = some r)

include hreq

theorem execAgePromotion_early (h : s.frameNs < r.bornNs + s.live' 0x4000 2 0) : execAgePromotion id s = .next s := by
  unfold execAgePromotion
  simp [hreq, h]

theorem execAgePromotion_promotes (hnew : r.promoted = false) (hopen : r.phase ≠ .done)
    (h : r.bornNs + s.live' 0x4000 2 0 ≤ s.frameNs) :
    execAgePromotion id s = .next ((promotionCounted s id r).eachPc (entriesRaised id)) := by
  unfold execAgePromotion
  simp only [hreq]
  exact if_neg (by simp [hnew, hopen, h])

end Aged

/-- A change of one number's request leaves every request of another number in the tracker. -/
theorem mem_modReq_of_ne {q : Req} {id : Nat} {f : Req → Req} (hq : q ∈ s.reqs) (h : q.id ≠ id) : q ∈ (s.modReq id f).reqs :=
  List.mem_map.mpr ⟨q, hq, if_neg (by simpa using h)⟩

/-- Settles O20: at the limit the command is `promotionCounted` and then `entriesRaised` for every pseudo-channel. -/
theorem agePromotesToCriticalRank : Obligations.AgePromotesToCriticalRank := by
  refine fun id s r hc hreq hnew hopen => ⟨fun haged => ?_, execAgePromotion_early hreq⟩
  have hcount := promotionCounted_only s id r
  have hcanon : Canonical (promotionCounted s id r) := hcount.canon hc
  refine ⟨_, execAgePromotion_promotes hreq hnew hopen haged, ?_, ?_, fun p => ?_, fun q hq hne => ?_⟩
  · rw [req?_eachPc, req?_congr hcount.reqs_eq]
    exact req?_modReq hreq fun _ h => h
  · rw [obj_eachPc, obj_promotionCounted]
  · rw [pc_eachPc hcanon (entriesRaised_unlisted id), pc_congr hcount.pcs_eq]
    rfl
  · rw [State.eachPc_reqs, hcount.reqs_eq]
    exact mem_modReq_of_ne hq hne

end Sys2Proof.Laws

/-! Grants: the one read that waits at a stack's arbiter (R106, R114, R115). -/

namespace Sys2Proof.Laws

open Sys2Proof.Machine Sys2Proof.Safety

variable {s t : State} {r : Req} {st rank c : Nat}

/-! ### The grant of a read -/

theorem read_writes (hop : r.op = .read) : r.op.writes = false := by
  rw [hop]
  rfl

/-- A request granted in cycle `c`: QUEUED, its wait starting anew, visible if it writes (R102, R118). -/
def granted (s : State) (c : Nat) (r : Req) : Req :=
  { r with phase := .queued, waitSince := s.time.frame, grantCyc := c, visible := r.op.writes }

/-- A pseudo-channel with the entries of a granted request behind its queue (R114, R132). -/
def entriesQueued (s : State) (rank c : Nat) (r : Req) (x : PcState) : PcState :=
  { x with queue := x.queue ++ s.entriesOf r rank c, used := true }

/-- The state in which a read has moved into the queue of its pseudo-channel (R114). -/
def readQueued (s : State) (rank c : Nat) (r : Req) : State :=
  (s.modPc (plPcNo (s.reqPlace r)) (entriesQueued s rank c r)).modReq r.id (granted s c)

theorem readQueued_reqs (hreqs : s.reqs = [r]) : (readQueued s rank c r).reqs = [granted s c r] := by
  simp only [readQueued, State.modReq_reqs, State.modPc_reqs, hreqs, List.map_singleton, BEq.rfl, if_true]

/-- A queue that has taken entries is listed, whatever the table of pseudo-channels lists. -/
theorem readQueued_queue : ((readQueued s rank c r).pc (plPcNo (s.reqPlace r))).queue =
    (s.pc (plPcNo (s.reqPlace r))).queue ++ s.entriesOf r rank c :=
  congrArg PcState.queue (Map.look_put_listed (fun e => by simpa [entriesQueued] using congrArg PcState.used e) s.pcs)

/-- A read granted on a pseudo-channel that is awake is queued; beyond that its grant takes tokens, caps and credits and is
counted (R106, R112, R125, R201, R489). -/
theorem grant_read_only (hop : r.op = .read) (hawake : (s.pc (plPcNo (s.reqPlace r))).sr = .awake) :
    Only 1574920 (readQueued s rank c r) (s.grant st rank c r) := by
  have hmeet : s.meetSelfRefresh (plPcNo (s.reqPlace r)) c = s := by
    unfold State.meetSelfRefresh
    simp only [hawake]
  have hnowrite : (r.op == .write) = false := by rw [hop]; rfl
  unfold State.grant
  simp only [read_writes hop, hnowrite, Bool.false_eq_true, if_false, hmeet]
  exact charge_only (grantCounts_only (grantTakes_only (.refl (readQueued s rank c r)) _ _ _) _ _ _ _ _) _ _

/-! ### Grants by rank -/

/-- A stack at whose arbiter nothing waits has no candidate. -/
theorem candidates_of_none_waits (h : ∀ q ∈ s.reqs, q.phase ≠ .arb) (w : Width) : s.candidates st w = [] := by
  have hnone : s.atArbiter st = [] := List.filter_eq_nil_iff.mpr fun q hq => by simp [h q hq]
  unfold State.candidates
  simp [hnone]

theorem rankGrants_of_no_candidate {w : Width} (h : s.candidates st w = []) (n : Nat) : s.rankGrants st c n w = s := by
  cases n with
  | zero => rfl
  | succ n => simp [State.rankGrants, h, longestWaiter, firstBy]

/-- Whether the next grant by rank is an Nth one (R115). -/
def nthNext (s : State) (st : Nat) : Bool := decide (s.live' 0x4000 3 0 ≤ (s.stack st).longest + 1)

/-- The state after a grant by rank, with the stack's count of grants moved on and an Nth grant counted (R115). -/
def rankGranted (s : State) (st rank c : Nat) (r : Req) : State :=
  let s1 := (s.grant st rank c r).modStack st fun k => { k with longest := if nthNext s st then 0 else k.longest + 1 }
  if nthNext s st then (s1.count 0x4030 2).tallyStack st 0x0A 1 r.txn else s1

theorem rankGranted_only : Only 526344 (s.grant st rank c r) (rankGranted s st rank c r) := by
  have hmoved := fun f => modStack_only (m := 526344) (.refl (s.grant st rank c r)) st f
  exact ite_only (tallyStack_only (count_only (hmoved _) _ _) _ _ _ _) (hmoved _)

/-- The one candidate is granted, whether by rank or as the Nth grant (R115). -/
theorem rankGrants_of_one_candidate {w : Width} (h : s.candidates st w = [(rank, r)]) (n : Nat) :
    s.rankGrants st c (n + 1) w =
      (rankGranted s st rank c r).rankGrants st c n { grants := w.grants - 1, room := w.room - r.width } := by
  have hchosen (nth : Bool) :
      (if nth then longestWaiter [(rank, r)] else firstBy s.goesFirst [(rank, r)]) = some (rank, r) := by
    cases nth <;> rfl
  rw [State.rankGrants]
  simp only [h, hchosen]
  rfl

/-! ### One read at an arbiter -/

section OneRead

variable (hreqs : s.reqs = [r])

include hreqs

/-- A read that waits for no line of a migration asks for none to be pulled ahead (R390). -/
theorem askPulls_of_not_blind (hblind : s.blindLine r = none) : s.askPulls st = s := by
  unfold State.askPulls
  rw [hreqs, List.filter_singleton]
  cases r.phase == .arb && s.reqStack r == st with
  | true => simp [State.each, hblind]
  | false => rfl

/-- The one request of the tracker waits for no earlier one (R100, R104). -/
theorem mustWait_alone : s.mustWait r = false := by
  simp [State.mustWait, State.versionWait, hreqs]

variable (hop : r.op = .read)

include hop

/-- A read whose data is not lost is not answered for its loss (R393). -/
theorem settleLost_of_kept (hkept : s.lostRead r.region r.version (s.reqOff r) = false) : s.settleLost st = s := by
  unfold State.settleLost
  rw [hreqs, List.filter_singleton]
  cases r.phase == .arb && s.reqStack r == st with
  | true =>
    simp only [cond_true, State.each, List.foldl_cons, List.foldl_nil, read_writes hop, hkept, Bool.false_and, Bool.and_false,
      Bool.false_eq_true, if_false]
  | false => rfl

theorem atArbiter_alone (hphase : r.phase = .arb) (hstack : s.reqStack r = st) (hblind : s.blindLine r = none) :
    s.atArbiter st = [r] := by
  have hwait := mustWait_alone hreqs
  unfold State.atArbiter
  simp [hreqs, hphase, hstack, hblind, hop, hwait, State.rebuildWait, ReqOp.writes, ReqOp.isAtomic, ReqOp.needsData]

end OneRead

theorem candidates_of_one {w : Width} (hone : s.atArbiter st = [r])
    (hgrant : s.grantable st (s.rankOf st (oldestUpkeep [r]) r) r = true) (hroom : r.width ≤ w.room) :
    s.candidates st w = [(s.rankOf st (oldestUpkeep [r]) r, r)] := by
  unfold State.candidates
  simp [hone, hgrant, hroom]

/-! ### ARBITER_CYCLE -/

/-- A cycle without an owner, at an arbiter where no data is lost and no line is asked for, is its grants by rank; where
nothing waits after them, no wait of a halted class is counted (R115, R116). -/
theorem execArbiterCycle_unowned {stack : Fin 32} {k : Fin 1000} (hruns : s.arbiterRuns stack.val = true)
    (hown : s.ownerAt stack.val k.val = 0xFF) (hlost : s.settleLost stack.val = s) (hpulls : s.askPulls stack.val = s)
    (hnone : ∀ q ∈ (s.rankGrants stack.val (s.cycle k.val) 32 {}).reqs, q.phase ≠ .arb) :
    execArbiterCycle stack k s = .next (s.rankGrants stack.val (s.cycle k.val) 32 {}) := by
  unfold execArbiterCycle
  simp only [hruns, hlost, hpulls, hown, Bool.not_true, Bool.false_eq_true, if_false, if_true]
  generalize s.rankGrants stack.val (s.cycle k.val) 32 {} = u at hnone ⊢
  have hwaiting : (u.reqs.filter fun q => q.phase == .arb && u.reqStack q == stack.val && u.halted stack.val q.cls) = [] :=
    List.filter_eq_nil_iff.mpr fun q hq => by simp [hnone q hq]
  simp only [hwaiting, List.find?_nil]
  exact congrArg _ (each_keeps id fun _ _ _ => rfl)

/-- Settles O19: the read is the arbiter's one candidate, so the cycle is its one grant by rank, as `readQueued` says. -/
theorem arbiterGrantsAWaitingRead : Obligations.ArbiterGrantsAWaitingRead := by
  intro stack k s r hruns hown hreqs hphase hop hbytes hstack hblind hkept hawake hgrant
  have hwidth : r.width ≤ 2048 := by simpa [Req.width, hop, ReqOp.isAtomic] using hbytes
  have hcand := candidates_of_one (w := {}) (atArbiter_alone hreqs hop hphase hstack hblind) hgrant hwidth
  generalize s.rankOf stack.val (oldestUpkeep [r]) r = rank at hcand ⊢
  have hafter : Only 1574920 (readQueued s rank (s.cycle k.val) r) (rankGranted s stack.val rank (s.cycle k.val) r) :=
    (grant_read_only hop hawake).step rfl rankGranted_only
  have hdone := hafter.reqs_eq.trans (readQueued_reqs hreqs)
  have hqueued : ∀ q ∈ (rankGranted s stack.val rank (s.cycle k.val) r).reqs, q.phase ≠ .arb := by
    rw [hdone]
    simp [granted]
  have hrank : s.rankGrants stack.val (s.cycle k.val) 32 {} = rankGranted s stack.val rank (s.cycle k.val) r :=
    (rankGrants_of_one_candidate hcand 31).trans (rankGrants_of_no_candidate (candidates_of_none_waits hqueued _) 31)
  rw [← hrank] at hqueued hdone hafter
  refine ⟨_, execArbiterCycle_unowned hruns hown (settleLost_of_kept hreqs hop hkept) (askPulls_of_not_blind hreqs hblind)
    hqueued, ?_, ?_⟩
  · rw [hdone, granted, read_writes hop]
  · rw [pc_congr hafter.pcs_eq]
    exact readQueued_queue

end Sys2Proof.Laws

/-! Pseudo-channels: what one of them and a bank hold after a change, and the commands of R141 and R151. -/

namespace Sys2Proof.Laws

-- theorems one after another: many at once would ask for too many threads
set_option Elab.async false

open Sys2Proof.Machine Sys2Proof.Safety

variable {s t : State} {p : Nat}

/-! ### A changed pseudo-channel, bank or stack -/

theorem pc_modPc (hc : Canonical s) (p : Nat) (f : PcState → PcState) : (s.modPc p f).pc p = f (s.pc p) :=
  Map.look_upd p f s.pcs (Canonical.pcs_wf hc)

/-- A pseudo-channel that differs from its reset value is listed, whatever the table lists. -/
theorem pc_modPc_listed {f : PcState → PcState} (h : f (s.pc p) ≠ {}) : (s.modPc p f).pc p = f (s.pc p) :=
  Map.look_put_listed h s.pcs

theorem pc_modPc_ne {q : Nat} (h : q ≠ p) (f : PcState → PcState) : (s.modPc p f).pc q = s.pc q :=
  Map.look_upd_ne h f s.pcs

/-- A bank that differs from its reset value is listed. -/
theorem bank_modBank_listed {x : PcState} {b : Nat} {f : Bank → Bank} (h : f (x.bank b) ≠ {}) :
    (x.modBank b f).bank b = f (x.bank b) :=
  Map.look_put_listed h x.banks

/-- A counter of a stack has added. -/
theorem stObj_stBump (hc : Canonical s) (st ix sub el n : Nat) :
    (s.stBump st ix sub el n).stObj st ix sub el = s.stObj st ix sub el + n :=
  obj_setObj (Canonical.objs_rising hc) _ _ _ _

theorem stObj_congr (h : t.objs = s.objs) (st ix sub el : Nat) : t.stObj st ix sub el = s.stObj st ix sub el :=
  obj_congr h ..

/-! ### ROW_IDLE_CLOSE -/

/-- The later of a bank's last ACT and its last column command (R141). -/
def lastUsed (kb : Bank) : Nat := match kb.actAt with | some a => max a kb.lastCol | none => kb.lastCol

theorem lastUsed_le {kb : Bank} {n c : Nat} (hcol : kb.lastCol + n ≤ c) (hact : ∀ a, kb.actAt = some a → a + n ≤ c) :
    lastUsed kb + n ≤ c := by
  unfold lastUsed
  split
  · rename_i a ha
    rw [← max_add_add_right]
    exact max_le (hact a ha) hcol
  · exact hcol

/-- A bank after a PRE (R135). -/
def precharged (c : Nat) (k : Bank) : Bank := { k with openRow := none, preAt := some c, streak := 0, wasOpen := false }

theorem precharged_listed (c : Nat) (k : Bank) : precharged c k ≠ {} := fun h => Option.some_ne_none c (congrArg Bank.preAt h)

/-- A pseudo-channel one of whose banks ROW_IDLE_CLOSE has closed, its PRE in the log (R141, R150). -/
def idleClosed (c sid bank : Nat) (x : PcState) : PcState :=
  (x.closeBank c (sid * 16 + bank) false).logCmd { cyc := c, kind := .pre, sid, bank }

theorem idleClosed_listed (c sid bank : Nat) (x : PcState) : idleClosed c sid bank x ≠ {} := fun h =>
  List.append_ne_nil_of_right_ne_nil _ (List.cons_ne_nil _ _) (congrArg PcState.log h)

theorem idleClosed_bank (c sid bank : Nat) (x : PcState) :
    (idleClosed c sid bank x).bank (sid * 16 + bank) = precharged c (x.bank (sid * 16 + bank)) :=
  bank_modBank_listed (precharged_listed c _)

/-- A row idle for 200 cycles on a controller that may issue its PRE is closed (R140, R141). -/
theorem execRowIdleClose_closes {stack : Fin 32} {pc : Fin 64} {sid : Fin 4} {bank : Fin 16} {k : Fin 1000}
    {v : Look} (hv : v = s.look stack.val pc.val k.val) (hruns : s.pcRuns stack.val pc.val = true)
    (hawake : (s.pc v.p).sr = .awake) (hspent : (s.pc v.p).rowSpent v.c = false)
    (hdue : ((s.pc v.p).due v.k).any ((s.pc v.p).refreshReady v) = false) (hcut : (s.pc v.p).sheet.inCut v.k = false)
    (hrec : (s.pc v.p).recovery = none) (hpre : ((s.pc v.p).bank (sid.val * 16 + bank.val)).preReady v.t v.c = true)
    (hcol : ((s.pc v.p).bank (sid.val * 16 + bank.val)).lastCol + 200 ≤ v.c)
    (hact : ∀ a, ((s.pc v.p).bank (sid.val * 16 + bank.val)).actAt = some a → a + 200 ≤ v.c) :
    execRowIdleClose stack pc sid bank k s = .next (s.modPc v.p (idleClosed v.c sid.val bank.val)) := by
  subst hv
  unfold execRowIdleClose
  simp only [hruns, Bool.not_true, Bool.false_eq_true, if_false]
  rw [if_pos]
  · rfl
  · simp only [hawake, hrec, hspent, hdue, hcut, hpre, Bool.and_eq_true, decide_eq_true_eq]
    exact ⟨by decide, lastUsed_le hcol hact⟩

/-! ### PARITY_ERROR -/

/-- The controller of a pseudo-channel in which a first take begins (R151). -/
def takeBegun (v : Look) (sids : List Nat) (marked : List LogCmd) (x : PcState) : PcState :=
  { x.unissue v.t v.c marked with
    log := []
    recovery := some { resume := v.c + v.t.parRec, takes := 1, sids, replay := replayOf marked } }

theorem parityEvent_stObj (hc : Canonical s) (st pc : Nat) (hpc : pc < 64) :
    (s.parityEvent (pcNo st pc)).1.stObj st 0x2003 1 pc = s.stObj st 0x2003 1 pc + 1 := by
  have hst : pcNo st pc / 64 = st := by unfold pcNo; omega
  have hmod : pcNo st pc % 64 = pc := by unfold pcNo; omega
  refine (stObj_congr rfl st _ _ _).trans (?_ : (s.stBump (pcNo st pc / 64) 0x2003 1 (pcNo st pc % 64) 1).stObj st 0x2003 1 pc = _)
  rw [hst, hmod, stObj_stBump hc]

/-- A parity event is within the reel's limit when the limit is above the events so far (R152). -/
theorem parityEvent_within (hc : Canonical s) (st pc : Nat) (hpc : pc < 64)
    (h : (s.pc (pcNo st pc)).parityReel + 1 ≤ s.stLive st 0x2003 5 0) : (s.parityEvent (pcNo st pc)).2 = false := by
  have hst : pcNo st pc / 64 = st := by unfold pcNo; omega
  have hb : Canonical (s.stBump (pcNo st pc / 64) 0x2003 1 (pcNo st pc % 64) 1) :=
    (stBump_only (m := 8) (.refl s) _ _ _ _ _).canon hc
  refine decide_eq_false (Nat.not_lt.mpr ?_)
  rw [pc_modPc hb, hst]
  exact h

/-- A parity error outside recovery and within its limits starts a take (R150 to R152). -/
theorem execParityError_starts {stack : Fin 32} {pc : Fin 64} {k : Fin 1000} {first : LogCmd} {rest : List LogCmd} {v : Look}
    (hv : v = s.look stack.val pc.val k.val) (hruns : s.pcRuns stack.val pc.val = true) (hrec : (s.pc v.p).recovery = none)
    (hmarked : (s.pc v.p).notExecuted v.t v.c = first :: rest) (hlimit : (s.parityEvent v.p).2 = false)
    (htakes : 1 ≤ s.stLive v.st 0x2003 4 0) :
    execParityError stack pc k s = .next ((s.parityEvent v.p).1.modPc v.p (takeBegun v first.sids (first :: rest))) := by
  subst hv
  unfold execParityError
  simp only [hmarked, hruns, hrec, hlimit, List.append_nil, List.nil_append, Bool.false_or, decide_eq_true_eq]
  exact if_neg (by omega)

/-! ### REPLAY_TAKE_END -/

/-- With no Stockroom pull that waits none is served (R345). -/
theorem pulled_of_no_pulls (h : s.packet.pulls = []) : s.pulled = s := by
  unfold State.pulled
  rw [h]
  rfl

/-- Outside recovery an answer goes to its request at once (R151). -/
theorem giveAnswer_of_no_recovery (h : (s.pc p).recovery = none) (req seq : Nat) (a : SectorRsp) :
    s.giveAnswer p req seq a = s.addAnswer req seq a := by
  unfold State.giveAnswer
  simp [h]

/-- Outside recovery answers held go to their requests, one after another (R151). -/
theorem each_giveAnswer_of_no_recovery : ∀ {l : List (Nat × Nat × SectorRsp)} {s : State}, (s.pc p).recovery = none →
    (s.each l fun s h => s.giveAnswer p h.1 h.2.1 h.2.2) = s.each l fun s h => s.addAnswer h.1 h.2.1 h.2.2
  | [], _, _ => rfl
  | x :: l, s, h => by
    refine (congrArg (State.each · l _) (giveAnswer_of_no_recovery h x.1 x.2.1 x.2.2)).trans ?_
    exact each_giveAnswer_of_no_recovery (s := s.addAnswer x.1 x.2.1 x.2.2) h

/-- The state in which a take has ended and is counted (R151, R489). -/
def takeCounted (s : State) (st pc : Nat) : State :=
  ((s.modPc (pcNo st pc) fun x => { x with recovery := none }).stBump st 0x2003 2 pc 1).tallyStack st 0x13 1 {}

theorem takeCounted_only (s : State) (st pc : Nat) :
    Only 524296 (s.modPc (pcNo st pc) fun x => { x with recovery := none }) (takeCounted s st pc) :=
  tallyStack_only (stBump_only (.refl _) _ _ _ _ _) _ _ _ _

theorem takeCounted_recovery (hc : Canonical s) (st pc : Nat) : ((takeCounted s st pc).pc (pcNo st pc)).recovery = none := by
  rw [pc_congr (takeCounted_only s st pc).pcs_eq, pc_modPc hc]

theorem takeCounted_stObj (hc : Canonical s) {st pc : Nat} (hst : st < 32) (hpc : pc < 64) :
    (takeCounted s st pc).stObj st 0x2003 2 pc = s.stObj st 0x2003 2 pc + 1 := by
  refine (obj_tallyStack ?_ _ _ _ _).trans (stObj_stBump ((modPc_only (m := 4096) (.refl s) _ _).canon hc) _ _ _ _ _)
  unfold oKey stackIx
  omega

/-- A take with nothing left to replay and no replayed command under way ends (R151). -/
theorem execReplayTakeEnd_ends {stack : Fin 32} {pc : Fin 64} {r : Recovery} (hrec : (s.pc (pcNo stack.val pc.val)).recovery = some r)
    (hprea : r.prea = true) (hreplay : r.replay = []) (hout : r.out = []) : execReplayTakeEnd stack pc s =
      .next ((takeCounted s stack.val pc.val).each r.held fun s h => s.giveAnswer (pcNo stack.val pc.val) h.1 h.2.1 h.2.2).pulled := by
  unfold execReplayTakeEnd
  simp only [hrec, hprea, hreplay, hout, List.any_nil, List.isEmpty_nil, Bool.not_true, Bool.or_self, Bool.false_eq_true, if_false]
  rfl

/-- Settles O24: each part names the state that its command answers. -/
theorem rowCloseAndCommandPathRecovery : Obligations.RowCloseAndCommandPathRecovery := by
  refine ⟨?_, ?_, ?_⟩
  · rintro stack pc sid bank k s kb v hruns hawake hspent hdue hcut hrec rfl hpre hcol hact
    refine ⟨_, execRowIdleClose_closes rfl hruns hawake hspent hdue hcut hrec hpre hcol hact, ?_⟩
    have hbank := (congrArg (·.bank (sid.val * 16 + bank.val)) (pc_modPc_listed (idleClosed_listed v.c sid.val bank.val (s.pc v.p)))).trans
      (idleClosed_bank v.c sid.val bank.val (s.pc v.p))
    exact ⟨congrArg Bank.openRow hbank, congrArg Bank.preAt hbank⟩
  · rintro stack pc k s x marked hc rfl hruns hrec rfl hne hreel htakes
    obtain ⟨first, rest, hmarked⟩ := List.exists_cons_of_ne_nil hne
    have hlimit := parityEvent_within hc stack.val pc.val pc.isLt hreel
    have hpe : Only 4104 s (s.parityEvent (pcNo stack.val pc.val)).1 := parityEvent_only (.refl s) _
    have hpc := pc_modPc (hpe.canon hc) (pcNo stack.val pc.val)
      (takeBegun (s.look stack.val pc.val k.val) first.sids (first :: rest))
    refine ⟨_, _, execParityError_starts rfl hruns hrec hmarked hlimit htakes, congrArg PcState.recovery hpc, ?_, rfl, rfl, rfl,
      congrArg PcState.log hpc, parityEvent_stObj hc stack.val pc.val pc.isLt⟩
    rw [hmarked]
  · intro stack pc s r hc hrec hprea hreplay hout hpulls
    have hnone := takeCounted_recovery hc stack.val pc.val
    have hend := takeCounted_only s stack.val pc.val
    have hans : Only 131328 (takeCounted s stack.val pc.val)
        ((takeCounted s stack.val pc.val).each r.held fun s h => s.addAnswer h.1 h.2.1 h.2.2) :=
      each_only (fun _ _ g => addAnswer_only g _ _ _) _ (.refl _)
    refine ⟨_, execReplayTakeEnd_ends hrec hprea hreplay hout, ?_⟩
    rw [each_giveAnswer_of_no_recovery hnone,
      pulled_of_no_pulls ((congrArg PacketState.pulls (hans.packet_eq.trans hend.packet_eq)).trans hpulls),
      pc_congr hans.pcs_eq, stObj_congr hans.objs_eq]
    exact ⟨hnone, takeCounted_stObj hc stack.isLt pc.isLt⟩

end Sys2Proof.Laws

/-! Read data: the answer of a sector, a second look that fails, and a corrective rewrite (R137, R360 to R363). -/

namespace Sys2Proof.Laws

-- theorems one after another: many at once would ask for too many threads
set_option Elab.async false

open Sys2Proof.Machine Sys2Proof.Safety

variable {s t : State} {p : Nat}

/-! ### What a sector's place and its region hold -/

theorem dramAt_congr (h : t.dram = s.dram) (place : Nat) : t.dramAt place = s.dramAt place := by
  unfold State.dramAt
  rw [h]

/-- A sector that differs from the fill is listed, whatever the memory lists. -/
theorem dramAt_dramPut_listed {place : Nat} {v : StoredSector} (h : v ≠ fillSector place) : (s.dramPut place v).dramAt place = v :=
  Map.look_put_listed h s.dram

theorem slot_congr (h : t.regions = s.regions) (r : Nat) : t.slot r = s.slot r := by
  unfold State.slot
  rw [h]

theorem keyOf_congr (h : t.regions = s.regions) (region epoch : Nat) : t.keyOf region epoch = s.keyOf region epoch := by
  unfold State.keyOf
  rw [slot_congr h]

/-- What a sector is decoded to depends on the lanes of its pseudo-channel alone (R359). -/
theorem decode_congr {place : Nat} (h : (t.pc (plPcNo place)).lanes = (s.pc (plPcNo place)).lanes) (errs : List (Nat × Nat)) :
    t.decode place errs = s.decode place errs := by
  unfold State.decode State.erased State.markedLanes
  rw [h]

/-- Data that meets no error on a pseudo-channel with no lane under watch is clean (R360). -/
theorem decode_clean {place : Nat} (h : (s.pc (plPcNo place)).lanes = []) :
    s.decode place [] = { finding := .clean, located := [], residual := [], symbols := 0 } := by
  unfold State.decode State.erased State.markedLanes
  rw [h]
  decide

theorem settleGood_of_clean {d : Decoded} (h : d.finding = .clean) (source master place : Nat) :
    s.settleGood source master place d = s := by
  unfold State.settleGood
  simp [h]

/-- The answer that a readable sector gives: POISON where it is stored poisoned, else what it deciphers to under the key of its
epoch (R360, R406). -/
def Opens (s : State) (region home : Nat) (c : StoredSector) (a : SectorRsp) : Prop :=
  (c.poison = true ∧ a = { poison := true }) ∨
    (c.poison = false ∧ ∃ k, s.keyOf region c.epoch = some k ∧ a = { data := openWith k home c })

theorem Opens.congr {region home : Nat} {c : StoredSector} {a : SectorRsp} (h : Opens s region home c a) (g : t.regions = s.regions) :
    Opens t region home c a := by
  unfold Opens
  rwa [keyOf_congr g]

theorem Opens.openSector {region home : Nat} {c : StoredSector} {a : SectorRsp} (h : Opens s region home c a) (he : c.epoch < 16)
    (i : FindInfo) : s.openSector i region home c [] = (a, s) := by
  have hbyte : Nat.xor (b2n c.poison + c.epoch * 2) 0 = b2n c.poison + c.epoch * 2 := Nat.xor_zero _
  unfold State.openSector
  obtain ⟨hp, rfl⟩ | ⟨hp, k, hk, rfl⟩ := h
  · have hodd : (b2n c.poison + c.epoch * 2) % 2 = 1 := by
      rw [hp]
      exact Nat.add_mul_mod_self_right 1 c.epoch 2
    simp only [List.find?_nil, Option.map_none, Option.getD_none, hbyte, hodd, if_true]
  · have heven : (b2n c.poison + c.epoch * 2) % 2 = 0 := by
      rw [hp]
      exact Nat.add_mul_mod_self_right 0 c.epoch 2
    have hepoch : (b2n c.poison + c.epoch * 2) / 2 % 16 = c.epoch := by
      rw [hp, b2n, if_neg Bool.false_ne_true]
      omega
    simp only [List.find?_nil, Option.map_none, Option.getD_none, hbyte, heven, hepoch, hk, Nat.zero_ne_one, if_false]
    rfl

/-! ### A queue entry's read -/

/-- What the arrival of read data leaves alone on a pseudo-channel is as before on every one (R137). -/
theorem pc_arrive_keeps {B : Type} (g : PcState → B) (hg : ∀ x i n, g { x with inflight := i, probeBursts := n } = g x)
    (f : InFlight) (q : Nat) : g ((s.arrive p f).pc q) = g (s.pc q) := by
  by_cases hq : q = p
  · subst hq
    exact (congrArg g (pc_modPc_listed fun h => Nat.succ_ne_zero _ (congrArg PcState.probeBursts h))).trans (hg ..)
  · exact congrArg g (pc_modPc_ne hq _)

theorem arrive_probeBursts_ne_zero (f : InFlight) : ((s.arrive p f).pc p).probeBursts ≠ 0 := by
  unfold State.arrive
  rw [pc_modPc_listed fun h => Nat.succ_ne_zero _ (congrArg PcState.probeBursts h)]
  exact Nat.succ_ne_zero _

/-- An entry that has left the queue stands in it no more (R133). -/
theorem not_mem_dropEntry (h : (s.pc p).probeBursts ≠ 0) {req seq : Nat} {y : QEntry}
    (hy : y ∈ ((s.dropEntry p req seq).pc p).queue) : y.req ≠ req ∨ y.seq ≠ seq := by
  unfold State.dropEntry at hy
  rw [pc_modPc_listed fun g => h (congrArg PcState.probeBursts g)] at hy
  have hleft := (List.mem_filter.mp hy).2
  simpa [imp_iff_not_or] using hleft

/-- The state in which a queue's entry has left it and answered its request (R50, R133). -/
def entryAnswered (s : State) (p : Nat) (e : QEntry) (a : SectorRsp) : State :=
  (s.dropEntry p e.req e.seq).addAnswer e.req e.seq a

theorem entryAnswered_only (s : State) (p : Nat) (e : QEntry) (a : SectorRsp) : Only 135424 s (entryAnswered s p e a) :=
  addAnswer_only (dropEntry_only (.refl s) _ _ _) _ _ _

/-- Outside recovery an entry that leaves the queue answers at once (R151). -/
theorem giveAnswer_dropEntry (h : (s.pc p).probeBursts ≠ 0) (hrec : (s.pc p).recovery = none) (e : QEntry) (a : SectorRsp) :
    (s.dropEntry p e.req e.seq).giveAnswer p e.req e.seq a = entryAnswered s p e a := by
  refine giveAnswer_of_no_recovery ?_ e.req e.seq a
  unfold State.dropEntry
  rw [pc_modPc_listed fun g => h (congrArg PcState.probeBursts g)]
  exact hrec

theorem pulled_entryAnswered (h : s.packet.pulls = []) (p : Nat) (e : QEntry) (a : SectorRsp) :
    (entryAnswered s p e a).pulled = entryAnswered s p e a :=
  pulled_of_no_pulls ((congrArg PacketState.pulls (entryAnswered_only s p e a).packet_eq).trans h)

/-- A request gains one answer (R50). -/
theorem req?_entryAnswered {e : QEntry} {r : Req} (h : s.req? e.req = some r) (p : Nat) (a : SectorRsp) :
    ∃ q, (entryAnswered s p e a).req? e.req = some q ∧ q.rsp = r.rsp ++ [(e.seq, a)] ∧ q.whole = r.whole :=
  ⟨_, req?_modReq (s := s.dropEntry p e.req e.seq) h fun _ h => h, rfl, rfl⟩

/-- A read whose data is readable leaves the queue, and answers (R360). -/
theorem entryGood_read {e : QEntry} (hk : e.kind = .read) {a : SectorRsp} (ha : Opens s e.region e.tweak (s.dramAt e.place) a)
    (he : (s.dramAt e.place).epoch < 16) (at_ : Nat) :
    s.entryGood p e at_ [] = (s.dropEntry p e.req e.seq).giveAnswer p e.req e.seq a := by
  unfold State.entryGood
  simp only [hk, ha.openSector he]

/-- A read whose data is uncorrectable leaves the queue, and answers POISON (R362). -/
theorem entryBad_read {e : QEntry} (hk : e.kind = .read) (at_ : Nat) (persistent : Bool) :
    s.entryBad p e at_ persistent = ((s.settleBad (s.entrySource e) e.master e.place persistent).dropEntry p e.req e.seq).giveAnswer p
      e.req e.seq { poison := true } := by
  unfold State.entryBad
  simp only [hk]

/-! ### READ_DATA_RETURN -/

/-- The state in which the data of a read has arrived and its time is counted (R137, R489). -/
def readReturned (s : State) (st pc : Nat) (f : InFlight) (e : QEntry) : State :=
  let s1 := s.arrive (pcNo st pc) f
  s1.tallyStack st 7 ((s1.timing st pc).arrives f.cyc - e.cyc) e.txn

theorem readReturned_only (s : State) (st pc : Nat) (f : InFlight) (e : QEntry) : Only 528392 s (readReturned s st pc f e) :=
  tallyStack_only (arrive_only (.refl s) _ _) _ _ _ _

theorem readReturned_pc (s : State) (st pc : Nat) (f : InFlight) (e : QEntry) (q : Nat) :
    (readReturned s st pc f e).pc q = (s.arrive (pcNo st pc) f).pc q :=
  pc_congr (tallyStack_only (m := 524296) (.refl _) _ _ _ _).pcs_eq q

/-- Clean data of a queue's entry goes on to the entry (R360). -/
theorem execReadDataReturn_clean {stack : Fin 32} {pc : Fin 64} {f : InFlight} {e : QEntry}
    (hfind : (s.pc (pcNo stack.val pc.val)).inflight.find? (fun f => !f.second) = some f)
    (hfence : s.fencedData (pcNo stack.val pc.val) = false)
    (hentry : (s.pc (pcNo stack.val pc.val)).queue.find? (fun q => q.req == f.req && q.seq == f.seq) = some e)
    (hlanes : (s.pc (plPcNo f.place)).lanes = []) :
    execReadDataReturn stack pc [] s = .next ((readReturned s stack.val pc.val f e).entryGood (pcNo stack.val pc.val) e
      (((s.arrive (pcNo stack.val pc.val) f).timing stack.val pc.val).arrives f.cyc) []).pulled := by
  have hqueue := pc_arrive_keeps (s := s) (p := pcNo stack.val pc.val) PcState.queue (fun _ _ _ => rfl) f (pcNo stack.val pc.val)
  have harrived := pc_arrive_keeps (s := s) (p := pcNo stack.val pc.val) PcState.lanes (fun _ _ _ => rfl) f (plPcNo f.place)
  have hret : ((readReturned s stack.val pc.val f e).pc (plPcNo f.place)).lanes = [] := by
    rw [readReturned_pc, harrived, hlanes]
  have hclean := decode_clean hret
  unfold readReturned at hclean ⊢
  unfold execReadDataReturn
  simp only [hfind, hfence, hqueue, hentry, hclean, settleGood_of_clean, Bool.false_eq_true, if_false]
  rfl

/-! ### SECOND_LOOK_RESULT -/

theorem settleSecond_of_uncorrectable {d : Decoded} (h : d.finding = .uncorrectable) (source master place first : Nat) :
    s.settleSecond source master place first d = (.bad false, s.bump 0x6000 4 (plPcNo place) 1) := by
  unfold State.settleSecond
  simp [h]

/-- A sector found uncorrectable is stored poisoned, and no other sector is changed (R362). -/
theorem settleBad_dramAt (source master place : Nat) (persistent : Bool) :
    ((s.settleBad source master place persistent).dramAt place).poison = true ∧
      ∀ q, q ≠ place → (s.settleBad source master place persistent).dramAt q = s.dramAt q := by
  unfold State.settleBad
  extract_lets i s0 c s1 s2
  have h0 : Only 524296 s s0 := tallyStack_only (.refl s) _ _ _ _
  have h2 : Only 2060 s1 s2 := integrityEvent_only (.refl s1) _ _ _
  have hput : s1.dramAt place = { s0.dramAt place with poison := true } :=
    dramAt_dramPut_listed fun h => Bool.false_ne_true (congrArg StoredSector.poison h).symm
  have hput' (q : Nat) (hq : q ≠ place) : s1.dramAt q = s0.dramAt q := dramAt_dramPut_ne s0 _ hq
  clear_value s2 s1
  have h3 : Only 2060 s1 ((s2.retirePlace (s.unphysical place) 0).loseUnit (plStack place) (plUnit place) false) :=
    loseUnit_only (retirePlace_only h2 _ _) _ _ _
  refine ⟨?_, fun q hq => ?_⟩
  · rw [dramAt_congr h3.dram_eq, hput]
  · rw [dramAt_congr h3.dram_eq, hput' q hq, dramAt_congr h0.dram_eq]

/-- The state in which a second look has found a sector uncorrectable, its entry's look over (R361). -/
def lookFailed (s : State) (st pc : Nat) (f : InFlight) (e : QEntry) : State :=
  ((s.arrive (pcNo st pc) f).bump 0x6000 4 (plPcNo f.place) 1).modEntry' (pcNo st pc) e.req e.seq fun e => { e with look := 0 }

theorem lookFailed_only (s : State) (st pc : Nat) (f : InFlight) (e : QEntry) : Only 4104 s (lookFailed s st pc f e) :=
  modEntry'_only (bump_only (arrive_only (.refl s) _ _) _ _ _ _) _ _ _ _

/-- What a change of an entry leaves alone is as the arrival left it. -/
theorem lookFailed_pc_keeps {B : Type} (g : PcState → B) (hg : ∀ x q, g { x with queue := q } = g x) (st pc : Nat) (f : InFlight)
    (e : QEntry) : g ((lookFailed s st pc f e).pc (pcNo st pc)) = g ((s.arrive (pcNo st pc) f).pc (pcNo st pc)) :=
  (congrArg g (pc_modPc_listed fun h => arrive_probeBursts_ne_zero (s := s) f (congrArg PcState.probeBursts h))).trans (hg ..)

/-- The state in which what a failed second look found is settled (R362). -/
def lookSettled (s : State) (st pc : Nat) (f : InFlight) (e : QEntry) : State :=
  let u := lookFailed s st pc f e
  u.settleBad (u.entrySource e) e.master e.place false

theorem lookSettled_only_failed (s : State) (st pc : Nat) (f : InFlight) (e : QEntry) :
    Only 526476 (lookFailed s st pc f e) (lookSettled s st pc f e) :=
  settleBad_only (.refl (lookFailed s st pc f e)) ((lookFailed s st pc f e).entrySource e) e.master e.place false 0 false

theorem lookSettled_only (s : State) (st pc : Nat) (f : InFlight) (e : QEntry) : Only 530572 s (lookSettled s st pc f e) :=
  ((lookFailed_only s st pc f e).mono (by decide)).step (by decide) (lookSettled_only_failed s st pc f e)

theorem lookSettled_probeBursts_ne_zero (s : State) (st pc : Nat) (f : InFlight) (e : QEntry) :
    ((lookSettled s st pc f e).pc (pcNo st pc)).probeBursts ≠ 0 := by
  rw [pc_congr (lookSettled_only_failed s st pc f e).pcs_eq, lookFailed_pc_keeps PcState.probeBursts fun _ _ => rfl]
  exact arrive_probeBursts_ne_zero f

theorem lookSettled_recovery (s : State) (st pc : Nat) (f : InFlight) (e : QEntry) :
    ((lookSettled s st pc f e).pc (pcNo st pc)).recovery = (s.pc (pcNo st pc)).recovery := by
  rw [pc_congr (lookSettled_only_failed s st pc f e).pcs_eq, lookFailed_pc_keeps PcState.recovery fun _ _ => rfl,
    pc_arrive_keeps PcState.recovery fun _ _ _ => rfl]

/-- The sector is poisoned, and no other is changed (R362). -/
theorem lookSettled_dramAt (s : State) (st pc : Nat) (f : InFlight) (e : QEntry) :
    ((lookSettled s st pc f e).dramAt e.place).poison = true ∧
      ∀ q, q ≠ e.place → (lookSettled s st pc f e).dramAt q = s.dramAt q := by
  obtain ⟨hpoison, hothers⟩ := settleBad_dramAt (s := lookFailed s st pc f e) ((lookFailed s st pc f e).entrySource e) e.master e.place false
  exact ⟨hpoison, fun q hq => (hothers q hq).trans (dramAt_congr (lookFailed_only s st pc f e).dram_eq q)⟩

/-- An uncorrectable second look of a queue's entry goes on to the entry (R362). -/
theorem execSecondLookResult_uncorrectable {stack : Fin 32} {pc : Fin 64} {errs : List (Nat × Nat)} {f : InFlight} {e : QEntry}
    (hfind : (s.pc (pcNo stack.val pc.val)).inflight.find? (fun f => f.second) = some f)
    (hfence : s.fencedData (pcNo stack.val pc.val) = false)
    (hentry : (s.pc (pcNo stack.val pc.val)).queue.find? (fun q => q.req == f.req && q.seq == f.seq) = some e)
    (hbad : (s.decode f.place errs).finding = .uncorrectable) :
    execSecondLookResult stack pc errs s = .next ((lookFailed s stack.val pc.val f e).entryBad (pcNo stack.val pc.val) e
      (((s.arrive (pcNo stack.val pc.val) f).timing stack.val pc.val).arrives f.cyc) false).pulled := by
  have hqueue := pc_arrive_keeps (s := s) (p := pcNo stack.val pc.val) PcState.queue (fun _ _ _ => rfl) f (pcNo stack.val pc.val)
  have hlanes := pc_arrive_keeps (s := s) (p := pcNo stack.val pc.val) PcState.lanes (fun _ _ _ => rfl) f (plPcNo f.place)
  have harrived : ((s.arrive (pcNo stack.val pc.val) f).decode f.place errs).finding = .uncorrectable := by
    rw [decode_congr hlanes, hbad]
  have hqueued : (((s.arrive (pcNo stack.val pc.val) f).bump 0x6000 4 (plPcNo f.place) 1).pc (pcNo stack.val pc.val)).queue.any
      (fun q => q.req == e.req && q.seq == e.seq) = true :=
    List.any_eq_true.mpr ⟨e, hqueue ▸ List.mem_of_find?_eq_some hentry, by simp⟩
  unfold execSecondLookResult
  simp only [hfind, hfence, hqueue, hentry, settleSecond_of_uncorrectable harrived, hqueued, Bool.false_eq_true, if_false]
  rfl

/-! ### CORRECTIVE_REWRITE -/

theorem stack_congr (h : t.stackTab = s.stackTab) (st : Nat) : t.stack st = s.stack st := by
  unfold State.stack
  rw [h]

theorem stack_modStack (hc : Canonical s) (st : Nat) (f : StackState → StackState) : (s.modStack st f).stack st = f (s.stack st) := by
  obtain ⟨-, -, -, hst, -⟩ := hc
  exact Map.look_upd st f s.stackTab hst

/-- What a change of one stack leaves alone is as before on every stack. -/
theorem stack_modStack_keeps {B : Type} (g : StackState → B) {f : StackState → StackState} (hg : ∀ k, g (f k) = g k)
    (hc : Canonical s) (st q : Nat) : g ((s.modStack st f).stack q) = g (s.stack q) := by
  by_cases hq : q = st
  · subst hq
    rw [stack_modStack hc, hg]
  · exact congrArg g (Map.look_upd_ne hq f s.stackTab)

/-- What a grant takes leaves the rewrites that wait alone (R106, R112). -/
theorem grantTakes_rewrites (hc : Canonical s) (st n : Nat) (r : Req) (q : Nat) :
    ((s.grantTakes st n r).stack q).rewrites = (s.stack q).rewrites := by
  unfold State.grantTakes
  extract_lets i s1 res
  have h1 : Only 1048576 s s1 := ite_only (tokens_only (.refl s) _ (Map.put_wf (dflt := fun _ => 0) _ _ _)) (.refl s)
  refine (stack_modStack_keeps StackState.rewrites ?_ (h1.canon hc) st q).trans
    (congrArg StackState.rewrites (stack_congr h1.stackTab_eq q))
  exact fun _ => rfl

/-- The block's own work beyond what its grant takes (R185, R201, R489). -/
theorem ownWork_only_grant (place rd wr master : Nat) (c : Cls) :
    Only 528392 (s.grantTakes (plStack place) (rd + wr) { master, cls := c }) (s.ownWork place rd wr master c) := by
  unfold State.ownWork
  extract_lets st t0 t s1 s2
  have h2 : Only 528392 s1 s2 := by
    unfold s2
    split
    · exact .refl s1
    · exact modPc_only (tallyStack_only (.refl s1) _ _ _ _) _ _
  clear_value s2
  exact charge_only (ite_only h2 (tallyStack_only h2 _ _ _ _)) _ _

theorem ownWork_rewrites (hc : Canonical s) (place rd wr master : Nat) (c : Cls) (q : Nat) :
    ((s.ownWork place rd wr master c).stack q).rewrites = (s.stack q).rewrites := by
  rw [stack_congr (ownWork_only_grant ..).stackTab_eq, grantTakes_rewrites hc]

theorem obj_modPc (q : Nat) (f : PcState → PcState) (ix sub el : Nat) : (s.modPc q f).obj ix sub el = s.obj ix sub el := rfl

theorem obj_charge (d n ix sub el : Nat) : (s.charge d n).obj ix sub el = s.obj ix sub el := rfl

/-- The block's own work counts on programmable counters alone (R485, R489). -/
theorem obj_ownWork {ix sub el : Nat} (h : oKey ix sub el < oKey 0x9000 1 0) (place rd wr master : Nat) (c : Cls) :
    (s.ownWork place rd wr master c).obj ix sub el = s.obj ix sub el := by
  unfold State.ownWork
  extract_lets st t0 t s1 s2
  have h1 : s1.obj ix sub el = s.obj ix sub el := obj_congr (grantTakes_only (m := 1050624) (.refl s) _ _ _).objs_eq _ _ _
  have h2 : s2.obj ix sub el = s.obj ix sub el := by
    unfold s2
    split
    · exact h1
    · rw [obj_modPc, obj_tallyStack h, h1]
  rw [obj_charge]
  split
  · exact h2
  · exact (obj_tallyStack h _ _ _ _).trans h2

/-- The state in which a rewrite has left its stack's list and taken its turn at the stack (R363). -/
def rewriteTaken (s : State) (st : Nat) (w : Rewrite) (rest : List Rewrite) : State :=
  (s.modStack st fun k => { k with rewrites := rest }).ownWork w.place 0 1 0x28 .upkeep

/-- The state in which a rewrite is stored, counted and noted (R363, R375). -/
def rewriteMade (s : State) (w : Rewrite) : State :=
  let b := s.bake (s.dramAt w.place) w.residual
  ((b.2.dramPut w.place b.1).count 0x6000 7).noteRewrite w.place

theorem execCorrectiveRewrite_takes {stack : Fin 32} {w : Rewrite} {rest : List Rewrite}
    (h : (s.stack stack.val).rewrites = w :: rest) (hon : s.upkeepOn stack.val = true) :
    execCorrectiveRewrite stack s = .next (rewriteMade (rewriteTaken s stack.val w rest) w) := by
  unfold execCorrectiveRewrite
  simp only [h, hon, Bool.not_true, Bool.false_eq_true, if_false]
  rfl

theorem rewriteMade_rewrites (hc : Canonical s) (w : Rewrite) (q : Nat) :
    ((rewriteMade s w).stack q).rewrites = (s.stack q).rewrites := by
  unfold rewriteMade
  extract_lets b
  have h : Only 2097288 s ((b.2.dramPut w.place b.1).count 0x6000 7) :=
    count_only (dramPut_only (bake_only (.refl s) _ _) _ _) _ _
  refine (stack_modStack_keeps StackState.rewrites ?_ (h.canon hc) (plStack w.place) q).trans
    (congrArg StackState.rewrites (stack_congr h.stackTab_eq q))
  exact fun _ => rfl

theorem obj_rewriteMade (w : Rewrite) : (rewriteMade s w).obj 0x6000 7 0 = s.obj 0x6000 7 0 + 1 := by
  unfold rewriteMade
  extract_lets b
  have h : Only 2097280 s (b.2.dramPut w.place b.1) := dramPut_only (bake_only (.refl s) _ _) _ _
  rw [obj_congr (noteRewrite_only (m := 2048) (.refl _) _).objs_eq, obj_count_plain (by decide), obj_congr h.objs_eq]

theorem rewriteMade_dramAt_ne (w : Rewrite) {place : Nat} (h : place ≠ w.place) : (rewriteMade s w).dramAt place = s.dramAt place := by
  unfold rewriteMade
  extract_lets b
  rw [dramAt_congr (noteRewrite_only (m := 2056) (count_only (.refl (b.2.dramPut w.place b.1)) 0x6000 7) _).dram_eq,
    dramAt_dramPut_ne _ _ h, dramAt_congr (bake_only (m := 2097152) (.refl s) _ _).dram_eq]

/-- Settles O25: clean data goes to `entryGood_read`, an uncorrectable second look to `entryBad_read`, and a rewrite is
`rewriteTaken` and then `rewriteMade`. -/
theorem readDataAnswersItsRequest : Obligations.ReadDataAnswersItsRequest := by
  refine ⟨?_, ?_, ?_⟩
  · intro stack pc s f e r a hpulls hfind hfence hentry hkind hplace hlanes hpc hrec hreq hepoch hopens
    have hexec := execReadDataReturn_clean hfind hfence hentry (by rw [hpc, hlanes])
    have hret := readReturned_only s stack.val pc.val f e
    have hprobe : ((readReturned s stack.val pc.val f e).pc (pcNo stack.val pc.val)).probeBursts ≠ 0 := by
      rw [readReturned_pc]
      exact arrive_probeBursts_ne_zero f
    have hnone : ((readReturned s stack.val pc.val f e).pc (pcNo stack.val pc.val)).recovery = none := by
      rw [readReturned_pc, pc_arrive_keeps PcState.recovery fun _ _ _ => rfl, hrec]
    generalize readReturned s stack.val pc.val f e = u at hexec hret hprobe hnone
    have hdata := dramAt_congr hret.dram_eq e.place
    have hopen : Opens u e.region e.tweak (u.dramAt e.place) a := by
      rw [hdata]
      exact Opens.congr hopens hret.regions_eq
    rw [entryGood_read hkind hopen (hdata ▸ hepoch), giveAnswer_dropEntry hprobe hnone,
      pulled_entryAnswered ((congrArg PacketState.pulls hret.packet_eq).trans hpulls)] at hexec
    obtain ⟨q, hq, hrsp, hwhole⟩ := req?_entryAnswered ((req?_congr hret.reqs_eq e.req).trans hreq) (pcNo stack.val pc.val) a
    exact ⟨_, q, hexec, hq, hrsp, hwhole, (entryAnswered_only u _ e a).dram_eq.trans hret.dram_eq,
      fun y hy => not_mem_dropEntry hprobe hy⟩
  · intro stack pc errs s f e r hpulls hfind hfence hentry hkind hplace hrec hreq hbad
    have hexec := execSecondLookResult_uncorrectable hfind hfence hentry hbad
    rw [entryBad_read hkind, ← lookSettled] at hexec
    have hset := lookSettled_only s stack.val pc.val f e
    obtain ⟨hpoison, hothers⟩ := lookSettled_dramAt s stack.val pc.val f e
    rw [giveAnswer_dropEntry (lookSettled_probeBursts_ne_zero s stack.val pc.val f e) ((lookSettled_recovery ..).trans hrec),
      pulled_entryAnswered ((congrArg PacketState.pulls hset.packet_eq).trans hpulls)] at hexec
    obtain ⟨q, hq, hrsp, -⟩ := req?_entryAnswered ((req?_congr hset.reqs_eq e.req).trans hreq) (pcNo stack.val pc.val) { poison := true }
    have hdram := (entryAnswered_only (lookSettled s stack.val pc.val f e) (pcNo stack.val pc.val) e { poison := true }).dram_eq
    refine ⟨_, q, hexec, hq, hrsp, ?_, fun place hne => ?_⟩
    · rw [hplace, dramAt_congr hdram, hpoison]
    · rw [dramAt_congr hdram, hothers place (hplace ▸ hne)]
  · intro stack s w rest hc hrw hon
    have hdrop : Only 2048 s (s.modStack stack.val fun k => { k with rewrites := rest }) := modStack_only (.refl s) _ _
    have htaken : Only 1579016 s (rewriteTaken s stack.val w rest) := ownWork_only (hdrop.mono (by decide)) _ _ _ _ _
    refine ⟨_, execCorrectiveRewrite_takes hrw hon, ?_, ?_, fun place hne => ?_⟩
    · rw [rewriteMade_rewrites (htaken.canon hc), rewriteTaken, ownWork_rewrites (hdrop.canon hc), stack_modStack hc]
    · rw [obj_rewriteMade, rewriteTaken, obj_ownWork (by decide), obj_congr hdrop.objs_eq]
    · rw [rewriteMade_dramAt_ne w hne, dramAt_congr htaken.dram_eq]

end Sys2Proof.Laws

/-! A controller cycle: what its parts do to the pseudo-channel and to the stacks (R132 to R143). -/

namespace Sys2Proof.Laws

-- theorems one after another: many at once would ask for too many threads
set_option Elab.async false

open Sys2Proof.Machine Sys2Proof.Safety

variable {s t : State} {v : Look} {e : QEntry} {x y : PcState}

/-! ### The parts of a cycle before its commands -/

/-- Whether an entry stays in its queue: one whose write is not complete, and any other (R133). -/
def stays (v : Look) (recovering : Bool) (e : QEntry) : Bool :=
  match e.stage with
  | .writing t => decide (v.c < t + max (v.t.par + 1) (v.t.wl + 2)) || recovering
  | _ => true

/-- A pseudo-channel without the writes that have completed (R133). -/
def retired (v : Look) (x : PcState) : PcState := { x with queue := x.queue.filter (stays v x.recovery.isSome) }

theorem retired_of_waiting (h : ∀ e ∈ x.queue, e.stage = .waiting) : retired v x = x := by
  have hall : x.queue.filter (stays v x.recovery.isSome) = x.queue := List.filter_eq_self.mpr fun e he => by simp [stays, h e he]
  unfold retired
  rw [hall]

/-- The state in which the queue is up to date and the cycle's entries and slot are counted (R133, R483, R489). -/
def pcCycleOpened (s : State) (v : Look) : State :=
  (((s.modPc v.p fun x => x.trim v.c).retireWrites v).cycleCounts v).countSlot v

theorem pcCycleOpened_only (s : State) (v : Look) : Only 528392 s (pcCycleOpened s v) :=
  countSlot_only (cycleCounts_only (retireWrites_only (modPc_only (.refl s) _ _) _) _) _

theorem countSlot_pc (hc : Canonical s) : ∃ j, (s.countSlot v).pc v.p = { s.pc v.p with judged := j } := by
  unfold State.countSlot
  extract_lets x kind el j
  exact ⟨_, pc_modPc (s := s.setObj _ _ _ _) ((setObj_only (m := 8) (.refl s) _ _ _ _).canon hc) _ _⟩

theorem pcCycleOpened_pc (hc : Canonical s) :
    ∃ j, (pcCycleOpened s v).pc v.p = { retired v ((s.pc v.p).trim v.c) with judged := j } := by
  have htrim : Only 4096 s (s.modPc v.p fun x => x.trim v.c) := modPc_only (.refl s) _ _
  have hret : Only 4096 s ((s.modPc v.p fun x => x.trim v.c).retireWrites v) := retireWrites_only htrim _
  have hcounts : Only 524296 ((s.modPc v.p fun x => x.trim v.c).retireWrites v)
      (((s.modPc v.p fun x => x.trim v.c).retireWrites v).cycleCounts v) := cycleCounts_only (.refl _) _
  have hpc : ((s.modPc v.p fun x => x.trim v.c).retireWrites v).pc v.p = retired v ((s.pc v.p).trim v.c) :=
    (pc_modPc (htrim.canon hc) v.p (retired v)).trans (congrArg (retired v) (pc_modPc hc v.p _))
  obtain ⟨j, hj⟩ := countSlot_pc (v := v) (hcounts.canon (hret.canon hc))
  refine ⟨j, hj.trans ?_⟩
  rw [pc_congr hcounts.pcs_eq, hpc]

/-! ### The write drain -/

/-- The start or end of a write drain changes its own fields alone (R143). -/
theorem drainStep_pc (hc : Canonical s) : ∃ d n, (s.drainStep v).pc v.p = { s.pc v.p with draining := d, drained := n } := by
  have hself : ∃ d n, s.pc v.p = { s.pc v.p with draining := d, drained := n } := ⟨_, _, rfl⟩
  unfold State.drainStep
  extract_lets x live el writes elWrite elRead critRead aged blocked
  split
  · split
    · exact ⟨_, _, pc_modPc hc _ _⟩
    · exact hself
  · split
    · exact ⟨_, _, (pc_congr (tallyStack_only (m := 524296) (.refl _) _ _ _ _).pcs_eq _).trans (pc_modPc hc _ _)⟩
    · exact hself

/-! ### ACT -/

theorem activate_openRow (k : Bank) (limit row : Nat) : (k.activate limit row).1.openRow = k.openRow := by
  unfold Bank.activate
  extract_lets held
  split <;> rfl

theorem activate_actAt (k : Bank) (limit row : Nat) : (k.activate limit row).1.actAt = k.actAt := by
  unfold Bank.activate
  extract_lets held
  split <;> rfl

/-- Entering an activation in its table changes the bank and the pending refreshes alone (R163, R166). -/
theorem noteAct_pc (hc : Canonical s) (b row : Nat) : ∃ tr, (s.noteAct v b row).pc v.p =
    { (s.pc v.p).modBank b fun _ => (((s.pc v.p).bank b).activate (s.stack v.st).nbLimit row).1 with triggers := tr } := by
  unfold State.noteAct
  extract_lets r s1 add
  have h1 : Only 4096 s s1 := modPc_only (.refl s) _ _
  have hpc : s1.pc v.p = (s.pc v.p).modBank b fun _ => r.1 := pc_modPc hc _ _
  have hadd (row : Option Nat) : ∃ tr, (add s1 row).pc v.p = { (s.pc v.p).modBank b fun _ => r.1 with triggers := tr } := by
    rw [← hpc]
    refine (exists_congr fun tr => by rw [show (add s1 row).pc v.p = _ from pc_modPc (h1.canon hc) _ _]).mpr ?_
    split
    · exact ⟨_, rfl⟩
    · exact ⟨_, rfl⟩
  split
  · exact hadd _
  · split
    · exact hadd _
    · exact ⟨_, hpc⟩

/-- The state in which an ACT's entry has been classed as reuse or conflict and counted (R142, R489). -/
def actClassed (s : State) (v : Look) (e : QEntry) : State :=
  let k := (s.pc v.p).bank e.bank
  let reuse := k.lastRow == some e.row
  let s1 := if k.lastRow.isSome then s.classAccess v e.bank reuse (k.wasOpen && !reuse) else s
  if k.lastRow.isSome && !reuse && k.wasOpen then s1.tallyStack v.st 6 1 e.txn else s1

theorem actClassed_only (s : State) (v : Look) (e : QEntry) : Only 524296 s (actClassed s v e) := by
  unfold actClassed
  extract_lets k reuse s1
  have h1 : Only 524296 s s1 := ite_only (classAccess_only (.refl s) _ _ _ _) (.refl s)
  exact ite_only (tallyStack_only h1 _ _ _ _) h1

/-- A pseudo-channel with an entry's row opened, its ACT in the log (R140, R150). -/
def rowOpened (v : Look) (e : QEntry) (x : PcState) : PcState :=
  (x.openRow v.c e.bank e.row).logCmd
    { cyc := v.c, kind := .act, sid := e.bank / 16, bank := e.bank % 16, row := e.row, req := e.req, seq := e.seq }

theorem issueAct_eq (s : State) (v : Look) (e : QEntry) : s.issueAct v e =
    (((actClassed s v e).modPc v.p (rowOpened v e)).noteAct v e.bank e.row).tallyStack v.st 4 1 e.txn := rfl

theorem rowOpened_bank (v : Look) (e : QEntry) (x : PcState) : (rowOpened v e x).bank e.bank =
    { x.bank e.bank with openRow := some e.row, lastRow := some e.row, actAt := some v.c, streak := 0 } :=
  bank_modBank_listed (f := fun k => { k with openRow := some e.row, lastRow := some e.row, actAt := some v.c, streak := 0 })
    fun h => Option.some_ne_none v.c (congrArg Bank.actAt h)

/-- An ACT leaves the queue as it is, and the entry's bank with its row open since this cycle (R140). -/
theorem issueAct_pc (hc : Canonical s) : ((s.issueAct v e).pc v.p).queue = (s.pc v.p).queue ∧
    (((s.issueAct v e).pc v.p).bank e.bank).openRow = some e.row ∧ (((s.issueAct v e).pc v.p).bank e.bank).actAt = some v.c := by
  have hcl := actClassed_only s v e
  have hop : Only 528392 s ((actClassed s v e).modPc v.p (rowOpened v e)) := modPc_only (hcl.mono (by decide)) _ _
  have hpc : ((actClassed s v e).modPc v.p (rowOpened v e)).pc v.p = rowOpened v e (s.pc v.p) := by
    rw [pc_modPc (hcl.canon hc), pc_congr hcl.pcs_eq]
  obtain ⟨tr, htr⟩ := noteAct_pc (v := v) (hop.canon hc) e.bank e.row
  rw [issueAct_eq, pc_congr (tallyStack_only (m := 524296) (.refl _) _ _ _ _).pcs_eq, htr, hpc]
  generalize (((actClassed s v e).modPc v.p (rowOpened v e)).stack v.st).nbLimit = limit
  have hact : ((((rowOpened v e (s.pc v.p)).bank e.bank).activate limit e.row).1).actAt = some v.c := by
    rw [activate_actAt, rowOpened_bank]
  have hbank := bank_modBank_listed (x := rowOpened v e (s.pc v.p)) (b := e.bank)
    (f := fun _ => (((rowOpened v e (s.pc v.p)).bank e.bank).activate limit e.row).1)
    fun h => Option.some_ne_none v.c (hact.symm.trans (congrArg Bank.actAt h))
  refine ⟨rfl, (congrArg Bank.openRow hbank).trans ?_, (congrArg Bank.actAt hbank).trans hact⟩
  rw [activate_openRow, rowOpened_bank]

/-! ### Column commands -/

/-- Every entry whose column command may be issued stands in the queue (R138). -/
theorem mem_queue_of_withEarlier : ∀ {l seen : List QEntry} {z : QEntry × List QEntry}, z ∈ withEarlier seen l → z.1 ∈ l
  | [], _, _, h => nomatch h
  | q :: l, seen, z, h => by
    obtain rfl | h := List.mem_cons.mp h
    · exact List.mem_cons_self ..
    · exact List.mem_cons_of_mem _ (mem_queue_of_withEarlier h)

theorem mem_queue_of_colEligible (h : e ∈ s.colEligible v) : e ∈ (s.pc v.p).queue := by
  obtain ⟨z, hz, rfl⟩ := List.mem_map.mp (List.mem_of_mem_filter h)
  exact List.mem_of_mem_take (mem_queue_of_withEarlier (List.mem_of_mem_filter hz))

theorem firstBy_mem {A : Type} (before : A → A → Bool) : ∀ {l : List A} {a : A}, firstBy before l = some a → a ∈ l
  | [], _, h => nomatch h
  | x :: l, a, h => by
    unfold firstBy at h
    split at h
    · cases h
      exact List.mem_cons_self ..
    · rename_i y hy
      split at h
      · cases h
        exact List.mem_cons_of_mem _ (firstBy_mem before hy)
      · cases h
        exact List.mem_cons_self ..

/-- The state in which a column command's entry has been classed (R142, R489). -/
def colClassed (s : State) (v : Look) (e : QEntry) : State :=
  let k := (s.pc v.p).bank e.bank
  let again := match k.actAt with | some a => decide (a ≤ k.lastCol) | none => true
  if (e.stage == .waiting && e.look == 0) && again then (s.classAccess v e.bank true true).tallyStack v.st 5 1 e.txn else s

theorem colClassed_only (s : State) (v : Look) (e : QEntry) : Only 524296 s (colClassed s v e) :=
  ite_only (tallyStack_only (classAccess_only (.refl s) _ _ _ _) _ _ _ _) (.refl s)

/-- The command of an entry's column access (R141, R150). -/
def colCmd (s : State) (v : Look) (e : QEntry) : LogCmd :=
  { kind := if e.readsNext then .rd else .wr, sid := e.bank / 16, bank := e.bank % 16, row := e.row, req := e.req, seq := e.seq
    ap := (colClassed s v e).autoPre v e }

/-- What a column command leaves in its controller (R132, R139, R143). -/
def colTaken (s : State) (v : Look) (e : QEntry) (x : PcState) : PcState :=
  let y := x.modBank e.bank fun k => { k with streak := if passesOver v.age v.c (s.pc v.p).active e then k.streak + 1 else 0 }
  ({ y with drained := if x.draining && !e.readsNext then x.drained + 1 else x.drained, used := true } : PcState).column v e (colCmd s v e)

/-- The state in which a column command has been issued, what it stores apart. -/
def colIssued (s : State) (v : Look) (e : QEntry) : State := (colClassed s v e).modPc v.p (colTaken s v e)

theorem colIssued_only (s : State) (v : Look) (e : QEntry) : Only 528392 s (colIssued s v e) :=
  modPc_only ((colClassed_only s v e).mono (by decide)) _ _

theorem issueCol_eq (s : State) (v : Look) (e : QEntry) : s.issueCol v e =
    if e.readsNext then colIssued s v e
    else (colIssued s v e).dramPut e.place ((colIssued s v e).effect e ((colIssued s v e).dramAt e.place)) := rfl

theorem colIssued_queue (hc : Canonical s) : ((colIssued s v e).pc v.p).queue = (s.pc v.p).queue.map fun q =>
    if q.req == e.req && q.seq == e.seq then { q with stage := if e.readsNext then .reading else .writing v.c } else q := by
  have hcl := colClassed_only s v e
  unfold colIssued
  rw [pc_modPc (hcl.canon hc), pc_congr hcl.pcs_eq]
  cases hr : e.readsNext <;> simp [colTaken, colCmd, PcState.column, PcState.logCmd, PcState.logAll, PcState.modBank, hr]

/-- A column command changes no other sector than its entry's (R132). -/
theorem issueCol_dramAt_ne {place : Nat} (h : place ≠ e.place) : (s.issueCol v e).dramAt place = s.dramAt place := by
  rw [issueCol_eq]
  split
  · rw [dramAt_congr (colIssued_only s v e).dram_eq]
  · rw [dramAt_dramPut_ne _ _ h, dramAt_congr (colIssued_only s v e).dram_eq]

end Sys2Proof.Laws

/-! Controller cycles: which sectors one may change, and the cycle of a controller whose queue holds one write (R132 to R140). -/

namespace Sys2Proof.Laws

-- theorems one after another: many at once would ask for too many threads
set_option Elab.async false

open Sys2Proof.Machine Sys2Proof.Safety

variable {s t : State} {v : Look} {e : QEntry} {x y : PcState}

/-! ### Row commands leave the queue alone -/

/-- What a change of a pseudo-channel leaves alone is as before. -/
theorem pc_modPc_keeps {B : Type} (g : PcState → B) {p : Nat} {f : PcState → PcState} (hc : Canonical s)
    (hg : g (f (s.pc p)) = g (s.pc p)) : g ((s.modPc p f).pc p) = g (s.pc p) := by
  rw [pc_modPc hc, hg]

theorem issuePrea_queue (x : PcState) (c : Nat) : (x.issuePrea c).queue = x.queue :=
  List.foldlRecOn (motive := fun (y : PcState) => y.queue = x.queue) _ _ rfl fun _ h _ _ => h

/-- A refresh leaves the queue as it is (R157, R165). -/
theorem issueRefresh_queue (hc : Canonical s) (d : SheetCmd) : ((s.issueRefresh v d).pc v.p).queue = (s.pc v.p).queue := by
  unfold State.issueRefresh
  extract_lets b x targeted busy rows acts one cmds s1
  have hq : (s1.pc v.p).queue = (s.pc v.p).queue := pc_modPc_keeps PcState.queue hc rfl
  clear_value s1
  have hcount : Only 524296 s1 ((if d.kind = 0 then s1.stBump v.st 0x2006 3 v.pcn 1 else s1).tallyStack v.st 0x0D 1 {}) :=
    tallyStack_only (ite_only (stBump_only (.refl s1) _ _ _ _ _) (.refl s1)) _ _ _ _
  rw [pc_congr hcount.pcs_eq, hq]

theorem rowRest_queue (hc : Canonical s) : ((s.rowRest v).pc v.p).queue = (s.pc v.p).queue := by
  unfold State.rowRest
  extract_lets x cut near closable room want
  split
  · split
    · exact pc_modPc_keeps PcState.queue hc (issuePrea_queue _ _)
    · rfl
  · split
    · exact pc_modPc_keeps PcState.queue hc rfl
    · split
      · rfl
      · split
        · exact congrArg PcState.queue (pc_congr (stBump_only (m := 8) (.refl s) _ _ _ _ _).pcs_eq v.p)
        · split
          · exact (issueAct_pc hc).1
          · rfl

/-- The row command of a cycle leaves the queue as it is (R140). -/
theorem rowStep_queue (hc : Canonical s) : ((s.rowStep v).pc v.p).queue = (s.pc v.p).queue := by
  have hlate (l : List SheetCmd) : Canonical (s.modPc v.p fun x => { x with late := l }) ∧
      ((s.modPc v.p fun x => { x with late := l }).pc v.p).queue = (s.pc v.p).queue :=
    ⟨(modPc_only (m := 4096) (.refl s) _ _).canon hc, pc_modPc_keeps PcState.queue hc rfl⟩
  unfold State.rowStep
  extract_lets x due s1
  split
  · rename_i d _
    obtain ⟨hcd, hqd⟩ := hlate (due.erase d)
    exact (issueRefresh_queue hcd d).trans hqd
  · obtain ⟨hcd, hqd⟩ := hlate due
    split
    · exact hqd
    · exact (rowRest_queue hcd).trans hqd

/-! ### Sectors -/

theorem colStep_dramAt_ne (hc : Canonical s) {place : Nat} (h : ∀ e ∈ (s.pc v.p).queue, e.place ≠ place) :
    (s.colStep v).dramAt place = s.dramAt place := by
  obtain ⟨d, n, hpc⟩ := drainStep_pc (v := v) hc
  have hdrain : Only 528392 s (s.drainStep v) := drainStep_only (.refl s) _
  unfold State.colStep
  extract_lets s1
  split
  · rename_i e he
    have hmem : e ∈ (s1.pc v.p).queue := mem_queue_of_colEligible (firstBy_mem _ he)
    rw [hpc] at hmem
    rw [issueCol_dramAt_ne (h e hmem).symm, dramAt_congr hdrain.dram_eq]
  · rw [dramAt_congr hdrain.dram_eq]

/-- A pseudo-channel back from self-refresh is awake (R168, R169). -/
def pcWoken (s : State) (v : Look) : State :=
  match (s.pc v.p).sr with
  | .returning t | .exiting t => if t ≤ v.c then s.modPc v.p fun x => x.wakes v.c else s
  | _ => s

/-- The commands of a cycle: in recovery those of the take, asleep or in a cut none, else a row and a column command (R139,
R140, R151). -/
def pcCommands (s : State) (v : Look) : State :=
  match (s.pc v.p).recovery with
  | some r => ((s.shiftSheet v).replayStep v r).chargeCycle v
  | none => if (s.pc v.p).sr != .awake || (s.pc v.p).sheet.inCut v.k then s else ((s.rowStep v).colStep v).chargeCycle v

theorem execPcControllerCycle_stopped {stack : Fin 32} {pc : Fin 64} (k : Fin 1000) (h : s.pcRuns stack.val pc.val = false) :
    execPcControllerCycle stack pc k s = .next s := by
  unfold execPcControllerCycle
  simp [h]

theorem execPcControllerCycle_runs {stack : Fin 32} {pc : Fin 64} {k : Fin 1000} (hruns : s.pcRuns stack.val pc.val = true)
    (hv : v = s.look stack.val pc.val k.val) :
    execPcControllerCycle stack pc k s = .next (pcCommands (pcWoken (pcCycleOpened s v) v) v) := by
  subst hv
  unfold execPcControllerCycle
  rw [if_neg (by simp [hruns])]
  extract_lets v s1 s2 x
  change _ = Host.Outcome.next (pcCommands s2 v)
  clear_value s2
  unfold pcCommands
  cases (s2.pc v.p).recovery with
  | some r => rfl
  | none => exact (apply_ite Host.Outcome.next ..).symm

theorem pcWoken_only (s : State) (v : Look) : Only 4096 s (pcWoken s v) := by
  unfold pcWoken
  split
  · exact ite_only (modPc_only (.refl s) _ _) (.refl s)
  · exact ite_only (modPc_only (.refl s) _ _) (.refl s)
  · exact .refl s

theorem pcWoken_queue (hc : Canonical s) : ((pcWoken s v).pc v.p).queue = (s.pc v.p).queue := by
  have hwakes (t : Nat) : ((if t ≤ v.c then s.modPc v.p fun x => x.wakes v.c else s).pc v.p).queue = (s.pc v.p).queue := by
    split
    · exact pc_modPc_keeps PcState.queue hc rfl
    · rfl
  unfold pcWoken
  split
  · exact hwakes _
  · exact hwakes _
  · rfl

theorem pcCommands_dramAt_ne (hc : Canonical s) {place : Nat} (h : ∀ e ∈ (s.pc v.p).queue, e.place ≠ place) :
    (pcCommands s v).dramAt place = s.dramAt place := by
  have hcharge (u : State) : (u.chargeCycle v).dramAt place = u.dramAt place :=
    dramAt_congr (chargeCycle_only (m := 524288) (.refl u) v).dram_eq place
  unfold pcCommands
  split
  · rename_i r _
    have hreplay : Only 528392 s ((s.shiftSheet v).replayStep v r) := replayStep_only (shiftSheet_only (.refl s) _) _ _
    rw [hcharge, dramAt_congr hreplay.dram_eq]
  · split
    · rfl
    · have hrow : Only 528392 s (s.rowStep v) := rowStep_only (.refl s) _
      rw [hcharge, colStep_dramAt_ne (hrow.canon hc) (by rwa [rowStep_queue hc]), dramAt_congr hrow.dram_eq]

/-- In a state whose tables are canonical a controller cycle stores no sector that no entry of its queue names (R132, R134). -/
theorem execPcControllerCycle_dramAt_ne {stack : Fin 32} {pc : Fin 64} {k : Fin 1000} (hc : Canonical s)
    (hexec : execPcControllerCycle stack pc k s = .next t) {place : Nat}
    (h : ∀ e ∈ (s.pc (pcNo stack.val pc.val)).queue, e.place ≠ place) : t.dramAt place = s.dramAt place := by
  cases hruns : s.pcRuns stack.val pc.val with
  | false =>
    cases (execPcControllerCycle_stopped k hruns).symm.trans hexec
    rfl
  | true =>
    cases (execPcControllerCycle_runs hruns rfl).symm.trans hexec
    generalize hv : s.look stack.val pc.val k.val = v
    have hopened := pcCycleOpened_only s v
    have hwoken := pcWoken_only (pcCycleOpened s v) v
    obtain ⟨j, hj⟩ := pcCycleOpened_pc (v := v) hc
    rw [pcCommands_dramAt_ne (hwoken.canon (hopened.canon hc)), dramAt_congr hwoken.dram_eq, dramAt_congr hopened.dram_eq]
    intro e he
    rw [pcWoken_queue (hopened.canon hc), hj] at he
    subst hv
    exact h e (List.mem_of_mem_filter he)

/-- A write of 9 to place 0, not yet issued. -/
def nineWrite : QEntry := { kind := .write, op := .write, data := 9 }

/-- A state whose table of pseudo-channels is not canonical: it lists pseudo-channel 0 twice. The first entry, with an empty
queue, is no longer listed once the cycle has dropped what no interval can see; the second holds a write to an open row. -/
def listedTwice : State :=
  { State.reset with
    stackTab := [(0, { power := .service })]
    pcs := [(0, { judged := [(0, 0)] }), (0, { queue := [nineWrite], banks := [(nineWrite.bank, { openRow := some nineWrite.row })] })] }

/-- The sector at place 0 after a controller cycle. -/
def cycledPlain (s : State) : Option Sector :=
  match exec (.pcControllerCycle 0 0 0) s with
  | .next t => some (t.dramAt 0).plain
  | _ => none

/-- Refutes O22: of `listedTwice` the statement sees the queue of the first entry, and the cycle writes from the second's. The
tables of no state that the block reaches list a key twice; `execPcControllerCycle_dramAt_ne` has the statement for all
states with canonical tables. -/
theorem not_controllerStoresOnlyQueuedSectors : ¬ Obligations.ControllerStoresOnlyQueuedSectors := by
  intro h
  have hwritten : cycledPlain listedTwice = some 9 := by decide +kernel
  unfold cycledPlain at hwritten
  split at hwritten
  · rename_i t hexec
    have hqueue : (listedTwice.pc (pcNo 0 0)).queue = [] := by decide +kernel
    have hplain : (t.dramAt 0).plain = 9 := Option.some.inj hwritten
    have hsame := h 0 0 0 listedTwice t hexec 0 (fun e he => by simp [hqueue] at he)
    rw [hsame] at hplain
    exact absurd hplain (by decide +kernel)
  · cases hwritten

end Sys2Proof.Laws

/-! The cycle of a controller whose queue holds one write and whose intervals are met (R132, R138 to R140). -/

namespace Sys2Proof.Laws

-- theorems one after another: many at once would ask for too many threads
set_option Elab.async false

open Sys2Proof.Machine Sys2Proof.Safety

variable {s t : State} {v : Look} {e : QEntry} {x y : PcState}

/-! ### A controller with one entry -/

/-- The queue holds one entry, and there is no recent command, no sheet, no recovery and no self-refresh. -/
structure Quiet (e : QEntry) (x : PcState) : Prop where
  queue : x.queue = [e]
  acts : x.acts = []
  cols : x.cols = []
  bursts : x.bursts = []
  log : x.log = []
  sheet : x.sheet = {}
  sheetNext : x.sheetNext = none
  late : x.late = []
  recovery : x.recovery = none
  sr : x.sr = .awake

theorem quiet_of_eq (h : x = { x with queue := [e], acts := [], cols := [], bursts := [], log := [], sheet := {}, sheetNext := none,
                                      late := [], recovery := none, sr := .awake }) : Quiet e x :=
  ⟨congrArg PcState.queue h, congrArg PcState.acts h, congrArg PcState.cols h, congrArg PcState.bursts h, congrArg PcState.log h,
    congrArg PcState.sheet h, congrArg PcState.sheetNext h, congrArg PcState.late h, congrArg PcState.recovery h,
    congrArg PcState.sr h⟩

/-- Two pseudo-channels that the controller of one entry sees alike: what differs is bookkeeping. -/
structure Alike (e : QEntry) (x y : PcState) : Prop where
  quiet : Quiet e y
  banks : y.banks = x.banks
  triggers : y.triggers = x.triggers

theorem Quiet.alike (h : Quiet e x) : Alike e x x := ⟨h, rfl, rfl⟩

theorem Alike.bank (h : Alike e x y) (b : Nat) : y.bank b = x.bank b := by
  unfold PcState.bank
  rw [h.banks]

/-- Drop what no interval can see, count a slot: the controller of one waiting entry is alike (R133, R483). -/
theorem Quiet.opened (h : Quiet e x) (hw : e.stage = .waiting) (j : List (Nat × Nat)) :
    Alike e x { retired v (x.trim v.c) with judged := j } := by
  have htrim : ∀ q ∈ (x.trim v.c).queue, q.stage = .waiting := fun q hq => by
    rw [show (x.trim v.c).queue = [e] from h.queue] at hq
    rw [List.mem_singleton.mp hq, hw]
  rw [retired_of_waiting htrim]
  refine ⟨⟨h.queue, ?_, ?_, ?_, h.log, h.sheet, h.sheetNext, h.late, h.recovery, h.sr⟩, rfl, rfl⟩
  · simp [PcState.trim, h.acts]
  · simp [PcState.trim, h.cols]
  · simp [PcState.trim, h.bursts]

theorem Alike.late (h : Alike e x y) : Alike e x { y with late := [] } :=
  ⟨⟨h.quiet.queue, h.quiet.acts, h.quiet.cols, h.quiet.bursts, h.quiet.log, h.quiet.sheet, h.quiet.sheetNext, rfl, h.quiet.recovery,
    h.quiet.sr⟩, h.banks, h.triggers⟩

theorem Alike.drain (h : Alike e x y) (d : Bool) (n : Nat) : Alike e x { y with draining := d, drained := n } :=
  ⟨⟨h.quiet.queue, h.quiet.acts, h.quiet.cols, h.quiet.bursts, h.quiet.log, h.quiet.sheet, h.quiet.sheetNext, h.quiet.late,
    h.quiet.recovery, h.quiet.sr⟩, h.banks, h.triggers⟩

/-! ### What a quiet controller sees -/

theorem active_of_queue (h : x.queue = [e]) : x.active = [e] := by simp [PcState.active, h]

theorem Quiet.due (h : Quiet e x) (k : Nat) : x.due k = [] := by simp [PcState.due, h.late, h.sheet]

theorem Quiet.coming (h : Quiet e x) (frame k : Nat) : x.coming frame k = [] := by
  simp [PcState.coming, h.late, h.sheet, h.sheetNext]

theorem Quiet.cutAhead (h : Quiet e x) (frame c : Nat) : x.cutAhead frame c = none := by
  simp [PcState.cutAhead, h.sheet, h.sheetNext]

theorem Quiet.refreshSoon (h : Quiet e x) (v : Look) (b : Nat) : x.refreshSoon v b = false := by
  simp [PcState.refreshSoon, h.due, h.coming]

theorem Quiet.actKeepsBand (h : Quiet e x) (v : Look) (b : Nat) : x.actKeepsBand v b = true := by
  simp [PcState.actKeepsBand, h.coming]

theorem Quiet.not_rowSpent (h : Quiet e x) (c : Nat) : x.rowSpent c = false := by simp [PcState.rowSpent, h.log]

theorem Quiet.not_inCut (h : Quiet e x) (k : Nat) : x.sheet.inCut k = false := by simp [Sheet.inCut, h.sheet]

theorem Alike.actReady (hx : Quiet e x) (h : Alike e x y) (t : Timing) (c b : Nat) : y.actReady t c b = x.actReady t c b := by
  unfold PcState.actReady
  rw [h.bank, h.quiet.acts, hx.acts]

theorem Alike.colFits (hx : Quiet e x) (h : Alike e x y) (t : Timing) (frame c b : Nat) (read : Bool) :
    y.colFits t frame c b read = x.colFits t frame c b read := by
  unfold PcState.colFits PcState.slotReserved PcState.sheetAt
  rw [h.bank, h.quiet.cutAhead, hx.cutAhead, h.quiet.coming, hx.coming, h.quiet.cols, hx.cols, h.quiet.bursts, hx.bursts,
    h.quiet.sheet, hx.sheet, h.quiet.sheetNext, hx.sheetNext]

/-! ### The row command -/

theorem needsBank_of_waiting (h : e.stage = .waiting) : e.needsBank = true := by simp [QEntry.needsBank, h]

/-- An entry that is alone bars itself from nothing (R139). -/
theorem not_barred_alone (h : x.queue = [e]) (v : Look) : x.barred v e = false := by
  simp [PcState.barred, passesOver, active_of_queue h]

/-- No bank that may be closed stands in the way of the one entry: its own has the row that it needs, or none (R139, R140). -/
theorem no_conflict (hq : (s.pc v.p).queue = [e]) (hw : e.stage = .waiting) {b : Nat}
    (hrow : ((s.pc v.p).bank e.bank).openRow = none ∨ ((s.pc v.p).bank e.bank).openRow = some e.row)
    (hb : ((s.pc v.p).bank b).preReady v.t v.c = true) : s.conflict v b = false := by
  have hopen : ((s.pc v.p).bank b).openRow ≠ none := fun h => by simp [Bank.preReady, h] at hb
  unfold State.conflict
  by_cases hbank : e.bank = b
  · subst hbank
    obtain h | h := hrow
    · exact absurd h hopen
    · simp [active_of_queue hq, needsBank_of_waiting hw, leastBy, h, not_barred_alone hq]
  · simp [active_of_queue hq, hbank, leastBy]

theorem closed_of_actReady {t : Timing} {c b : Nat} (h : x.actReady t c b = true) : (x.bank b).openRow = none := by
  unfold PcState.actReady at h
  simp only [Bool.and_eq_true, Option.isNone_iff_eq_none] at h
  obtain ⟨⟨⟨⟨hnone, -⟩, -⟩, -⟩, -⟩ := h
  exact hnone

/-- The row command of a quiet controller: an ACT for its entry if the bank is closed and may be activated, else none (R140). -/
theorem rowRest_quiet (hx : Quiet e (s.pc v.p)) (hw : e.stage = .waiting)
    (hrow : ((s.pc v.p).bank e.bank).openRow = none ∨ ((s.pc v.p).bank e.bank).openRow = some e.row) :
    s.rowRest v = if (s.pc v.p).actReady v.t v.c e.bank then
      if 64 ≤ (s.pc v.p).triggers.length then s.stBump v.st 0x2007 6 v.pcn 1 else s.issueAct v e
    else s := by
  have hclose : ((s.pc v.p).openBanks.filter fun b => ((s.pc v.p).bank b).preReady v.t v.c).filter (fun b => s.conflict v b) = [] :=
    List.filter_eq_nil_iff.mpr fun b hb => by
      rw [no_conflict hx.queue hw hrow (List.mem_filter.mp hb).2]
      exact Bool.false_ne_true
  unfold State.rowRest
  simp only [hx.cutAhead, hx.refreshSoon, hclose, active_of_queue hx.queue, hx.actKeepsBand]
  cases hready : (s.pc v.p).actReady v.t v.c e.bank with
  | true => simp [withEarlier, blockedBy, needsBank_of_waiting hw, closed_of_actReady hready, hready, firstBy]
  | false => simp [withEarlier, hready, firstBy]

/-- No refresh is due for a quiet controller, and its row command is unspent (R140). -/
theorem rowStep_quiet (hx : Quiet e (s.pc v.p)) : s.rowStep v = (s.modPc v.p fun x => { x with late := [] }).rowRest v := by
  unfold State.rowStep
  simp only [hx.due, hx.not_rowSpent, List.find?_nil, Bool.false_eq_true, if_false]

/-! ### The column command -/

theorem readsNext_of_write (hk : e.kind = .write) : e.readsNext = false := by simp [QEntry.readsNext, hk]

/-- Right after its ACT a bank takes no column command (R135). -/
theorem colFits_of_just_opened {b : Nat} (h : (x.bank b).actAt = some v.c) (hrcd : 0 < v.t.rcd) (read : Bool) :
    x.colFits v.t v.frame v.c b read = false := by
  have hearly : decide (v.c + v.t.rcd ≤ v.c) = false := decide_eq_false (by omega)
  unfold PcState.colFits
  simp only [h, hearly, Bool.false_and]

theorem colEligible_of_just_opened (hq : (s.pc v.p).queue = [e]) (h : ((s.pc v.p).bank e.bank).actAt = some v.c)
    (hrcd : 0 < v.t.rcd) : s.colEligible v = [] :=
  List.eq_nil_iff_forall_not_mem.mpr fun q hmem => by
    have hqe : q = e := List.mem_singleton.mp (hq ▸ mem_queue_of_colEligible hmem)
    subst hqe
    have hfits := (List.mem_filter.mp hmem).2
    rw [colFits_of_just_opened h hrcd] at hfits
    exact Bool.false_ne_true hfits

/-- The one entry of a quiet controller, its row open and every interval met, has its column command (R138). -/
theorem colEligible_of_open (hq : (s.pc v.p).queue = [e]) (hw : e.stage = .waiting)
    (hopen : ((s.pc v.p).bank e.bank).openRow = some e.row)
    (hfits : (s.pc v.p).colFits v.t v.frame v.c e.bank e.readsNext = true) : s.colEligible v = [e] := by
  have hready : s.colReady v = [e] := by
    unfold State.colReady
    simp [active_of_queue hq, withEarlier, blockedBy, QEntry.wantsCol, hw, hopen, not_barred_alone hq]
  unfold State.colEligible
  rw [hready]
  simp [hfits]

theorem drainStep_queue (hc : Canonical s) : ((s.drainStep v).pc v.p).queue = (s.pc v.p).queue := by
  obtain ⟨d, n, h⟩ := drainStep_pc (v := v) hc
  rw [h]

theorem drainStep_bank (hc : Canonical s) (b : Nat) : ((s.drainStep v).pc v.p).bank b = (s.pc v.p).bank b := by
  obtain ⟨d, n, h⟩ := drainStep_pc (v := v) hc
  rw [h]
  rfl

/-- A cycle with no column command is its write drain's (R139, R143). -/
theorem colStep_of_none (h : (s.drainStep v).colEligible v = []) : s.colStep v = s.drainStep v := by
  unfold State.colStep
  simp only [h, firstBy]

theorem colStep_of_one (h : (s.drainStep v).colEligible v = [e]) : s.colStep v = (s.drainStep v).issueCol v e := by
  unfold State.colStep
  simp only [h, firstBy]

theorem seal_congr (h : t.regions = s.regions) (region home : Nat) (plain : Sector) (poison : Bool) :
    t.seal region home plain poison = s.seal region home plain poison := by
  unfold State.seal
  rw [slot_congr h]

theorem Canonical.dram_wf (h : Canonical s) : Memory.wf s.dram = true := by
  obtain ⟨hd, -⟩ := h
  exact hd

/-- The column command of a write stores its sector, sealed under its region's key and home place (R132, R405). -/
theorem issueCol_write (hc : Canonical s) (hk : e.kind = .write) :
    (s.issueCol v e).dramAt e.place = s.seal e.region e.tweak e.data e.poison := by
  have hissued := colIssued_only s v e
  rw [issueCol_eq, readsNext_of_write hk, if_neg Bool.false_ne_true,
    dramAt_dramPut _ _ _ (Canonical.dram_wf (hissued.canon hc)), ← seal_congr hissued.regions_eq]
  unfold State.effect
  simp only [hk]

/-- The one entry of a queue is writing since its column command (R133). -/
theorem issueCol_write_queue (hc : Canonical s) (hk : e.kind = .write) (hq : (s.pc v.p).queue = [e]) :
    ((s.issueCol v e).pc v.p).queue = [{ e with stage := .writing v.c }] := by
  have hissued := colIssued_queue (v := v) (e := e) hc
  rw [issueCol_eq, readsNext_of_write hk, if_neg Bool.false_ne_true]
  refine hissued.trans ?_
  rw [hq]
  simp [readsNext_of_write hk]

/-! ### The cycle -/

/-- The state of a quiet controller as its commands are chosen (R139, R140). -/
def cycleReady (s : State) (v : Look) : State := (pcCycleOpened s v).modPc v.p fun x => { x with late := [] }

theorem cycleReady_only (s : State) (v : Look) : Only 528392 s (cycleReady s v) :=
  modPc_only (pcCycleOpened_only s v) _ _

theorem cycleReady_alike (hc : Canonical s) (hx : Quiet e (s.pc v.p)) (hw : e.stage = .waiting) :
    Alike e (s.pc v.p) ((pcCycleOpened s v).pc v.p) ∧ Alike e (s.pc v.p) ((cycleReady s v).pc v.p) := by
  obtain ⟨j, hj⟩ := pcCycleOpened_pc (v := v) hc
  have hopened : Alike e (s.pc v.p) ((pcCycleOpened s v).pc v.p) := hj ▸ hx.opened hw j
  refine ⟨hopened, ?_⟩
  unfold cycleReady
  rw [pc_modPc ((pcCycleOpened_only s v).canon hc)]
  exact hopened.late

/-- A quiet controller that runs takes its row and its column command (R139, R140). -/
theorem execPcControllerCycle_quiet {stack : Fin 32} {pc : Fin 64} {k : Fin 1000} (hc : Canonical s)
    (hruns : s.pcRuns stack.val pc.val = true) (hv : v = s.look stack.val pc.val k.val) (hx : Quiet e (s.pc v.p))
    (hw : e.stage = .waiting) :
    execPcControllerCycle stack pc k s = .next ((((cycleReady s v).rowRest v).colStep v).chargeCycle v) := by
  obtain ⟨⟨hopened, -, -⟩, -⟩ := cycleReady_alike hc hx hw
  rw [execPcControllerCycle_runs hruns hv]
  have hwoken : pcWoken (pcCycleOpened s v) v = pcCycleOpened s v := by
    unfold pcWoken
    simp only [hopened.sr]
  rw [hwoken]
  unfold pcCommands
  split
  · rename_i r hr
    exact absurd (hr.symm.trans hopened.recovery) (Option.some_ne_none r)
  · rw [if_neg (by simp [hopened.sr, hopened.not_inCut]), rowStep_quiet hopened, cycleReady]

/-- With the bank closed and every interval met the commands are an ACT for the entry, and a write drain that may start (R135,
R140). -/
theorem commands_of_closed (hc : Canonical s) (hx : Quiet e (s.pc v.p)) (hw : e.stage = .waiting)
    (hready : (s.pc v.p).actReady v.t v.c e.bank = true) (hrcd : 0 < v.t.rcd) (htrig : (s.pc v.p).triggers.length < 64) :
    ((cycleReady s v).rowRest v).colStep v = ((cycleReady s v).issueAct v e).drainStep v := by
  obtain ⟨-, hlike⟩ := cycleReady_alike hc hx hw
  have hcu := (cycleReady_only s v).canon hc
  have hclosed : ((cycleReady s v).pc v.p).actReady v.t v.c e.bank = true := by rw [hlike.actReady hx, hready]
  have hfew : ¬ 64 ≤ ((cycleReady s v).pc v.p).triggers.length := by
    rw [hlike.triggers]
    omega
  rw [rowRest_quiet hlike.quiet hw (.inl (closed_of_actReady hclosed)), if_pos hclosed, if_neg hfew]
  obtain ⟨hqueue, -, hact⟩ := issueAct_pc (v := v) (e := e) hcu
  have hissued : Only 528392 (cycleReady s v) ((cycleReady s v).issueAct v e) := issueAct_only (.refl _) _ _
  have hcd := hissued.canon hcu
  exact colStep_of_none (colEligible_of_just_opened ((drainStep_queue hcd).trans (hqueue.trans hlike.quiet.queue))
    ((congrArg Bank.actAt (drainStep_bank hcd e.bank)).trans hact) hrcd)

/-- With the row open and the column command allowed the commands are the entry's column command, after a write drain that may
start (R138, R139). -/
theorem commands_of_open (hc : Canonical s) (hx : Quiet e (s.pc v.p)) (hw : e.stage = .waiting)
    (hopen : ((s.pc v.p).bank e.bank).openRow = some e.row)
    (hfits : (s.pc v.p).colFits v.t v.frame v.c e.bank e.readsNext = true) :
    ((cycleReady s v).rowRest v).colStep v = ((cycleReady s v).drainStep v).issueCol v e := by
  obtain ⟨-, hlike⟩ := cycleReady_alike hc hx hw
  have hrow : ((cycleReady s v).pc v.p |>.bank e.bank).openRow = some e.row := by rw [hlike.bank, hopen]
  have hnot : ¬ ((cycleReady s v).pc v.p).actReady v.t v.c e.bank = true := fun h =>
    Option.some_ne_none e.row (hrow.symm.trans (closed_of_actReady h))
  rw [rowRest_quiet hlike.quiet hw (.inr hrow), if_neg hnot]
  obtain ⟨d, n, hd⟩ := drainStep_pc (v := v) ((cycleReady_only s v).canon hc)
  have hdrained : Alike e (s.pc v.p) (((cycleReady s v).drainStep v).pc v.p) := hd ▸ hlike.drain d n
  refine colStep_of_one (colEligible_of_open hdrained.quiet.queue hw ?_ ?_)
  · rw [hdrained.bank, hopen]
  · rw [hdrained.colFits hx, hfits]

/-- Settles O23: the cycle is `commands_of_closed` with the bank closed, and `commands_of_open` with the row open. -/
theorem controllerActivatesThenWrites : Obligations.ControllerActivatesThenWrites := by
  rintro stack pc k s e x hc rfl hruns hx hk hw v
  have hquiet : Quiet e (s.pc v.p) := quiet_of_eq hx
  have hexec := execPcControllerCycle_quiet hc hruns rfl hquiet hw
  have hcu := (cycleReady_only s v).canon hc
  refine ⟨fun _ hready hrcd htrig => ?_, fun hopen hfits => ?_⟩
  · rw [commands_of_closed hc hquiet hw hready hrcd htrig] at hexec
    obtain ⟨-, hopened, -⟩ := issueAct_pc (v := v) (e := e) hcu
    have hissued : Only 528392 s ((cycleReady s v).issueAct v e) := issueAct_only (cycleReady_only s v) _ _
    have hcharge : Only 528392 s ((((cycleReady s v).issueAct v e).drainStep v).chargeCycle v) :=
      chargeCycle_only (drainStep_only hissued _) _
    refine ⟨_, hexec, ?_, hcharge.dram_eq⟩
    rw [pc_congr (chargeCycle_only (m := 524288) (.refl _) _).pcs_eq]
    exact (congrArg Bank.openRow (drainStep_bank (hissued.canon hc) e.bank)).trans hopened
  · rw [commands_of_open hc hquiet hw hopen (by rwa [readsNext_of_write hk])] at hexec
    have hdrain : Only 528392 s ((cycleReady s v).drainStep v) := drainStep_only (cycleReady_only s v) _
    obtain ⟨-, hlike⟩ := cycleReady_alike hc hquiet hw
    have hcharge (u : State) : Only 524288 u (u.chargeCycle v) := chargeCycle_only (.refl u) v
    refine ⟨_, hexec, ?_, fun place hne => ?_, ?_⟩
    · rw [dramAt_congr (hcharge _).dram_eq, issueCol_write (hdrain.canon hc) hk, seal_congr hdrain.regions_eq]
    · rw [dramAt_congr (hcharge _).dram_eq, issueCol_dramAt_ne hne, dramAt_congr hdrain.dram_eq]
    · rw [pc_congr (hcharge _).pcs_eq]
      exact issueCol_write_queue (hdrain.canon hc) hk ((drainStep_queue hcu).trans hlike.quiet.queue)

end Sys2Proof.Laws

/-! Low power: refresh windows and self-refresh of a pseudo-channel (R159, R163, R167, R169). -/

namespace Sys2Proof.Laws

-- theorems one after another: many at once would ask for too many threads
set_option Elab.async false

open Sys2Proof.Machine Sys2Proof.Safety

variable {s : State}

/-! ### Every pseudo-channel of a list changed -/

theorem pcNo_injective (st : Nat) : Function.Injective (pcNo st) := fun _ _ h => Nat.add_left_cancel h

/-- Each pseudo-channel of a list without repetitions has been changed once. -/
theorem pc_each_modPc {st pc : Nat} {f : PcState → PcState} {l : List Nat} (hl : l.Nodup) (hc : Canonical s) (hpc : pc ∈ l) :
    (s.each l fun s pc => s.modPc (pcNo st pc) f).pc (pcNo st pc) = f (s.pc (pcNo st pc)) := by
  induction l generalizing s with
  | nil => exact absurd hpc List.not_mem_nil
  | cons x l ih =>
    obtain ⟨hx, hl⟩ := List.nodup_cons.mp hl
    rw [each_cons]
    obtain rfl | hpc := List.mem_cons.mp hpc
    · have hkept : ((s.modPc (pcNo st pc) f).each l fun s pc => s.modPc (pcNo st pc) f).pc (pcNo st pc) =
          (s.modPc (pcNo st pc) f).pc (pcNo st pc) :=
        each_keeps (fun t => t.pc (pcNo st pc)) fun t y hy => pc_modPc_ne ((pcNo_injective st).ne (ne_of_mem_of_not_mem hy hx).symm) f
      rw [hkept, pc_modPc hc]
    · rw [ih hl ((modPc_only (m := 4096) (.refl s) _ f).canon hc) hpc, pc_modPc_ne ((pcNo_injective st).ne (ne_of_mem_of_not_mem hpc hx))]

/-- What holds of the default and of every value listed holds of every value read. -/
theorem look_induct {V : Type} {P : V → Prop} {d : V} {k : Nat} (hd : P d) : ∀ {m : Map V}, (∀ x ∈ m, P x.2) → P (Map.look d k m)
  | [], _ => hd
  | (a, v) :: m, h => by
    unfold Map.look
    split
    · exact h _ (List.mem_cons_self ..)
    · exact look_induct hd fun x hx => h x (List.mem_cons_of_mem _ hx)

/-! ### REFRESH_WINDOW_START -/

/-- A bank with an empty activate table (R163). -/
def tableCleared (k : Bank) : Bank := { k with table := [], spill := 0 }

/-- A pseudo-channel at the start of a refresh window (R163). -/
def tablesCleared (x : PcState) : PcState :=
  { x with banks := (x.banks.map fun (b : Nat × Bank) => (b.1, tableCleared b.2)).filter fun b => b.2 != ({} : Bank) }

theorem tablesCleared_bank (x : PcState) (b : Nat) : ((tablesCleared x).bank b).table = [] ∧ ((tablesCleared x).bank b).spill = 0 := by
  refine look_induct (P := fun k : Bank => k.table = [] ∧ k.spill = 0) ⟨rfl, rfl⟩ fun y hy => ?_
  obtain ⟨z, -, rfl⟩ := List.mem_map.mp (List.mem_filter.mp hy).1
  exact ⟨rfl, rfl⟩

/-- The state in which every pseudo-channel of a stack starts its refresh window (R163). -/
def tablesEmptied (s : State) (st : Nat) : State := s.each (upTo 64) fun s pc => s.modPc (pcNo st pc) tablesCleared

theorem execRefreshWindowStart_due {stack : Fin 32} (h : s.time.frame % s.windowFrames stack.val = 0) :
    execRefreshWindowStart stack s =
      .next ((tablesEmptied s stack.val).modStack stack.val fun k => { k with nbLimit := s.stLive stack.val 0x2007 1 0 }) :=
  if_neg (not_not_intro h)

theorem execRefreshWindowStart_early {stack : Fin 32} (h : s.time.frame % s.windowFrames stack.val ≠ 0) :
    execRefreshWindowStart stack s = .next s := if_pos h

/-- Settles O26: at a multiple of the window every pseudo-channel is `tablesCleared`. -/
theorem refreshWindowClearsActivateTables : Obligations.RefreshWindowClearsActivateTables := by
  refine fun stack s hc => ⟨fun hdue => ?_, execRefreshWindowStart_early⟩
  have hcleared : Only 4096 s (tablesEmptied s stack.val) := each_only (fun _ _ h => modPc_only h _ _) _ (.refl s)
  refine ⟨_, execRefreshWindowStart_due hdue, congrArg StackState.nbLimit (stack_modStack (hcleared.canon hc) _ _), fun pc hpc => ?_⟩
  have heq : (tablesEmptied s stack.val).pc (pcNo stack.val pc) = tablesCleared (s.pc (pcNo stack.val pc)) :=
    pc_each_modPc List.nodup_range hc (List.mem_range.mpr hpc)
  rw [pc_congr (State.modStack_pcs ..), heq]
  exact ⟨tablesCleared_bank _, rfl⟩

/-! ### Self-refresh of a pseudo-channel -/

/-- A pseudo-channel that has been issued a command of self-refresh (R150, R167). -/
def srIssued (c : Nat) (kind : CmdKind) (sr : SrPhase) (x : PcState) : PcState :=
  ({ x with sr } : PcState).logCmd { cyc := c, kind }

theorem srCommand_pc (hc : Canonical s) (st pc c : Nat) (kind : CmdKind) (sr : SrPhase) :
    (s.srCommand st pc c kind sr).pc (pcNo st pc) = srIssued c kind sr (s.pc (pcNo st pc)) := by
  unfold State.srCommand State.charge
  rw [pc_congr (State.modTest_pcs ..), pc_modPc hc]
  rfl

/-- The moving of the row counters changes the banks of its pseudo-channel alone (R157). -/
theorem rowsMoved_pc (hc : Canonical s) (p : Nat) :
    { (s.rowsMoved p).pc p with banks := [] } = { s.pc p with banks := [] } := by
  suffices h : Canonical (s.rowsMoved p) ∧ { (s.rowsMoved p).pc p with banks := [] } = { s.pc p with banks := [] } from h.2
  refine each_induct (P := fun t => Canonical t ∧ { t.pc p with banks := [] } = { s.pc p with banks := [] }) ⟨hc, rfl⟩ ?_
  rintro t b - ⟨ht, heq⟩
  have hfree : Canonical t.takeFree.2 := (takeFree_only (m := 2097152) (.refl t)).canon ht
  refine ⟨(modPc_only (m := 4096) (.refl _) _ _).canon hfree, ?_⟩
  rw [pc_modPc hfree, ← heq]
  rfl

section Phases

variable {stack : Fin 32} {pc : Fin 64} {k : Fin 1000} (hruns : s.pcRuns stack.val pc.val = true)
  (hrec : (s.pc (pcNo stack.val pc.val)).recovery = none)

include hruns hrec

theorem execSelfRefreshEntry_prepares (hsr : (s.pc (pcNo stack.val pc.val)).sr = .awake)
    (hmay : s.mayEnter stack.val pc.val k.val = true) : execSelfRefreshEntry stack pc k s =
      .next (s.modPc (pcNo stack.val pc.val) fun x => { x with sr := .preparing (s.cycle k.val) }) := by
  simp [execSelfRefreshEntry, hruns, hrec, hsr, hmay]

theorem execSelfRefreshEntry_commits {c : Nat} (hsr : (s.pc (pcNo stack.val pc.val)).sr = .preparing c)
    (h : c + 20 ≤ s.cycle k.val) : execSelfRefreshEntry stack pc k s =
      .next (s.srCommand stack.val pc.val (s.cycle k.val) .refab (.committed (s.cycle k.val))) := by
  simp [execSelfRefreshEntry, hruns, hrec, hsr, h]

theorem execSelfRefreshEntry_sleeps {c : Nat} (hsr : (s.pc (pcNo stack.val pc.val)).sr = .committed c)
    (h : c + (s.timing stack.val pc.val).rfcab ≤ s.cycle k.val) : execSelfRefreshEntry stack pc k s =
      .next ((s.srCommand stack.val pc.val (s.cycle k.val) .sre (.asleep c)).stBump stack.val 0x2008 3 pc.val 1) := by
  simp [execSelfRefreshEntry, hruns, hrec, hsr, h]

theorem execSelfRefreshExit_exits (hc : Canonical s) {c : Nat} (hsr : (s.pc (pcNo stack.val pc.val)).sr = .asleep c)
    (hqueue : (s.pc (pcNo stack.val pc.val)).queue ≠ [])
    (h : c + (s.timing stack.val pc.val).rfcab + (s.timing stack.val pc.val).sr ≤ s.cycle k.val) :
    ∃ t, execSelfRefreshExit stack pc k s = .next t ∧ { t.pc (pcNo stack.val pc.val) with banks := [] } =
      srIssued (s.cycle k.val) .srx (.exiting (s.cycle k.val + (s.timing stack.val pc.val).xs))
        { s.pc (pcNo stack.val pc.val) with banks := [] } := by
  refine ⟨(s.srCommand stack.val pc.val (s.cycle k.val) .srx
    (.exiting (s.cycle k.val + (s.timing stack.val pc.val).xs))).rowsMoved (pcNo stack.val pc.val), ?_, ?_⟩
  · simp [execSelfRefreshExit, hruns, hrec, hsr, hqueue, h]
  · rw [rowsMoved_pc ((srCommand_only (m := 528384) (.refl s) _ _ _ _ _).canon hc), srCommand_pc hc]
    rfl

theorem execSelfRefreshExit_wakes {c : Nat} (hsr : (s.pc (pcNo stack.val pc.val)).sr = .exiting c) (h : c ≤ s.cycle k.val) :
    execSelfRefreshExit stack pc k s = .next (s.modPc (pcNo stack.val pc.val) fun x => x.wakes (s.cycle k.val)) := by
  simp [execSelfRefreshExit, hruns, hrec, hsr, h]

end Phases

/-- Settles O27: each phase names the state that its command answers. -/
theorem selfRefreshGoesThroughItsPhases : Obligations.SelfRefreshGoesThroughItsPhases := by
  rintro stack pc k s x hc rfl hruns hrec
  have hissued := srCommand_pc hc stack.val pc.val (s.cycle k.val)
  refine ⟨fun hsr hmay => ?_, fun c hsr h => ?_, fun c hsr h => ?_, fun c hsr hqueue h => ?_, fun c hsr h => ?_⟩
  · exact ⟨_, execSelfRefreshEntry_prepares hruns hrec hsr hmay, pc_modPc hc _ _⟩
  · exact ⟨_, execSelfRefreshEntry_commits hruns hrec hsr h, hissued _ _⟩
  · have hcommand : Only 528384 s (s.srCommand stack.val pc.val (s.cycle k.val) .sre (.asleep c)) := srCommand_only (.refl s) _ _ _ _ _
    refine ⟨_, execSelfRefreshEntry_sleeps hruns hrec hsr h, hissued _ _, ?_⟩
    rw [stObj_stBump (hcommand.canon hc), stObj_congr hcommand.objs_eq]
  · obtain ⟨u, hu, hissued⟩ := execSelfRefreshExit_exits hruns hrec hc hsr hqueue h
    exact ⟨u, hu, congrArg PcState.sr hissued, hissued⟩
  · have hwakes := pc_modPc hc (pcNo stack.val pc.val) fun x => x.wakes (s.cycle k.val)
    refine ⟨_, execSelfRefreshExit_wakes hruns hrec hsr h, hwakes, ?_, ?_⟩ <;> rw [hwakes] <;> rfl

end Sys2Proof.Laws

/-! Stack self-refresh: its requests (R171 to R173). -/

namespace Sys2Proof.Laws

-- theorems one after another: many at once would ask for too many threads
set_option Elab.async false

open Sys2Proof.Machine Sys2Proof.Safety

variable {s : State}

/-- A stack is as before where another has been changed. -/
theorem stack_modStack_ne {st q : Nat} (h : q ≠ st) (f : StackState → StackState) : (s.modStack st f).stack q = s.stack q :=
  Map.look_upd_ne h f s.stackTab

/-! ### The writes of 0x2008.06 -/

/-- Whether a reservation share, an owned cycle or a timing switch forbids a stack's self-refresh (R172). -/
def sleepForbidden (s : State) (st : Nat) : Bool :=
  s.activeRes.any (fun w => s.shareOf w st != 0) || decide (0 < s.ownedCycles st) || (s.stack st).switch.isSome

theorem sleepForbidden_iff {st : Nat} : sleepForbidden s st = true ↔
    (s.activeRes.any fun w => s.shareOf w st != 0) = true ∨ 0 < s.ownedCycles st ∨ (s.stack st).switch ≠ none := by
  rw [sleepForbidden, Bool.or_eq_true, Bool.or_eq_true, decide_eq_true_eq, Option.isSome_iff_ne_none, or_assoc]

/-- The state in which 0x2008.06 of a stack has been written, its stack changed and its asker kept (R171, R173). -/
def sleepWritten (s : State) (st v : Nat) (f : StackState → StackState) (asker : Nat) : State :=
  ((s.stSet st 0x2008 6 0 v).modStack st f).asks (askKey 10 2 st) asker

/-- What a write of 0x2008.06 that is answered with 0 leaves. -/
theorem sleepWritten_answered (hc : Canonical s) (rq : Rq) (n st v : Nat) (f : StackState → StackState) (asker : Nat) {t : State}
    (ht : t = (sleepWritten (noted s n) st v f asker).answer rq 2 0 []) :
    t.stack st = f (s.stack st) ∧ (∀ q, q ≠ st → t.stack q = s.stack q) ∧ t.stObj st 0x2008 6 0 = v ∧
      Answers rq 2 0 [] s t ∧ Changes [.objs, .stackTab, .mgmt, .outbox] s t := by
  subst ht
  have hanswer := answer_only (m := 4194308) (.refl (sleepWritten (noted s n) st v f asker)) rq 2 0 []
  have hstack := stack_congr (s := s.modStack st f) hanswer.stackTab_eq
  have hall : Only 4196364 s ((sleepWritten (noted s n) st v f asker).answer rq 2 0 []) :=
    answer_only (asks_only (modStack_only (stSet_only (modSession_only (.refl s) n _) _ _ _ _ _) _ _) _ _) _ _ _ _
  refine ⟨(hstack st).trans (stack_modStack hc st f), fun q hq => (hstack q).trans (stack_modStack_ne hq f), ?_,
    Silent.answers ⟨rfl, rfl, rfl⟩ _ _ _ _, Only.changes (hall.mono (by decide))⟩
  exact (stObj_congr (s := s.stSet st 0x2008 6 0 v) hanswer.objs_eq _ _ _ _).trans (obj_setObj (Canonical.objs_rising hc) _ _ _ _)

/-- A stack whose self-refresh is asked for (R171). -/
def sleepAsked (k : StackState) : StackState := { k with srRequest := true }

/-- A stack whose wake is asked for (R173). -/
def wakeAsked (k : StackState) : StackState :=
  { k with srRequest := false, byGaffer := false, wakeReq := k.power == .gated || k.wakeReq }

/-- The check of R172, as a direct write makes it. -/
def sleepCheck (st : Nat) (s : State) (_ : Nat) : Nat := refuseIf (sleepForbidden s st) abObjState

theorem execStackSelfRefreshEnter_eq (rq : Rq) (stack : Fin 32) (s : State) : execStackSelfRefreshEnter rq stack s =
    .next (s.directWrite rq (stackIx 0x2008 stack.val) 6 0 roleO passes
      (sleepCheck stack.val) passes (fun s n => sleepWritten s stack.val 1 sleepAsked n)) := rfl

theorem execStackWakeRequest_eq (rq : Rq) (stack : Fin 32) (s : State) : execStackWakeRequest rq stack s =
    .next (s.directWrite rq (stackIx 0x2008 stack.val) 6 0 roleO passes passes passes (fun s n =>
      sleepWritten s stack.val 0 wakeAsked (if (s.stack stack.val).power == .gated then n else 255))) := rfl

section Heard

variable {rq : Rq} {n : Fin 4} (h : Heard s rq n roleO)

include h

theorem execStackSelfRefreshEnter_accepts {stack : Fin 32} (hfree : sleepForbidden s stack.val = false) :
    execStackSelfRefreshEnter rq stack s =
      .next ((sleepWritten (noted s n.val) stack.val 1 sleepAsked n.val).answer rq 2 0 []) := by
  have hcode : sleepCheck stack.val (noted s n.val) n.val = 0 := refuseIf_of_not hfree
  rw [execStackSelfRefreshEnter_eq, directWrite_accepts (state := sleepCheck stack.val) h rfl hcode rfl]

theorem execStackSelfRefreshEnter_refuses {stack : Fin 32} (hheld : sleepForbidden s stack.val = true) :
    execStackSelfRefreshEnter rq stack s = .next ((noted s n.val).refuse rq 2 abObjState (stackIx 0x2008 stack.val) 6 0) := by
  have hcode : sleepCheck stack.val (noted s n.val) n.val = abObjState := refuseIf_of hheld
  rw [execStackSelfRefreshEnter_eq, directWrite_wrong_state (state := sleepCheck stack.val) h rfl (hcode.trans_ne (by decide)), hcode]

theorem execStackWakeRequest_accepts (stack : Fin 32) : execStackWakeRequest rq stack s =
    .next ((sleepWritten (noted s n.val) stack.val 0 wakeAsked
      (if ((noted s n.val).stack stack.val).power == .gated then n.val else 255)).answer rq 2 0 []) := by
  rw [execStackWakeRequest_eq, directWrite_accepts h rfl rfl rfl]

end Heard

/-! ### The idle threshold -/

/-- Whether the idle threshold 0x2008.07 has been met by a stack in service all of which sleeps (R171). -/
def IdleDue (s : State) (st : Nat) : Prop :=
  0 < s.stLive st 0x2008 7 0 ∧ s.stLive st 0x2008 7 0 ≤ (s.stack st).allIdle ∧ (s.stack st).power = .service ∧ s.notAsleep st = []

theorem execStackIdleExpiry_due {stack : Fin 32} (h : IdleDue s stack.val) :
    execStackIdleExpiry stack s = .next (s.modStack stack.val sleepAsked) := by
  obtain ⟨hpos, hlong, hpower, hasleep⟩ := h
  refine if_neg ?_
  simp [hpower, hasleep, hlong, hpos.ne']

theorem execStackIdleExpiry_early {stack : Fin 32} (h : ¬ IdleDue s stack.val) : execStackIdleExpiry stack s = .next s := by
  refine if_pos ?_
  by_contra hno
  refine h ?_
  simpa [IdleDue, Nat.pos_iff_ne_zero] using hno

/-- Settles O28: both writes are a `sleepWritten` that is answered, unless R172 refuses the first, and the threshold is `IdleDue`. -/
theorem stackSelfRefreshRequests : Obligations.StackSelfRefreshRequests := by
  refine ⟨fun rq n stack s hc h => ?_, fun rq n stack s hc h => ?_, fun stack s hc => ?_⟩
  · cases hf : sleepForbidden s stack.val with
    | false =>
      have hno := mt sleepForbidden_iff.mpr (Bool.eq_false_iff.mp hf)
      exact ⟨_, execStackSelfRefreshEnter_accepts h hf, fun _ _ _ => sleepWritten_answered hc rq n.val stack.val 1 _ _ rfl,
        fun hyes => absurd hyes hno⟩
    | true =>
      refine ⟨_, execStackSelfRefreshEnter_refuses h hf, fun hs ho hw => ?_, fun _ => ⟨?_, (silent_noted s n.val).refuses _ _ _ _ _ _⟩⟩
      · obtain hs' | ho' | hw' := sleepForbidden_iff.mp hf
        · exact absurd (hs.symm.trans hs') (by decide)
        · omega
        · exact absurd hw hw'
      · exact (refuse_only (m := 4194316) (.refl (noted s n.val)) _ _ _ _ _ _).stackTab_eq
  · exact ⟨_, execStackWakeRequest_accepts h stack, sleepWritten_answered hc rq n.val stack.val 0 _ _ rfl⟩
  · by_cases hdue : IdleDue s stack.val
    · exact ⟨_, execStackIdleExpiry_due hdue, fun _ => ⟨stack_modStack hc _ _, fun q hq => stack_modStack_ne hq _,
        Only.changes (modStack_only (.refl s) _ _)⟩, fun hno => absurd hdue hno⟩
    · exact ⟨_, execStackIdleExpiry_early hdue, fun hyes => absurd hyes hdue, fun _ => rfl⟩

end Sys2Proof.Laws

/-! Wakes: the confirmation of a stack whose timing set is numbered beyond the four that the lanes' settings have room for. -/

namespace Sys2Proof.Laws

-- theorems one after another: many at once would ask for too many threads
set_option Elab.async false

open Sys2Proof.Machine Sys2Proof.Safety

variable {s : State}

/-! ### A calibration leaves the other pseudo-channels alone -/

theorem replaceLane_pc_ne {p q : Nat} (h : q ≠ p) (lane : Nat) (other : Bool) : (s.replaceLane p lane other).pc q = s.pc q := by
  unfold State.replaceLane
  extract_lets clean s1
  have hclean {u : State} (hu : Only 8 s u) (res : Nat) : ((clean u).laneEvent p lane res other).pc q = s.pc q := by
    rw [pc_congr (laneEvent_only (m := 2097164) (.refl (clean u)) _ _ _ _).pcs_eq]
    exact (pc_modPc_ne h _).trans (pc_congr hu.pcs_eq q)
  split
  · exact hclean (bump_only (setLaneState_only (setLaneState_only (.refl s) _ _ _ _) _ _ _ _) _ _ _ _) 0
  · exact hclean (setLaneState_only (.refl s) _ _ _ _) 1

theorem repairLane_pc_ne {p q : Nat} (h : q ≠ p) (lane : Nat) (other : Bool) : (s.repairLane p lane other).2.pc q = s.pc q := by
  unfold State.repairLane
  split
  · exact replaceLane_pc_ne h lane other
  · exact (pc_congr (evacuatePc_only (m := 2056) (.refl _) p).pcs_eq q).trans (replaceLane_pc_ne h lane other)

theorem applyLane_pc_ne {p q : Nat} (h : q ≠ p) (set : Nat) (ref : Bool) (plan : List LanePlan) (res : List CalResult) (lane : Nat) :
    (s.applyLane p set ref plan res lane).2.2.pc q = s.pc q := by
  unfold State.applyLane
  extract_lets v r marked w d s1
  split_ifs
  · rfl
  · rfl
  · exact repairLane_pc_ne h lane false
  · exact pc_modPc_ne h _
  · exact pc_modPc_ne h _

theorem applyCal_pc_ne {p q : Nat} (h : q ≠ p) (plan : List LanePlan) (res : List CalResult) :
    (s.applyCal p plan res).pc q = s.pc q := by
  unfold State.applyCal
  extract_lets set part down up r el c c1 unfilled s1 s2
  have hr : r.2.2.pc q = s.pc q :=
    List.foldlRecOn (motive := fun (x : Bool × Bool × State) => x.2.2.pc q = s.pc q) _ _ rfl
      fun x hx lane _ => (applyLane_pc_ne h _ _ _ _ _).trans hx
  have h2 : Only 8 r.2.2 s2 := by
    unfold s2
    split
    · exact setObj_only (.refl _) _ _ _ _
    · exact bump_only (setObj_only (.refl _) _ _ _ _) _ _ _ _
  exact ((pc_modPc_ne h _).trans (pc_congr h2.pcs_eq q)).trans hr

theorem wakeCal_pc_ne {st pc q : Nat} (h : q ≠ pcNo st pc) (res : List (Fin 64 × CalResult)) :
    (s.wakeCal st pc res).pc q = s.pc q :=
  (pc_modPc_ne h _).trans (applyCal_pc_ne h _ _)

theorem wakeCal_canonical (hc : Canonical s) (st pc : Nat) (res : List (Fin 64 × CalResult)) : Canonical (s.wakeCal st pc res) :=
  (wakeCal_only (m := 2103308) (.refl s) st pc res).canon hc

/-- The results that a confirmation reports for a pseudo-channel. -/
def resultsOf (res : List (Fin 64 × CalResult)) (pc : Nat) : List CalResult := (res.filter fun x => x.1.val == pc).map (·.2)

/-- A pseudo-channel goes on training where its confirmation fails (R195). -/
theorem wakeCal_retraining (hc : Canonical s) (st pc : Nat) (res : List (Fin 64 × CalResult)) :
    ((s.wakeCal st pc res).pc (pcNo st pc)).retraining = s.wakeFails (pcNo st pc) (resultsOf res pc) := by
  unfold State.wakeCal
  rw [pc_modPc ((applyCal_only (m := 2103308) (.refl s) _ _ _).canon hc)]
  rfl

/-! ### STACK_WAKE_SERVICE -/

/-- The confirmations of all pseudo-channels of a stack, one after another (R195). -/
def wakeConfirmed (s : State) (st : Nat) (res : List (Fin 64 × CalResult)) (l : List Nat) : State :=
  s.each l fun s pc => s.wakeCal st pc res

theorem wakeConfirmed_cons (st pc : Nat) (res : List (Fin 64 × CalResult)) (l : List Nat) :
    wakeConfirmed s st res (pc :: l) = wakeConfirmed (s.wakeCal st pc res) st res l := each_cons ..

theorem wakeConfirmed_pc_of_not_mem {st pc : Nat} {l : List Nat} (h : pc ∉ l) (res : List (Fin 64 × CalResult)) :
    (wakeConfirmed s st res l).pc (pcNo st pc) = s.pc (pcNo st pc) :=
  each_keeps (fun t => t.pc (pcNo st pc)) fun _ _ hy =>
    wakeCal_pc_ne ((pcNo_injective st).ne (ne_of_mem_of_not_mem hy h).symm) res

/-- The first pseudo-channel of a list goes on training where its own confirmation fails. -/
theorem wakeConfirmed_cons_retraining (hc : Canonical s) {st pc : Nat} {l : List Nat} (h : pc ∉ l) (res : List (Fin 64 × CalResult)) :
    ((wakeConfirmed s st res (pc :: l)).pc (pcNo st pc)).retraining =
      s.wakeFails (pcNo st pc) (resultsOf res pc) := by
  rw [wakeConfirmed_cons, wakeConfirmed_pc_of_not_mem h, wakeCal_retraining hc]

/-- The second one goes on training where its confirmation fails once the first one's has been applied. -/
theorem wakeConfirmed_second_retraining (hc : Canonical s) {st first second : Nat} {l : List Nat} (h : second ∉ l)
    (res : List (Fin 64 × CalResult)) : ((wakeConfirmed s st res (first :: second :: l)).pc (pcNo st second)).retraining =
      (s.wakeCal st first res).wakeFails (pcNo st second) (resultsOf res second) := by
  rw [wakeConfirmed_cons, wakeConfirmed_cons_retraining (wakeCal_canonical hc st first res) h]

theorem exec_stackWakeService (stack : Fin 32) (identity : BitVec 256) (res : List (Fin 64 × CalResult)) (train : TrainResult) (s : State) :
    exec (.stackWakeService stack identity res train) s = execStackWakeService stack identity res train s := rfl

/-- A stack enters service, unless it leaves service at the next boundary (R173). -/
def serviceEntered (s : State) (st : Nat) : Host.Outcome State Fault Refusal :=
  if (s.stack st).loseNext then .next s
  else .next ((s.modStack st fun k => { k with power := .service, slewDirty := false }).setReady st 1)

/-- Its pseudo-channels are as before. -/
theorem serviceEntered_pcs {st : Nat} {t : State} (h : serviceEntered s st = .next t) : t.pcs = s.pcs := by
  unfold serviceEntered at h
  split at h
  · cases h
    rfl
  · cases h
    exact (setReady_only (m := 14) (.refl (s.modStack st _)) st 1).pcs_eq

/-- The end of a confirmation, with the identity codes as before (R195). -/
theorem execStackWakeService_confirms {stack : Fin 32} {identity : BitVec 256} {w : Nat} (res : List (Fin 64 × CalResult))
    (train : TrainResult) (hpower : (s.stack stack.val).power = .waking w) (hw : 3 ≤ w)
    (hid : identity.toNat = (s.stack stack.val).identity)
    (hawake : (s.notAsleep stack.val).length = (upTo 64).countP (s.pcSheets stack.val)) :
    execStackWakeService stack identity res train s = serviceEntered (wakeConfirmed s stack.val res (upTo 64)) stack.val := by
  refine (if_neg ?_).trans ((if_neg ?_).trans (congrArg (fun u => serviceEntered u stack.val) (if_neg ?_)))
  · simp [hpower, hw, hawake]
  · simp [hid]
  · simp [hpower]

/-! ### A timing set beyond the four -/

/-- The reset state with stack 0 three frames into a wake under timing set 4, and with lane 0 of its second pseudo-channel FAILED.
A lane's word stands at ((pseudo-channel x 4) + set) x 38 + lane of 0x8001.01 (R181), so that the words of the first pseudo-channel
under set 4 are those of the second under set 0. -/
def wakingBeyond : State :=
  { State.reset with
    stackTab := [(0, { power := .waking 3 })]
    objs := [(oKey (stackIx 0x2002 0) 1 0, 4), (oKey 0x8001 1 (laneEl 1 0 0), packLane 32 32 60 3 0)] }

theorem wakingBeyond_canonical : Canonical wakingBeyond := by
  unfold Canonical
  decide +kernel

theorem wakingBeyond_awake :
    (wakingBeyond.notAsleep (0 : Fin 32).val).length = (upTo 64).countP (wakingBeyond.pcSheets (0 : Fin 32).val) := by decide +kernel

/-- A confirmation that reports one lane: lane 0 of the second pseudo-channel, whose read failed. -/
def failedRead : List (Fin 64 × CalResult) := [(1, { lane := 0, readOk := false, points := 31, refDown := true, refUp := true })]

/-- A FAILED lane takes no part in a confirmation (R191), so its result fails nothing. -/
theorem wakingBeyond_passes : wakingBeyond.wakeFails (pcNo 0 1) (resultsOf failedRead 1) = false := by decide +kernel

/-- The confirmation of the first pseudo-channel makes that lane of the second IN USE, and it fails. -/
theorem wakingBeyond_fails : (wakingBeyond.wakeCal 0 0 failedRead).wakeFails (pcNo 0 1) (resultsOf failedRead 1) = true := by
  decide +kernel

/-- A training that reports nothing: a wake with no change of slew or drive has none (R173). -/
def noTraining : TrainResult := { cmdOk := true, sets := 0, badLanes := [], eyes := [] }

theorem wakingBeyond_retrains {t : State} (h : exec (.stackWakeService 0 0 failedRead noTraining) wakingBeyond = .next t) :
    (t.pc (pcNo 0 1)).retraining = true := by
  have hsplit : upTo 64 = 0 :: 1 :: (upTo 62).map (· + 2) := by decide
  rw [exec_stackWakeService, execStackWakeService_confirms (stack := 0) failedRead noTraining rfl le_rfl rfl wakingBeyond_awake] at h
  rw [pc_congr (serviceEntered_pcs h), hsplit]
  exact (wakeConfirmed_second_retraining wakingBeyond_canonical (by decide) failedRead).trans wakingBeyond_fails

/-- Refutes O29: nothing bounds the number of a timing set, and in `wakingBeyond` the confirmation of a pseudo-channel writes the
lanes' words of the next, so that a lane that was FAILED before the wake's end fails the confirmation after all. -/
theorem not_stackGatesAndWakes : ¬ Obligations.StackGatesAndWakes := by
  rintro ⟨-, -, -, hserve⟩
  obtain ⟨-, hconfirmed, -⟩ := hserve 0 0 failedRead noTraining wakingBeyond 3 wakingBeyond_canonical wakingBeyond_awake rfl
  obtain ⟨t, ht, -, -, hpcs⟩ := hconfirmed rfl rfl le_rfl
  obtain ⟨-, hpasses⟩ := hpcs 1 (by decide)
  exact absurd ((wakingBeyond_retrains ht).symm.trans (hpasses.trans wakingBeyond_passes)) (by decide)

end Sys2Proof.Laws

/-! Timing switches: their request and the end of a channel's part (R142, R175 to R177). -/

namespace Sys2Proof.Laws

-- theorems one after another: many at once would ask for too many threads
set_option Elab.async false

open Sys2Proof.Machine Sys2Proof.Safety

variable {s : State}

/-! ### TIMING_SWITCH_REQUEST -/

/-- The state in which it is known whether a lock of session `n` was broken (R446). -/
def lockChecked (s : State) (n : Nat) : State := ((noted s n).brokenLock n).2

theorem silent_lockChecked (s : State) (n : Nat) : Silent s (lockChecked s n) := ⟨rfl, rfl, rfl⟩

theorem lockChecked_switchCheck (n st set : Nat) : (lockChecked s n).switchCheck st set = s.switchCheck st set := rfl

section Heard

variable {rq : Rq} {n : Fin 4} (h : Heard s rq n roleO)

include h

theorem lockChecked_session :
    (lockChecked s n.val).session n.val = { (noted s n.val).session n.val with broken := false } := by
  refine Map.look_put_listed (fun e => ?_) (noted s n.val).mgmt.sessions
  have hopen : ((noted s n.val).session n.val).isOpen = false := congrArg Session.isOpen e
  rw [noted_session h] at hopen
  obtain ⟨-, -, -, hyes, -⟩ := h
  exact absurd (hyes.symm.trans hopen) (by decide)

theorem execTimingSwitchRequest_accepts (stack : Fin 32) {set : BitVec 8} (hset : set.toNat ≤ 3)
    (hbroken : (s.session n.val).broken = false) (hscope : 0 ∈ (s.session n.val).scopes)
    (hcheck : s.switchCheck stack.val set.toNat = 0) : execTimingSwitchRequest rq stack set s =
      .next (((lockChecked s n.val).startSwitch stack.val set.toNat).answer rq 2 0 []) := by
  have hwhole : ((noted s n.val).brokenLock n.val).1 = false :=
    (congrArg Session.broken (noted_session h)).trans hbroken
  have hlocked : ((lockChecked s n.val).session n.val).scopes.contains 0 = true := by
    rw [lockChecked_session h, noted_session h]
    simpa using hscope
  have hserves : (lockChecked s n.val).block.state ≠ .safe := by
    obtain ⟨-, hsafe, -⟩ := h
    exact hsafe
  have hpasses := (lockChecked_switchCheck n.val stack.val set.toNat).trans hcheck
  unfold lockChecked at hlocked hserves hpasses ⊢
  unfold execTimingSwitchRequest
  simp only [gate_of_heard h, noted_has h, hwhole, hlocked, hpasses, Nat.not_lt.mpr hset, beq_eq_false_iff_ne.mpr hserves,
    Bool.not_true, Bool.false_eq_true, if_false, ne_eq, not_true_eq_false]

/-- A set above 3 is out of range (R175). -/
theorem execTimingSwitchRequest_out_of_range (stack : Fin 32) {set : BitVec 8} (hset : 3 < set.toNat) :
    execTimingSwitchRequest rq stack set s = .next ((noted s n.val).refuse rq 2 abRange 0x2801 1 stack.val) := by
  unfold execTimingSwitchRequest
  simp only [gate_of_heard h, noted_has h, hset, Bool.not_true, Bool.false_eq_true, if_false, if_true]

end Heard

theorem Canonical.lockChecked (hc : Canonical s) (n : Nat) : Canonical (lockChecked s n) :=
  (brokenLock_only (m := 4) (modSession_only (.refl s) n _) n).canon hc

/-- The start of a switch sends nothing. -/
theorem Silent.startSwitch {u : State} (h : Silent s u) (st set : Nat) : Silent s (u.startSwitch st set) := h

/-- A switch starts from channel 0 (R175). -/
theorem startSwitch_stack (hc : Canonical s) (st set : Nat) : ((s.startSwitch st set).stack st).switch = some (set, 0) := by
  have hset : Only 8 s ((s.setObj 0x2801 1 st set).setObj 0x2801 2 st 0) := setObj_only (setObj_only (.refl s) _ _ _ _) _ _ _ _
  exact congrArg StackState.switch (stack_modStack (hset.canon hc) st _)

theorem startSwitch_target (hc : Canonical s) (st set : Nat) : (s.startSwitch st set).obj 0x2801 1 st = set :=
  (obj_setObj_ne (s := s.setObj 0x2801 1 st set) 0 (by unfold oKey; omega)).trans (obj_setObj (Canonical.objs_rising hc) _ _ _ _)

theorem startSwitch_count (hc : Canonical s) (st set : Nat) : (s.startSwitch st set).obj 0x2801 2 st = 0 :=
  obj_setObj (s := s.setObj 0x2801 1 st set) (Map.put_rising (Canonical.objs_rising hc)) _ _ _ _

/-! ### TIMING_SWITCH_CHANNEL_DONE -/

theorem each_nil {A : Type} (s : State) (f : State → A → State) : s.each [] f = s := rfl

/-- The state in which the page predictors of a pseudo-channel have started anew (R142). -/
@[irreducible] def predictorsAnew (s : State) (st pc : Nat) : State := s.each (upTo 64) fun s b => s.stSet st 0x2004 1 (pc * 64 + b) 2

theorem predictorsAnew_only (s : State) (st pc : Nat) : Only 8 s (predictorsAnew s st pc) := by
  unfold predictorsAnew
  exact each_only (fun _ _ h => stSet_only h _ _ _ _ _) _ (.refl s)

/-- Starting predictors anew leaves every other object alone. -/
theorem obj_predictorsAnew {st pc ix sub el : Nat} (h : ∀ b, b < 64 → oKey ix sub el ≠ oKey (stackIx 0x2004 st) 1 (pc * 64 + b)) :
    (predictorsAnew s st pc).obj ix sub el = s.obj ix sub el := by
  unfold predictorsAnew
  exact each_keeps (fun s => s.obj ix sub el) fun _ b hb => obj_setObj_ne _ (h b (List.mem_range.mp hb))

/-- An object that several writes give the same value has it once one of them has been made. -/
theorem obj_each_setObj {ix sub el v : Nat} {g : Nat → Nat} {l : List Nat} (hs : Map.rising s.objs = true)
    (h : s.obj ix sub el = v ∨ ∃ x ∈ l, g x = el) : (s.each l fun s x => s.setObj ix sub (g x) v).obj ix sub el = v := by
  induction l generalizing s with
  | nil => exact h.resolve_right (by simp)
  | cons x l ih =>
    rw [each_cons]
    refine ih (Map.put_rising hs) ?_
    by_cases hx : g x = el
    · subst hx
      exact .inl (obj_setObj hs _ _ _ _)
    · obtain h | ⟨y, hy, rfl⟩ := h
      · exact .inl ((obj_setObj_ne v (by unfold oKey; omega)).trans h)
      · exact .inr ⟨y, (List.mem_cons.mp hy).resolve_left fun e => hx (congrArg g e.symm), rfl⟩

theorem predictorsAnew_stObj (hc : Canonical s) {st pc b : Nat} (hb : b < 64) :
    (predictorsAnew s st pc).stObj st 0x2004 1 (pc * 64 + b) = 2 := by
  unfold predictorsAnew
  exact obj_each_setObj (g := fun b => pc * 64 + b) (Canonical.objs_rising hc) (.inr ⟨b, List.mem_range.mpr hb, rfl⟩)

/-- The state in which a channel has switched, its predictors anew and its switch counted (R142, R176). -/
def channelSwitched (s : State) (st c : Nat) : State :=
  (predictorsAnew (predictorsAnew s st (2 * c)) st (2 * c + 1)).setObj 0x2801 2 st (c + 1)

theorem predictorsAnew_both_only (s : State) (st pc pc' : Nat) : Only 8 s (predictorsAnew (predictorsAnew s st pc) st pc') :=
  (predictorsAnew_only s st pc).step rfl (predictorsAnew_only _ st pc')

theorem channelSwitched_only (s : State) (st c : Nat) : Only 8 s (channelSwitched s st c) :=
  setObj_only (predictorsAnew_both_only s st (2 * c) (2 * c + 1)) _ _ _ _

theorem channelSwitched_count (hc : Canonical s) (st c : Nat) : (channelSwitched s st c).obj 0x2801 2 st = c + 1 :=
  obj_setObj (Canonical.objs_rising ((predictorsAnew_both_only s st (2 * c) (2 * c + 1)).canon hc)) _ _ _ _

/-- The predictors of both pseudo-channels of the channel have started anew. -/
theorem channelSwitched_predictors (hc : Canonical s) {st c b : Nat} (hst : st < 32) (hlt : c < 32) (hb : b < 64) :
    (channelSwitched s st c).stObj st 0x2004 1 (2 * c * 64 + b) = 2 ∧
      (channelSwitched s st c).stObj st 0x2004 1 ((2 * c + 1) * 64 + b) = 2 := by
  unfold State.stObj channelSwitched
  constructor
  · rw [obj_setObj_ne _ (by unfold oKey stackIx; omega), obj_predictorsAnew fun b' hb' => by unfold oKey; omega]
    exact predictorsAnew_stObj hc hb
  · rw [obj_setObj_ne _ (by unfold oKey stackIx; omega)]
    exact predictorsAnew_stObj ((predictorsAnew_only _ _ _).canon hc) hb

theorem channelSwitched_switches (s : State) {st c : Nat} (hst : st < 32) (hlt : c < 32) :
    (channelSwitched s st c).obj 0x2801 3 0 = s.obj 0x2801 3 0 := by
  have hkey (pc : Nat) (hpc : pc < 64) (b : Nat) (hb : b < 64) : oKey 0x2801 3 0 ≠ oKey (stackIx 0x2004 st) 1 (pc * 64 + b) := by
    unfold oKey stackIx
    omega
  unfold channelSwitched
  rw [obj_setObj_ne _ (by unfold oKey; omega), obj_predictorsAnew (hkey _ (by omega)),
    obj_predictorsAnew (hkey _ (by omega))]

/-- The state in which no pseudo-channel of a stack is marked as switched (R176). -/
@[irreducible] def marksCleared (s : State) (st : Nat) : State :=
  s.each (upTo 64) fun s pc => s.modPc (pcNo st pc) fun x => { x with switched := false }

theorem marksCleared_only (s : State) (st : Nat) : Only 4096 s (marksCleared s st) := by
  unfold marksCleared
  exact each_only (fun _ _ h => modPc_only h _ _) _ (.refl s)

theorem marksCleared_pc (hc : Canonical s) (st : Nat) {pc : Nat} (hpc : pc < 64) :
    (marksCleared s st).pc (pcNo st pc) = { s.pc (pcNo st pc) with switched := false } := by
  unfold marksCleared
  exact pc_each_modPc List.nodup_range hc (List.mem_range.mpr hpc)

/-- The state in which the last channel has switched: the set is in force, and the switch counted (R176). -/
def switchEnded (s : State) (st set : Nat) : State :=
  (((marksCleared s st).modStack st fun k => { k with switch := none, switchNext := none }).stSet st 0x2002 1 0 set).count 0x2801 3

theorem switchEnded_only_cleared (s : State) (st set : Nat) : Only 2056 (marksCleared s st) (switchEnded s st set) :=
  count_only (stSet_only (modStack_only (.refl _) _ _) _ _ _ _ _) _ _

theorem switchEnded_pc (hc : Canonical s) {st pc : Nat} (hpc : pc < 64) (set : Nat) :
    (switchEnded s st set).pc (pcNo st pc) = { s.pc (pcNo st pc) with switched := false } :=
  (pc_congr (switchEnded_only_cleared s st set).pcs_eq _).trans (marksCleared_pc hc st hpc)

theorem switchEnded_switch (hc : Canonical s) (st set : Nat) : ((switchEnded s st set).stack st).switch = none := by
  unfold switchEnded State.stSet State.count State.bump
  rw [stack_congr (State.setObj_stackTab ..), stack_congr (State.setObj_stackTab ..), stack_modStack ((marksCleared_only s st).canon hc)]

theorem obj_switchEnded {st ix sub el : Nat} (hcount : oKey ix sub el ≠ oKey 0x2801 3 0)
    (hset : oKey ix sub el ≠ oKey (stackIx 0x2002 st) 1 0) (set : Nat) : (switchEnded s st set).obj ix sub el = s.obj ix sub el := by
  unfold switchEnded State.stSet
  rw [obj_count_ne hcount, obj_setObj_ne _ hset, obj_congr (State.modStack_objs ..), obj_congr (marksCleared_only s st).objs_eq]

theorem switchEnded_set (hc : Canonical s) {st : Nat} (hst : st < 32) (set : Nat) : (switchEnded s st set).stObj st 0x2002 1 0 = set := by
  have hrising := Canonical.objs_rising ((marksCleared_only s st).canon hc)
  unfold switchEnded State.stObj State.stSet
  rw [obj_count_ne (by unfold oKey stackIx; omega), obj_setObj]
  rwa [State.modStack_objs]

theorem switchEnded_switches {st : Nat} (hst : st < 32) (set : Nat) :
    (switchEnded s st set).obj 0x2801 3 0 = s.obj 0x2801 3 0 + 1 := by
  unfold switchEnded State.stSet
  rw [obj_count_plain (by decide), obj_setObj_ne _ (by unfold oKey stackIx; omega), obj_congr (State.modStack_objs ..),
    obj_congr (marksCleared_only s st).objs_eq]

section Done

variable {stack : Fin 32} {set c : Nat} (hswitch : (s.stack stack.val).switch = some (set, c))

include hswitch

theorem execTimingSwitchChannelDone_early (h : ∀ n, (s.stack stack.val).switchNext = some n → n ≤ c) :
    execTimingSwitchChannelDone stack s = .next s := by
  unfold execTimingSwitchChannelDone
  cases hn : (s.stack stack.val).switchNext with
  | none => simp [hswitch, hn]
  | some n => simp [hswitch, hn, h n hn]

variable {n : Nat} (hnext : (s.stack stack.val).switchNext = some n) (hplaced : c < n)
  (hdone : ∀ pc, pc = 2 * c ∨ pc = 2 * c + 1 → s.pcSheets stack.val pc = false ∨ (s.pc (pcNo stack.val pc)).switched = true)

include hnext hplaced hdone

theorem execTimingSwitchChannelDone_switches : execTimingSwitchChannelDone stack s =
    if c + 1 < 32 then
      .next ((channelSwitched s stack.val c).modStack stack.val fun k => { k with switch := some (set, c + 1) })
    else .next (switchEnded (channelSwitched s stack.val c) stack.val set) := by
  have hlow : (!s.pcSheets stack.val (2 * c) || (s.pc (pcNo stack.val (2 * c))).switched) = true := by
    simpa using hdone (2 * c) (.inl rfl)
  have hhigh : (!s.pcSheets stack.val (2 * c + 1) || (s.pc (pcNo stack.val (2 * c + 1))).switched) = true := by
    simpa using hdone (2 * c + 1) (.inr rfl)
  unfold execTimingSwitchChannelDone
  simp only [hswitch, hnext, hplaced, hlow, hhigh, decide_true, Bool.not_true, Bool.and_self, Bool.or_self, Bool.false_eq_true, if_false,
    each_cons, each_nil, channelSwitched, predictorsAnew, switchEnded, marksCleared]

end Done

/-- Settles O30: a request that is taken is `startSwitch`, a channel that is done is `channelSwitched`, and after the last one the
switch is `switchEnded`. -/
theorem timingSwitchRunsChannelByChannel : Obligations.TimingSwitchRunsChannelByChannel := by
  refine ⟨fun rq n stack set s hc h => ⟨fun hset hbroken hscope hcheck => ?_, fun hset => ?_⟩, fun stack s set c hc hswitch hlt =>
    ⟨fun n hnext hplaced hdone => ?_, execTimingSwitchChannelDone_early hswitch⟩⟩
  · have hl := Canonical.lockChecked hc n.val
    have hanswer := answer_only (m := 4194308) (.refl ((lockChecked s n.val).startSwitch stack.val set.toNat)) rq 2 0 []
    refine ⟨_, execTimingSwitchRequest_accepts h stack hset hbroken hscope hcheck, ?_, ?_, ?_,
      ((silent_lockChecked s n.val).startSwitch _ _).answers _ _ _ _⟩
    · rw [stack_congr hanswer.stackTab_eq, startSwitch_stack hl]
    · rw [obj_congr hanswer.objs_eq, startSwitch_target hl]
    · rw [obj_congr hanswer.objs_eq, startSwitch_count hl]
  · exact ⟨_, execTimingSwitchRequest_out_of_range h stack hset, (silent_noted s n.val).refuses _ _ _ _ _ _,
      (refuse_only (m := 4194316) (.refl (noted s n.val)) _ _ _ _ _ _).stackTab_eq⟩
  · have hst := stack.isLt
    have hexec := execTimingSwitchChannelDone_switches hswitch hnext hplaced hdone
    have hsame := channelSwitched_only s stack.val c
    have hcanon := hsame.canon hc
    have hcount := channelSwitched_count hc stack.val c
    have hpred (b : Nat) (hb : b < 64) := channelSwitched_predictors hc hst hlt hb
    have hswitches := channelSwitched_switches s hst hlt
    generalize channelSwitched s stack.val c = u at hexec hsame hcanon hcount hpred hswitches
    by_cases hlast : c + 1 < 32
    · rw [if_pos hlast] at hexec
      exact ⟨_, hexec, hcount, hpred, fun _ => ⟨congrArg StackState.switch (stack_modStack hcanon _ _), hsame.pcs_eq⟩,
        fun he => by omega⟩
    · rw [if_neg hlast] at hexec
      refine ⟨_, hexec, ?_, fun b hb => ?_, fun hne => by omega, fun _ => ⟨switchEnded_switch hcanon _ _,
        switchEnded_set hcanon hst _, fun pc hpc => ?_, ?_⟩⟩
      · rw [obj_switchEnded (by unfold oKey; omega) (by unfold oKey stackIx; omega), hcount]
      · obtain ⟨heven, hodd⟩ := hpred b hb
        exact ⟨(obj_switchEnded (by unfold oKey stackIx; omega) (by unfold oKey stackIx; omega) _).trans heven,
          (obj_switchEnded (by unfold oKey stackIx; omega) (by unfold oKey stackIx; omega) _).trans hodd⟩
      · exact congrArg PcState.switched (switchEnded_pc hcanon hpc _)
      · rw [switchEnded_switches hst, hswitches]

end Sys2Proof.Laws

/-! Calibration: sampled bins, the application of a retraining cut, and the training of a pseudo-channel (R183, R185, R191, R192, R195). -/

namespace Sys2Proof.Laws

-- theorems one after another: many at once would ask for too many threads
set_option Elab.async false

open Sys2Proof.Machine Sys2Proof.Safety

variable {a s t : State} {p : Nat}

/-! ### Setting words -/

theorem lwRead_packLane {rd : Nat} (h : rd < 128) (wr ref state replaces : Nat) :
    lwRead (packLane rd wr ref state replaces) = rd := by
  unfold lwRead packLane bits
  omega

theorem lwWrite_packLane {rd wr : Nat} (hrd : rd < 128) (hwr : wr < 128) (ref state replaces : Nat) :
    lwWrite (packLane rd wr ref state replaces) = wr := by
  unfold lwWrite packLane bits
  omega

theorem lwRef_packLane {rd wr ref : Nat} (hrd : rd < 128) (hwr : wr < 128) (href : ref < 128) (state replaces : Nat) :
    lwRef (packLane rd wr ref state replaces) = ref := by
  unfold lwRef packLane bits
  omega

theorem midpoint_lt (lo hi : BitVec 7) : Machine.midpoint lo hi < 128 := by
  unfold Machine.midpoint
  omega

/-! ### HISTOGRAM_BIN_ADVANCE -/

/-- Each element of a list has been changed once, where no two of them are one. -/
theorem obj_each_changed {ix sub x : Nat} {g : Nat → Nat} {f : Nat → Nat → Nat} {l : List Nat} (hg : Function.Injective g)
    (hl : l.Nodup) (hs : Map.rising s.objs = true) (hx : x ∈ l) :
    (s.each l fun s y => s.setObj ix sub (g y) (f y (s.obj ix sub (g y)))).obj ix sub (g x) = f x (s.obj ix sub (g x)) := by
  have hne {u : State} {y z : Nat} (h : y ≠ z) (v : Nat) : (u.setObj ix sub (g z) v).obj ix sub (g y) = u.obj ix sub (g y) :=
    obj_setObj_ne v fun e => h (hg (Nat.add_left_cancel e))
  induction l generalizing s with
  | nil => exact absurd hx List.not_mem_nil
  | cons y l ih =>
    obtain ⟨hy, hl⟩ := List.nodup_cons.mp hl
    rw [each_cons]
    obtain rfl | hx := List.mem_cons.mp hx
    · exact (each_keeps (fun u => u.obj ix sub (g x)) fun _ z hz => hne (ne_of_mem_of_not_mem hz hy).symm _).trans (obj_setObj hs _ _ _ _)
    · rw [ih hl (Map.put_rising hs) hx, hne (ne_of_mem_of_not_mem hx hy)]

/-- A bin's word with samples and disagreements added, each half saturating (R185). -/
def binAdded (n d w : Nat) : Nat :=
  execHistogramBinAdvance.satTo32 (w / 2 ^ 32 + n) * 2 ^ 32 + execHistogramBinAdvance.satTo32 (w % 2 ^ 32 + min n d)

theorem satTo32_lt (n : Nat) : execHistogramBinAdvance.satTo32 n < 2 ^ 32 := by
  unfold execHistogramBinAdvance.satTo32
  omega

theorem binAdded_samples (n d w : Nat) : binAdded n d w / 2 ^ 32 = min (w / 2 ^ 32 + n) (2 ^ 32 - 1) := by
  rw [binAdded, Nat.mul_comm, Nat.mul_add_div (by decide), Nat.div_eq_of_lt (satTo32_lt _), Nat.add_zero,
    execHistogramBinAdvance.satTo32]

theorem binAdded_disagreements (n d w : Nat) : binAdded n d w % 2 ^ 32 = min (w % 2 ^ 32 + min n d) (2 ^ 32 - 1) := by
  rw [binAdded, Nat.mul_comm, Nat.mul_add_mod, Nat.mod_eq_of_lt (satTo32_lt _), execHistogramBinAdvance.satTo32]

/-- The element of a lane's bin (R185, R196). -/
def binEl (p bin lane : Nat) : Nat := (p * 38 + lane) * 64 + bin

theorem binEl_injective (p bin : Nat) : Function.Injective (binEl p bin) := fun x y h => by
  unfold binEl at h
  omega

/-- The state in which a dwell's counts have entered its bin, for each lane in use (R185). -/
def dwellCounted (s : State) (p bin n : Nat) (dis : List Nat) : State :=
  s.each ((upTo 38).filter fun l => s.laneState p l == 0) fun s l =>
    s.setObj 0x8002 1 (binEl p bin l) (binAdded n (dis.getD l 0) (s.obj 0x8002 1 (binEl p bin l)))

theorem dwellCounted_only (s : State) (p bin n : Nat) (dis : List Nat) : Only 8 s (dwellCounted s p bin n dis) :=
  each_only (fun _ _ h => setObj_only h _ _ _ _) _ (.refl s)

theorem dwellCounted_obj (hc : Canonical s) {lane : Nat} (hlane : lane < 38) (huse : s.laneState p lane = 0) (bin n : Nat)
    (dis : List Nat) : (dwellCounted s p bin n dis).obj 0x8002 1 (binEl p bin lane) =
      binAdded n (dis.getD lane 0) (s.obj 0x8002 1 (binEl p bin lane)) :=
  obj_each_changed (f := fun l => binAdded n (dis.getD l 0)) (binEl_injective p bin) (List.nodup_range.filter _)
    (Canonical.objs_rising hc) (List.mem_filter.mpr ⟨List.mem_range.mpr hlane, beq_iff_eq.mpr huse⟩)

theorem exec_histogramBinAdvance {stack : Fin 32} {pc : Fin 64} (h : 128 ≤ (s.pc (pcNo stack.val pc.val)).probeBursts)
    (dis : List Nat) : exec (.histogramBinAdvance stack pc dis) s =
      .next ((dwellCounted s (pcNo stack.val pc.val) (s.pc (pcNo stack.val pc.val)).probeBin
        ((128 - (s.pc (pcNo stack.val pc.val)).probeLost) * 8) dis).modPc (pcNo stack.val pc.val) fun x =>
          { x with probeBin := (x.probeBin + 1) % 64, probeBursts := x.probeBursts - 128, probeLost := x.probeLost - 128 }) :=
  if_neg (Nat.not_lt.mpr h)

/-! ### What the application of a cut leaves as it is -/

/-- A change on the way to a calibration of pseudo-channel `p` being in force: its proposals and the count of its
calibrations are as before. -/
structure Calibrates (p : Nat) (s t : State) : Prop where
  only : Only 2103308 s t
  pending : Canonical s → (t.pc p).pendingCal = (s.pc p).pendingCal
  counted : t.obj 0x8000 1 p = s.obj 0x8000 1 p

namespace Calibrates

theorem refl (p : Nat) (s : State) : Calibrates p s s := ⟨.refl s, fun _ => rfl, rfl⟩

theorem trans (h : Calibrates p a s) (g : Calibrates p s t) : Calibrates p a t :=
  ⟨h.only.step rfl g.only, fun hc => (g.pending (h.only.canon hc)).trans (h.pending hc), g.counted.trans h.counted⟩

/-- A change of other parts than the pseudo-channels, which leaves the count alone. -/
theorem other {m : Nat} (h : Only m s t) (hpcs : m.testBit 12 = false) (hm : Sub m 2103308)
    (hobj : t.obj 0x8000 1 p = s.obj 0x8000 1 p) : Calibrates p s t :=
  ⟨h.mono hm, fun _ => congrArg PcState.pendingCal (pc_congr (h.pcs_eq hpcs) p), hobj⟩

theorem setObj {ix sub el : Nat} (h : Calibrates p a s) (hne : oKey 0x8000 1 p ≠ oKey ix sub el) (v : Nat) :
    Calibrates p a (s.setObj ix sub el v) :=
  h.trans (other (setObj_only (m := 8) (.refl s) _ _ _ _) rfl rfl (obj_setObj_ne v hne))

theorem modLane (h : Calibrates p a s) (lane : Nat) (f : LaneCal → LaneCal) : Calibrates p a (s.modLane p lane f) :=
  h.trans ⟨modLane_only (.refl s) _ _ _, fun hc => pc_modPc_keeps PcState.pendingCal hc rfl, rfl⟩

theorem evacuatePc (h : Calibrates p a s) : Calibrates p a (s.evacuatePc p) := by
  refine h.trans (.other (evacuatePc_only (m := 2056) (.refl s) p) rfl rfl ?_)
  unfold State.evacuatePc
  extract_lets st s1
  split
  · rfl
  · refine (each_keeps (fun u => u.obj 0x8000 1 p) fun u sid _ => ?_).trans ((obj_congr (State.modStack_objs ..) ..).trans
      (obj_setObj_ne _ (by unfold oKey; omega)))
    extract_lets ru
    split
    · exact obj_congr (queueMigration_only (m := 2048) (.refl u) _ _ _ _).objs_eq ..
    · rfl

variable (hp : p < 2048)

include hp

theorem setLaneState (h : Calibrates p a s) (lane v replaces : Nat) : Calibrates p a (s.setLaneState p lane v replaces) :=
  each_induct h fun _ _ _ g => g.setObj (by unfold oKey; omega) _

theorem laneEvent (h : Calibrates p a s) (lane res : Nat) (other : Bool) : Calibrates p a (s.laneEvent p lane res other) := by
  refine h.trans (.other (laneEvent_only (m := 2097164) (.refl s) _ _ _ _) rfl rfl ?_)
  unfold State.laneEvent
  refine (obj_logEvent (by unfold oKey; omega) _ _ _ _ _ _).trans ?_
  split <;> rfl

theorem replaceLane (h : Calibrates p a s) (lane : Nat) (other : Bool) : Calibrates p a (s.replaceLane p lane other) := by
  unfold State.replaceLane
  extract_lets clean s1
  have hclean {u : State} (hu : Calibrates p a u) (res : Nat) : Calibrates p a ((clean u).laneEvent p lane res other) :=
    (hu.modLane lane _).laneEvent hp lane res other
  split
  · exact hclean (((h.setLaneState hp lane 1 0).setLaneState hp (redundantOf lane) 0 lane).setObj (by unfold oKey; omega) _) 0
  · exact hclean (h.setLaneState hp lane 3 0) 1

theorem repairLane (h : Calibrates p a s) (lane : Nat) (other : Bool) : Calibrates p a (s.repairLane p lane other).2 := by
  unfold State.repairLane
  split
  · exact h.replaceLane hp lane other
  · exact (h.replaceLane hp lane other).evacuatePc

theorem applyLane (h : Calibrates p a s) (set : Nat) (ref : Bool) (plan : List LanePlan) (res : List CalResult) (lane : Nat) :
    Calibrates p a (s.applyLane p set ref plan res lane).2.2 := by
  unfold State.applyLane
  extract_lets v r marked w d s1
  split_ifs
  · exact h
  · exact h
  · exact h.repairLane hp lane false
  · exact (h.setObj (by unfold oKey; omega) _).modLane lane _
  · exact (h.setObj (by unfold oKey; omega) _).modLane lane _

end Calibrates

/-- An application ends with its calibration noted, in a state with all its lanes done (R192). -/
theorem applyCal_notes (hp : p < 2048) (plan : List LanePlan) (res : List CalResult) :
    ∃ u, s.applyCal p plan res = u.noteCal p ∧ Calibrates p s u := by
  unfold State.applyCal
  extract_lets set part down up r el c c1 unfilled s1 s2
  refine ⟨_, rfl, ?_⟩
  have hr : Calibrates p s r.2.2 :=
    List.foldlRecOn (motive := fun (x : Bool × Bool × State) => Calibrates p s x.2.2) _ _ (.refl p s)
      fun _ hx lane _ => hx.applyLane hp _ _ _ _ lane
  have h1 : Calibrates p s s1 := hr.setObj (by unfold oKey; omega) _
  have h2 : Calibrates p s s2 := by
    unfold s2
    split
    · exact h1
    · exact h1.setObj (by unfold oKey; omega) _
  exact h2.setObj (by unfold oKey; omega) _

/-! ### A calibration in force -/

/-- Once entries have been left out by their keys, those kept read as before and all others as the default. -/
theorem look_filter {V : Type} (d : V) (k : Nat) (f : Nat → Bool) (m : Map V) :
    Map.look d k (m.filter fun x => f x.1) = if f k then Map.look d k m else d := by
  induction m with
  | nil => exact (ite_self d).symm
  | cons x m ih =>
    obtain ⟨b, v⟩ := x
    by_cases hb : b = k
    · subst hb
      cases hf : f b <;> simp [Map.look, hf, ih]
    · cases hf : f b <;> simp [Map.look, hf, hb, ih]

/-- Keys outside the histogram of a pseudo-channel, which its clearing keeps. -/
def outsideHistogram (p k : Nat) : Bool :=
  decide (k < oKey 0x8002 1 (p * 38 * 64)) || decide (oKey 0x8002 1 ((p + 1) * 38 * 64) ≤ k)

/-- Every bin of a cleared histogram reads 0 (R185). -/
theorem obj_clearHistogram (s : State) {i : Nat} (hi : i < 2432) : (s.clearHistogram p).obj 0x8002 1 (p * 2432 + i) = 0 := by
  refine (look_filter _ _ (outsideHistogram p) s.objs).trans (if_neg ?_)
  rw [outsideHistogram, Bool.or_eq_true, decide_eq_true_eq, decide_eq_true_eq]
  unfold oKey
  omega

/-- A clearing leaves the objects before the histograms alone. -/
theorem obj_clearHistogram_before {ix sub el : Nat} (h : oKey ix sub el < oKey 0x8002 1 0) :
    (s.clearHistogram p).obj ix sub el = s.obj ix sub el := by
  refine (look_filter _ _ (outsideHistogram p) s.objs).trans (if_pos ?_)
  rw [outsideHistogram, Bool.or_eq_true, decide_eq_true_eq]
  exact .inl (h.trans_le (Nat.add_le_add_left (Nat.zero_le _) _))

theorem noteCal_pc (hc : Canonical s) : ((s.noteCal p).pc p).pendingCal = (s.pc p).pendingCal ∧
    ((s.noteCal p).pc p).calFrame = s.time.frame := by
  have hclear : Canonical (((s.bump 0x8000 1 p 1).setObj 0x8000 2 p (timeWord (s.time.frameStart / nsUnit))).clearHistogram p) :=
    (clearHistogram_only (m := 8) (setObj_only (bump_only (.refl s) _ _ _ _) _ _ _ _) p).canon hc
  unfold State.noteCal
  rw [pc_modPc hclear]
  exact ⟨rfl, rfl⟩

theorem noteCal_count (hc : Canonical s) (hp : p < 2048) : (s.noteCal p).obj 0x8000 1 p = s.obj 0x8000 1 p + 1 :=
  (obj_clearHistogram_before (by unfold oKey; omega)).trans
    ((obj_setObj_ne _ (by unfold oKey; omega)).trans (obj_setObj (Canonical.objs_rising hc) _ _ _ _))

theorem noteCal_time (hc : Canonical s) (hp : p < 2048) :
    (s.noteCal p).obj 0x8000 2 p = timeWord (s.time.frameStart / nsUnit) :=
  (obj_clearHistogram_before (by unfold oKey; omega)).trans
    (obj_setObj (Canonical.objs_rising ((bump_only (m := 8) (.refl s) _ _ _ _).canon hc)) _ _ _ _)

theorem noteCal_histogram (s : State) {i : Nat} (hi : i < 2432) : (s.noteCal p).obj 0x8002 1 (p * 2432 + i) = 0 :=
  obj_clearHistogram _ hi

/-! ### RETRAINING_APPLY and PC_RETRAIN_COMPLETE -/

theorem exec_retrainingApply {stack : Fin 32} {pc : Fin 64} {plan : List LanePlan}
    (h : (s.pc (pcNo stack.val pc.val)).pendingCal = some plan) (res : List CalResult) : exec (.retrainingApply stack pc res) s =
      .next ((s.modPc (pcNo stack.val pc.val) fun x => { x with pendingCal := none }).applyCal (pcNo stack.val pc.val) plan res) := by
  change execRetrainingApply stack pc res s = _
  unfold execRetrainingApply
  simp only [h]

/-- A lane within the limits has the middles of its ranges (R183). -/
theorem trainLane_laneWord (hc : Canonical s) {e : LaneEye} (hpass : s.eyePasses e = true) {st : Nat} (hst : st < 32) :
    ∃ state replaces, (s.trainLane st e).laneWord (pcNo st e.pc.val) e.set.val e.lane.val =
      packLane (Machine.midpoint e.rdLo e.rdHi) (Machine.midpoint e.wrLo e.wrHi) (Machine.midpoint e.refLo e.refHi) state replaces := by
  have hset := e.set.isLt
  unfold State.trainLane
  rw [if_neg (by simp [hpass])]
  exact ⟨_, _, (obj_setObj_ne _ (by unfold oKey laneEl pcNo; omega)).trans (obj_setObj (Canonical.objs_rising hc) _ _ _ _)⟩

theorem exec_pcRetrainComplete {stack : Fin 32} {e : LaneEye} (hin : (s.pc (pcNo stack.val e.pc.val)).retraining = true)
    (hset : e.set.val = s.setOf (pcNo stack.val e.pc.val)) : exec (.pcRetrainComplete stack e.pc [e]) s =
      .next ((s.trainLane stack.val e).modPc (pcNo stack.val e.pc.val) fun x => { x with retrained := true }) := by
  change execPcRetrainComplete stack e.pc [e] s = _
  unfold execPcRetrainComplete
  simp only [hin, ← hset, Bool.not_true, Bool.false_eq_true, if_false, beq_self_eq_true, Bool.and_self, List.filter_cons_of_pos,
    List.filter_nil, each_cons, each_nil]

/-- Settles O31: a dwell's counts enter their bin as `binAdded`, an application of a cut ends with its calibration noted, and a
trained lane's word is packed from the middles of its ranges. -/
theorem samplingAndCalibration : Obligations.SamplingAndCalibration := by
  refine ⟨?_, ?_, ?_⟩
  · rintro stack pc dis s x hc rfl hbursts -
    have hdwell := dwellCounted_only s (pcNo stack.val pc.val) (s.pc (pcNo stack.val pc.val)).probeBin
      ((128 - (s.pc (pcNo stack.val pc.val)).probeLost) * 8) dis
    refine ⟨_, exec_histogramBinAdvance hbursts dis, ?_, fun lane hlane huse => ?_⟩
    · rw [pc_modPc (hdwell.canon hc), pc_congr hdwell.pcs_eq]
    · have hbin := dwellCounted_obj hc hlane huse (s.pc (pcNo stack.val pc.val)).probeBin
        ((128 - (s.pc (pcNo stack.val pc.val)).probeLost) * 8) dis
      exact ⟨(congrArg (· / 2 ^ 32) hbin).trans (binAdded_samples ..), (congrArg (· % 2 ^ 32) hbin).trans (binAdded_disagreements ..)⟩
  · intro stack pc res s plan hc hpending
    have hp : pcNo stack.val pc.val < 2048 := by unfold pcNo; omega
    have htaken := (modPc_only (m := 4096) (.refl s) (pcNo stack.val pc.val) fun x => { x with pendingCal := none }).canon hc
    obtain ⟨u, hu, hcal⟩ := applyCal_notes
      (s := s.modPc (pcNo stack.val pc.val) fun x => { x with pendingCal := none }) hp plan res
    have hcanon := hcal.only.canon htaken
    have htime : u.time = s.time := hcal.only.time_eq
    obtain ⟨hplans, hframe⟩ := noteCal_pc (p := pcNo stack.val pc.val) hcanon
    refine ⟨_, (exec_retrainingApply hpending res).trans (congrArg _ hu), ?_, ?_, ?_, ?_, fun i hi => noteCal_histogram u hi⟩
    · rw [hplans, hcal.pending htaken, pc_modPc hc]
    · rw [hframe, htime]
    · rw [noteCal_count hcanon hp, hcal.counted, obj_modPc]
    · rw [noteCal_time hcanon hp, htime]
  · rintro stack pc e s hc hin rfl hset hpass
    obtain ⟨state, replaces, hword⟩ := trainLane_laneWord hc hpass stack.isLt
    have hrd := midpoint_lt e.rdLo e.rdHi
    have hwr := midpoint_lt e.wrLo e.wrHi
    refine ⟨_, exec_pcRetrainComplete hin hset, ?_, ?_, ?_, ?_⟩
    · rw [pc_modPc ((trainLane_only (m := 2103308) (.refl s) _ _).canon hc)]
    · exact (congrArg lwRead hword).trans (lwRead_packLane hrd _ _ _ _)
    · exact (congrArg lwWrite hword).trans (lwWrite_packLane hrd hwr _ _ _)
    · exact (congrArg lwRef hword).trans (lwRef_packLane hrd hwr (midpoint_lt _ _) _ _)

end Sys2Proof.Laws

/-! Domains: gate requests, the end of a wake, and what a readiness and the slice map read as afterwards (R197, R199, R221). -/

namespace Sys2Proof.Laws

-- theorems one after another: many at once would ask for too many threads
set_option Elab.async false

open Sys2Proof.Machine Sys2Proof.Safety

variable {s t : State}

/-! ### Readiness -/

theorem readiness_congr (h : t.block = s.block) (d : Nat) : t.readiness d = s.readiness d := by
  unfold State.readiness
  rw [h]

/-- A readiness other than 0 is read back, whether or not it changed (R441). -/
theorem readiness_setReady {v : Nat} (hv : v ≠ 0) (d : Nat) : (s.setReady d v).readiness d = v := by
  unfold State.setReady
  extract_lets old
  split
  · assumption
  · rw [readiness_congr (logAsked_only (m := 12) (.refl _) _ _ _ _).block_eq]
    exact Map.look_put_listed hv s.block.ready

/-! ### The slice map -/

/-- The entries of one slice change objects of the slice map only (R221). -/
theorem obj_moveEntries {ix sub el : Nat} (h : oKey 0x3001 1 64 ≤ oKey ix sub el) (i : Nat) :
    (s.moveEntries i).obj ix sub el = s.obj ix sub el := by
  refine each_keeps (fun s => s.obj ix sub el) fun u g hg => ?_
  have hlt : g < 64 := List.mem_range.mp (List.mem_of_mem_filter hg)
  split
  · exact obj_setObj_ne _ (by unfold oKey at h ⊢; omega)
  · rfl

theorem obj_settleMap {ix sub el : Nat} (h : oKey 0x3001 1 64 ≤ oKey ix sub el) : s.settleMap.obj ix sub el = s.obj ix sub el :=
  each_keeps (fun s => s.obj ix sub el) fun _ i _ => obj_moveEntries h i

/-! ### DOMAIN_GATE_REQUEST -/

/-- The gate requests once 0x7001.03 of a domain has been written (R199; log 38: a 0 takes one back). -/
def gateQueue (s : State) (d v : Nat) (l : List Nat) : List Nat :=
  if v = 1 ∧ s.readiness d = 1 then (l.filter fun x => x != d) ++ [d] else l.filter fun x => x != d

/-- The state in which 0x7001.03 of a domain has been written and its asker kept (R199). -/
def gateWritten (s : State) (d v n : Nat) : State :=
  ((s.setObj 0x7001 3 d v).asks (askKey 10 2 d) (if v = 1 then n else 255)).modTest fun t => { t with gateReq := gateQueue s d v t.gateReq }

/-- A gate request of a quadrant moves the slice-map entries at once (R221). -/
def gateSettled (s : State) (d v n : Nat) : State :=
  if d < 36 then (gateWritten s d v n).settleMap else gateWritten s d v n

theorem gateSettled_only (s : State) (d v n : Nat) : Only 8 (gateWritten s d v n) (gateSettled s d v n) :=
  ite_only (settleMap_only (.refl _)) (.refl _)

theorem silent_gateSettled (s : State) (m d v n : Nat) : Silent s (gateSettled (noted s m) d v n) := by
  have hmap := gateSettled_only (noted s m) d v n
  unfold Silent
  rw [hmap.outbox_eq, hmap.mgmt_eq]
  exact ⟨rfl, rfl, rfl⟩

theorem gateSettled_obj (hc : Canonical s) (d v n : Nat) : (gateSettled s d v n).obj 0x7001 3 d = v := by
  have hwritten : (gateWritten s d v n).obj 0x7001 3 d = v := obj_setObj (Canonical.objs_rising hc) _ _ _ _
  unfold gateSettled
  split
  · rw [obj_settleMap (by unfold oKey; omega), hwritten]
  · exact hwritten

/-- What a write of 0x7001.03 that is answered with 0 leaves. -/
theorem gateSettled_answered (hc : Canonical s) (rq : Rq) (m d v n : Nat) {t : State}
    (ht : t = (gateSettled (noted s m) d v n).answer rq 2 0 []) :
    t.test.gateReq = gateQueue s d v s.test.gateReq ∧ t.obj 0x7001 3 d = v ∧ Answers rq 2 0 [] s t := by
  subst ht
  have hnoted : Canonical (noted s m) := (modSession_only (m := 4) (.refl s) m _).canon hc
  refine ⟨?_, (obj_answer ..).trans (gateSettled_obj hnoted d v n), (silent_gateSettled s m d v n).answers _ _ _ _⟩
  rw [(answer_only (m := 4194308) (.refl _) rq 2 0 []).test_eq, (gateSettled_only _ d v n).test_eq]
  rfl

theorem not_mem_gateQueue_zero (s : State) (d : Nat) (l : List Nat) : d ∉ gateQueue s d 0 l := by
  simp [gateQueue]

theorem mem_gateQueue_one {d : Nat} (h : s.readiness d = 1) (l : List Nat) : d ∈ gateQueue s d 1 l := by
  simp [gateQueue, h]

/-- The check of the domain and of the value, as a direct write makes it (R199, R216). -/
def gateRange (d v : Nat) (_ : State) (_ : Nat) : Nat :=
  if d < 32 ∨ 41 < d then abElement else refuseIf (decide (1 < v)) abRange

/-- The check for what needs the domain, as a direct write makes it (R199). -/
def gateCheck (d v : Nat) (s : State) (_ : Nat) : Nat := refuseIf (v == 1 && s.gateHeld d) abObjState

theorem execDomainGateRequest_eq (rq : Rq) (domain : Fin 43) (v : BitVec 8) (s : State) : execDomainGateRequest rq domain v s =
    .next (s.directWrite rq 0x7001 3 domain.val roleO (gateRange domain.val v.toNat) (gateCheck domain.val v.toNat) passes
      fun s n => gateSettled s domain.val v.toNat n) := rfl

section Heard

variable {rq : Rq} {n : Fin 4} (h : Heard s rq n roleO) {domain : Fin 43} (hlo : 32 ≤ domain.val) (hhi : domain.val ≤ 41)
  {v : BitVec 8} (hv : v.toNat ≤ 1)

include hlo hhi hv in
theorem gateRange_eq_zero (u : State) (m : Nat) : gateRange domain.val v.toNat u m = 0 := by
  unfold gateRange
  rw [if_neg (by omega), refuseIf_of_not (decide_eq_false (by omega))]

include h hlo hhi hv

theorem execDomainGateRequest_accepts (hfree : (v.toNat == 1 && s.gateHeld domain.val) = false) :
    execDomainGateRequest rq domain v s =
      .next ((gateSettled (noted s n.val) domain.val v.toNat n.val).answer rq 2 0 []) := by
  have hcode : gateCheck domain.val v.toNat (noted s n.val) n.val = 0 := refuseIf_of_not hfree
  rw [execDomainGateRequest_eq, directWrite_accepts h (gateRange_eq_zero hlo hhi hv _ _) hcode rfl]

theorem execDomainGateRequest_refuses (hheld : (v.toNat == 1 && s.gateHeld domain.val) = true) :
    execDomainGateRequest rq domain v s = .next ((noted s n.val).refuse rq 2 abObjState 0x7001 3 domain.val) := by
  have hcode : gateCheck domain.val v.toNat (noted s n.val) n.val = abObjState := refuseIf_of hheld
  rw [execDomainGateRequest_eq, directWrite_wrong_state h (gateRange_eq_zero hlo hhi hv _ _) (hcode.trans_ne (by decide)), hcode]

end Heard

/-! ### DOMAIN_WAKE_COMPLETE -/

/-- The state in which the slices of a woken quadrant are in service again (R237). -/
def slicesReturned (s : State) (d : Nat) : State :=
  if d < 36 then
    (s.each ((upTo 16).map ((d - 32) * 16 + ·)) fun s i => if s.obj 0x3005 1 i = 3 then s.setObj 0x3005 1 i 0 else s).modLoft fun l =>
      { l with retested := l.retested.erase (d - 32) }
  else s

theorem slicesReturned_only (s : State) (d : Nat) : Only 8200 s (slicesReturned s d) :=
  ite_only (modLoft_only (each_only (fun _ _ h => ite_only (setObj_only h _ _ _ _) h) _ (.refl s)) _) (.refl s)

/-- The state in which a domain's wake has ended (R197). -/
def domainWoken (s : State) (d : Nat) : State := (((slicesReturned s d).setReady d 1).setObj 0x7001 3 d 0).settleMap

theorem execDomainWakeComplete_wakes {domain : Fin 43} (hlo : 32 ≤ domain.val) (hhi : domain.val ≤ 41)
    (hwaking : s.readiness domain.val = 4) (htested : domain.val < 36 → s.loft.retested.contains (domain.val - 32) = true) :
    execDomainWakeComplete domain s = .next (domainWoken s domain.val) := by
  refine if_neg ?_
  rintro (hlow | hhigh | hready | ⟨hquad, hmiss⟩)
  · omega
  · omega
  · exact hready hwaking
  · rw [htested hquad] at hmiss
    exact absurd hmiss (by decide)

theorem domainWoken_readiness (s : State) (d : Nat) : (domainWoken s d).readiness d = 1 :=
  (readiness_congr (settleMap_only (m := 8) (setObj_only (.refl _) 0x7001 3 d 0)).block_eq d).trans
    (readiness_setReady (by decide) d)

theorem domainWoken_request (hc : Canonical s) (d : Nat) : (domainWoken s d).obj 0x7001 3 d = 0 := by
  have hready : Canonical ((slicesReturned s d).setReady d 1) :=
    (setReady_only (m := 14) (.refl _) d 1).canon ((slicesReturned_only s d).canon hc)
  unfold domainWoken
  rw [obj_settleMap (by unfold oKey; omega), obj_setObj (Canonical.objs_rising hready)]

end Sys2Proof.Laws

/-! Heat: what telemetry and temperature reads report, the gating of a hot stack, and the record that ends a slip (R200, R204,
R205, R208, R210, R214). -/

namespace Sys2Proof.Laws

-- theorems one after another: many at once would ask for too many threads
set_option Elab.async false

open Sys2Proof.Machine Sys2Proof.Safety

variable {s t : State}

/-! ### POWER_TELEMETRY -/

/-- Of changes one after another, only that of `x` matters to what the others leave alone; they keep `P` up to it. -/
theorem each_reaches {A B : Type} {f : State → A → State} (P : State → Prop) (g : State → B) {x : A} {l : List A} (hl : l.Nodup)
    (hx : x ∈ l) (hs : P s) (hP : ∀ t y, y ≠ x → P t → P (f t y)) (hg : ∀ t y, y ≠ x → g (f t y) = g t) :
    ∃ u, P u ∧ g (s.each l f) = g (f u x) := by
  induction l generalizing s with
  | nil => exact absurd hx List.not_mem_nil
  | cons y l ih =>
    obtain ⟨hy, hl⟩ := List.nodup_cons.mp hl
    rw [each_cons]
    obtain rfl | hx := List.mem_cons.mp hx
    · exact ⟨s, hs, each_keeps g fun t z hz => hg t z (ne_of_mem_of_not_mem hz hy)⟩
    · exact ih hl hx (hP s y (ne_of_mem_of_not_mem hx hy).symm hs)

/-- The state in which the energies of the domains are reported (R200). -/
def domainsReported (s : State) (domains : List Nat) : State := s.each (upTo 43) fun s d => s.setObj 0x7001 1 d (domains.getD d 0)

theorem domainsReported_only (s : State) (domains : List Nat) : Only 8 s (domainsReported s domains) :=
  each_only (fun _ _ h => setObj_only h _ _ _ _) _ (.refl s)

theorem domainsReported_obj (hc : Canonical s) (domains : List Nat) {d : Nat} (hd : d < 43) :
    (domainsReported s domains).obj 0x7001 1 d = domains.getD d 0 :=
  obj_each_changed (g := fun d => d) (f := fun d _ => domains.getD d 0) Function.injective_id List.nodup_range
    (Canonical.objs_rising hc) (List.mem_range.mpr hd)

/-- Whether a rail's energy is above the share that applies to its stack (R204, R472). -/
abbrev OverShare (rails : List Nat) (s : State) (st : Nat) : Prop :=
  s.live' 0x7002 2 st * 100 < rails.getD st 0 ∧ (s.stack st).power ≠ .bringUp ∧ (s.stack st).shareFrom < s.time.frame

/-- The state in which one rail is reported, its stack trimmed next when the rail is over its share (R200, R204). -/
def railReported (rails : List Nat) (s : State) (st : Nat) : State :=
  if OverShare rails s st then (s.setObj 0x7002 3 st (rails.getD st 0)).modStack st fun k => { k with trimNext := 1 }
  else s.setObj 0x7002 3 st (rails.getD st 0)

theorem railReported_only (rails : List Nat) {a s : State} (h : Only 2056 a s) (st : Nat) : Only 2056 a (railReported rails s st) :=
  ite_only (modStack_only (setObj_only h _ _ _ _) _ _) (setObj_only h _ _ _ _)

theorem obj_railReported_ne {ix sub el st : Nat} (h : oKey ix sub el ≠ oKey 0x7002 3 st) (rails : List Nat) (s : State) :
    (railReported rails s st).obj ix sub el = s.obj ix sub el := by
  unfold railReported
  split <;> exact obj_setObj_ne _ h

theorem stack_railReported_ne {q st : Nat} (h : q ≠ st) (rails : List Nat) (s : State) :
    (railReported rails s st).stack q = s.stack q := by
  unfold railReported
  split
  · exact stack_modStack_ne h _
  · rfl

theorem obj_railReported (hc : Canonical s) (rails : List Nat) (st : Nat) :
    (railReported rails s st).obj 0x7002 3 st = rails.getD st 0 := by
  unfold railReported
  split <;> exact obj_setObj (Canonical.objs_rising hc) _ _ _ _

theorem railReported_trims (hc : Canonical s) {rails : List Nat} {st : Nat} (h : OverShare rails s st) :
    ((railReported rails s st).stack st).trimNext = 1 := by
  unfold railReported
  rw [if_pos h, stack_modStack ((setObj_only (m := 8) (.refl s) _ _ _ _).canon hc)]

/-- The state in which every rail is reported (R200, R204). -/
def railsReported (s : State) (rails : List Nat) : State := s.each (upTo 32) (railReported rails)

theorem railsReported_only (s : State) (rails : List Nat) : Only 2056 s (railsReported s rails) :=
  each_only (fun _ _ h => railReported_only rails h _) _ (.refl s)

theorem obj_railsReported_ne {ix sub el : Nat} (h : ∀ st, st < 32 → oKey ix sub el ≠ oKey 0x7002 3 st) (rails : List Nat) (s : State) :
    (railsReported s rails).obj ix sub el = s.obj ix sub el :=
  each_keeps (fun s => s.obj ix sub el) fun u st hst => obj_railReported_ne (h st (List.mem_range.mp hst)) rails u

theorem railsReported_obj (hc : Canonical s) (rails : List Nat) {st : Nat} (hst : st < 32) :
    (railsReported s rails).obj 0x7002 3 st = rails.getD st 0 := by
  obtain ⟨u, hu, heq⟩ := each_reaches (f := railReported rails) (Only 2056 s) (fun s => s.obj 0x7002 3 st) List.nodup_range
    (List.mem_range.mpr hst) (.refl s) (fun t y _ ht => railReported_only rails ht y)
    fun t y hy => obj_railReported_ne (by unfold oKey; omega) rails t
  exact heq.trans (obj_railReported (hu.canon hc) rails st)

/-- A stack whose rail is over its share is trimmed next, whatever was reported of the other rails. -/
theorem railsReported_trims (hc : Canonical s) {rails : List Nat} {st : Nat} (hst : st < 32) (h : OverShare rails s st) :
    ((railsReported s rails).stack st).trimNext = 1 := by
  obtain ⟨u, ⟨hu, hstack⟩, heq⟩ := each_reaches (f := railReported rails) (fun u => Only 2056 s u ∧ u.stack st = s.stack st)
    (fun s => s.stack st) List.nodup_range (List.mem_range.mpr hst) ⟨.refl s, rfl⟩
    (fun t y hy ht => ⟨railReported_only rails ht.1 y, (stack_railReported_ne hy.symm rails t).trans ht.2⟩)
    fun t y hy => stack_railReported_ne hy.symm rails t
  have hover : OverShare rails u st := by
    rwa [OverShare, hstack, State.live', hu.live_eq, hu.time_eq]
  exact (congrArg StackState.trimNext heq).trans (railReported_trims (hu.canon hc) hover)

/-- The state in which the energies of a frame are reported (R200). -/
def energiesReported (s : State) (domains rails : List Nat) : State :=
  (railsReported (domainsReported s domains) rails).setObj 0x7000 3 0 ((upTo 43).foldl (fun n d => n + domains.getD d 0) 0)

/-- Besides its reports POWER_TELEMETRY changes the rest of the allotments only (R201). -/
theorem execPowerTelemetry_eq (domains rails : List Nat) (s : State) :
    ∃ f, execPowerTelemetry domains rails s = .next ((energiesReported s domains rails).modTest f) := ⟨_, rfl⟩

theorem energiesReported_domain (hc : Canonical s) (domains rails : List Nat) {d : Nat} (hd : d < 43) :
    (energiesReported s domains rails).obj 0x7001 1 d = domains.getD d 0 := by
  unfold energiesReported
  rw [obj_setObj_ne _ (by unfold oKey; omega), obj_railsReported_ne fun st _ => by unfold oKey; omega]
  exact domainsReported_obj hc domains hd

theorem energiesReported_rail (hc : Canonical s) (domains rails : List Nat) {st : Nat} (hst : st < 32) :
    (energiesReported s domains rails).obj 0x7002 3 st = rails.getD st 0 :=
  (obj_setObj_ne _ (by unfold oKey; omega)).trans (railsReported_obj ((domainsReported_only s domains).canon hc) rails hst)

theorem energiesReported_total (hc : Canonical s) (domains rails : List Nat) :
    (energiesReported s domains rails).obj 0x7000 3 0 = (upTo 43).foldl (fun n d => n + domains.getD d 0) 0 :=
  obj_setObj (Canonical.objs_rising ((railsReported_only _ rails).canon ((domainsReported_only s domains).canon hc))) _ _ _ _

theorem energiesReported_trims (hc : Canonical s) (domains : List Nat) {rails : List Nat} {st : Nat} (hst : st < 32)
    (h : OverShare rails s st) : ((energiesReported s domains rails).stack st).trimNext = 1 := by
  have hdomains := domainsReported_only s domains
  refine railsReported_trims (hdomains.canon hc) hst ?_
  rwa [OverShare, stack_congr hdomains.stackTab_eq, State.live', hdomains.live_eq, hdomains.time_eq]

/-! ### TEMPERATURE_READ -/

/-- The decided level is the one reported (R208). -/
theorem decideLevel_level (hc : Canonical s) (st v : Nat) : (s.decideLevel st v).obj 0x7011 2 st = v := by
  unfold State.decideLevel
  extract_lets old
  split
  · assumption
  · rw [obj_logEvent (by unfold oKey; omega), obj_congr (State.modStack_objs ..), State.bump, obj_setObj_ne _ (by unfold oKey; omega),
      obj_setObj (Canonical.objs_rising hc)]

/-- A change of the level is counted (R208). -/
theorem decideLevel_changes (hc : Canonical s) (st v : Nat) :
    (s.decideLevel st v).obj 0x7011 3 st = s.obj 0x7011 3 st + if s.obj 0x7011 2 st = v then 0 else 1 := by
  have hset : Canonical (s.setObj 0x7011 2 st v) := (setObj_only (m := 8) (.refl s) _ _ _ _).canon hc
  unfold State.decideLevel
  extract_lets old
  split
  · rfl
  · rw [obj_logEvent (by unfold oKey; omega), obj_congr (State.modStack_objs ..), State.bump, obj_setObj (Canonical.objs_rising hset),
      obj_setObj_ne _ (by unfold oKey; omega)]

theorem obj_decideLevel_ne {ix sub el st : Nat} (hlog : oKey 0x1302 0 0 ≤ oKey ix sub el) (hlevel : oKey ix sub el ≠ oKey 0x7011 2 st)
    (hchanges : oKey ix sub el ≠ oKey 0x7011 3 st) (v : Nat) : (s.decideLevel st v).obj ix sub el = s.obj ix sub el := by
  unfold State.decideLevel
  extract_lets old
  split
  · rfl
  · rw [obj_logEvent hlog, obj_congr (State.modStack_objs ..), State.bump, obj_setObj_ne _ hchanges, obj_setObj_ne _ hlevel]

theorem decideLevel_fails (hc : Canonical s) (st v : Nat) : ((s.decideLevel st v).stack st).fails = (s.stack st).fails := by
  have hcounted := (bump_only (m := 8) (setObj_only (.refl s) 0x7011 2 st v) 0x7011 3 st 1).canon hc
  unfold State.decideLevel
  extract_lets old
  split
  · rfl
  · rw [stack_congr (logEvent_only (m := 12) (.refl _) _ _ _ _ _ _).stackTab_eq, stack_modStack hcounted]
    rfl

/-- The state in which a good reading is reported and its stack has the level it decides (R205, R208). -/
def readingTaken (s : State) (st : Nat) (c : Int) : State :=
  (s.setObj 0x7011 1 st (ofInt 32 c)).modStack st fun k =>
    { k with fails := 0, forced := false, everRead := true, heat := s.nextLevel st c }

theorem readingTaken_canonical (hc : Canonical s) (st : Nat) (c : Int) : Canonical (readingTaken s st c) :=
  (modStack_only (m := 2056) (setObj_only (.refl s) _ _ _ _) _ _).canon hc

theorem readingTaken_fails (hc : Canonical s) (st : Nat) (c : Int) : ((readingTaken s st c).stack st).fails = 0 := by
  unfold readingTaken
  rw [stack_modStack ((setObj_only (m := 8) (.refl s) _ _ _ _).canon hc)]

theorem readingTaken_temperature (hc : Canonical s) (st : Nat) (c : Int) : (readingTaken s st c).obj 0x7011 1 st = ofInt 32 c :=
  obj_setObj (Canonical.objs_rising hc) _ _ _ _

theorem obj_readingTaken_ne {ix sub el st : Nat} (h : oKey ix sub el ≠ oKey 0x7011 1 st) (c : Int) :
    (readingTaken s st c).obj ix sub el = s.obj ix sub el := obj_setObj_ne _ h

section Powered

variable {stack : Fin 32} (hpower : (s.stack stack.val).power = .service)

include hpower

theorem sensor_read_of_service : ((s.stack stack.val).power == .off || (s.stack stack.val).power == .gated ||
    (s.stack stack.val).power == .waking 0) = false := by
  rw [hpower]
  rfl

theorem execTemperatureRead_good {c : Int} (hlo : -320 ≤ c) (hhi : c ≤ 1200) : execTemperatureRead stack (some c) s =
    .next ((readingTaken s stack.val c).decideLevel stack.val (s.nextLevel stack.val c)) := by
  have hgood : (some c).filter (fun t => decide (-320 ≤ t) && decide (t ≤ 1200)) = some c := by
    simp [Option.filter, hlo, hhi]
  unfold execTemperatureRead
  extract_lets st k
  rw [if_neg (Bool.eq_false_iff.mp (sensor_read_of_service hpower)), hgood]
  rfl

/-- A read that fails, or whose value is out of range, is counted, whether or not it is the third in a row (R205). -/
theorem execTemperatureRead_failed (hc : Canonical s) {reading : Option Int}
    (hbad : ∀ c, reading = some c → -320 ≤ c → ¬ c ≤ 1200) :
    ∃ t, execTemperatureRead stack reading s = .next t ∧ t.obj 0x7011 4 stack.val = s.obj 0x7011 4 stack.val + 1 := by
  have hnone : reading.filter (fun t => decide (-320 ≤ t) && decide (t ≤ 1200)) = none := by
    simpa [Option.filter_eq_none_iff] using hbad
  unfold execTemperatureRead
  extract_lets st k third s1 v s2
  rw [if_neg (Bool.eq_false_iff.mp (sensor_read_of_service hpower)), hnone]
  have hcounted : s1.obj 0x7011 4 st = s.obj 0x7011 4 st + 1 := obj_setObj (Canonical.objs_rising hc) _ _ _ _
  have hdecided : s2.obj 0x7011 4 st = s.obj 0x7011 4 st + 1 :=
    (obj_decideLevel_ne (by unfold oKey; omega) (by unfold oKey; omega) (by unfold oKey; omega) v).trans hcounted
  dsimp only
  split
  · exact ⟨_, rfl, (obj_logEvent (by unfold oKey; omega) _ _ _ _ _ _).trans hdecided⟩
  · exact ⟨_, rfl, hdecided⟩

end Powered

/-! ### STACK_T4_GATE -/

theorem gateStack_readiness (s : State) (st : Nat) : (s.gateStack st).readiness st = 3 := readiness_setReady (by decide) st

theorem gateStack_power (hc : Canonical s) (st : Nat) : ((s.gateStack st).stack st).power = .gated := by
  have hleft : Canonical (s.abandonOn st 2 fun _ => true) := (abandonOn_only (m := 663884) (.refl s) _ _ _).canon hc
  unfold State.gateStack
  extract_lets s1
  rw [stack_congr (setReady_only (m := 14) (setObj_only (.refl s1) _ _ _ _) _ _).stackTab_eq, stack_modStack hleft]

/-- The state in which the Gaffer has gated a stack (R210). -/
def gatedByGaffer (s : State) (st : Nat) : State :=
  ((s.gateStack st).modStack st fun k => { k with byGaffer := true, t4Since := none, t4Done := false }).logEvent 4 3 st

theorem execStackT4Gate_gates {stack : Fin 32} {f : Nat} (hsince : (s.stack stack.val).t4Since = some f)
    (hlong : f + 100000 ≤ s.time.frame) (hpower : (s.stack stack.val).power = .entering) (hasleep : s.notAsleep stack.val = []) :
    execStackT4Gate stack s = .next (gatedByGaffer s stack.val) := by
  unfold execStackT4Gate
  extract_lets st
  rw [show (s.stack st).t4Since = some f from hsince]
  exact if_neg (by simp [st, hpower, hasleep, hlong])

theorem gatedByGaffer_stack (hc : Canonical s) (st : Nat) : ((gatedByGaffer s st).stack st).power = .gated ∧
    ((gatedByGaffer s st).stack st).byGaffer = true := by
  unfold gatedByGaffer
  rw [stack_congr (logEvent_only (m := 12) (.refl _) _ _ _ _ _ _).stackTab_eq,
    stack_modStack ((gateStack_only (m := 665934) (.refl s) st).canon hc)]
  exact ⟨gateStack_power hc st, rfl⟩

theorem gatedByGaffer_readiness (s : State) (st : Nat) : (gatedByGaffer s st).readiness st = 3 :=
  (readiness_congr (s := s.gateStack st) (logEvent_only (m := 2060) (modStack_only (.refl _) _ _) _ _ _ _ _ _).block_eq st).trans
    (gateStack_readiness s st)

/-! ### THERMAL_SLIP_RECORD -/

theorem shot?_congr (h : t.shot = s.shot) (id : Nat) : t.shot? id = s.shot? id := by
  unfold State.shot?
  rw [h]

/-- A shot whose run has ended, the record of which leaves in a frame (R214). -/
def runEnded (frame : Nat) (x : Shot) : Shot :=
  { x with slipFrame := some frame, runSince := if x.affected then x.runSince else none }

theorem execThermalSlipRecord_ends {shot : BitVec 16} {x : Shot} {r : Nat} (hx : s.shot? shot.toNat = some x)
    (hrun : x.runSince = some r) (htails : ∀ y ∈ s.shot.tails, y.id ≠ shot.toNat) (hcool : x.affected = false)
    (hnew : x.slipFrame ≠ some s.time.frame) :
    execThermalSlipRecord shot s = .next ((s.modShot shot.toNat (runEnded s.time.frame)).slipLast x) := by
  have hid : x.id = shot.toNat := by simpa using List.find?_some hx
  have hnone : (s.shot.tails.find? fun y => y.id == shot.toNat) = none := by simpa using htails
  unfold execThermalSlipRecord
  simp only [hnone, hx, hrun, hcool, hnew, hid, Bool.not_false, Bool.true_or, Bool.not_true, Bool.false_or, beq_iff_eq,
    Bool.false_eq_true, if_false]
  rfl

/-- To a group other than 0 the last record of a run is sent and counted (R214). -/
theorem slipLast_sends (hc : Canonical s) {x : Shot} (h : slGroup x.slate.toNat ≠ 0) :
    (s.slipLast x).obj 0x7013 1 0 = s.obj 0x7013 1 0 + 1 ∧
      (s.slipLast x).entry.results.length = s.entry.results.length + 1 := by
  unfold State.slipLast State.slipRecord
  extract_lets z
  rw [if_neg h]
  exact ⟨obj_count (s := z.2.sendRecord _ _ _) (Canonical.objs_rising hc) _ _, List.length_append⟩

/-- Settles O54: each command's outcome is a state named above (`gateSettled`, `domainWoken`, `energiesReported`, `readingTaken`
with its decided level, `gatedByGaffer`, `runEnded` with its last record), whose reports are read back. -/
theorem powerAndHeatCommands : Obligations.PowerAndHeatCommands := by
  refine ⟨fun rq n domain v s hc h hlo hhi hv => ?_, fun domain s hc hlo hhi hwaking htested => ?_, fun domains rails s hc => ?_,
    fun stack reading s hc hpower => ?_, fun stack s f hc hsince hlong hpower hasleep => ?_,
    fun shot s x r hc hx hrun htails hcool hnew => ?_⟩
  · cases hheld : v.toNat == 1 && s.gateHeld domain.val with
    | true =>
      obtain ⟨hone, hneeded⟩ := Bool.and_eq_true_iff.mp hheld
      have hv1 : v.toNat = 1 := beq_iff_eq.mp hone
      refine ⟨_, execDomainGateRequest_refuses h hlo hhi hv hheld, fun _ _ =>
        ⟨(refuse_only (m := 4194316) (.refl (noted s n.val)) _ _ _ _ _ _).test_eq, (silent_noted s n.val).refuses _ _ _ _ _ _⟩,
        fun _ hfree => ?_, fun hv0 => by omega⟩
      exact absurd (hneeded.symm.trans hfree) (by decide)
    | false =>
      obtain ⟨hqueue, hobj, hanswers⟩ := gateSettled_answered hc rq n.val domain.val v.toNat n.val rfl
      refine ⟨_, execDomainGateRequest_accepts h hlo hhi hv hheld, fun hv1 hneeded => ?_, fun hv1 _ hready => ?_, fun hv0 => ?_⟩
      · simp [hv1, hneeded] at hheld
      · rw [hv1] at hqueue hobj hanswers ⊢
        exact ⟨hqueue ▸ mem_gateQueue_one hready _, hobj, hanswers⟩
      · rw [hv0] at hqueue hobj hanswers ⊢
        exact ⟨hqueue ▸ not_mem_gateQueue_zero s _ _, hobj, hanswers⟩
  · exact ⟨_, execDomainWakeComplete_wakes hlo hhi hwaking htested, domainWoken_readiness s _, domainWoken_request hc _⟩
  · obtain ⟨f, hexec⟩ := execPowerTelemetry_eq domains rails s
    exact ⟨_, hexec, fun d hd => energiesReported_domain hc domains rails hd, fun st hst => energiesReported_rail hc domains rails hst,
      energiesReported_total hc domains rails, fun st hst hover hup hfrom =>
        energiesReported_trims hc domains hst ⟨hover, hup, hfrom⟩⟩
  · by_cases hgood : ∃ c, reading = some c ∧ -320 ≤ c ∧ c ≤ 1200
    · obtain ⟨c, rfl, hlo, hhi⟩ := hgood
      have htaken := readingTaken_canonical hc stack.val c
      refine ⟨_, execTemperatureRead_good hpower hlo hhi, ?_, fun hnone => nomatch hnone⟩
      rintro _ ⟨⟩ - -
      refine ⟨?_, (decideLevel_fails htaken _ _).trans (readingTaken_fails hc _ _), decideLevel_level htaken _ _, ?_⟩
      · rw [obj_decideLevel_ne (by unfold oKey; omega) (by unfold oKey; omega) (by unfold oKey; omega), readingTaken_temperature hc]
      · rw [decideLevel_changes htaken, obj_readingTaken_ne (by unfold oKey; omega), obj_readingTaken_ne (by unfold oKey; omega)]
    · have hbad : ∀ c, reading = some c → -320 ≤ c → ¬ c ≤ 1200 := fun c hr hlo hhi => hgood ⟨c, hr, hlo, hhi⟩
      obtain ⟨t, hexec, hcount⟩ := execTemperatureRead_failed hpower hc hbad
      exact ⟨t, hexec, fun c hr hlo hhi => absurd hhi (hbad c hr hlo), fun _ => hcount⟩
  · obtain ⟨hgated, hgaffer⟩ := gatedByGaffer_stack hc stack.val
    exact ⟨_, execStackT4Gate_gates hsince hlong hpower hasleep, hgated, hgaffer, gatedByGaffer_readiness s _⟩
  · have hended := shot?_modShot (f := runEnded s.time.frame) hx fun _ hy => hy
    refine ⟨_, execThermalSlipRecord_ends hx hrun htails hcool hnew, ?_,
      slipLast_sends ((modShot_only (m := 16384) (.refl s) _ _).canon hc)⟩
    rw [shot?_congr (slipLast_only (m := 2129928) (.refl _) x).shot_eq, hended, runEnded, hcool]
    rfl

end Sys2Proof.Laws

/-! Slices: a partition that takes effect, the loss of a slice, and the return of a slice's entry (R219, R221, R235, R236, R397). -/

namespace Sys2Proof.Laws

-- theorems one after another: many at once would ask for too many threads
set_option Elab.async false

open Sys2Proof.Machine Sys2Proof.Safety

variable {s t : State}

/-! ### Objects that the end of a shot leaves alone -/

section Between

variable {ix sub el : Nat} (hlo : oKey 0x3001 4 0 < oKey ix sub el) (hhi : oKey ix sub el < oKey 0x5000 0 0)

include hlo hhi

/-- A sector that leaves its write-back buffer counts in 0x3001.04 and on programmable counters only (R223, R238). -/
theorem obj_wbSector (slice region a i : Nat) : (s.wbSector slice region a i).obj ix sub el = s.obj ix sub el := by
  unfold State.wbSector
  split
  · rfl
  · extract_lets d
    split
    · rw [obj_tallyBlock (by unfold oKey at hhi ⊢; omega)]
      exact obj_count_ne hlo.ne'
    · rfl

omit hlo in
/-- A record of the capture ring that is visible changes objects of the ring only (R351, R352). -/
theorem obj_capStep : s.capStep.obj ix sub el = s.obj ix sub el := by
  have hne (u : State) (jx tub v : Nat) (h : 0x5900 ≤ jx) : (u.setObj jx tub 0 v).obj ix sub el = u.obj ix sub el :=
    obj_setObj_ne v (by unfold oKey at hhi ⊢; omega)
  unfold State.capStep
  extract_lets w wi s1
  have h1 : s1.obj ix sub el = s.obj ix sub el := (hne _ _ _ _ (by decide)).trans (hne _ _ _ _ (by decide))
  split
  · exact (hne _ _ _ _ (by decide)).trans h1
  · exact h1

theorem obj_settle (id : Nat) (c : RspCode) (d : Detail) : (s.settle id c d).obj ix sub el = s.obj ix sub el := by
  unfold State.settle
  split
  · rfl
  · extract_lets gone
    split
    · split
      · exact each_keeps (s := gone) (fun s => s.obj ix sub el) fun _ _ _ => obj_capStep hhi
      · rfl
    · exact obj_wbSector (s := gone) hlo hhi _ _ _ _
    · rfl

theorem obj_answerHeldOn (lost : Bool) (r : Req) : (s.answerHeldOn lost r).obj ix sub el = s.obj ix sub el := by
  unfold State.answerHeldOn
  extract_lets off
  split_ifs
  · exact obj_settle hlo hhi _ _ _
  · rfl
  · rfl
  · exact obj_settle hlo hhi _ _ _

theorem obj_dropFill (f : Fill) (lost : Bool) : (s.dropFill f lost).obj ix sub el = s.obj ix sub el := by
  unfold State.dropFill
  extract_lets s1
  refine (each_keeps (s := s1) (fun s => s.obj ix sub el) fun u r _ => ?_).trans rfl
  split
  · exact obj_answerHeldOn hlo hhi _ _
  · rfl

theorem obj_dropShotWork (id : Nat) : (s.dropShotWork id).obj ix sub el = s.obj ix sub el := by
  unfold State.dropShotWork
  extract_lets mine ids s1 entry s2
  have h1 : Only 4096 s s1 := when_only (fun _ h => eachPc_only h _) (.refl s)
  exact (each_keeps (s := s2) (fun s => s.obj ix sub el) fun _ _ _ => obj_dropFill hlo hhi _ _).trans (obj_congr h1.objs_eq ..)

theorem obj_abortTell (w : Nat) (o : Origin) (cause detail done slipped : Nat) :
    (s.abortTell w o cause detail done slipped).obj ix sub el = s.obj ix sub el := by
  unfold State.abortTell State.abortEvent
  extract_lets s1 s2 s3
  have h3 : Only 49920 s s3 := by
    have h2 : Only 49920 s s2 := sendReply_only (modCtx_only (.refl s) _ _) _ _ _ _ _
    exact ite_only h2 (sendRecord_only h2 _ _ _)
  rw [obj_tallyBlock (by unfold oKey at hhi ⊢; omega), State.bump, obj_setObj_ne _ (by unfold oKey at hhi ⊢; omega),
    obj_logEvent (by unfold oKey at hlo ⊢; omega), obj_congr h3.objs_eq]

theorem obj_abortShot (x : Shot) (cause detail : Nat) : (s.abortShot x cause detail).obj ix sub el = s.obj ix sub el := by
  unfold State.abortShot
  extract_lets s1
  rw [obj_abortTell hlo hhi]
  exact obj_dropShotWork hlo hhi x.id

omit hlo in
theorem obj_commitShot (x : Shot) : (s.commitShot x).obj ix sub el = s.obj ix sub el := by
  unfold State.commitShot
  extract_lets w f s1 s2 s3 s4 s5
  have h4 : Only 58112 s s4 := by
    have h1 : Only 58112 s s1 := sendReply_only (.refl s) _ _ _ _ _
    have h2 : Only 58112 s s2 := ite_only h1 (sendRecord_only h1 _ _ _)
    exact modCtx_only (freeUnits_only (modShotS_only (engDone_only h2 _) _) _) _ _
  have h5 : s5.obj ix sub el = s4.obj ix sub el := by
    unfold s5
    split
    · exact obj_setObj_ne _ (by unfold oKey at hhi ⊢; omega)
    · rfl
  rw [obj_tallyBlock (by unfold oKey at hhi ⊢; omega), obj_count_ne (by unfold oKey at hhi ⊢; omega), h5, obj_congr h4.objs_eq]

theorem obj_loftAbort (x : Shot) (slice : Nat) : (s.loftAbort x slice).obj ix sub el = s.obj ix sub el := by
  unfold State.loftAbort
  split
  · exact obj_commitShot hhi x
  · exact obj_abortShot hlo hhi x 4 slice

theorem obj_captureOff (cause : Nat) : (s.captureOff cause).obj ix sub el = s.obj ix sub el := by
  unfold State.captureOff
  extract_lets w
  split
  · rfl
  · exact (obj_logEvent (by unfold oKey at hlo ⊢; omega) _ _ _ _ _ _).trans
      (obj_setObj_ne (s := s.capForget) (w - crPlace w) (by unfold oKey at hhi ⊢; omega))

end Between

/-! ### PARTITION_CHANGE_EFFECT -/

/-- The slice map's objects lie behind those of the partitions (R221). -/
theorem obj_settleMap_below {ix sub el : Nat} (h : oKey ix sub el < oKey 0x3001 1 0) : s.settleMap.obj ix sub el = s.obj ix sub el := by
  refine each_keeps (fun s => s.obj ix sub el) fun u i _ => each_keeps (fun s => s.obj ix sub el) fun v g _ => ?_
  split
  · exact obj_setObj_ne _ (by unfold oKey at h ⊢; omega)
  · rfl

/-- The ways that a quadrant's change takes hold nothing, and no change of it is pending (R219). -/
def waysEmptied (s : State) (q w : Nat) : State :=
  s.modLoft fun x =>
    { x with
      lines := x.lines.filter fun (p : Nat × LoftLine) => !wayTaken q w p.1
      partReady := x.partReady.erase q
      partNext := Map.put none none q x.partNext }

/-- The state in which a quadrant's new partition is in force (R219). -/
def partitionChanged (s : State) (q w : Nat) : State :=
  (((((waysEmptied s q w).renumber q (partCache (s.obj 0x3000 1 q)) (partCache w)).setNow 0x3000 1 q w).setObj 0x3000 2 q 0)).settleMap

theorem execPartitionChangeEffect_changes {q : Fin 4} {w : Nat} (hnext : Map.look none q.val s.loft.partNext = some w)
    (hready : q.val ∈ s.loft.partReady) (hclean : s.waysClean q.val w = true) :
    execPartitionChangeEffect q s = .next (partitionChanged s q.val w) := by
  unfold execPartitionChangeEffect
  simp only [hnext]
  rw [if_neg (by simp [hready, hclean])]
  rfl

theorem wayTaken_iff {q w key : Nat} : wayTaken q w key = true ↔ key / 131072 / 16 = q ∧ partCache w ≤ key % 16 := by
  simp [wayTaken]

theorem waysClean_of_lines {q w : Nat}
    (h : ∀ p ∈ s.loft.lines, p.1 / 131072 / 16 = q → partCache w ≤ p.1 % 16 → p.2.dirty = 0 ∧ p.2.busy = false) :
    s.waysClean q w = true := by
  unfold State.waysClean
  simp only [Bool.not_eq_true', List.any_eq_false, Bool.and_eq_true, wayTaken_iff]
  rintro p hp ⟨⟨hq, hw⟩, hheld⟩
  obtain ⟨hd, hb⟩ := h p hp hq hw
  simp [hd, hb] at hheld

/-- Scratch places that are numbered anew are no part of the cache (R226). -/
theorem renumber_cache (s : State) (q old new : Nat) :
    (s.renumber q old new).loft.lines = s.loft.lines ∧ (s.renumber q old new).loft.partNext = s.loft.partNext := by
  unfold State.renumber
  extract_lets place line
  split <;> exact ⟨rfl, rfl⟩

theorem partitionChanged_cache (s : State) (q w : Nat) :
    (partitionChanged s q w).loft.lines = s.loft.lines.filter (fun p => !wayTaken q w p.1) ∧
      (partitionChanged s q w).loft.partNext = Map.put none none q s.loft.partNext := by
  unfold partitionChanged
  rw [(settleMap_only (m := 8) (.refl _)).loft_eq]
  exact renumber_cache (waysEmptied s q w) q _ _

theorem partitionChanged_objs (hc : Canonical s) {q : Nat} (hq : q < 4) (w : Nat) :
    (partitionChanged s q w).obj 0x3000 1 q = w ∧ (partitionChanged s q w).obj 0x3000 2 q = 0 := by
  have hplaced : Canonical ((waysEmptied s q w).renumber q (partCache (s.obj 0x3000 1 q)) (partCache w)) :=
    (renumber_only (m := 8192) (modLoft_only (.refl s) _) _ _ _).canon hc
  have hset := (setNow_only (m := 24) (.refl _) 0x3000 1 q w).canon hplaced
  unfold partitionChanged
  constructor
  · rw [obj_settleMap_below (by unfold oKey; omega), obj_setObj_ne _ (by unfold oKey; omega)]
    exact obj_setObj (Canonical.objs_rising hplaced) _ _ _ _
  · rw [obj_settleMap_below (by unfold oKey; omega), obj_setObj (Canonical.objs_rising hset)]

/-! ### SLICE_FAIL -/

/-- The shots with space on a slice have ended (R235, R250). -/
def loftShotsEnded (s : State) (i : Nat) : State :=
  s.each (s.shot.shots.filter fun x => unitsIn x.units i != 0 || x.backed == some i) fun s x => s.loftAbort x i

/-- The filter sets with space on a slice are damaged, and the shots that use them have ended (R235, R328). -/
def loftSetsLost (s : State) (i : Nat) : State :=
  s.each (s.shot.table.filter fun (x : Nat × TableSlot) => unitsIn x.2.units i + unitsIn x.2.unitsOld i != 0) fun s x =>
    (s.damageSet x.1 i).each ((s.damageSet x.1 i).shot.shots.filter fun y => y.abort == some (4, i)) fun s y => s.loftAbort y i

/-- A slice declared failed holds no more than lines to be written back (R235, R236). -/
def sliceEmptied (s : State) (i : Nat) (tags : Bool) : State :=
  (if tags then s.tagsGone i else s.unfetch fun k => k / 131072 == i).modLoft fun x =>
    { x with lines := x.lines.filter fun (p : Nat × LoftLine) => !(p.1 / 131072 == i && p.2.dirty == 0), evac := x.evac ++ [i] }

/-- The scratch lines of a slice are lost and counted (R235). -/
def scratchLost (s : State) (i : Nat) : State :=
  (s.modLoft fun x => { x with lostLines := x.lostLines ++ s.scratchOn i }).bump 0x3005 2 0 (s.scratchOn i).length

/-- The state in which the declaration of a failed slice has taken effect up to its capture ring (R235). -/
def sliceFailed (s : State) (i : Nat) (tags : Bool) : State :=
  let declared := (s.modLoft fun x => { x with failNext := x.failNext.filter fun f => f.1 != i }).setObj 0x3005 1 i 1
  (scratchLost (sliceEmptied (loftSetsLost (loftShotsEnded declared i) i) i tags) i).moveEntries i

theorem execSliceFail_fails {slice : Fin 64} {f : Nat × Bool} (hf : s.loft.failNext.find? (fun f => f.1 == slice.val) = some f)
    (lost : Bool) :
    let u := sliceFailed s slice.val (f.2 || lost)
    execSliceFail slice lost s = .next (if unitsIn u.packet.capUnits slice.val != 0 then u.captureOff 1 else u) := by
  unfold execSliceFail
  simp only [hf]
  rfl

theorem loftShotsEnded_keeps {i j : Nat} (hj : j < 64) (s : State) : (loftShotsEnded s i).obj 0x3005 1 j = s.obj 0x3005 1 j :=
  each_keeps (fun s => s.obj 0x3005 1 j) fun _ _ _ => obj_loftAbort (by unfold oKey; omega) (by unfold oKey; omega) _ _

theorem loftSetsLost_keeps {i j : Nat} (hj : j < 64) (s : State) : (loftSetsLost s i).obj 0x3005 1 j = s.obj 0x3005 1 j := by
  refine each_keeps (fun s => s.obj 0x3005 1 j) fun u x _ => ?_
  refine (each_keeps (s := u.damageSet x.1 i) (fun s => s.obj 0x3005 1 j) fun _ _ _ =>
    obj_loftAbort (by unfold oKey; omega) (by unfold oKey; omega) _ _).trans ?_
  exact obj_congr (damageSet_only (m := 16384) (.refl u) _ _).objs_eq ..

theorem sliceEmptied_only (s : State) (i : Nat) (tags : Bool) : Only 8512 s (sliceEmptied s i tags) :=
  modLoft_only (ite_only (tagsGone_only (.refl s) _) (unfetch_only (.refl s) _)) _

/-- A failed slice reads 1 (R235). -/
theorem sliceFailed_state (hc : Canonical s) {i : Nat} (hi : i < 64) (tags : Bool) : (sliceFailed s i tags).obj 0x3005 1 i = 1 := by
  unfold sliceFailed scratchLost
  extract_lets declared
  rw [obj_moveEntries (by unfold oKey; omega), State.bump, obj_setObj_ne _ (by unfold oKey; omega)]
  calc (sliceEmptied (loftSetsLost (loftShotsEnded declared i) i) i tags).obj 0x3005 1 i
      = (loftSetsLost (loftShotsEnded declared i) i).obj 0x3005 1 i := obj_congr (sliceEmptied_only ..).objs_eq ..
    _ = declared.obj 0x3005 1 i := (loftSetsLost_keeps hi _).trans (loftShotsEnded_keeps hi _)
    _ = 1 := obj_setObj (s := s.modLoft _) (Canonical.objs_rising hc) _ _ _ _

/-- It is being emptied, and every line that it still holds is dirty (R235). -/
theorem sliceFailed_loft (s : State) (i : Nat) (tags : Bool) :
    i ∈ (sliceFailed s i tags).loft.evac ∧ ∀ p ∈ (sliceFailed s i tags).loft.lines, p.1 / 131072 = i → p.2.dirty ≠ 0 := by
  unfold sliceFailed
  extract_lets declared
  rw [(moveEntries_only (m := 8) (.refl _) i).loft_eq]
  refine ⟨List.mem_append_right _ (List.mem_singleton_self i), fun p hp hslice hclean => ?_⟩
  have hkept := (List.mem_filter.mp hp).2
  simp [hslice, hclean] at hkept

theorem captureOff_cache (s : State) (cause : Nat) :
    (s.captureOff cause).loft.lines = s.loft.lines ∧ (s.captureOff cause).loft.evac = s.loft.evac := by
  unfold State.captureOff
  extract_lets w
  split
  · exact ⟨rfl, rfl⟩
  · rw [(logEvent_only (m := 12) (.refl _) _ _ _ _ _ _).loft_eq]
    exact ⟨rfl, rfl⟩

/-! ### SLICE_FENCE -/

/-- A failed slice holds nothing more, and nothing of it is left to do (R235). -/
def sliceCleared (s : State) (i : Nat) : State :=
  s.modLoft fun x =>
    { x with
      evac := x.evac.erase i, lines := x.lines.filter fun (p : Nat × LoftLine) => p.1 / 131072 != i
      remaps := x.remaps.filter fun r => r.1 != i, corrected := x.corrected.filter fun r => r.1 != i
      rewrites := x.rewrites.filter fun w => w.slice != i, zeroing := x.zeroing.filter fun z => z.1 != i }

/-- The state in which a failed slice is fenced (R235, R397). -/
def sliceFenced (s : State) (i : Nat) : State := ((sliceCleared s i).setObj 0x3005 1 i 2).fenceUnit (unitSlice i)

theorem execSliceFence_fences {slice : Fin 64} (hevac : slice.val ∈ s.loft.evac) (hwbs : ∀ w ∈ s.loft.wbs, w.slice ≠ slice.val)
    (hlines : ∀ p ∈ s.loft.lines, p.1 / 131072 = slice.val → p.2.dirty = 0 ∧ p.2.busy = false) :
    execSliceFence slice s = .next (sliceFenced s slice.val) := by
  have hwb : s.loft.wbs.any (fun w => w.slice == slice.val) = false := by simpa using hwbs
  have hline : (s.loft.lines.any fun p => p.1 / 131072 == slice.val && (p.2.dirty != 0 || p.2.busy)) = false := by
    rw [List.any_eq_false]
    intro p hp hheld
    simp only [Bool.and_eq_true, beq_iff_eq] at hheld
    obtain ⟨hslice, hheld⟩ := hheld
    obtain ⟨hd, hb⟩ := hlines p hp hslice
    simp [hd, hb] at hheld
  unfold execSliceFence
  extract_lets i left
  have hleft : left = false := by simp only [left, i, hwb, hline, Bool.or_self]
  rw [if_neg (by simp [hleft, i, hevac])]
  rfl

/-- A fenced unit has a new generation and is out of service (R397). -/
theorem fenceUnit_objs (h : Map.rising s.objs = true) (u : Nat) :
    (s.fenceUnit u).obj 0x6040 5 u = 1 ∧ (s.fenceUnit u).obj 0x6040 1 u = (s.obj 0x6040 1 u + 1) % 65536 :=
  ⟨obj_setObj (Map.put_rising h) _ _ _ _, (obj_setObj_ne _ (by unfold oKey; omega)).trans (obj_setObj h _ _ _ _)⟩

/-- Fencing changes two objects of its unit only (R397). -/
theorem obj_fenceUnit_below {ix sub el : Nat} (h : oKey ix sub el < oKey 0x6040 1 0) (u : Nat) :
    (s.fenceUnit u).obj ix sub el = s.obj ix sub el :=
  (obj_setObj_ne _ (by unfold oKey at h ⊢; omega)).trans (obj_setObj_ne _ (by unfold oKey at h ⊢; omega))

theorem sliceFenced_objs (hc : Canonical s) {i : Nat} (hi : i < 64) :
    (sliceFenced s i).obj 0x3005 1 i = 2 ∧ (sliceFenced s i).obj 0x6040 5 (unitSlice i) = 1 ∧
      (sliceFenced s i).obj 0x6040 1 (unitSlice i) = (s.obj 0x6040 1 (unitSlice i) + 1) % 65536 := by
  have hcleared : Map.rising (sliceCleared s i).objs = true := Canonical.objs_rising hc
  obtain ⟨hstate, hgen⟩ := fenceUnit_objs (s := (sliceCleared s i).setObj 0x3005 1 i 2) (Map.put_rising hcleared) (unitSlice i)
  refine ⟨(obj_fenceUnit_below (by unfold oKey; omega) _).trans (obj_setObj hcleared _ _ _ _), hstate, hgen.trans ?_⟩
  rw [obj_setObj_ne _ (by unfold oKey; omega)]
  rfl

/-! ### SLICE_MAP_RETURN -/

/-- The lines of an entry that an interim slice holds (R221). -/
def interimLine (g j : Nat) (p : Nat × LoftLine) : Bool := p.1 / 131072 == j && sliceEntry p.2.a == g

/-- Whether an interim slice still holds lines of an entry that are dirty or fetched (R221). -/
def interimHeld (s : State) (g j : Nat) : Bool := s.loft.lines.any fun p => interimLine g j p && (p.2.dirty != 0 || p.2.busy)

theorem interimHeld_iff {g j : Nat} :
    interimHeld s g j = true ↔
      ∃ p ∈ s.loft.lines, p.1 / 131072 = j ∧ sliceEntry p.2.a = g ∧ (p.2.dirty ≠ 0 ∨ p.2.busy = true) := by
  simp [interimHeld, interimLine, and_assoc]

section Return

variable {slice : Fin 64} (haway : s.obj 0x3001 1 slice.val ≠ slice.val) (hok : s.eligible slice.val = true)

include haway hok

theorem execSliceMapReturn_marks (hheld : interimHeld s slice.val (s.obj 0x3001 1 slice.val) = true) :
    execSliceMapReturn slice s = .next (s.modLoft fun x =>
      { x with
        moves := if x.moves.contains (slice.val, s.obj 0x3001 1 slice.val) then x.moves
          else x.moves ++ [(slice.val, s.obj 0x3001 1 slice.val)] }) := by
  unfold execSliceMapReturn
  extract_lets g j mine
  rw [if_neg (by simp [g, j, haway, hok])]
  exact if_pos hheld

theorem execSliceMapReturn_returns (hfree : interimHeld s slice.val (s.obj 0x3001 1 slice.val) = false) :
    execSliceMapReturn slice s = .next ((s.modLoft fun x =>
      { x with
        moves := x.moves.filter fun m => m.1 != slice.val
        lines := x.lines.filter fun p => !interimLine slice.val (s.obj 0x3001 1 slice.val) p }).setObj 0x3001 1 slice.val slice.val) := by
  unfold execSliceMapReturn
  extract_lets g j mine
  rw [if_neg (by simp [g, j, haway, hok])]
  exact if_neg (Bool.eq_false_iff.mp hfree)

end Return

/-- Settles O35: each command leaves the state named above (`partitionChanged`, `sliceFailed`, `sliceFenced`, an entry marked or
returned), whose objects and lines are read back. -/
theorem slicesPartitionFailAndReturn : Obligations.SlicesPartitionFailAndReturn := by
  refine ⟨fun q w s hc hnext hready hclean => ?_, fun slice lost s hc ⟨f, hf, hslice⟩ => ?_, fun slice s hc hevac hwbs hlines => ?_,
    fun slice s hc haway hok => ?_⟩
  · obtain ⟨hlines, hpending⟩ := partitionChanged_cache s q.val w
    obtain ⟨hword, hzero⟩ := partitionChanged_objs hc q.isLt w
    refine ⟨_, execPartitionChangeEffect_changes hnext hready (waysClean_of_lines hclean), hword, hzero, hpending, fun p hp => ?_,
      fun p hp hkept => ?_⟩
    · rw [hlines] at hp
      obtain ⟨hmem, hout⟩ := List.mem_filter.mp hp
      exact ⟨hmem, fun htaken => by simp [wayTaken_iff.mpr htaken] at hout⟩
    · rw [hlines]
      exact List.mem_filter.mpr ⟨hp, by simpa using fun htaken => hkept (wayTaken_iff.mp htaken)⟩
  · have hsome := (List.find?_isSome (p := fun f => f.1 == slice.val)).mpr ⟨f, hf, beq_iff_eq.mpr hslice⟩
    obtain ⟨f', hfound⟩ := Option.isSome_iff_exists.mp hsome
    have hstate := sliceFailed_state hc slice.isLt (f'.2 || lost)
    have hloft := sliceFailed_loft s slice.val (f'.2 || lost)
    refine ⟨_, execSliceFail_fails hfound lost, ?_⟩
    split
    · obtain ⟨hlines, hevac⟩ := captureOff_cache (sliceFailed s slice.val (f'.2 || lost)) 1
      rw [hlines, hevac]
      exact ⟨(obj_captureOff (by unfold oKey; omega) (by unfold oKey; omega) 1).trans hstate, hloft⟩
    · exact ⟨hstate, hloft⟩
  · obtain ⟨hfailed, hfenced, hgen⟩ := sliceFenced_objs hc slice.isLt
    refine ⟨_, execSliceFence_fences hevac hwbs hlines, hfailed, hfenced, hgen, fun p hp => ?_⟩
    have hkept := (List.mem_filter.mp hp).2
    simpa using hkept
  · cases hheld : interimHeld s slice.val (s.obj 0x3001 1 slice.val) with
    | true =>
      refine ⟨_, execSliceMapReturn_marks haway hok hheld, fun hfree => absurd (interimHeld_iff.mp hheld) hfree,
        fun _ => ⟨rfl, ?_, rfl⟩⟩
      by_cases hmarked : (slice.val, s.obj 0x3001 1 slice.val) ∈ s.loft.moves <;> simp [hmarked]
    | false =>
      refine ⟨_, execSliceMapReturn_returns haway hok hheld, fun _ => obj_setObj (s := s.modLoft _) (Canonical.objs_rising hc) _ _ _ _,
        fun h => ?_⟩
      rw [interimHeld_iff.mpr h] at hheld
      exact absurd hheld (by decide)

end Sys2Proof.Laws

/-! Ports of slices: a Loft cycle with no user but the lanes (R229, R231). -/

namespace Sys2Proof.Laws

-- theorems one after another: many at once would ask for too many threads
set_option Elab.async false

open Sys2Proof.Machine Sys2Proof.Safety

variable {s t : State}

/-! ### What counting leaves alone -/

/-- A counted event changes nothing of the test state but what counters sample (R485, R491). -/
theorem tallyBlock_keeps {B : Type} (g : TestState → B) (hg : ∀ x c a, g { x with capture := c, sampledAt := a } = g x) (s : State)
    (code n : Nat) (x : Txn) : g (s.tallyBlock code n x).test = g s.test := by
  refine each_keeps (fun s => g s.test) fun u i _ => ?_
  unfold State.countOn
  extract_lets
  split
  · split
    · rfl
    · exact hg _ _ _
  · rfl

theorem withheld_congr (hunspent : t.test.unspent = s.test.unspent) (htrim : t.test.trimStep = s.test.trimStep)
    (hstack : t.stackTab = s.stackTab) (d kind : Nat) : t.withheld d kind = s.withheld d kind := by
  unfold State.withheld State.spentOut
  rw [hunspent, htrim, stack_congr hstack]

/-! ### The wants of a quiet slice -/

/-- A lane that wants the read port, at its rank (R229). -/
def laneRead (rank : Nat) : PortWant := { rank, lane := true }

/-- A lane that wants the write port, at its rank (R229). -/
def laneWrite (rank : Nat) : PortWant := { rank, reads := false, writes := true, lane := true }

/-- The rank of a lane whose port has been used so often (R229). -/
def laneRank (s : State) (used : Nat) : Nat := if s.belowFloor used then 2 else 5

theorem laneRank_eq (s : State) (used : Nat) : laneRank s used = 2 ∨ laneRank s used = 5 := by
  unfold laneRank
  split
  · exact .inl rfl
  · exact .inr rfl

/-- What wants a port, if it does. -/
def wanted (c : Bool) (w : PortWant) : List PortWant := if c then [w] else []

/-- Two users that each want a port or not stand in one order or the other, whatever their ranks. -/
theorem ranked_pair {v w : PortWant} (hv : v.rank = 2 ∨ v.rank = 5) (hw : w.rank = 2 ∨ w.rank = 5) (a b : Bool) :
    let l := (upTo 7).flatMap fun k => (wanted a v ++ wanted b w).filter fun x => x.rank == k
    l = wanted a v ++ wanted b w ∨ l = wanted b w ++ wanted a v := by
  have hseven : upTo 7 = [0, 1, 2, 3, 4, 5, 6] := rfl
  rcases hv with hv | hv <;> rcases hw with hw | hw <;> cases a <;> cases b <;> simp [hseven, wanted, hv, hw]

/-- A slice at which nobody but a lane can want a port (R229). -/
structure QuietSlice (s : State) (i : Nat) : Prop where
  reqs : ∀ r ∈ s.reqs, r.phase = .loft → s.reqSlice r ≠ i
  fills : ∀ r ∈ s.reqs, ∀ k, r.dest = .line k → k / 131072 = i → r.phase ≠ .done ∨ r.visible = true
  copies : ∀ w ∈ s.loft.wbs, w.slice = i → w.copied = true
  rewrites : ∀ w ∈ s.loft.rewrites, w.slice ≠ i
  zeroing : ∀ z ∈ s.loft.zeroing, z.1 ≠ i
  clearing : s.clearing i = []
  records : s.capWaits ≠ some i

/-- The lanes are the only users of such a slice's ports (R229). -/
theorem QuietSlice.portWants {i : Nat} (h : QuietSlice s i) (rd wr : Bool) :
    let r := wanted rd (laneRead (laneRank s (Map.look 0 i s.loft.rdLane)))
    let w := wanted wr (laneWrite (laneRank s (Map.look 0 i s.loft.wrLane)))
    s.portWants i { laneRead := rd, laneWrite := wr } = r ++ w ∨ s.portWants i { laneRead := rd, laneWrite := wr } = w ++ r := by
  intro r w
  unfold State.portWants
  extract_lets l reqs fills copies one lanes others all
  have hreqs : reqs = [] := by
    refine List.map_eq_nil_iff.mpr (List.filter_eq_nil_iff.mpr fun r hr hat => ?_)
    simp only [Bool.and_eq_true, beq_iff_eq] at hat
    obtain ⟨⟨⟨hphase, hslice⟩, -⟩, -⟩ := hat
    exact h.reqs r hr hphase hslice
  have hfills : fills = [] := by
    refine List.map_eq_nil_iff.mpr (List.filter_eq_nil_iff.mpr fun r hr hat => ?_)
    simp only [Bool.and_eq_true, beq_iff_eq, Bool.not_eq_true'] at hat
    obtain ⟨⟨hphase, hhidden⟩, hdest⟩ := hat
    split at hdest
    · next k hk =>
      rcases h.fills r hr k hk (beq_iff_eq.mp hdest) with hnot | hvisible
      · exact hnot hphase
      · simp [hhidden] at hvisible
    · cases hdest
  have hcopies : copies = [] := by
    refine List.map_eq_nil_iff.mpr (List.filter_eq_nil_iff.mpr fun w hw hat => ?_)
    simp only [Bool.and_eq_true, beq_iff_eq] at hat
    obtain ⟨hslice, hnot⟩ := hat
    simp [h.copies w hw hslice] at hnot
  have hothers : others = [] := by
    have hrewrites : (s.loft.rewrites.filter fun w => w.slice == i) = [] :=
      List.filter_eq_nil_iff.mpr fun w hw => by simpa using h.rewrites w hw
    have hzeroing : (s.loft.zeroing.any fun z => z.1 == i) = false := by simpa using h.zeroing
    have hrecord : (s.capWaits == some i) = false := by simpa using h.records
    simp only [others, one, l, h.clearing, hrewrites, hzeroing, hrecord, Bool.false_eq_true, if_false, List.map_nil, List.append_nil]
  have hall : all = r ++ w := by
    rw [show all = reqs ++ fills ++ copies ++ lanes ++ others from rfl, hreqs, hfills, hcopies, hothers, List.append_nil]
    rfl
  rw [hall]
  exact ranked_pair (laneRank_eq s _) (laneRank_eq s _) rd wr

/-! ### A lane at a port -/

/-- A cycle of a slice's ports in which lanes have read (`a`) and written (`b`) and nobody else has come (R229). -/
structure LanesServed (s : State) (i : Nat) (a b : Bool) (p : PortCycle) : Prop where
  rd : p.rd = !a
  wr : p.wr = !b
  reqs : p.s.reqs = s.reqs
  lines : p.s.loft.lines = s.loft.lines
  rdLane : p.s.loft.rdLane = if a then Map.upd 0 i (· + 1) s.loft.rdLane else s.loft.rdLane
  wrLane : p.s.loft.wrLane = if b then Map.upd 0 i (· + 1) s.loft.wrLane else s.loft.wrLane
  duty : p.s.test.laneDuty = s.test.laneDuty
  held : p.s.withheld (32 + i / 16) 4 = s.withheld (32 + i / 16) 4

theorem dutyRoom_of_lane {i rank lane : Nat} (hrank : rank = 2 ∨ rank = 5) (hlane : lane * 16 < 1500 * s.test.laneDuty)
    (hheld : s.withheld (32 + i / 16) 4 = false) (used : Nat) : s.dutyRoom i rank used lane = true := by
  unfold State.dutyRoom
  extract_lets d
  rw [if_neg (by omega), if_pos hrank]
  simp [d, hlane, hheld]

/-- A user that only takes a cycle meets no word (R229). -/
theorem portUse_none (i : Nat) {w : PortWant} (h : w.use = .none) : s.portUse i [] w = some s := by
  unfold State.portUse State.meetFound
  simp [h, State.each]

/-- The state in which a lane's read has been noted (R229). -/
def laneReadNoted (s : State) (i : Nat) : State := s.modLoft fun x => { x with rdLane := Map.upd 0 i (· + 1) x.rdLane }

/-- The state in which a lane's write has been noted (R229). -/
def laneWriteNoted (s : State) (i : Nat) : State := s.modLoft fun x => { x with wrLane := Map.upd 0 i (· + 1) x.wrLane }

/-- The state in which a lane's access has been counted as an event (R490); lanes carry master 0x3F (log 153). Irreducible: no proof
unfolds the 64 counters, and what they leave alone is said below. -/
@[irreducible] def laneCounted (s : State) (code : Nat) : State := s.tallyBlock code 1 { master := 0x3F }

theorem tallyBlock_lane (s : State) (code : Nat) : s.tallyBlock code 1 { master := 0x3F } = laneCounted s code := by
  unfold laneCounted
  rfl

theorem laneCounted_only (s : State) (code : Nat) : Only 524296 s (laneCounted s code) := by
  unfold laneCounted
  exact tallyBlock_only (.refl s) _ _ _

theorem laneCounted_duty (s : State) (code : Nat) : (laneCounted s code).test.laneDuty = s.test.laneDuty := by
  unfold laneCounted
  exact tallyBlock_keeps TestState.laneDuty (fun _ _ _ => rfl) s _ _ _

theorem laneCounted_withheld (s : State) (code d kind : Nat) : (laneCounted s code).withheld d kind = s.withheld d kind := by
  refine withheld_congr ?_ ?_ (laneCounted_only s code).stackTab_eq d kind
  · unfold laneCounted
    exact tallyBlock_keeps TestState.unspent (fun _ _ _ => rfl) s _ _ _
  · unfold laneCounted
    exact tallyBlock_keeps TestState.trimStep (fun _ _ _ => rfl) s _ _ _

section Lane

variable {p : PortCycle} {i rank : Nat} (hrank : rank = 2 ∨ rank = 5)
  (hheld : p.s.withheld (32 + i / 16) 4 = false)

include hrank hheld

theorem offer_laneRead (hfree : p.rd = true) (hlane : Map.look 0 i p.s.loft.rdLane * 16 < 1500 * p.s.test.laneDuty) :
    p.offer i [] (laneRead rank) = { rd := false, wr := p.wr, s := laneCounted (laneReadNoted p.s i) 0x0B } := by
  have hroom := dutyRoom_of_lane hrank hlane hheld (Map.look 0 i p.s.loft.rdAll)
  unfold PortCycle.offer
  rw [portUse_none i rfl]
  rcases hrank with rfl | rfl <;> simp [laneRead, hfree, hroom] <;> exact tallyBlock_lane (laneReadNoted p.s i) 0x0B

theorem offer_laneWrite (hfree : p.wr = true) (hlane : Map.look 0 i p.s.loft.wrLane * 16 < 1500 * p.s.test.laneDuty) :
    p.offer i [] (laneWrite rank) = { rd := p.rd, wr := false, s := laneCounted (laneWriteNoted p.s i) 0x0C } := by
  have hroom := dutyRoom_of_lane hrank hlane hheld (Map.look 0 i p.s.loft.wrAll)
  unfold PortCycle.offer
  rw [portUse_none i rfl]
  rcases hrank with rfl | rfl <;> simp [laneWrite, hfree, hroom] <;> exact tallyBlock_lane (laneWriteNoted p.s i) 0x0C

end Lane

section Served

variable {i rank : Nat} {p : PortCycle} (hrank : rank = 2 ∨ rank = 5) (hheld : s.withheld (32 + i / 16) 4 = false)

include hrank hheld

theorem LanesServed.reads {b : Bool} (h : LanesServed s i false b p)
    (hlane : Map.look 0 i s.loft.rdLane * 16 < 1500 * s.test.laneDuty) : LanesServed s i true b (p.offer i [] (laneRead rank)) := by
  have hbefore : p.s.loft.rdLane = s.loft.rdLane := h.rdLane
  rw [offer_laneRead hrank (h.held.trans hheld) h.rd (by rwa [hbefore, h.duty])]
  have hcount := laneCounted_only (laneReadNoted p.s i) 0x0B
  have hloft : (laneCounted (laneReadNoted p.s i) 0x0B).loft = (laneReadNoted p.s i).loft := hcount.loft_eq
  exact
    { rd := rfl
      wr := h.wr
      reqs := hcount.reqs_eq.trans h.reqs
      lines := (congrArg LoftState.lines hloft).trans h.lines
      rdLane := (congrArg LoftState.rdLane hloft).trans (congrArg (Map.upd 0 i (· + 1)) hbefore)
      wrLane := (congrArg LoftState.wrLane hloft).trans h.wrLane
      duty := (laneCounted_duty (laneReadNoted p.s i) 0x0B).trans h.duty
      held := (laneCounted_withheld (laneReadNoted p.s i) 0x0B _ _).trans h.held }

theorem LanesServed.writes {a : Bool} (h : LanesServed s i a false p)
    (hlane : Map.look 0 i s.loft.wrLane * 16 < 1500 * s.test.laneDuty) : LanesServed s i a true (p.offer i [] (laneWrite rank)) := by
  have hbefore : p.s.loft.wrLane = s.loft.wrLane := h.wrLane
  rw [offer_laneWrite hrank (h.held.trans hheld) h.wr (by rwa [hbefore, h.duty])]
  have hcount := laneCounted_only (laneWriteNoted p.s i) 0x0C
  have hloft : (laneCounted (laneWriteNoted p.s i) 0x0C).loft = (laneWriteNoted p.s i).loft := hcount.loft_eq
  exact
    { rd := h.rd
      wr := rfl
      reqs := hcount.reqs_eq.trans h.reqs
      lines := (congrArg LoftState.lines hloft).trans h.lines
      rdLane := (congrArg LoftState.rdLane hloft).trans h.rdLane
      wrLane := (congrArg LoftState.wrLane hloft).trans (congrArg (Map.upd 0 i (· + 1)) hbefore)
      duty := (laneCounted_duty (laneWriteNoted p.s i) 0x0C).trans h.duty
      held := (laneCounted_withheld (laneWriteNoted p.s i) 0x0C _ _).trans h.held }

/-- A lane that wants to read, if one does, has read. -/
theorem LanesServed.foldReads {b : Bool} (h : LanesServed s i false b p)
    (hlane : Map.look 0 i s.loft.rdLane * 16 < 1500 * s.test.laneDuty) (rd : Bool) :
    LanesServed s i rd b ((wanted rd (laneRead rank)).foldl (fun p w => p.offer i [] w) p) := by
  cases rd with
  | true => exact h.reads hrank hheld hlane
  | false => exact h

/-- A lane that wants to write, if one does, has written. -/
theorem LanesServed.foldWrites {a : Bool} (h : LanesServed s i a false p)
    (hlane : Map.look 0 i s.loft.wrLane * 16 < 1500 * s.test.laneDuty) (wr : Bool) :
    LanesServed s i a wr ((wanted wr (laneWrite rank)).foldl (fun p w => p.offer i [] w) p) := by
  cases wr with
  | true => exact h.writes hrank hheld hlane
  | false => exact h

end Served

/-! ### LOFT_PORT_CYCLE -/

theorem lanesServed_start (s : State) (i : Nat) : LanesServed s i false false { s := s } := ⟨rfl, rfl, rfl, rfl, rfl, rfl, rfl, rfl⟩

/-- At a quiet slice the lanes that may use their ports have used them, in either order (R229, R231). -/
theorem QuietSlice.execLoftPortCycle_serves {slice : Fin 64} (h : QuietSlice s slice.val)
    (hheld : s.withheld (32 + slice.val / 16) 4 = false) (hread : Map.look 0 slice.val s.loft.rdLane * 16 < 1500 * s.test.laneDuty)
    (hwrite : Map.look 0 slice.val s.loft.wrLane * 16 < 1500 * s.test.laneDuty) (rd wr : Bool) :
    ∃ p : PortCycle, LanesServed s slice.val rd wr p ∧ execLoftPortCycle slice { laneRead := rd, laneWrite := wr } s =
      .next (p.s.charge (32 + slice.val / 16) (b2n (!p.rd) + b2n (!p.wr))) := by
  refine ⟨_, ?_, rfl⟩
  have hr := laneRank_eq s (Map.look 0 slice.val s.loft.rdLane)
  have hw := laneRank_eq s (Map.look 0 slice.val s.loft.wrLane)
  rcases h.portWants rd wr with hl | hl
  · rw [hl, List.foldl_append]
    exact ((lanesServed_start s _).foldReads hr hheld hread rd).foldWrites hw hheld hwrite wr
  · rw [hl, List.foldl_append]
    exact ((lanesServed_start s _).foldWrites hw hheld hwrite wr).foldReads hr hheld hread rd

/-- A cycle that has been counted has one cycle more. -/
theorem look_counted (i : Nat) (m : Map Nat) : Map.look 0 i (Map.upd 0 i (· + 1) m) = Map.look 0 i m + 1 :=
  Map.look_put_listed (Nat.succ_ne_zero _) m

end Sys2Proof.Laws

/-! Lines of the Loft: a fetch that arrives, a write-back, and the patrol (R222 to R224, R232 to R235). -/

namespace Sys2Proof.Laws

-- theorems one after another: many at once would ask for too many threads
set_option Elab.async false

open Sys2Proof.Machine Sys2Proof.Safety

variable {s t : State}

/-- A change of a table depends on what it makes of the value that the key holds. -/
theorem upd_congr {V : Type} [DecidableEq V] {d : V} {k : Nat} {m : Map V} {f g : V → V} (h : f (Map.look d k m) = g (Map.look d k m)) :
    Map.upd d k f m = Map.upd d k g m := by
  unfold Map.upd
  rw [h]

/-! ### LOFT_LINE_FILL -/

/-- A line of which nothing more is fetched. -/
def fetchEnded (l : LoftLine) : LoftLine := { l with busy := false }

/-- What a line holds once its last fetch has come: that sector, unless it was valid before (R222). -/
def sectorCame (i : Nat) (x : SectorRsp) (l : LoftLine) : LoftLine :=
  if l.valid.getLsbD i then fetchEnded l
  else { l with busy := false, valid := setBit4 l.valid i true, poison := setBit4 l.poison i x.poison, data := setSector l.data i x.data }

/-- With no requests left nobody waits for the line. -/
theorem wakeLine_alone (h : s.reqs = []) (key : Nat) (bad : Option (Nat × RspCode × Detail)) : s.wakeLine key bad = s := by
  unfold State.wakeLine
  rw [h]
  rfl

section Fill

variable {slice : Fin 64} {r : Req} {key : Nat} {x : SectorRsp} (hreqs : s.reqs = [r]) (hdest : r.dest = .line key)
  (hslice : key / 131072 = slice.val) (hphase : r.phase = .done) (hvisible : r.visible = true)

include hdest hslice hphase hvisible in
theorem fills_of_arrived : r.fills slice.val = some key := by
  unfold Req.fills
  rw [hdest]
  exact if_pos ⟨hslice, hphase, .inl hvisible⟩

include hreqs hdest hslice hphase hvisible

/-- What comes for a line that is fetched no more is dropped (R222). -/
theorem execLoftLineFill_drops
    (h : ¬ ((Map.look ({} : LoftLine) key s.loft.lines).busy = true ∧ (Map.look ({} : LoftLine) key s.loft.lines).region = r.region ∧
      (Map.look ({} : LoftLine) key s.loft.lines).a = r.addr / 256)) :
    execLoftLineFill slice s = .next { s with reqs := [] } := by
  have hfills := fills_of_arrived hdest hslice hphase hvisible
  unfold execLoftLineFill
  simp only [hreqs, List.find?_singleton, hfills, Option.isSome_some, if_true, Option.getD_some]
  rw [if_pos (by
    simpa only [Bool.or_eq_true, Bool.not_eq_true', bne_iff_ne, ne_eq, ← Bool.not_eq_true, ← not_and_or, and_assoc] using h)]
  simp

/-- The one fetch of a line brings its sector (R222). -/
theorem execLoftLineFill_fills (hwhole : r.whole = none) (hrsp : r.rsp = [(0, x)])
    (hbusy : (Map.look ({} : LoftLine) key s.loft.lines).busy = true)
    (hregion : (Map.look ({} : LoftLine) key s.loft.lines).region = r.region)
    (ha : (Map.look ({} : LoftLine) key s.loft.lines).a = r.addr / 256) :
    execLoftLineFill slice s = .next (({ s with reqs := [] } : State).modLine key (sectorCame (r.addr % 256 / 64) x)) := by
  have hfills := fills_of_arrived hdest hslice hphase hvisible
  have hgone : [r].filter (fun q => q.id != r.id) = [] := by simp
  unfold execLoftLineFill
  simp only [hreqs, List.find?_singleton, hfills, Option.isSome_some, if_true, Option.getD_some]
  rw [if_neg (by simp only [hbusy, hregion, ha, Bool.not_true, bne_self_eq_false, Bool.or_self, Bool.false_eq_true, not_false_eq_true])]
  simp only [hgone, List.any_nil, hwhole, hrsp, List.find?_singleton, beq_self_eq_true, if_true, Option.map_some, Option.map_none,
    Option.isSome_none, Option.getD_some, Bool.or_false]
  rw [wakeLine_alone rfl]
  rfl

end Fill

/-! ### LOFT_WRITE_BACK: a buffer that has been copied -/

/-- A stack that differs from its reset value is listed, whatever the table lists. -/
theorem stack_modStack_listed {st : Nat} {f : StackState → StackState} (h : f (s.stack st) ≠ {}) :
    (s.modStack st f).stack st = f (s.stack st) :=
  Map.look_put_listed h s.stackTab

/-- A stack that is called keeps the rank units that it lost (R173). -/
theorem callStack_lostUnits (st q : Nat) : ((s.callStack st).stack q).lostUnits = (s.stack q).lostUnits := by
  unfold State.callStack
  split
  · by_cases hq : q = st
    · subst hq
      rw [stack_modStack_listed]
      exact fun e => nomatch (congrArg StackState.wakeReq e : true = false)
    · rw [stack_modStack_ne hq]
  · rfl

theorem entryFor_congr (h : t.regions = s.regions) (region version off : Nat) :
    t.entryFor region version off = s.entryFor region version off := by
  unfold State.entryFor
  rw [slot_congr h]

theorem lostUnit?_congr (hblock : t.block = s.block) (hunits : ∀ q, (t.stack q).lostUnits = (s.stack q).lostUnits) (e : RegionEntry)
    (off : Nat) : t.lostUnit? e off = s.lostUnit? e off := by
  have hline : t.elLine e off = s.elLine e off := by
    unfold State.elLine State.compat
    rw [hblock]
  unfold State.lostUnit?
  rw [hline]
  exact congrArg (List.find? _) (hunits _)

/-- Whether a write meets lost data is a matter of the regions, of the placement and of the stacks' lost units (R393, R394). -/
theorem lostWrite_congr (hregions : t.regions = s.regions) (hblock : t.block = s.block)
    (hunits : ∀ q, (t.stack q).lostUnits = (s.stack q).lostUnits) (region version off : Nat) :
    t.lostWrite region version off = s.lostWrite region version off := by
  unfold State.lostWrite
  rw [slot_congr hregions, entryFor_congr hregions, lostUnit?_congr hblock hunits]

/-- The request for a sector of a write-back buffer (R12, R223, R224). -/
def backReq (s : State) (w : WriteBack) (e : RegionEntry) (i : Nat) : Req :=
  { id := s.nextReq, master := 0x2B, op := .write, bytes := 64, addr := w.a * 256 + 64 * i, region := w.region, version := e.version
    cls := if w.raised then .critical else .bulk, raised := w.raised, tenant := e.tenant, bornNs := s.frameNs
    waitSince := s.time.frame, forPort := w.forPort, data := some (BitVec.ofNat 2048 (sectorOf w.data i).toNat)
    bad := if w.poison.getLsbD i then 1 else 0, phase := .arb, dest := .back w.slice, routed := true }

/-- The state in which a sector of a buffer has been asked for at its stack (R223). -/
def sectorAsked (w : WriteBack) (e : RegionEntry) (s : State) (i : Nat) : State :=
  ({ s with reqs := s.reqs ++ [backReq s w e i], nextReq := s.nextReq + 1 } : State).callStack (s.reqStack (backReq s w e i))

/-- A sector of a buffer is asked for, or leaves the buffer where no place is left for it (R223, R393). -/
def askSector (w : WriteBack) (e : RegionEntry) (s : State) (i : Nat) : State :=
  if !e.live || s.lostWrite w.region e.version (s.reqOff (backReq s w e i)) then s.wbSector w.slice w.region w.a i
  else sectorAsked w e s i

/-- The state in which a buffer is marked as asked for. -/
def backMarked (s : State) (w : WriteBack) : State :=
  s.modLoft fun x => { x with wbs := x.wbs.map fun b => if b == w then { b with asked := true } else b }

theorem askBack_eq (s : State) (w : WriteBack) :
    s.askBack w = (backMarked s w).each ((upTo 4).filter fun i => w.dirty.getLsbD i) (askSector w (s.slot w.region).now) := rfl

theorem sectorAsked_only (w : WriteBack) (e : RegionEntry) (s : State) (i : Nat) :
    Only 2048 ({ s with reqs := s.reqs ++ [backReq s w e i], nextReq := s.nextReq + 1 } : State) (sectorAsked w e s i) :=
  callStack_only (.refl _) _

/-- Asking for a sector loses no data. -/
theorem sectorAsked_lostWrite (w : WriteBack) (e : RegionEntry) (s : State) (i region version off : Nat) :
    (sectorAsked w e s i).lostWrite region version off = s.lostWrite region version off :=
  lostWrite_congr (s := { s with reqs := s.reqs ++ [backReq s w e i], nextReq := s.nextReq + 1 }) (sectorAsked_only w e s i).regions_eq
    (sectorAsked_only w e s i).block_eq (fun q => callStack_lostUnits _ q) region version off

/-- What every request of a write-back carries (R12, R223). -/
def BackOf (w : WriteBack) (q : Req) : Prop :=
  q.master = 0x2B ∧ q.op = .write ∧ q.region = w.region ∧ q.phase = .arb ∧ q.dest = .back w.slice

/-- The address and the data of a sector of a buffer. -/
def sectorBack (w : WriteBack) (i : Nat) : Nat × Option (BitVec 2048) :=
  (w.a * 256 + 64 * i, some (BitVec.ofNat 2048 (sectorOf w.data i).toNat))

/-- Sectors of a live region with nothing lost are asked for one after another, and the Loft is as before (R223). -/
theorem askSectors_ask {w : WriteBack} {e : RegionEntry} (he : e.live = true) : ∀ (l : List Nat) (u : State),
    (∀ off, u.lostWrite w.region e.version off = false) →
      ∃ qs, (u.each l (askSector w e)).reqs = u.reqs ++ qs ∧ qs.map (fun q => (q.addr, q.data)) = l.map (sectorBack w) ∧
        (∀ q ∈ qs, BackOf w q) ∧ (u.each l (askSector w e)).loft = u.loft
  | [], u, _ => ⟨[], (List.append_nil _).symm, rfl, fun _ h => absurd h List.not_mem_nil, rfl⟩
  | i :: l, u, hkept => by
    have hask : askSector w e u i = sectorAsked w e u i := if_neg (by simp [he, hkept])
    have honly := sectorAsked_only w e u i
    obtain ⟨qs, hreqs, hsectors, hback, hloft⟩ :=
      askSectors_ask he l (sectorAsked w e u i) fun off => (sectorAsked_lostWrite ..).trans (hkept off)
    rw [each_cons, hask]
    refine ⟨backReq u w e i :: qs, ?_, congrArg (sectorBack w i :: ·) hsectors, fun q hq => ?_, hloft.trans honly.loft_eq⟩
    · rw [hreqs, honly.reqs_eq, List.append_assoc, List.singleton_append]
    · obtain rfl | hq := List.mem_cons.mp hq
      · exact ⟨rfl, rfl, rfl, rfl, rfl⟩
      · exact hback q hq

theorem execLoftWriteBack_asks {slice : Fin 64} {w : WriteBack}
    (h : s.loft.wbs.find? (fun w => w.slice == slice.val && w.copied && !w.asked) = some w) :
    execLoftWriteBack slice s = .next (s.askBack w) := by
  unfold execLoftWriteBack
  simp only [h]

/-! ### LOFT_WRITE_BACK: a line that must be cleaned -/

/-- The state in which a line that had to be cleaned has gone to a buffer, and out of the Loft where it must (R223). -/
def lineCleaned (s : State) (slice key : Nat) (l : LoftLine) : State :=
  if s.leavesLoft key l then (s.pushWb slice l none).dropLine key
  else (s.pushWb slice l none).modLine key fun l => { l with dirty := 0 }

theorem execLoftWriteBack_cleans {slice : Fin 64} {key : Nat} {l : LoftLine}
    (hnone : s.loft.wbs.find? (fun w => w.slice == slice.val && w.copied && !w.asked) = none)
    (hline : s.loft.lines.find? (fun p => p.1 / 131072 == slice.val && p.2.dirty != 0 && !p.2.busy && s.mustClean p.1 p.2) = some (key, l))
    (hroom : s.bufferRoom slice.val 1 false = true) : execLoftWriteBack slice s = .next (lineCleaned s slice.val key l) := by
  unfold execLoftWriteBack
  simp only [hnone, hline, hroom, Bool.not_true, Bool.false_eq_true, if_false]
  rfl

/-- A buffer is taken, and the lines are as before (R223, R224). -/
theorem pushWb_loft (slice : Nat) (l : LoftLine) (port : Option Nat) :
    (s.pushWb slice l port).loft.wbs.length = s.loft.wbs.length + 1 ∧ (s.pushWb slice l port).loft.lines = s.loft.lines := by
  unfold State.pushWb State.raiseWbs
  split
  · exact ⟨List.length_append, rfl⟩
  · exact ⟨by simp, rfl⟩

/-- A key that is left out reads as the default. -/
theorem look_filter_ne {V : Type} (d : V) (k : Nat) : ∀ m : Map V, Map.look d k (m.filter fun p => p.1 != k) = d
  | [] => rfl
  | (a, v) :: m => by
    by_cases ha : a = k
    · simpa [ha] using look_filter_ne d k m
    · simpa [ha, Map.look] using look_filter_ne d k m

theorem lineCleaned_loft {slice key : Nat} {l : LoftLine} (hlook : Map.look {} key s.loft.lines = l) (hvalid : l.valid ≠ 0) :
    (lineCleaned s slice key l).loft.wbs.length = s.loft.wbs.length + 1 ∧
      (Map.look ({} : LoftLine) key (lineCleaned s slice key l).loft.lines).dirty = 0 := by
  obtain ⟨hwbs, hlines⟩ := pushWb_loft (s := s) slice l none
  unfold lineCleaned
  split
  · exact ⟨hwbs, congrArg LoftLine.dirty (look_filter_ne {} key _)⟩
  · have hlisted : ({ l with dirty := 0 } : LoftLine) ≠ {} := fun e => hvalid (congrArg LoftLine.valid e)
    refine ⟨hwbs, ?_⟩
    rw [State.modLine, State.modLoft_loft, Map.upd, hlines, hlook, Map.look_put_listed hlisted]

/-! ### LOFT_PATROL_STEP -/

theorem declareFailed_patrolWord (slice : Nat) (tags : Bool) : (s.declareFailed slice tags).loft.patrolWord = s.loft.patrolWord := by
  unfold State.declareFailed
  split <;> rfl

theorem hardWord_patrolWord (slice word : Nat) : (s.hardWord slice word).loft.patrolWord = s.loft.patrolWord := by
  unfold State.hardWord
  split_ifs
  · rfl
  · exact declareFailed_patrolWord slice false
  · rfl

theorem countLost_patrolWord (slice : Nat) : (s.countLost slice).loft.patrolWord = s.loft.patrolWord := by
  unfold State.countLost
  extract_lets n s1
  split
  · exact declareFailed_patrolWord slice false
  · rfl

theorem raiseWbs_patrolWord (slice : Nat) : (s.raiseWbs slice).loft.patrolWord = s.loft.patrolWord := by
  unfold State.raiseWbs
  split <;> rfl

theorem fetch_patrolWord (key : Nat) (r : Req) (secs : List Nat) : (s.fetch key r secs).loft.patrolWord = s.loft.patrolWord := by
  unfold State.fetch
  extract_lets s1
  have h1 : s1.loft = s.loft := each_keeps State.loft fun u i _ => (callStack_only (m := 2048) (.refl _) _).loft_eq
  rw [raiseWbs_patrolWord]
  change s1.loft.patrolWord = _
  rw [h1]

theorem wordLost_patrolWord (slice word : Nat) : (s.wordLost slice word).loft.patrolWord = s.loft.patrolWord := by
  unfold State.wordLost
  extract_lets way set i q w key l s1 e r n key2
  split_ifs
  · rfl
  · rfl
  · exact fetch_patrolWord ..
  · rfl
  · split <;> rfl
  · split
    · rfl
    · exact congrArg LoftState.patrolWord (damageSet_only (m := 16384) (.refl s) _ _).loft_eq
    · rfl

/-- What the patrol finds does not move it (R232). -/
theorem meetWord_patrolWord (slice word : Nat) (found : WordFound) : (s.meetWord slice word found).loft.patrolWord = s.loft.patrolWord := by
  unfold State.meetWord
  cases found with
  | ok => rfl
  | corrected again =>
    dsimp only
    split
    · exact hardWord_patrolWord (s := s.bump 0x3003 2 slice 1) slice word
    · rfl
  | uncorrectable =>
    dsimp only
    split
    · rw [wordLost_patrolWord, countLost_patrolWord]
    · exact countLost_patrolWord slice
  | tagOne => exact countLost_patrolWord slice
  | tagBoth => exact (declareFailed_patrolWord slice true).trans (countLost_patrolWord slice)

theorem obj_declareFailed (slice : Nat) (tags : Bool) (ix sub el : Nat) : (s.declareFailed slice tags).obj ix sub el = s.obj ix sub el :=
  obj_congr (declareFailed_only (m := 8192) (.refl s) slice tags).objs_eq ..

/-- A corrected word counts in 0x3003.02 (R232). -/
theorem meetWord_corrected (hc : Canonical s) (slice word : Nat) (again : Bool) :
    (s.meetWord slice word (.corrected again)).obj 0x3003 2 slice = s.obj 0x3003 2 slice + 1 := by
  have hbump : (s.bump 0x3003 2 slice 1).obj 0x3003 2 slice = s.obj 0x3003 2 slice + 1 := obj_setObj (Canonical.objs_rising hc) _ _ _ _
  unfold State.meetWord
  dsimp only
  split
  · exact (obj_congr (hardWord_only (m := 8192) (.refl _) slice word).objs_eq ..).trans hbump
  · exact hbump

/-- An uncorrectable word counts in 0x3003.04 of its slice only (R234). -/
theorem obj_countLost (hc : Canonical s) (slice : Nat) : (s.countLost slice).obj 0x3003 4 slice = s.obj 0x3003 4 slice + 1 := by
  have hbump : (s.bump 0x3003 4 slice 1).obj 0x3003 4 slice = s.obj 0x3003 4 slice + 1 := obj_setObj (Canonical.objs_rising hc) _ _ _ _
  unfold State.countLost
  extract_lets n s1
  split
  · exact (obj_declareFailed ..).trans hbump
  · exact hbump

theorem obj_countLost_ne {slice ix sub el : Nat} (h : oKey ix sub el ≠ oKey 0x3003 4 slice) :
    (s.countLost slice).obj ix sub el = s.obj ix sub el := by
  unfold State.countLost
  extract_lets n s1
  split
  · exact (obj_declareFailed ..).trans (obj_setObj_ne _ h)
  · exact obj_setObj_ne _ h

/-- What a lost word does where it lies counts nothing but lines fetched anew (R234). -/
theorem obj_wordLost {ix sub el : Nat} (h : oKey ix sub el ≠ oKey 0x3003 6 0) (slice word : Nat) :
    (s.wordLost slice word).obj ix sub el = s.obj ix sub el := by
  unfold State.wordLost
  extract_lets way set i q w key l s1 e r n key2
  have h1 : s1.obj ix sub el = s.obj ix sub el := obj_count_ne (s := s.modLine key _) h
  split_ifs
  · rfl
  · rfl
  · exact (obj_congr (fetch_only (m := 11008) (.refl s1) key r [i]).objs_eq ..).trans h1
  · exact h1
  · split <;> rfl
  · split
    · rfl
    · exact obj_congr (damageSet_only (m := 16384) (.refl s) _ _).objs_eq ..
    · rfl

theorem meetWord_lost (hc : Canonical s) {slice : Nat} (hslice : slice < 64) (word : Nat) {found : WordFound}
    (h : found = .uncorrectable ∨ found = .tagOne ∨ found = .tagBoth) :
    (s.meetWord slice word found).obj 0x3003 4 slice = s.obj 0x3003 4 slice + 1 := by
  unfold State.meetWord
  rcases h with rfl | rfl | rfl <;> dsimp only
  · split
    · rw [obj_wordLost (by unfold oKey; omega), obj_countLost hc]
    · exact obj_countLost hc slice
  · exact obj_countLost hc slice
  · rw [obj_declareFailed, obj_countLost hc]

/-- A slice in service whose tags are lost is declared failed with them (R235, R236). -/
theorem declareFailed_tags {slice : Nat} (h : s.obj 0x3005 1 slice = 0) :
    ∃ f ∈ (s.declareFailed slice true).loft.failNext, f.1 = slice ∧ f.2 = true := by
  unfold State.declareFailed
  split
  · next hsaid =>
    simpa [h] using hsaid
  · exact ⟨(slice, true), List.mem_append_right _ (List.mem_singleton_self _), rfl, rfl⟩

/-- The state in which the patrol has met the next word of a slice (R232). -/
def patrolled (s : State) (i : Nat) (found : WordFound) : State :=
  let next := (Map.look 0 i s.loft.patrolWord + 1) % patrolWords
  (s.meetWord i (Map.look 0 i s.loft.patrolWord) found).modLoft fun x =>
    { x with
      patrolWord := Map.put 0 next i x.patrolWord
      patrolFrom := if next = 0 then Map.put 0 s.time.frame i x.patrolFrom else x.patrolFrom
      corrected := if next = 0 then x.corrected.filter fun c => c.1 != i else x.corrected }

theorem execLoftPatrolStep_due {slice : Fin 64} (hservice : s.obj 0x3005 1 slice.val = 0) (hdue : s.patrolDue slice.val = true)
    (found : WordFound) : execLoftPatrolStep slice found s = .next (patrolled s slice.val found) := by
  unfold execLoftPatrolStep
  extract_lets i w next
  rw [if_neg (by simp [i, hservice, hdue])]
  rfl

/-- Settles O34: a quiet slice serves its lanes (`LanesServed`), a fetch that comes is put or dropped, a copied buffer is asked for sector
by sector, and a line to be cleaned and a patrolled word leave the states named above, whose fields are read back. -/
theorem loftSlicesServeCleanAndPatrol : Obligations.LoftSlicesServeCleanAndPatrol := by
  refine ⟨fun slice rd wr s hreqs hfills hcopies hrewrites hzeroing hclearing hrecords hheld hread hwrite => ?_,
    fun slice s r key x hreqs hdest hslice hphase hvisible hwhole hrsp => ?_,
    fun slice s => ⟨fun w hw hlive hkept => ?_, fun key l hnone hline hroom hlook hvalid => ?_⟩,
    fun slice found s hc hservice hdue => ?_⟩
  · have hquiet : QuietSlice s slice.val := ⟨hreqs, hfills, hcopies, hrewrites, hzeroing, hclearing, hrecords⟩
    obtain ⟨p, hserved, hexec⟩ := hquiet.execLoftPortCycle_serves hheld hread hwrite rd wr
    refine ⟨_, hexec, ?_, ?_, ?_, ?_, hserved.reqs, hserved.lines⟩
    · rintro rfl
      exact (congrArg (Map.look 0 slice.val) hserved.rdLane).trans (look_counted _ _)
    · rintro rfl
      exact hserved.rdLane
    · rintro rfl
      exact (congrArg (Map.look 0 slice.val) hserved.wrLane).trans (look_counted _ _)
    · rintro rfl
      exact hserved.wrLane
  · intro i l fetched
    by_cases hfetched : fetched
    · obtain ⟨hbusy, hregion, ha⟩ := hfetched
      refine ⟨_, execLoftLineFill_fills hreqs hdest hslice hphase hvisible hwhole hrsp hbusy hregion ha, rfl, fun _ hlacks => ?_,
        fun _ hheld => ?_, fun hnot => absurd ⟨hbusy, hregion, ha⟩ hnot⟩
      · exact upd_congr (if_neg (Bool.eq_false_iff.mp hlacks))
      · exact upd_congr (if_pos hheld)
    · exact ⟨_, execLoftLineFill_drops hreqs hdest hslice hphase hvisible hfetched, rfl, fun h => absurd h hfetched,
        fun h => absurd h hfetched, fun _ => rfl⟩
  · obtain ⟨qs, hreqs, hsectors, hback, hloft⟩ :=
      askSectors_ask hlive ((upTo 4).filter fun i => w.dirty.getLsbD i) (backMarked s w) hkept
    refine ⟨_, qs, execLoftWriteBack_asks hw, ?_⟩
    rw [askBack_eq]
    exact ⟨hreqs, hsectors, hback, congrArg LoftState.wbs hloft⟩
  · exact ⟨_, execLoftWriteBack_cleans hnone hline hroom, lineCleaned_loft hlook hvalid⟩
  · refine ⟨_, execLoftPatrolStep_due hservice hdue found, ?_, ?_, fun h => ?_, ?_⟩
    · exact congrArg (Map.put 0 _ slice.val) (meetWord_patrolWord _ _ _)
    · rintro again rfl
      exact meetWord_corrected hc _ _ _
    · exact meetWord_lost hc slice.isLt _ h
    · rintro rfl
      exact declareFailed_tags ((obj_countLost_ne (by unfold oKey; omega)).trans hservice)

end Sys2Proof.Laws

/-! Shots: what becomes of an admitted or listed shot and of its context (R246, R249, R250, R252, R255). -/

namespace Sys2Proof.Laws

open Sys2Proof.Machine Sys2Proof.Safety

variable {s t : State}

/-! ### Contexts, lists and roles -/

theorem ctx_congr (h : t.shot.ctxs = s.shot.ctxs) (n : Nat) : t.ctx n = s.ctx n := by
  unfold State.ctx
  rw [h]

/-- A context that a change leaves to be listed is read back, whether or not the table was canonical (R249). -/
theorem ctx_modCtx_listed {n : Nat} {f : Ctx → Ctx} (h : f (s.ctx n) ≠ {}) : (s.modCtx n f).ctx n = f (s.ctx n) :=
  Map.look_put_listed h s.shot.ctxs

theorem list_congr (h : t.shot.lists = s.shot.lists) (i : Nat) : t.list i = s.list i := by
  unfold State.list
  rw [h]

theorem list_setList_listed {i : Nat} {l : List Listed} (h : l ≠ []) : (s.setList i l).list i = l :=
  Map.look_put_listed h s.shot.lists

/-- The head's stamp changes no slate of a list (R246). -/
theorem stampHead_slates (i : Nat) : ((s.stampHead i).list i).map (·.slate) = (s.list i).map (·.slate) := by
  unfold State.stampHead
  split
  · rfl
  · rename_i h l hl
    split
    · rfl
    · rw [list_setList_listed (List.cons_ne_nil _ _), hl]
      rfl

theorem stampHead_ctxs (i : Nat) : (s.stampHead i).shot.ctxs = s.shot.ctxs := by
  unfold State.stampHead
  split
  · rfl
  · split <;> rfl

theorem shot?_id {id : Nat} {x : Shot} (h : s.shot? id = some x) : x.id = id := by
  simpa using List.find?_some h

/-- A session that holds the Operator role has its bit set (R429). -/
theorem has_roleO_iff (x : Session) : x.has roleO = true ↔ bit x.roles 0 = true := by
  simp [Session.has, roleO, bit, List.range_succ, Nat.shiftRight_eq_div_pow]

theorem has_of_roleO {x : Session} (h : x.has roleO = true) : x.has (roleO + roleT) = true := by
  refine List.any_eq_true.mpr ⟨0, List.mem_range.mpr (by decide), ?_⟩
  rw [(has_roleO_iff x).mp h]
  decide

/-! ### SHOT_EXTEND -/

/-- An admitted shot extended in a frame (R250). -/
def extendedAt (frame : Nat) (x : Shot) : Shot := { x with extended := true, extFrame := some frame }

/-- The state in which an extension has been noted and counted (R250). -/
def extensionNoted (s : State) (id : Nat) : State := (s.modShot id (extendedAt s.time.frame)).count 0x5000 5

/-- A shot's first extension: its context is EXTENDED, and its group hears of it (R249, R250). -/
def extensionTold (s : State) (w id frame : Nat) : State :=
  let s1 := s.modCtx id fun c => { c with state := 3, frame := frame }
  if slProgress w && slGroup w != 0 then s1.sendRecord w 3 (progressWord 2 frame) else s1

theorem extensionTold_shot (s : State) (w id frame : Nat) :
    (extensionTold s w id frame).shot = (s.modCtx id fun c => { c with state := 3, frame := frame }).shot := by
  unfold extensionTold
  extract_lets s1
  split
  · exact (sendRecord_only (m := 32768) (.refl s1) _ _ _).shot_eq
  · rfl

theorem extensionTold_only (s : State) (w id frame : Nat) : Only 49152 s (extensionTold s w id frame) := by
  have h1 : Only 49152 s _ := modCtx_only (.refl s) id fun c => { c with state := 3, frame := frame }
  exact ite_only (sendRecord_only h1 _ _ _) h1

section Extend

variable {shot : BitVec 16} {x : Shot} (hx : s.shot? shot.toNat = some x)

include hx

theorem execShotExtend_early (h : s.time.frame < x.budgetEnd) : execShotExtend shot s = .next s := by
  unfold execShotExtend
  simp only [hx]
  rw [if_pos (.inl h)]

theorem execShotExtend_extends (hb : x.budgetEnd ≤ s.time.frame) (hf : s.time.frame < x.finalEnd)
    (hnew : x.extFrame ≠ some s.time.frame) :
    execShotExtend shot s = .next (if x.extended then extensionNoted s shot.toNat
      else extensionTold (extensionNoted s shot.toNat) x.slate.toNat shot.toNat s.time.frame) := by
  unfold execShotExtend
  simp only [hx, shot?_id hx]
  rw [if_neg (by simp [hnew]; omega)]
  split
  · rfl
  · rfl

end Extend

theorem extensionNoted_shot? {id : Nat} {x : Shot} (h : s.shot? id = some x) :
    (extensionNoted s id).shot? id = some (extendedAt s.time.frame x) :=
  (shot?_congr (s := s.modShot id _) rfl id).trans (shot?_modShot h fun _ hy => hy)

theorem obj_extensionNoted (hc : Canonical s) (id : Nat) : (extensionNoted s id).obj 0x5000 5 0 = s.obj 0x5000 5 0 + 1 :=
  obj_count (s := s.modShot id _) (Canonical.objs_rising hc) _ _

/-! ### Aborts -/

/-- Of the shots' part, the news of an abort changes the slate's context alone (R252). -/
theorem abortTell_shot (s : State) (w : Nat) (o : Origin) (cause detail done slipped : Nat) :
    (s.abortTell w o cause detail done slipped).shot =
      (s.modCtx (slShot w) fun c => { c with state := 5, cause := cause, frame := s.time.frame }).shot := by
  unfold State.abortTell
  extract_lets s1 s2 s3
  have h2 : Only 33536 s1 s2 := sendReply_only (.refl s1) _ _ _ _ _
  have h3 : Only 33536 s1 s3 := ite_only h2 (sendRecord_only h2 _ _ _)
  exact Only.shot_eq (m := 557836)
    (tallyBlock_only (bump_only (abortEvent_only (h3.mono rfl) w cause detail) 0x5000 3 cause 1) 0x15 1 (s.shotTxn w o))

/-- An aborted slate's context is ABORTED with the cause (R249, R252). -/
theorem abortTell_ctx (s : State) (w : Nat) (o : Origin) (cause detail done slipped : Nat) :
    (s.abortTell w o cause detail done slipped).ctx (slShot w) =
      { s.ctx (slShot w) with state := 5, cause := cause, frame := s.time.frame } := by
  refine (ctx_congr (congrArg ShotState.ctxs (abortTell_shot ..)) _).trans (ctx_modCtx_listed fun e => ?_)
  exact absurd (congrArg Ctx.state e) (by simp)

theorem abortTell_lists (s : State) (w : Nat) (o : Origin) (cause detail done slipped : Nat) :
    (s.abortTell w o cause detail done slipped).shot.lists = s.shot.lists :=
  (congrArg ShotState.lists (abortTell_shot ..)).trans rfl

/-- An aborted shot is gone, and its context is ABORTED with the cause (R252). -/
theorem abortShot_gone (s : State) (x : Shot) (cause detail : Nat) :
    (s.abortShot x cause detail).shot? x.id = none ∧ ((s.abortShot x cause detail).ctx (slShot x.slate.toNat)).state = 5 ∧
      ((s.abortShot x cause detail).ctx (slShot x.slate.toNat)).cause = cause := by
  have hctx : (s.abortShot x cause detail).ctx (slShot x.slate.toNat) = _ := abortTell_ctx ..
  rw [hctx]
  refine ⟨?_, rfl, rfl⟩
  unfold State.shot?
  rw [abortShot_shots, List.find?_eq_none]
  intro y hy
  simpa using (List.mem_filter.mp hy).2

/-! ### SHOT_TIME_ABORT and LIST_HEAD_TIMEOUT -/

section TimeAbort

variable {shot : BitVec 16} {x : Shot} (hx : s.shot? shot.toNat = some x)

include hx

theorem execShotTimeAbort_early (h : s.time.frame < x.finalEnd) : execShotTimeAbort shot s = .next s := by
  unfold execShotTimeAbort
  simp only [hx]
  rw [if_pos h]

theorem execShotTimeAbort_aborts (h : x.finalEnd ≤ s.time.frame) : execShotTimeAbort shot s = .next (s.abortShot x 1 0) := by
  unfold execShotTimeAbort
  simp only [hx]
  rw [if_neg (by omega)]

end TimeAbort

/-- The state in which the head of a list has timed out: it is aborted with cause 9, and the rest has moved up (R246). -/
def headTimedOut (s : State) (i : Nat) (h : Listed) (rest : List Listed) : State :=
  ((s.setList i rest).abortTell h.slate.toNat h.origin 9 1 0 0).stampHead i

section HeadTimeout

variable {list : Fin 64} {h : Listed} {rest : List Listed} {f : Nat} (hlist : s.list list.val = h :: rest) (hhead : h.headSince = some f)

include hlist hhead

theorem execListHeadTimeout_early (hw : s.time.frame < f + s.live' 0x5000 7 0) : execListHeadTimeout list s = .next s := by
  unfold execListHeadTimeout
  simp only [hlist, hhead]
  rw [if_pos hw]

theorem execListHeadTimeout_aborts (hw : f + s.live' 0x5000 7 0 ≤ s.time.frame) :
    execListHeadTimeout list s = .next (headTimedOut s list.val h rest) := by
  unfold execListHeadTimeout
  simp only [hlist, hhead]
  rw [if_neg (by omega)]
  rfl

end HeadTimeout

theorem headTimedOut_slates {i : Nat} {h : Listed} {rest : List Listed} (hrest : rest ≠ []) :
    ((headTimedOut s i h rest).list i).map (·.slate) = rest.map (·.slate) := by
  unfold headTimedOut
  rw [stampHead_slates, list_congr (abortTell_lists ..), list_setList_listed hrest]

theorem headTimedOut_ctx (s : State) (i : Nat) (h : Listed) (rest : List Listed) :
    (headTimedOut s i h rest).ctx (slShot h.slate.toNat) =
      { s.ctx (slShot h.slate.toNat) with state := 5, cause := 9, frame := s.time.frame } := by
  unfold headTimedOut
  exact (ctx_congr (stampHead_ctxs i) _).trans (abortTell_ctx ..)

/-! ### CONTEXT_FREE -/

theorem execContextFree_frees {shot : BitVec 16} (hend : (s.ctx shot.toNat).state = 4 ∨ (s.ctx shot.toNat).state = 5)
    (hrest : (s.ctx shot.toNat).frame + s.live' 0x5000 4 0 ≤ s.time.frame) :
    execContextFree shot s = .next (s.modCtx shot.toNat fun c => { c with state := 0, frame := s.time.frame }) := by
  unfold execContextFree
  exact if_pos ⟨hend, hrest⟩

/-! ### JOB_ABORT -/

/-- JOB_ABORT of an Operator passes every check (R255). -/
theorem execJobAbort_accepts {rq : Rq} {n : Fin 4} (h : Heard s rq n roleO) (v : BitVec 32) :
    execJobAbort rq v s = .next (((noted s n.val).jobAbort n.val v.toNat).answer rq 2 0 []) := by
  have hboth : Heard s rq n (roleO + roleT) := by
    obtain ⟨hup, hsafe, hs, hopen, htr, hep, hend, hrole⟩ := h
    exact ⟨hup, hsafe, hs, hopen, htr, hep, hend, has_of_roleO hrole⟩
  have hop : bit ((noted s n.val).session n.val).roles 0 = true := (has_roleO_iff _).mp (noted_has h)
  unfold execJobAbort
  rw [directWrite_accepts hboth (refuseIf_of_not (by simp [hop])) rfl rfl]

/-- Asking for the aborts of a job keeps every shot in its place, asks each of the job's, and leaves the others as they are (R255). -/
theorem askAborts_shots (s : State) (p : Nat → Bool) (cause detail : Nat) :
    (s.askAborts p cause detail).shot.shots.map (·.id) = s.shot.shots.map (·.id) ∧
      (∀ y ∈ (s.askAborts p cause detail).shot.shots, p y.slate.toNat = true → y.abort ≠ none) ∧
        ∀ y ∈ s.shot.shots, p y.slate.toNat = false → y ∈ (s.askAborts p cause detail).shot.shots := by
  refine ⟨?_, fun y hy hp => ?_, fun y hy hp => ?_⟩
  · refine List.map_map.trans (List.map_congr_left fun x _ => ?_)
    simp only [Function.comp]
    split <;> rfl
  · obtain ⟨x, -, rfl⟩ := List.mem_map.mp hy
    by_cases hx : p x.slate.toNat = true
    · cases x.abort <;> simp [hx]
    · simp [hx] at hp
  · exact List.mem_map.mpr ⟨y, hy, by simp [hp]⟩

/-- What a table holds at a key after a change of every value that keeps the default. -/
theorem look_map {V W : Type} {d : V} {e : W} {f : V → W} (hf : f d = e) (k : Nat) :
    ∀ m : Map V, Map.look e k (m.map fun x => (x.1, f x.2)) = f (Map.look d k m)
  | [] => hf.symm
  | (a, v) :: m => by
    by_cases ha : a = k
    · simp [Map.look, ha]
    · simp only [List.map_cons, Map.look, ha, if_false]
      exact look_map hf k m

/-- A listed slate after the aborts of a job have been asked for (R255). -/
def withAbortAsked (p : Nat → Bool) (cause detail : Nat) (x : Listed) : Listed :=
  if p x.slate.toNat then { x with abort := x.abort.orElse fun _ => some (cause, detail) } else x

/-- Every listed slate of the job is asked to abort too (R255). -/
theorem askAborts_list (s : State) (p : Nat → Bool) (cause detail i : Nat) :
    ∀ y ∈ (s.askAborts p cause detail).list i, p y.slate.toNat = true → y.abort ≠ none := by
  intro y hy hp
  have hlist : (s.askAborts p cause detail).list i = (s.list i).map (withAbortAsked p cause detail) :=
    look_map (d := []) (f := List.map (withAbortAsked p cause detail)) rfl i s.shot.lists
  rw [hlist] at hy
  obtain ⟨x, -, rfl⟩ := List.mem_map.mp hy
  unfold withAbortAsked at hp ⊢
  by_cases hx : p x.slate.toNat = true
  · cases x.abort <;> simp [hx]
  · simp [hx] at hp

/-- Which slates a job abort concerns (R255). -/
def ofJob (v w : Nat) : Bool := slTenant w == bits v 9 0 && (bit v 18 || slJob w == bits v 17 10)

theorem ofJob_iff {v w : Nat} :
    ofJob v w = true ↔ slTenant w = bits v 9 0 ∧ (bit v 18 = true ∨ slJob w = bits v 17 10) := by
  simp [ofJob]

/-- An answered job abort has asked for the aborts of the job's shots, in the part of the state that holds them (R255). -/
theorem jobAbort_shot (s : State) (rq : Rq) (n v : Nat) :
    ∃ detail, (((noted s n).jobAbort n v).answer rq 2 0 []).shot = (s.askAborts (ofJob v) 2 detail).shot :=
  ⟨_, (answer_only (m := 4194308) (.refl _) rq 2 0 []).shot_eq.trans rfl⟩

/-- Settles O37: each command answers the state named above (`extensionNoted` with `extensionTold`, `abortShot`, `headTimedOut`), a
context is freed by one change, and a job's abort asks by `askAborts`. -/
theorem shotsExtendAbortAndRest : Obligations.ShotsExtendAbortAndRest := by
  refine ⟨fun shot s x hc hx => ⟨execShotExtend_early hx, fun hb hf hnew => ⟨_, execShotExtend_extends hx hb hf hnew, ?_⟩⟩,
    fun shot s x hx => ⟨execShotTimeAbort_early hx, fun hf => ⟨_, execShotTimeAbort_aborts hx hf, shot?_id hx ▸ abortShot_gone s x 1 0⟩⟩,
    fun list s h rest f hlist hhead => ⟨execListHeadTimeout_early hlist hhead, fun hw => ⟨_, execListHeadTimeout_aborts hlist hhead hw,
      headTimedOut_slates, ?_⟩⟩,
    fun shot s hend hrest => execContextFree_frees hend hrest, fun rq n v s h => ?_⟩
  · have hshot := extensionNoted_shot? hx
    have hcount := obj_extensionNoted hc shot.toNat
    cases hext : x.extended with
    | true => exact ⟨hshot, hcount, fun h => by cases h⟩
    | false =>
      have htold := extensionTold_shot (extensionNoted s shot.toNat) x.slate.toNat shot.toNat s.time.frame
      refine ⟨(shot?_congr htold _).trans hshot, (obj_congr (extensionTold_only ..).objs_eq _ _ _).trans hcount, fun _ => ?_⟩
      refine (congrArg Ctx.state ((ctx_congr (congrArg ShotState.ctxs htold) _).trans (ctx_modCtx_listed fun e => ?_))).trans rfl
      exact absurd (congrArg Ctx.state e) (by simp)
  · rw [headTimedOut_ctx]
    exact ⟨rfl, rfl⟩
  · intro job
    obtain ⟨detail, hshot⟩ := jobAbort_shot s rq n.val v.toNat
    obtain ⟨hids, hasked, hothers⟩ := askAborts_shots s (ofJob v.toNat) 2 detail
    refine ⟨_, execJobAbort_accepts h v, Silent.answers ⟨rfl, rfl, rfl⟩ _ _ _ _, ?_, fun y hy hj => ?_, fun y hy hj => ?_, fun l y hy hj => ?_⟩
    · rw [hshot]
      exact hids
    · exact hasked y (hshot ▸ hy) (ofJob_iff.mpr hj)
    · rw [hshot]
      exact hothers y hy (Bool.eq_false_iff.mpr fun ht => hj (ofJob_iff.mp ht))
    · rw [list_congr (congrArg ShotState.lists hshot)] at hy
      exact askAborts_list s _ 2 detail l y hy (ofJob_iff.mpr hj)

end Sys2Proof.Laws

/-! PostChecks: what the checks of a post look at, and what a post leaves of the lists and contexts (R199, R243). -/

namespace Sys2Proof.Laws

open Sys2Proof.Machine Sys2Proof.Safety

variable {s t u : State}

/-! ### Slates of a kind -/

/-- A slate with its kind replaced (R240). -/
def slateOf (w : BitVec 512) (k : Nat) : Nat := w.toNat - slKind w.toNat * 2 ^ 24 + k * 2 ^ 24

theorem slKind_slateOf (w : BitVec 512) {k : Nat} (hk : k < 256) : slKind (slateOf w k) = k := by
  simp only [slateOf, slKind, bits, Nat.shiftRight_eq_div_pow]
  omega

theorem slateOf_lt (w : BitVec 512) {k : Nat} (hk : k < 256) : slateOf w k < 2 ^ 512 := by
  have hw := w.isLt
  simp only [slateOf, slKind, bits, Nat.shiftRight_eq_div_pow]
  omega

/-- The kinds of slates with their commands (R240). -/
def postKinds (p : Post) : List (Instr × Nat) :=
  [(.reduce p, 1), (.gather p, 2), (.score p, 3), (.project p, 4), (.select p, 5), (.filter p, 6), (.convert p, 7), (.copy p, 8),
    (.scan p, 9), (.fill p, 10)]

theorem exec_of_mem_postKinds {p : Post} {c : Instr} {k : Nat} (h : (c, k) ∈ postKinds p) (s : State) :
    exec c s = .next (s.post k p) := by
  simp only [postKinds, List.mem_cons, Prod.mk.injEq, List.not_mem_nil, or_false] at h
  rcases h with ⟨rfl, rfl⟩ | ⟨rfl, rfl⟩ | ⟨rfl, rfl⟩ | ⟨rfl, rfl⟩ | ⟨rfl, rfl⟩ | ⟨rfl, rfl⟩ | ⟨rfl, rfl⟩ | ⟨rfl, rfl⟩ | ⟨rfl, rfl⟩ |
    ⟨rfl, rfl⟩ <;> rfl

theorem kind_of_mem_postKinds {p : Post} {c : Instr} {k : Nat} (h : (c, k) ∈ postKinds p) : 1 ≤ k ∧ k ≤ 10 := by
  simp only [postKinds, List.mem_cons, Prod.mk.injEq, List.not_mem_nil, or_false] at h
  omega

theorem execReservedKind_posts {k : Nat} (hlt : k < 256) (hk : k = 0 ∨ 11 ≤ k) (p : Post) (s : State) :
    execReservedKind p (BitVec.ofNat 8 k) s = .next (s.post k p) := by
  have hn : (BitVec.ofNat 8 k).toNat = k := by simpa using hlt
  unfold execReservedKind
  rw [hn, if_pos hk]

/-! ### What the checks look at -/

/-- What the checks of R243 look at is as before: the block, the regions, the shots, the stacks, the Loft, and every object but the
programmable counters'. -/
structure SameChecks (s t : State) : Prop where
  objs : ∀ ix sub el, oKey ix sub el < oKey 0x9002 1 0 → t.obj ix sub el = s.obj ix sub el
  block : t.block = s.block
  regions : t.regions = s.regions
  shot : t.shot = s.shot
  stackTab : t.stackTab = s.stackTab
  loft : t.loft = s.loft

theorem SameChecks.refl (s : State) : SameChecks s s := ⟨fun _ _ _ _ => rfl, rfl, rfl, rfl, rfl, rfl⟩

/-- A change of other parts goes on from there. -/
theorem SameChecks.only (h : SameChecks s t) {m : Nat} (g : Only m t u) (hb : m.testBit 1 = false := by decide)
    (ho : m.testBit 3 = false := by decide) (hr : m.testBit 6 = false := by decide) (hk : m.testBit 11 = false := by decide)
    (hl : m.testBit 13 = false := by decide) (hs : m.testBit 14 = false := by decide) : SameChecks s u where
  objs ix sub el hlt := (obj_congr (g.objs_eq ho) ix sub el).trans (h.objs ix sub el hlt)
  block := (g.block_eq hb).trans h.block
  regions := (g.regions_eq hr).trans h.regions
  shot := (g.shot_eq hs).trans h.shot
  stackTab := (g.stackTab_eq hk).trans h.stackTab
  loft := (g.loft_eq hl).trans h.loft

theorem sameChecks_tallyBlock (s : State) (code n : Nat) (x : Txn) : SameChecks s (s.tallyBlock code n x) := by
  have honly : Only 524296 s (s.tallyBlock code n x) := tallyBlock_only (.refl s) _ _ _
  exact ⟨fun _ _ _ hlt => obj_tallyBlock hlt _ _ _, honly.block_eq, honly.regions_eq, honly.shot_eq, honly.stackTab_eq, honly.loft_eq⟩

namespace SameChecks

variable (h : SameChecks s t)

include h

theorem list_eq (i : Nat) : t.list i = s.list i := list_congr (congrArg ShotState.lists h.shot) i

theorem ctx_eq (n : Nat) : t.ctx n = s.ctx n := ctx_congr (congrArg ShotState.ctxs h.shot) n

theorem slot_eq : t.slot = s.slot := funext (slot_congr h.regions)

theorem descOf_eq (w : Nat) : t.descOf w = s.descOf w := by
  unfold State.descOf State.tslot
  rw [h.shot]

theorem extentFits_eq (x : Nat × Nat × Nat) : t.extentFits x = s.extentFits x := by
  unfold State.extentFits
  rw [h.slot_eq]

theorem isReady_eq : t.isReady = s.isReady := by
  funext d
  unfold State.isReady
  rw [readiness_congr h.block]

theorem arraysIn_eq : t.arraysIn = s.arraysIn := by
  refine List.filter_congr fun i hi => ?_
  have hlt : i < 4 := List.mem_range.mp hi
  have hstate : t.unitState (unitArray i) = s.unitState (unitArray i) := h.objs _ _ _ (by unfold oKey unitArray; omega)
  rw [hstate, h.isReady_eq]

theorem check4_eq (w : Nat) (fromPort : Bool) : t.check4 w fromPort = s.check4 w fromPort := by
  have hcfg : t.obj 0x6010 1 (snConfig w) = s.obj 0x6010 1 (snConfig w) := by
    refine h.objs _ _ _ ?_
    simp only [snConfig, bits, oKey]
    omega
  unfold State.check4
  simp only [hcfg, h.descOf_eq, h.extentFits_eq]

theorem check7_eq (w : Nat) : t.check7 w = s.check7 w := by
  unfold State.check7
  simp only [h.shot, h.slot_eq, h.descOf_eq, h.extentFits_eq]

theorem needs_eq (w : Nat) : t.needs w = s.needs w := by
  unfold State.needs State.scratchKey
  simp only [h.slot_eq, h.loft]

theorem enginesReady_eq (w : Nat) : t.enginesReady w = s.enginesReady w := by
  unfold State.enginesReady
  rw [h.needs_eq, h.isReady_eq, h.arraysIn_eq]

theorem hotRegion_eq (w : Nat) : t.hotRegion w = s.hotRegion w := by
  unfold State.hotRegion State.level State.stack
  simp only [h.slot_eq, h.descOf_eq, h.stackTab]

/-- The checks of R243 look at nothing else, but for the tags of the posting port. -/
theorem postCheck_eq {list : Nat} (hl : list < 64) {w : Nat} {port : Option Nat}
    (htag : ∀ p, port = some p → slOut w = 3 → t.tagOut p (slReply w) = s.tagOut p (slReply w)) (tenant : Nat) (any : Bool) :
    t.postCheck w list port tenant any = s.postCheck w list port tenant any := by
  have hlist : t.obj 0x5001 1 list = s.obj 0x5001 1 list := h.objs _ _ _ (by unfold oKey; omega)
  have htags (p : Nat) (hp : port = some p) :
      (slOut w == 3 && t.tagOut p (slReply w)) = (slOut w == 3 && s.tagOut p (slReply w)) := by
    by_cases ho : slOut w = 3
    · rw [htag p hp ho]
    · rw [beq_eq_false_iff_ne.mpr ho, Bool.false_and, Bool.false_and]
  unfold State.postCheck
  simp only [hlist, h.ctx_eq, h.check4_eq, h.check7_eq, h.slot_eq, h.descOf_eq, h.block, h.enginesReady_eq, h.hotRegion_eq, h.list_eq]
  cases port with
  | none => rfl
  | some p => simp only [htags p rfl]

end SameChecks

/-! ### Slates that are listed -/

theorem setList_append_stamped (s : State) (i : Nat) (l : Listed) :
    (((s.setList i (s.list i ++ [l])).stampHead i).list i).map (·.slate) = (s.list i).map (·.slate) ++ [l.slate] := by
  rw [stampHead_slates, list_setList_listed (by simp), List.map_append]
  rfl

/-- A slate that is listed is the last of its list (R243). -/
theorem enlist_slates (s : State) (w i : Nat) (o : Origin) :
    ((s.enlist w i o).list i).map (·.slate) = (s.list i).map (·.slate) ++ [BitVec.ofNat 512 w] :=
  setList_append_stamped s i { slate := BitVec.ofNat 512 w, origin := o }

/-- Its context is LISTED, with its epoch and tenant (R243, R249). -/
theorem enlist_ctx (s : State) (w i : Nat) (o : Origin) :
    (s.enlist w i o).ctx (slShot w) =
      { state := 1, epoch := slEpoch w, flags := (s.ctx (slShot w)).flags, tenant := slTenant w, frame := s.time.frame } := by
  unfold State.enlist
  extract_lets l
  rw [ctx_modCtx_listed fun e => absurd (congrArg Ctx.state e) (by simp), ctx_congr (stampHead_ctxs i)]
  rfl

/-! ### Wakes that a refusal starts -/

theorem Silent.trans (h : Silent s t) (g : Silent t u) : Silent s u := by
  obtain ⟨ho, ha, he⟩ := h
  obtain ⟨go, ga, ge⟩ := g
  exact ⟨go.trans ho, ga.trans ha, ge.trans he⟩

theorem Silent.only (h : Silent s t) {m : Nat} (g : Only m t u) (hm : m.testBit 2 = false := by decide)
    (ho : m.testBit 22 = false := by decide) : Silent s u :=
  h.trans ⟨g.outbox_eq ho, by rw [g.mgmt_eq hm], by rw [g.mgmt_eq hm]⟩

/-- An event is noted and nothing is sent (R442). -/
theorem silent_logEvent (s : State) (cls code body : Nat) (tenant : Option Nat) (session : Nat) (quiet : Bool) :
    Silent s (s.logEvent cls code body tenant session quiet) := by
  unfold State.logEvent
  extract_lets wi r s1
  have h1 : Silent s s1 := ⟨rfl, rfl, rfl⟩
  have h2 : Only 8 s1 (s1.each (upTo 4) State.overtake) := each_only (fun _ _ h => overtake_only h _) _ (.refl s1)
  exact h1.only h2

theorem silent_asks (s : State) (key n : Nat) : Silent s (s.asks key n) := ⟨rfl, rfl, rfl⟩

theorem silent_logAsked (s : State) (cls code item body : Nat) : Silent s (s.logAsked cls code item body) := by
  unfold State.logAsked
  exact (silent_logEvent ..).trans (silent_asks ..)

theorem obj_logAsked {ix sub el : Nat} (h : oKey 0x1302 0 0 ≤ oKey ix sub el) (cls code item body : Nat) :
    (s.logAsked cls code item body).obj ix sub el = s.obj ix sub el := by
  unfold State.logAsked
  rw [obj_congr (asks_only (m := 4) (.refl _) _ _).objs_eq, obj_logEvent h]

theorem silent_setReady (s : State) (d v : Nat) : Silent s (s.setReady d v) := by
  unfold State.setReady
  extract_lets old
  split
  · exact ⟨rfl, rfl, rfl⟩
  · exact Silent.trans ⟨rfl, rfl, rfl⟩ (silent_logAsked (s.modBlock _) _ _ _ _)

theorem obj_setReady {ix sub el : Nat} (h : oKey 0x1302 0 0 ≤ oKey ix sub el) (d v : Nat) :
    (s.setReady d v).obj ix sub el = s.obj ix sub el := by
  unfold State.setReady
  extract_lets old
  split
  · rfl
  · exact (obj_logAsked h _ _ _ _).trans rfl

/-- What holds through every change of a stack and of a readiness holds through the wakes of a slate's domains (R199). -/
theorem wakeFor_induct {P : State → Prop} (hstack : ∀ t st f, P t → P (t.modStack st f)) (hready : ∀ t d v, P t → P (t.setReady d v))
    (h : P s) (w : Nat) : P (s.wakeFor w) := by
  refine each_induct h fun t d _ ht => ?_
  split
  · exact ht
  · split
    · split
      · exact ht
      · exact hstack t d _ ht
    · exact hready t d 4 ht

theorem silent_wakeFor (s : State) (w : Nat) : Silent s (s.wakeFor w) :=
  wakeFor_induct (P := Silent s) (fun _ _ _ h => h) (fun t d v h => h.trans (silent_setReady t d v)) ⟨rfl, rfl, rfl⟩ w

theorem obj_wakeFor {ix sub el : Nat} (h : oKey 0x1302 0 0 ≤ oKey ix sub el) (w : Nat) :
    (s.wakeFor w).obj ix sub el = s.obj ix sub el :=
  wakeFor_induct (P := fun t => t.obj ix sub el = s.obj ix sub el) (fun _ _ _ h => h) (fun _ d v g => (obj_setReady h d v).trans g) rfl w

/-! ### A session's post -/

/-- The state in which a failed check has been counted, and the wakes of check 11 started (R199, R243). -/
def checkFailed (s : State) (w c : Nat) : State := (if c = 11 then s.wakeFor w else s).bump 0x5000 8 c 1

theorem checkFailed_only (s : State) (w c : Nat) : Only 2062 s (checkFailed s w c) :=
  bump_only (ite_only (wakeFor_only (.refl s) w) (.refl s)) _ _ _ _

theorem silent_checkFailed (s : State) (w c : Nat) : Silent s (checkFailed s w c) := by
  unfold checkFailed
  split
  · exact (silent_wakeFor s w).only (m := 8) (bump_only (.refl _) _ _ _ _)
  · exact ⟨rfl, rfl, rfl⟩

theorem obj_checkFailed (hc : Canonical s) (w c : Nat) : (checkFailed s w c).obj 0x5000 8 c = s.obj 0x5000 8 c + 1 := by
  unfold checkFailed
  split
  · have honly : Only 2062 s (s.wakeFor w) := wakeFor_only (.refl s) w
    rw [State.bump, obj_setObj (Canonical.objs_rising (honly.canon hc)), obj_wakeFor (by unfold oKey; omega)]
  · exact obj_setObj (Canonical.objs_rising hc) _ _ _ _

section Session

variable {rq : Rq} {n : Fin 4} (h : Heard s rq n roleO) {list : Nat} (hl : list < 64) (w : Nat)

include h hl

theorem noted_postCheck : (noted s n.val).postCheck w list none ((noted s n.val).session n.val).tenant
    (bit ((noted s n.val).session n.val).roles 0) = s.postCheck w list none (s.session n.val).tenant true := by
  have hsame : SameChecks s (noted s n.val) := (SameChecks.refl s).only (m := 4) (modSession_only (.refl s) _ _)
  rw [(has_roleO_iff _).mp (noted_has h), hsame.postCheck_eq hl (fun _ hp => by cases hp), noted_session h]

/-- A post of an Operator whose slate passes every check (R243). -/
theorem hostPost_lists (hv : (s.postCheck w list none (s.session n.val).tenant true).1 = 0) :
    s.hostPost rq list w = ((noted s n.val).enlist w list (.session n.val true)).answer rq 2 0 [] := by
  have hrole := has_of_roleO (noted_has h)
  have hop := (has_roleO_iff _).mp (noted_has h)
  have hcheck := noted_postCheck h hl w
  unfold State.hostPost
  simp only [gate_of_heard h, hcheck, hv, hrole, noted_serves h, Nat.not_le.mpr hl]
  simp [hop]

/-- One whose slate fails a check (R243). -/
theorem hostPost_refuses (hv : (s.postCheck w list none (s.session n.val).tenant true).1 ≠ 0) :
    s.hostPost rq list w =
      (checkFailed (noted s n.val) w (s.postCheck w list none (s.session n.val).tenant true).1).refuse rq 2
        (s.postCheck w list none (s.session n.val).tenant true).2.2 0x5001 3 list := by
  have hrole := has_of_roleO (noted_has h)
  have hcheck := noted_postCheck h hl w
  unfold State.hostPost
  simp only [gate_of_heard h, hcheck, hrole, noted_serves h, Nat.not_le.mpr hl]
  simp [hv, checkFailed]

end Session

theorem postCheck_reserved {w list : Nat} {port : Option Nat} {tenant : Nat} {any : Bool} (hon : bit (s.obj 0x5001 1 list) 10 = true)
    (hk : slKind w = 0 ∨ 11 ≤ slKind w) : s.postCheck w list port tenant any = (2, .range, abRange) := by
  unfold State.postCheck
  simp [hon, hk]

end Sys2Proof.Laws

/-! Posts: slates posted by sessions and by ports (R48, R49, R109, R240, R243, R513). -/

namespace Sys2Proof.Laws

open Sys2Proof.Machine Sys2Proof.Safety

variable {s t u : State}

/-! ### A tracker with one request more -/

/-- A port's hold buffer holds no request of a class, and none of its posts that wait for their slates has it. -/
def QuietPort (s : State) (p : Nat) (c : Cls) : Prop :=
  ∀ q ∈ s.portReqs p, (q.cls = c → q.phase ≠ .held ∨ q.reserved = true) ∧ (q.op = .post → q.phase = .wait → q.data = none)

section Takes

variable {q : Req} (h : Takes q s u) (hid : q.id = s.nextReq) (hnew : ∀ x ∈ s.reqs, x.id ≠ s.nextReq)

include h

theorem Takes.portReqs (hd : q.dest = .port) : u.portReqs q.master = s.portReqs q.master ++ [q] := by
  obtain ⟨hreqs, -⟩ := h
  unfold State.portReqs
  rw [hreqs, List.filter_append, List.filter_cons_of_pos (by simp [hd])]
  rfl

/-- The new request is the first that its class holds. -/
theorem Takes.firstHeld (hd : q.dest = .port) (hh : q.phase = .held) (hr : q.reserved = false) (hquiet : QuietPort s q.master q.cls) :
    (u.portReqs q.master).find? (fun x => x.cls == q.cls && x.phase == .held && !x.reserved) = some q := by
  rw [Takes.portReqs h hd, List.find?_append, List.find?_eq_none.mpr fun x hx => ?_]
  · simp [hh, hr]
  · obtain ⟨hheld, -⟩ := hquiet x hx
    simp only [Bool.and_eq_true, beq_iff_eq, Bool.not_eq_true', not_and, Bool.not_eq_false]
    exact fun ⟨hc, hp⟩ => (hheld hc).resolve_left (not_not.mpr hp)

theorem Takes.slatesDue (hd : q.dest = .port) (hheld : q.phase ≠ .wait) (hquiet : QuietPort s q.master q.cls) :
    SlatesDue u q.master := by
  intro x hx hop hw
  rw [Takes.portReqs h hd] at hx
  obtain hx | hx := List.mem_append.mp hx
  · obtain ⟨-, hdue⟩ := hquiet x hx
    exact hdue hop hw
  · cases List.mem_singleton.mp hx
    exact absurd hw hheld

/-- It counts against no cap as long as it waits in its hold buffer (R109). -/
theorem Takes.capRoom (hr : q.routed = false) (hshot : u.shot = s.shot) (hlive : u.live = s.live) (x : Req) : u.capRoom x = s.capRoom x := by
  obtain ⟨hreqs, -⟩ := h
  have hout (m : Nat) (c : Option Cls) : u.outstanding m c = s.outstanding m c := by
    have hno : q.counts = false := by simp [Req.counts, hr]
    unfold State.outstanding
    rw [hreqs, List.filter_append, List.filter_cons_of_neg (by simp [hno]), List.filter_nil, List.append_nil]
  unfold State.capRoom State.replyHeld State.live'
  rw [hout, hout, hshot, hlive]

/-- Its tag is the one that is outstanding besides (R47, R243). -/
theorem Takes.tagOut_ne (hshot : u.shot = s.shot) {p tag : Nat} (htag : tag ≠ q.tag) : u.tagOut p tag = s.tagOut p tag := by
  obtain ⟨hreqs, -⟩ := h
  have hany : (u.portReqs p).any (fun x => x.tag == tag) = (s.portReqs p).any fun x => x.tag == tag := by
    have hone : ([q].filter fun x => x.master == p && x.dest == .port).any (fun x => x.tag == tag) = false := by
      simp [htag.symm]
    unfold State.portReqs
    rw [hreqs, List.filter_append, List.any_append, hone, Bool.or_false]
  unfold State.tagOut
  rw [hany, hshot]

include hid hnew

theorem Takes.req? : u.req? q.id = some q := by
  obtain ⟨hreqs, -⟩ := h
  unfold State.req?
  rw [hreqs, List.find?_append, List.find?_eq_none.mpr fun x hx => by simpa [hid] using hnew x hx]
  simp

theorem Takes.nodup (hnd : (s.reqs.map (·.id)).Nodup) : (u.reqs.map (·.id)).Nodup := by
  obtain ⟨hreqs, -⟩ := h
  rw [hreqs, List.map_append, List.nodup_append]
  refine ⟨hnd, List.nodup_singleton _, fun i hi j hj => ?_⟩
  obtain ⟨x, hx, rfl⟩ := List.mem_map.mp hi
  cases List.mem_singleton.mp hj
  exact fun e => hnew x hx (e.trans hid)

/-- A change of the new request leaves the others as they were. -/
theorem Takes.modReq (f : Req → Req) : Takes (f q) s (u.modReq q.id f) := by
  obtain ⟨hreqs, hnext⟩ := h
  refine ⟨?_, hnext⟩
  have hrest : (s.reqs.map fun x => if x.id == q.id then f x else x) = s.reqs :=
    (List.map_congr_left fun x hx => by simp [hid, hnew x hx]).trans (List.map_id' _)
  rw [State.modReq_reqs, hreqs, List.map_append, hrest]
  simp

end Takes

/-- A change that leaves the tracker alone. -/
theorem Takes.only {q : Req} {m : Nat} (h : Takes q s t) (g : Only m t u) (hr : m.testBit 8 = false := by decide)
    (hn : m.testBit 9 = false := by decide) : Takes q s u := by
  obtain ⟨hreqs, hnext⟩ := h
  exact ⟨(g.reqs_eq hr).trans hreqs, (g.nextReq_eq hn).trans hnext⟩

/-! ### A port's post -/

/-- The state in which a POST slot has been counted and tracked (R48, R101). -/
def postPushed (s : State) (r : PortReq) : State := (slotCounted s .post r).pushReq (s.newReq .post r)

theorem takes_postPushed (s : State) (r : PortReq) : Takes (s.newReq .post r) s (postPushed s r) :=
  Takes.after (slotCounted_only s .post r) (takes_pushReq _ _)

theorem postPushed_only (s : State) (r : PortReq) : Only 526088 s (postPushed s r) :=
  pushReq_only ((slotCounted_only s .post r).mono rfl) _

theorem sameChecks_postPushed (s : State) (r : PortReq) : SameChecks s (postPushed s r) :=
  (sameChecks_tallyBlock s _ _ _).only (m := 1792) (pushReq_only (.refl _) _)

/-- A POST slot is due one position of write data, behind those due before it (R48). -/
theorem postPushed_due (s : State) (r : PortReq) :
    ((postPushed s r).port r.port.val).due = (s.port r.port.val).due ++ [{ req := s.nextReq, n := 1 }] := by
  have hdue := due_pushReq (s := slotCounted s .post r) (q := s.newReq .post r) rfl
  rw [port_congr (slotCounted_only s .post r).ports_eq] at hdue
  exact hdue

/-- A slot that is taken leaves the data that has come (R48). -/
theorem gathered_pushReq (hc : Canonical s) (q : Req) : ((s.pushReq q).port q.master).gathered = (s.port q.master).gathered :=
  (congrArg PortState.gathered (port_modPort (s := { s with reqs := s.reqs ++ [q], nextReq := s.nextReq + 1 }) hc q.master _)).trans rfl

theorem postPushed_gathered (hc : Canonical s) (r : PortReq) :
    ((postPushed s r).port r.port.val).gathered = (s.port r.port.val).gathered := by
  have hcounted := slotCounted_only s .post r
  have hgot := gathered_pushReq (hcounted.canon hc) (s.newReq .post r)
  rw [port_congr hcounted.ports_eq] at hgot
  exact hgot

/-- The state in which a POST slot's slate has come with it (R48). -/
def slateGiven (s : State) (r : PortReq) (d : Sector) : State :=
  ((postPushed s r).modPort r.port.val fun q => { q with gathered := [], due := [] }).modReq s.nextReq fun q =>
    withData (postPushed s r) q [d]

/-- A POST slot as it is tracked with its slate (R48). -/
def withSlate (s : State) (r : PortReq) (d : Sector) : Req := withData (postPushed s r) (s.newReq .post r) [d]

/-- A POST leaves its hold buffer (R109). -/
def released (q : Req) : Req := { q with phase := .wait, routed := true }

section Slot

variable {r : PortReq}

theorem takes_slateGiven (hnew : ∀ q ∈ s.reqs, q.id ≠ s.nextReq) (d : Sector) : Takes (withSlate s r d) s (slateGiven s r d) :=
  Takes.modReq (u := (postPushed s r).modPort r.port.val _) (q := s.newReq .post r)
    (Takes.only (m := 1024) (takes_postPushed s r) (modPort_only (.refl _) _ _)) rfl hnew fun q => withData (postPushed s r) q [d]

theorem slateGiven_only (d : Sector) : Only 526088 s (slateGiven s r d) :=
  modReq_only (modPort_only (postPushed_only s r) _ _) _ _

theorem sameChecks_slateGiven (d : Sector) : SameChecks s (slateGiven s r d) :=
  (sameChecks_postPushed s r).only (m := 1280) (modReq_only (modPort_only (.refl _) _ _) _ _)

/-- A slot whose slate comes with it, where no data was due before it, has it at once (R48). -/
theorem giveData_postPushed (hc : Canonical s) (hdue : (s.port r.port.val).due = []) (hgot : (s.port r.port.val).gathered = [])
    (d : Sector) : (postPushed s r).giveData r.port.val d = slateGiven s r d := by
  have hd := postPushed_due s r
  have hg := postPushed_gathered hc r
  rw [hdue, List.nil_append] at hd
  rw [hgot] at hg
  rw [giveData_completes hd d rfl (by simp [hg]), hg]
  rfl

/-- A POST slot that is accepted is pushed, is given its slate if that comes with it, and leaves its hold buffer at once when no other
of its class stands before it (R48, R109). -/
theorem post_releases {p : Post} {sent : Bool} (ho : p.origin = .port r sent) (hready : s.portReady r.port.val r.cls = true)
    (hfree : s.tagOut r.port.val r.tag.toNat = false) {k : Nat} {x : Req}
    (ht : t = if sent then (postPushed s r).giveData r.port.val (BitVec.ofNat 512 (slateOf p.slate k)) else postPushed s r)
    (hfirst : (t.portReqs r.port.val).find? (fun x => x.cls == r.cls && x.phase == .held && !x.reserved) = some x)
    (hid : x.id = s.nextReq) : s.post k p = t.holdRelease r.port.val r.cls := by
  have hfree' : s.tagOut r.port.val (s.newReq .post r).tag = false := hfree
  have hid' : x.id = (s.newReq .post r).id := hid
  have hpushed : (s.tallyBlock 1 1 (s.newReq .post r).txn).pushReq (s.newReq .post r) = postPushed s r := rfl
  have hslate : p.slate.toNat - slKind p.slate.toNat * 2 ^ 24 + k * 2 ^ 24 = slateOf p.slate k := rfl
  unfold State.post
  simp only [ho, hready, hfree', Bool.not_true, Bool.false_eq_true, if_false, hpushed, hslate, ← ht, hfirst, hid', if_true]

end Slot

/-! ### A slot whose slate is still to come -/

/-- It leaves its hold buffer when the caps have room, and waits for its slate; else it stays (R49, R109). -/
theorem postPushed_leaves {r : PortReq} (hnew : ∀ q ∈ s.reqs, q.id ≠ s.nextReq) (hnd : (s.reqs.map (·.id)).Nodup)
    (hquiet : QuietPort s r.port.val r.cls) : (postPushed s r).holdRelease r.port.val r.cls =
      if s.capRoom (s.newReq .post r) then (postPushed s r).modReq s.nextReq released else postPushed s r := by
  have htakes := takes_postPushed s r
  have hfirst := Takes.firstHeld htakes rfl rfl rfl hquiet
  have hroom := Takes.capRoom htakes rfl (sameChecks_postPushed s r).shot (postPushed_only s r).live_eq (s.newReq .post r)
  have hdue := Takes.slatesDue htakes rfl (fun e => nomatch e) hquiet
  have hnodup := Takes.nodup htakes rfl hnew hnd
  have hreq := Takes.req? htakes rfl hnew
  have hafter : ((postPushed s r).modReq s.nextReq released).takePosts r.port.val = _ :=
    SlatesDue.takePosts (SlatesDue.modReq hdue hnodup hreq fun _ _ => rfl)
  rw [← hroom, ← hafter]
  exact holdRelease_post hfirst rfl

/-! ### A slot with its slate -/

/-- A post that is answered DONE (R243). -/
def listedReq (q : Req) : Req := { q with whole := some (.done, .none), phase := .done, notReady := false }

/-- A port's post that passes every check (R49, R243). -/
theorem portPost_lists {q : Req} {d : BitVec 2048} (hdata : q.data = some d) (haddr : q.addr < 64)
    (hcheck : (s.postCheck d.toNat q.addr (some q.master) q.tenant false).1 = 0) :
    s.portPost q = (s.enlist d.toNat q.addr (.port q.master)).modReq q.id listedReq := by
  unfold State.portPost
  simp only [hdata, Option.getD_some, Nat.mod_eq_of_lt haddr, Nat.not_le.mpr haddr, if_false, hcheck, if_true]
  rfl

/-- Its data is nothing to a request's room under the caps (R109). -/
theorem capRoom_withData (s u : State) (q : Req) (got : List Sector) : s.capRoom (withData u q got) = s.capRoom q := rfl

/-- With room under the caps it leaves its hold buffer and is taken at once (R49, R109). -/
theorem slateGiven_leaves {r : PortReq} (hnew : ∀ q ∈ s.reqs, q.id ≠ s.nextReq) (hnd : (s.reqs.map (·.id)).Nodup)
    (hquiet : QuietPort s r.port.val r.cls) (d : Sector) (hroom : s.capRoom (s.newReq .post r) = true) :
    (slateGiven s r d).holdRelease r.port.val r.cls =
      ((slateGiven s r d).modReq s.nextReq released).portPost (released (withSlate s r d)) := by
  have htakes := takes_slateGiven (r := r) hnew d
  have hfirst := Takes.firstHeld htakes rfl rfl rfl hquiet
  have hcap : (slateGiven s r d).capRoom (withSlate s r d) = true := by
    rw [Takes.capRoom htakes rfl (sameChecks_slateGiven d).shot (slateGiven_only d).live_eq, withSlate, capRoom_withData, hroom]
  refine (holdRelease_post hfirst rfl).trans ((if_pos hcap).trans ?_)
  exact takePosts_modReq (f := released) (Takes.slatesDue htakes rfl (fun e => nomatch e) hquiet) (Takes.nodup htakes rfl hnew hnd)
    (Takes.req? htakes rfl hnew) rfl rfl rfl rfl rfl

theorem toNat_ofNat_of_lt {n w : Nat} (h : w < 2 ^ n) : (BitVec.ofNat n w).toNat = w := by
  rw [BitVec.toNat_ofNat, Nat.mod_eq_of_lt h]

/-- The slate of a slot is what its one position of write data holds (R48). -/
theorem withData_slate (q : Req) {w : Nat} (hw : w < 2 ^ 512) :
    ∃ d : BitVec 2048, (withData s q [BitVec.ofNat 512 w]).data = some d ∧ d.toNat = w := by
  have hsmall : w < 2 ^ 2048 := hw.trans_le (pow_le_pow_right₀ (by omega) (by omega))
  refine ⟨BitVec.ofNat 2048 w, congrArg (fun n => some (BitVec.ofNat 2048 n)) ?_, toNat_ofNat_of_lt hsmall⟩
  change 0 + (BitVec.ofNat 512 w).toNat * 1 = w
  rw [toNat_ofNat_of_lt hw, Nat.mul_one, Nat.zero_add]

/-- The state in which a POST slot that came with its slate waits to be taken (R49). -/
def slateWaits (s : State) (r : PortReq) (w : Nat) : State := (slateGiven s r (BitVec.ofNat 512 w)).modReq s.nextReq released

/-- The slot as it is tracked there. -/
def waitingReq (s : State) (r : PortReq) (w : Nat) : Req := released (withSlate s r (BitVec.ofNat 512 w))

theorem slateWaits_only (s : State) (r : PortReq) (w : Nat) : Only 526088 s (slateWaits s r w) :=
  modReq_only (slateGiven_only _) _ _

theorem sameChecks_slateWaits (s : State) (r : PortReq) (w : Nat) : SameChecks s (slateWaits s r w) :=
  (sameChecks_slateGiven _).only (m := 256) (modReq_only (.refl _) _ _)

/-- No data is due any more at the slot's port (R48). -/
theorem slateWaits_due (hc : Canonical s) (r : PortReq) (w : Nat) : ((slateWaits s r w).port r.port.val).due = [] := by
  have hports : (slateWaits s r w).ports = ((postPushed s r).modPort r.port.val fun q => { q with gathered := [], due := [] }).ports := by
    simp only [slateWaits, slateGiven, State.modReq_ports]
  rw [port_congr hports, port_modPort ((postPushed_only s r).canon hc)]

/-- The state in which the slot's slate has been listed and the slot answered DONE (R243). -/
def postListed (s : State) (r : PortReq) (w : Nat) : State :=
  ((slateWaits s r w).enlist w r.addr.toNat (.port r.port.val)).modReq s.nextReq listedReq

section Listed

variable {r : PortReq} (hnew : ∀ q ∈ s.reqs, q.id ≠ s.nextReq) (w : Nat)

include hnew

theorem takes_slateWaits : Takes (waitingReq s r w) s (slateWaits s r w) :=
  Takes.modReq (takes_slateGiven hnew _) rfl hnew released

theorem takes_postListed : Takes (listedReq (waitingReq s r w)) s (postListed s r w) :=
  Takes.modReq (Takes.only (m := 16384) (takes_slateWaits hnew w) (enlist_only (.refl _) _ _ _)) rfl hnew listedReq

/-- Its checks see the state as it was before the slot, whose own tag is not the reply tag (R243). -/
theorem slateWaits_postCheck (haddr : r.addr.toNat < 64) (htag : slOut w = 3 → slReply w ≠ r.tag.toNat) :
    (slateWaits s r w).postCheck w r.addr.toNat (some r.port.val) r.tenant.toNat false =
      s.postCheck w r.addr.toNat (some r.port.val) r.tenant.toNat false :=
  (sameChecks_slateWaits s r w).postCheck_eq haddr
    (fun _ _ hout => Takes.tagOut_ne (takes_slateWaits hnew w) (sameChecks_slateWaits s r w).shot (htag hout)) _ _

/-- A slot with its slate, which passes every check, is listed and answered at once (R49, R243). -/
theorem slateGiven_lists (hw : w < 2 ^ 512) (hnd : (s.reqs.map (·.id)).Nodup) (hquiet : QuietPort s r.port.val r.cls)
    (hroom : s.capRoom (s.newReq .post r) = true) (haddr : r.addr.toNat < 64)
    (hcheck : (s.postCheck w r.addr.toNat (some r.port.val) r.tenant.toNat false).1 = 0)
    (htag : slOut w = 3 → slReply w ≠ r.tag.toNat) :
    (slateGiven s r (BitVec.ofNat 512 w)).holdRelease r.port.val r.cls = postListed s r w := by
  obtain ⟨d, hdata, rfl⟩ := withData_slate (s := postPushed s r) (s.newReq .post r) hw
  have hpost := portPost_lists (s := slateWaits s r d.toNat) (q := waitingReq s r d.toNat) hdata haddr
    ((congrArg Prod.fst (slateWaits_postCheck hnew d.toNat haddr htag)).trans hcheck)
  exact (slateGiven_leaves hnew hnd hquiet _ hroom).trans hpost

end Listed

theorem postListed_due (hc : Canonical s) (r : PortReq) (w : Nat) : ((postListed s r w).port r.port.val).due = [] := by
  have honly : Only 16640 (slateWaits s r w) (postListed s r w) := modReq_only (enlist_only (.refl _) _ _ _) _ _
  rw [port_congr honly.ports_eq, slateWaits_due hc]

theorem postListed_shot (s : State) (r : PortReq) (w : Nat) :
    (postListed s r w).shot = ((slateWaits s r w).enlist w r.addr.toNat (.port r.port.val)).shot :=
  State.modReq_shot ..

theorem postListed_slates (s : State) (r : PortReq) (w : Nat) : ((postListed s r w).list r.addr.toNat).map (·.slate) =
    (s.list r.addr.toNat).map (·.slate) ++ [BitVec.ofNat 512 w] := by
  rw [list_congr (congrArg ShotState.lists (postListed_shot s r w)), enlist_slates, (sameChecks_slateWaits s r w).list_eq]

theorem postListed_ctx (s : State) (r : PortReq) (w : Nat) : (postListed s r w).ctx (slShot w) =
    { state := 1, epoch := slEpoch w, flags := (s.ctx (slShot w)).flags, tenant := slTenant w, frame := s.time.frame } := by
  rw [ctx_congr (congrArg ShotState.ctxs (postListed_shot s r w)), enlist_ctx, (sameChecks_slateWaits s r w).ctx_eq,
    (slateWaits_only s r w).time_eq]

/-! ### Posts of sessions and of ports -/

/-- The command of a kind, reserved or not, is its post (R240, R243). -/
theorem exec_post {p : Post} {c : Instr} {k : Nat}
    (h : (c, k) ∈ postKinds p ∨ (c = .reservedKind p (BitVec.ofNat 8 k) ∧ k < 256 ∧ (k = 0 ∨ 11 ≤ k))) (s : State) :
    k < 256 ∧ exec c s = .next (s.post k p) := by
  rcases h with h | ⟨rfl, hlt, hk⟩
  · have hk := kind_of_mem_postKinds h
    exact ⟨by omega, exec_of_mem_postKinds h s⟩
  · exact ⟨hlt, execReservedKind_posts hlt hk p s⟩

/-- A session's post (R243). -/
theorem post_host {p : Post} {rq : Rq} {list : BitVec 32} (ho : p.origin = .host rq list) (k : Nat) (s : State) :
    s.post k p = s.hostPost rq list.toNat (slateOf p.slate k) := by
  unfold State.post
  simp only [ho]
  rfl

section Session

variable {rq : Rq} {n : Fin 4} (h : Heard s rq n roleO) {list : Nat} (hl : list < 64) (w : Nat)

include h hl

theorem hostPost_listed (hv : (s.postCheck w list none (s.session n.val).tenant true).1 = 0) :
    ((s.hostPost rq list w).list list).map (·.slate) = (s.list list).map (·.slate) ++ [BitVec.ofNat 512 w] ∧
      (s.hostPost rq list w).ctx (slShot w) =
        { state := 1, epoch := slEpoch w, flags := (s.ctx (slShot w)).flags, tenant := slTenant w, frame := s.time.frame } ∧
          Answers rq 2 0 [] s (s.hostPost rq list w) := by
  have hlist := enlist_slates (noted s n.val) w list (.session n.val true)
  have hctx := enlist_ctx (noted s n.val) w list (.session n.val true)
  have honly : Only 16384 (noted s n.val) _ := enlist_only (.refl _) w list (.session n.val true)
  have hshot (x : State) : (x.answer rq 2 0 []).shot = x.shot := (answer_only (m := 4194308) (.refl x) rq 2 0 []).shot_eq
  rw [hostPost_lists h hl w hv, list_congr (congrArg ShotState.lists (hshot _)), ctx_congr (congrArg ShotState.ctxs (hshot _))]
  exact ⟨hlist, hctx, ((silent_noted s n.val).only honly).answers _ _ _ _⟩

theorem hostPost_refused (hc : Canonical s) (hv : (s.postCheck w list none (s.session n.val).tenant true).1 ≠ 0) :
    (s.hostPost rq list w).shot = s.shot ∧
      (s.hostPost rq list w).obj 0x5000 8 (s.postCheck w list none (s.session n.val).tenant true).1 =
        s.obj 0x5000 8 (s.postCheck w list none (s.session n.val).tenant true).1 + 1 ∧
          Answers rq 2 (s.postCheck w list none (s.session n.val).tenant true).2.2 [] s (s.hostPost rq list w) := by
  rw [hostPost_refuses h hl w hv]
  generalize s.postCheck w list none (s.session n.val).tenant true = v
  have hnoted : Only 4 s (noted s n.val) := modSession_only (.refl s) _ _
  refine ⟨?_, ?_, ((silent_noted s n.val).trans (silent_checkFailed _ w v.1)).refuses _ _ _ _ _ _⟩
  · rw [(refuse_only (m := 4194316) (.refl _) rq 2 v.2.2 0x5001 3 list).shot_eq, (checkFailed_only _ w v.1).shot_eq, hnoted.shot_eq]
  · rw [obj_refuse (by unfold oKey; omega), obj_checkFailed (hnoted.canon hc), obj_congr hnoted.objs_eq]

end Session

section Slot

variable {p : Post} {r : PortReq} {sent : Bool} (ho : p.origin = .port r sent) (hready : s.portReady r.port.val r.cls = true)
  (hfree : s.tagOut r.port.val r.tag.toNat = false) (hnew : ∀ q ∈ s.reqs, q.id ≠ s.nextReq) (hnd : (s.reqs.map (·.id)).Nodup)
  (hquiet : QuietPort s r.port.val r.cls) {k : Nat}

include ho hready hfree hnew hnd hquiet

theorem post_unsent (hs : sent = false) :
    s.post k p = if s.capRoom (s.newReq .post r) then (postPushed s r).modReq s.nextReq released else postPushed s r := by
  subst hs
  have hfirst := Takes.firstHeld (takes_postPushed s r) rfl rfl rfl hquiet
  rw [post_releases ho hready hfree (if_neg Bool.false_ne_true).symm hfirst rfl, postPushed_leaves hnew hnd hquiet]

/-- A slot whose slate is still to come is tracked, is due one position, and waits (R48, R49, R109). -/
theorem post_waits (hs : sent = false) :
    ∃ q : Req, Takes q s (s.post k p) ∧ q.id = s.nextReq ∧ q.op = .post ∧ q.tag = r.tag.toNat ∧ q.whole = none ∧ q.data = none ∧
      q.phase = (if s.capRoom (s.newReq .post r) then .wait else .held) ∧ q.routed = s.capRoom (s.newReq .post r) ∧
        (s.post k p).shot = s.shot ∧
          ((s.post k p).port r.port.val).due = (s.port r.port.val).due ++ [{ req := s.nextReq, n := 1 }] := by
  have htakes := takes_postPushed s r
  have hshot := (sameChecks_postPushed s r).shot
  have hdue := postPushed_due s r
  rw [post_unsent ho hready hfree hnew hnd hquiet hs]
  by_cases hroom : s.capRoom (s.newReq .post r) = true
  · rw [if_pos hroom]
    exact ⟨released (s.newReq .post r), Takes.modReq htakes rfl hnew released, rfl, rfl, rfl, rfl, rfl, (if_pos hroom).symm, hroom.symm,
      (State.modReq_shot ..).trans hshot, (congrArg PortState.due (port_congr (State.modReq_ports ..) _)).trans hdue⟩
  · rw [if_neg hroom]
    exact ⟨s.newReq .post r, htakes, rfl, rfl, rfl, rfl, rfl, (if_neg hroom).symm, (Bool.eq_false_iff.mpr hroom).symm, hshot, hdue⟩

theorem post_sent (hs : sent = true) (hc : Canonical s) (hk : k < 256) (hroom : s.capRoom (s.newReq .post r) = true)
    (hdue : (s.port r.port.val).due = []) (hgot : (s.port r.port.val).gathered = []) (haddr : r.addr.toNat < 64)
    (hcheck : (s.postCheck (slateOf p.slate k) r.addr.toNat (some r.port.val) r.tenant.toNat false).1 = 0)
    (htag : slOut (slateOf p.slate k) = 3 → slReply (slateOf p.slate k) ≠ r.tag.toNat) :
    s.post k p = postListed s r (slateOf p.slate k) := by
  subst hs
  have hgiven := giveData_postPushed hc hdue hgot (BitVec.ofNat 512 (slateOf p.slate k))
  have hfirst := Takes.firstHeld (takes_slateGiven hnew (BitVec.ofNat 512 (slateOf p.slate k))) rfl rfl rfl hquiet
  rw [post_releases ho hready hfree (hgiven.symm.trans (if_pos rfl).symm) hfirst rfl]
  exact slateGiven_lists hnew _ (slateOf_lt p.slate hk) hnd hquiet hroom haddr hcheck htag

end Slot

/-- Settles O36: a session's post is `hostPost_listed` or `hostPost_refused`; a slot's is pushed and waits (`post_waits`), or is listed
with its slate (`post_sent`). -/
theorem postsAreListedOrRefused : Obligations.PostsAreListedOrRefused := by
  refine ⟨fun p c k rq n list s hc hck ho h hlist => ?_, fun p c k r sent s hc hck ho hready hfree hnew hnd hquiet => ⟨fun hs => ?_,
    fun hs hroom hdue hgot haddr hcheck htag => ?_⟩⟩
  · obtain ⟨hk, hexec⟩ := exec_post hck s
    rw [post_host ho] at hexec
    refine ⟨_, hexec, hostPost_listed h hlist _, hostPost_refused h hlist _ hc, fun hres hon => ?_⟩
    have hv := postCheck_reserved (port := none) (tenant := (s.session n.val).tenant) (any := true) hon
      ((slKind_slateOf p.slate hk).symm ▸ hres)
    exact ⟨congrArg Prod.fst hv, congrArg (·.2.2) hv⟩
  · obtain ⟨q, hrest⟩ := post_waits ho hready hfree hnew hnd hquiet (k := k) hs
    exact ⟨_, q, exec_of_mem_postKinds hck s, hrest⟩
  · have hk := kind_of_mem_postKinds hck
    have hpost := post_sent ho hready hfree hnew hnd hquiet hs hc (by omega) hroom hdue hgot haddr hcheck htag
    have hexec := (exec_of_mem_postKinds hck s).trans (congrArg _ hpost)
    exact ⟨_, _, hexec, takes_postListed hnew _, rfl, rfl, rfl, rfl, postListed_due hc r _, postListed_slates s r _, postListed_ctx s r _⟩

end Sys2Proof.Laws

/-! Collective reduction: the checks of a contribution at the entry and its accumulation on its lane (R52, R270 to R273, R278, R279). -/

namespace Sys2Proof.Laws

-- theorems one after another: many at once would ask for too many threads
set_option Elab.async false

open Sys2Proof.Machine Sys2Proof.Safety

variable {s : State}

/-! ### Contributions that are dropped (R270) -/

/-- The state in which a contribution has been dropped: its beats' credits are in line, and `n` is counted under 0x5201.`sub`. -/
def discarded (s : State) (pipe beats sub n : Nat) : State :=
  ((s.oweCredits pipe beats).bump 0x5201 sub 0 n).tallyBlock 0x0E 1 {}

theorem discarded_only (s : State) (pipe beats sub n : Nat) : Only 524296 (s.oweCredits pipe beats) (discarded s pipe beats sub n) :=
  tallyBlock_only (bump_only (.refl _) _ _ _ _) _ _ _

theorem discarded_shot (s : State) (pipe beats sub n : Nat) : (discarded s pipe beats sub n).shot = s.shot :=
  (discarded_only s pipe beats sub n).shot_eq

theorem discarded_owed (s : State) (pipe beats sub n : Nat) :
    (discarded s pipe beats sub n).entry.owed = s.entry.owed ++ List.replicate beats pipe :=
  congrArg EntryState.owed (discarded_only s pipe beats sub n).entry_eq

theorem discarded_results (s : State) (pipe beats sub n : Nat) : (discarded s pipe beats sub n).entry.results = s.entry.results :=
  (congrArg EntryState.results (discarded_only s pipe beats sub n).entry_eq).trans rfl

/-- A drop is counted in the object of its check, and in none of the other checks'. -/
theorem obj_discarded (hc : Canonical s) (pipe beats n : Nat) {sub k : Nat} (hk : k ≤ 8) :
    (discarded s pipe beats sub n).obj 0x5201 k 0 = s.obj 0x5201 k 0 + if k = sub then n else 0 := by
  refine (obj_tallyBlock (by unfold oKey; omega) _ _ _).trans ?_
  by_cases h : k = sub
  · subst h
    rw [if_pos rfl]
    exact obj_setObj (s := s.oweCredits pipe beats) (Canonical.objs_rising hc) _ _ _ _
  · rw [if_neg h]
    exact obj_setObj_ne (s := s.oweCredits pipe beats) _ (by unfold oKey; omega)

/-! ### The checks at the entry (R270) -/

/-- The credits that the beats of a packet have (R52). -/
def beatsCredited (s : State) (pipe beats : Nat) : Nat := min beats (128 - Map.look 0 pipe s.entry.credits)

/-- The state in which a packet's beats have spent their credits (R52). -/
def creditsSpent (s : State) (pipe beats : Nat) : State :=
  s.modEntry fun e =>
    { e with credits := Map.put 0 (Map.look 0 pipe s.entry.credits + beatsCredited s pipe beats) pipe e.credits }

/-- The object of 0x5201 under which checks 1 to 6 count a contribution, 0 for one that passes them. -/
def entryVerdict (s : State) (pipe : Nat) (h : ContribHdr) (beats : Nat) : Nat :=
  if beatsCredited s pipe beats < beats then 4
  else if h.kind.toNat ≠ 1 ∨ h.leaves.toNat = 0 ∨ 1048576 < h.leaves.toNat then 8
  else match s.reduceShot h.shot.toNat h.epoch.toNat with
    | none => 1
    | some x =>
      if slCount x.slate.toNat ≤ h.chunk.toNat then 7
      else if h.length.toNat ≠ slSize x.slate.toNat ∨ beats ≠ (64 + h.length.toNat + 511) / 512 then 5
      else if isMember x.entry h.contributor.toNat = false then 2
      else 0

/-- A contribution as it waits on its lane (R267, R268). -/
def laneItem (x : Shot) (pipe : Nat) (h : ContribHdr) (beats : Nat) (payload : List Byte) : LaneItem :=
  { shot := x.id, epoch := h.epoch.toNat, slot := h.chunk.toNat % max 1 (rdWindow x.slate.toNat), chunk := h.chunk.toNat
    contributor := h.contributor.toNat, leaves := h.leaves.toNat, payload, pipe, beats }

/-- The state in which a contribution waits at the end of its lane's queue. -/
def laneJoined (s : State) (x : Shot) (it : LaneItem) : State :=
  s.modShotS fun y => { y with lanes := Map.upd [] (x.laneOf it.slot) (· ++ [it]) y.lanes }

/-- A contribution is dropped by the first check that it fails, or joins its lane's queue. -/
theorem execContribution_cases (pipe : Fin 32) (h : ContribHdr) (beats : Nat) (payload : List Byte) (hup : s.block.boot = .up) :
    (entryVerdict s pipe.val h beats ≠ 0 ∧ execContribution pipe h beats payload s =
      .next (discarded (creditsSpent s pipe.val beats) pipe.val (beatsCredited s pipe.val beats) (entryVerdict s pipe.val h beats)
        (if entryVerdict s pipe.val h beats = 4 then beats - beatsCredited s pipe.val beats else 1))) ∨
      (entryVerdict s pipe.val h beats = 0 ∧ ∃ x, s.reduceShot h.shot.toNat h.epoch.toNat = some x ∧
        execContribution pipe h beats payload s =
          .next (laneJoined (creditsSpent s pipe.val beats) x (laneItem x pipe.val h beats payload))) := by
  have hceil : ceilDiv (64 + h.length.toNat) 512 = (64 + h.length.toNat + 511) / 512 := rfl
  have hboot : ¬ (s.block.boot != .up) = true := by simp [hup]
  unfold execContribution entryVerdict
  rw [if_neg hboot]
  extract_lets p spent had s0 c
  have hhad : beatsCredited s pipe.val beats = had := rfl
  rw [hhad]
  by_cases hcredit : had < beats
  · left
    simp only [if_pos hcredit]
    exact ⟨by decide, rfl⟩
  have hall : had = beats := Nat.le_antisymm (Nat.min_le_left ..) (Nat.not_lt.mp hcredit)
  simp only [if_neg hcredit]
  by_cases hform : h.kind.toNat ≠ 1 ∨ h.leaves.toNat = 0 ∨ 1048576 < h.leaves.toNat
  · left
    simp only [if_pos hform, hall]
    exact ⟨by decide, rfl⟩
  simp only [if_neg hform, hceil, c]
  cases hshot : s.reduceShot h.shot.toNat h.epoch.toNat with
  | none =>
    left
    simp only [hall]
    exact ⟨by decide, rfl⟩
  | some x =>
    by_cases hchunk : slCount x.slate.toNat ≤ h.chunk.toNat
    · left
      simp only [if_pos hchunk, hall]
      exact ⟨by decide, rfl⟩
    simp only [if_neg hchunk]
    by_cases hlength : h.length.toNat ≠ slSize x.slate.toNat ∨ beats ≠ (64 + h.length.toNat + 511) / 512
    · left
      simp only [if_pos hlength, hall]
      exact ⟨by decide, rfl⟩
    simp only [if_neg hlength]
    cases hmember : isMember x.entry h.contributor.toNat
    · left
      simp only [hall]
      exact ⟨by decide, rfl⟩
    · right
      exact ⟨rfl, x, rfl, rfl⟩

/-- Settles O41: a packet with a verdict is `discarded`, one with none is `laneJoined`. -/
theorem contributionsAreCheckedAtTheEntry : Obligations.ContributionsAreCheckedAtTheEntry := by
  intro pipe h beats payload s hc hup spent had verdict
  have hverdict : entryVerdict s pipe.val h beats = verdict := rfl
  obtain ⟨hv, hexec⟩ | ⟨hv, x, hx, hexec⟩ := execContribution_cases pipe h beats payload hup <;> rw [hverdict] at hv
  · rw [hverdict] at hexec
    have hspent : Canonical (creditsSpent s pipe.val beats) := hc
    exact ⟨_, hexec, fun _ => ⟨discarded_shot .., discarded_owed .., fun sub hsub => obj_discarded hspent _ _ _ hsub⟩,
      fun hno => absurd hno hv⟩
  · exact ⟨_, hexec, fun hno => absurd hv hno, fun _ =>
      ⟨x, laneItem x pipe.val h beats payload, hx, rfl, rfl, rfl, rfl, rfl, rfl, rfl, rfl, rfl, rfl, rfl, rfl⟩⟩

/-! ### Accumulation on a lane (R270, R271, R273) -/

theorem reduceShot_shot? {shot epoch : Nat} {x : Shot} (h : s.reduceShot shot epoch = some x) : s.shot? shot = some x := by
  obtain ⟨hx, -⟩ := Option.filter_eq_some_iff.mp h
  exact hx

/-- The state in which the oldest contribution has left its lane's queue. -/
def oldestTaken (s : State) (lane : Nat) (rest : List LaneItem) : State :=
  s.modShotS fun y => { y with lanes := Map.put [] rest lane y.lanes }

/-- A slot's state with a contribution more (R271 to R274). -/
def slotWith (x : Shot) (it : LaneItem) : RSlot :=
  { x.rslot it.slot with
    isOpen := true
    bitmap := (x.rslot it.slot).bitmap ||| BitVec.ofNat 512 (2 ^ it.contributor)
    arrived := (x.rslot it.slot).arrived + 1
    done := (x.rslot it.slot).done + 1
    leaves := ((x.rslot it.slot).leaves + it.leaves) % 2 ^ 30
    acc := accumulate (rdOp x.slate.toNat) (slIn x.slate.toNat) (rdElems x.slate.toNat) ((x.rslot it.slot).done == 0)
      (x.rslot it.slot).acc it.payload }

/-- The state in which a contribution's beats are freed and its slot holds it. -/
def slotFilled (s : State) (x : Shot) (it : LaneItem) : State :=
  (s.oweCredits it.pipe it.beats).modRslot x.id it.slot fun _ => slotWith x it

/-- The state in which a lane has accumulated a contribution and used its cycles for it (R201, R273). -/
def accumulated (s : State) (lane : Nat) (x : Shot) (it : LaneItem) : State :=
  ((((slotFilled s x it).count 0x5200 4).tallyBlock 0x0D 1 {}).issue 40 (ceilDiv (rdElems x.slate.toNat) 48)).lanePorts lane
    (x.lanePorts (x.rslot it.slot))

/-- The state after an accumulation: with the last member the chunk is completed (R278, R279). -/
def accumulationEnded (s : State) (lane : Nat) (x : Shot) (it : LaneItem) : State :=
  if (slotWith x it).arrived < memberCount x.entry then accumulated s lane x it
  else (accumulated s lane x it).completeChunk x it.slot it.chunk (slotWith x it)

section Lane

variable {lane : Fin 64} {it : LaneItem} {rest : List LaneItem} {x : Shot} (hq : Map.look [] lane.val s.shot.lanes = it :: rest)
  (htest : s.underTest (unitRedLane lane.val) = false) (hx : s.reduceShot it.shot it.epoch = some x)

include hq htest hx

theorem execLaneAccumulate_before (h : it.chunk < it.slot + rdWindow x.slate.toNat * (x.rslot it.slot).next) :
    execLaneAccumulate lane s = .next (discarded (oldestTaken s lane.val rest) it.pipe it.beats 3 1) := by
  unfold execLaneAccumulate
  simp only [hq, htest, hx, Bool.false_eq_true, if_false, if_pos h]
  rfl

theorem execLaneAccumulate_after (h : it.slot + rdWindow x.slate.toNat * (x.rslot it.slot).next < it.chunk) :
    execLaneAccumulate lane s = .next (discarded (oldestTaken s lane.val rest) it.pipe it.beats 6 1) := by
  unfold execLaneAccumulate
  simp only [hq, htest, hx, Bool.false_eq_true, if_false, if_neg h.not_gt, if_pos h]
  rfl

section Due

variable (hchunk : it.chunk = it.slot + rdWindow x.slate.toNat * (x.rslot it.slot).next)

include hchunk

theorem execLaneAccumulate_repeated (hbit : (x.rslot it.slot).bitmap.getLsbD it.contributor = true) :
    execLaneAccumulate lane s = .next (discarded (oldestTaken s lane.val rest) it.pipe it.beats 3 1) := by
  unfold execLaneAccumulate
  simp only [hq, htest, hx, Bool.false_eq_true, if_false, if_neg hchunk.not_lt, if_neg hchunk.not_gt, if_pos hbit]
  rfl

variable (hbit : (x.rslot it.slot).bitmap.getLsbD it.contributor = false)

include hbit

theorem execLaneAccumulate_waits (hroom : s.laneRoom lane.val (x.lanePorts (x.rslot it.slot)) = false) :
    execLaneAccumulate lane s = .next s := by
  unfold execLaneAccumulate
  simp [hq, htest, hx, hchunk.not_lt, hchunk.not_gt, hbit, hroom]

theorem execLaneAccumulate_accumulates (hroom : s.laneRoom lane.val (x.lanePorts (x.rslot it.slot)) = true) :
    execLaneAccumulate lane s = .next (accumulationEnded (oldestTaken s lane.val rest) lane.val x it) := by
  unfold execLaneAccumulate accumulationEnded
  simp only [hq, htest, hx, hbit, hroom, Bool.false_eq_true, if_false, if_neg hchunk.not_lt, if_neg hchunk.not_gt, Bool.not_true]
  by_cases hmore : (slotWith x it).arrived < memberCount x.entry
  · rw [if_pos hmore]
    exact if_pos hmore
  · rw [if_neg hmore]
    exact if_neg hmore

end Due

end Lane

/-! ### The completion of a chunk (R278, R279) -/

/-- Packets sent one after another stand in line in their order. -/
theorem foldl_send (l : List RsPacket) (s : State) :
    l.foldl State.send s = s.modEntry fun e => { e with results := e.results ++ l } := by
  induction l generalizing s with
  | nil => simp [State.modEntry]
  | cons p l ih => rw [List.foldl_cons, ih]; simp [State.send, State.modEntry]

/-- A leaf sum that R278 lets pass. -/
def LeavesPass (x : Shot) (leaves : Nat) : Prop := leaves ≤ 1048576 ∧ (mbLeaves x.entry = 0 ∨ leaves = mbLeaves x.entry)

/-- A chunk's result, by the accumulators of its slot (R275). -/
def slotPackets (x : Shot) (slot chunk : Nat) (r : RSlot) : List RsPacket :=
  resultPackets x slot chunk r.leaves (chunkResult x.slate.toNat r.leaves r.acc)

theorem slotPackets_ne_nil (x : Shot) (slot chunk : Nat) (r : RSlot) : slotPackets x slot chunk r ≠ [] := by
  simp [slotPackets, resultPackets]

theorem mem_slotPackets {x : Shot} {slot chunk : Nat} {r : RSlot} {q : RsPacket} (h : q ∈ slotPackets x slot chunk r) :
    q.ty = 1 ∧ q.shot = x.id ∧ q.chunk = chunk := by
  obtain ⟨i, -, rfl⟩ := List.mem_map.mp h
  exact ⟨rfl, rfl, rfl⟩

/-- A shot with a chunk's saturations and NaN replacements added (R253). -/
def withResult (res : List (BitVec 8) × Nat × Nat × Nat) (x : Shot) : Shot :=
  { x with sat := x.sat + res.2.1, nan := x.nan + res.2.2.1 }

/-- The state in which a chunk's packets are in line (R279). -/
def chunkLined (s : State) (x : Shot) (slot chunk : Nat) (r : RSlot) : State :=
  (s.modShot x.id (withResult (chunkResult x.slate.toNat r.leaves r.acc))).modEntry fun e =>
    { e with results := e.results ++ slotPackets x slot chunk r }

/-- A slot whose result waits for the output (R268). -/
def markedSent (r : RSlot) : RSlot := { r with sent := true }

theorem markedSent_ne (r : RSlot) : markedSent r ≠ {} := fun e => Bool.noConfusion (congrArg RSlot.sent e)

/-- The state in which a chunk's result is withheld and its shot is to abort (R278). -/
def chunkWithheld (s : State) (x : Shot) (detail : Nat) : State :=
  (s.modShot x.id fun x => { x with work := { x.work with withheld := true } }).askAbort x.id 0x0A detail

theorem completeChunk_passes {x : Shot} {r : RSlot} (h : LeavesPass x r.leaves) (slot chunk : Nat) :
    s.completeChunk x slot chunk r = (chunkLined s x slot chunk r).modRslot x.id slot markedSent := by
  obtain ⟨hmax, hsum⟩ := h
  have hbad : ¬ (mbLeaves x.entry ≠ 0 ∧ r.leaves ≠ mbLeaves x.entry) := fun ⟨hnz, hne⟩ => hsum.elim hnz hne
  unfold State.completeChunk
  simp only [if_neg hmax.not_gt, if_neg hbad, ne_eq, not_true_eq_false, if_false, foldl_send]
  rfl

theorem completeChunk_fails {x : Shot} {r : RSlot} (h : ¬ LeavesPass x r.leaves) (slot chunk : Nat) :
    ∃ detail, s.completeChunk x slot chunk r = chunkWithheld s x detail := by
  unfold State.completeChunk
  extract_lets w total bad
  have hbad : bad ≠ 0 := by
    unfold LeavesPass at h
    grind
  exact ⟨bad, if_pos hbad⟩

/-- A slot that a shot holds after a change of the slot to a listed value. -/
theorem rslot_modRslot {id i : Nat} {f : RSlot → RSlot} {z : Shot} (hz : s.shot? id = some z) (hf : f (z.rslot i) ≠ {}) :
    ∃ y, (s.modRslot id i f).shot? id = some y ∧ y.rslot i = f (z.rslot i) :=
  ⟨_, shot?_modShot hz fun _ hy => hy, Map.look_put_listed hf _⟩

/-- A completed chunk's slot keeps what has arrived for it; only the mark that its result waits may change. -/
theorem completeChunk_rslot {x z : Shot} (hz : s.shot? x.id = some z) (slot chunk : Nat) (r : RSlot) :
    ∃ y sent, (s.completeChunk x slot chunk r).shot? x.id = some y ∧ y.rslot slot = { z.rslot slot with sent := sent } := by
  by_cases h : LeavesPass x r.leaves
  · have hlined : (chunkLined s x slot chunk r).shot? x.id = some (withResult (chunkResult x.slate.toNat r.leaves r.acc) z) :=
      shot?_modShot hz fun _ hy => hy
    rw [completeChunk_passes h]
    obtain ⟨y, hy, hslot⟩ := rslot_modRslot hlined (markedSent_ne _)
    exact ⟨y, true, hy, hslot⟩
  · obtain ⟨detail, hfail⟩ := completeChunk_fails (s := s) h slot chunk
    rw [hfail]
    exact ⟨_, (z.rslot slot).sent, shot?_modShot (shot?_modShot hz fun _ hy => hy) fun _ hy => hy, rfl⟩

theorem completeChunk_keeps (x : Shot) (slot chunk : Nat) (r : RSlot) :
    (s.completeChunk x slot chunk r).entry.owed = s.entry.owed ∧ (s.completeChunk x slot chunk r).shot.lanes = s.shot.lanes := by
  by_cases h : LeavesPass x r.leaves
  · rw [completeChunk_passes h]
    exact ⟨rfl, rfl⟩
  · obtain ⟨detail, hfail⟩ := completeChunk_fails (s := s) h slot chunk
    rw [hfail]
    exact ⟨rfl, rfl⟩

theorem completeChunk_results {x : Shot} {r : RSlot} (h : LeavesPass x r.leaves) (slot chunk : Nat) :
    (s.completeChunk x slot chunk r).entry.results = s.entry.results ++ slotPackets x slot chunk r := by
  rw [completeChunk_passes h]
  rfl

/-! ### What an accumulation leaves -/

theorem accumulated_only (s : State) (lane : Nat) (x : Shot) (it : LaneItem) :
    Only 532488 (slotFilled s x it) (accumulated s lane x it) :=
  lanePorts_only (issue_only (tallyBlock_only (count_only (.refl _) _ _) _ _ _) _ _) _ _

section Ended

variable (s) (lane : Nat) (x : Shot) (it : LaneItem)

theorem obj_accumulationEnded : (accumulationEnded s lane x it).obj 0x5200 4 0 = s.obj 0x5200 4 0 + 1 := by
  have hended : (accumulationEnded s lane x it).objs = (accumulated s lane x it).objs := by
    unfold accumulationEnded
    split
    · rfl
    · exact (completeChunk_only (m := 49152) (.refl _) _ _ _ _).objs_eq
  have hissued : Only 532480 (((slotFilled s x it).count 0x5200 4).tallyBlock 0x0D 1 {}) (accumulated s lane x it) :=
    lanePorts_only (issue_only (.refl _) _ _) _ _
  calc (accumulationEnded s lane x it).obj 0x5200 4 0
    _ = (((slotFilled s x it).count 0x5200 4).tallyBlock 0x0D 1 {}).obj 0x5200 4 0 := obj_congr (hended.trans hissued.objs_eq) _ _ _
    _ = ((slotFilled s x it).count 0x5200 4).obj 0x5200 4 0 := obj_tallyBlock (by decide) _ _ _
    _ = s.obj 0x5200 4 0 + 1 := obj_count_plain (s := slotFilled s x it) (by decide)

theorem accumulationEnded_keeps : (accumulationEnded s lane x it).entry.owed = s.entry.owed ++ List.replicate it.beats it.pipe ∧
    (accumulationEnded s lane x it).shot.lanes = s.shot.lanes := by
  have hall := accumulated_only s lane x it
  have howed : (accumulated s lane x it).entry.owed = s.entry.owed ++ List.replicate it.beats it.pipe :=
    congrArg EntryState.owed hall.entry_eq
  have hlanes : (accumulated s lane x it).shot.lanes = s.shot.lanes := (congrArg ShotState.lanes hall.shot_eq).trans rfl
  unfold accumulationEnded
  split
  · exact ⟨howed, hlanes⟩
  · obtain ⟨hko, hkl⟩ := completeChunk_keeps (s := accumulated s lane x it) x it.slot it.chunk (slotWith x it)
    exact ⟨hko.trans howed, hkl.trans hlanes⟩

theorem accumulationEnded_results (hmore : (slotWith x it).arrived < memberCount x.entry) :
    (accumulationEnded s lane x it).entry.results = s.entry.results := by
  unfold accumulationEnded
  rw [if_pos hmore]
  exact (congrArg EntryState.results (accumulated_only s lane x it).entry_eq).trans rfl

theorem accumulationEnded_packets (hlast : memberCount x.entry ≤ (slotWith x it).arrived) (hpass : LeavesPass x (slotWith x it).leaves) :
    (accumulationEnded s lane x it).entry.results = s.entry.results ++ slotPackets x it.slot it.chunk (slotWith x it) := by
  have hresults : (accumulated s lane x it).entry.results = s.entry.results :=
    (congrArg EntryState.results (accumulated_only s lane x it).entry_eq).trans rfl
  unfold accumulationEnded
  rw [if_neg hlast.not_gt, completeChunk_results hpass, hresults]

theorem accumulationEnded_rslot (hx : s.shot? x.id = some x) :
    ∃ y sent, (accumulationEnded s lane x it).shot? x.id = some y ∧ y.rslot it.slot = { slotWith x it with sent := sent } := by
  obtain ⟨z, hz, hslot⟩ := rslot_modRslot (s := s.oweCredits it.pipe it.beats) (i := it.slot) (f := fun _ => slotWith x it) hx
    fun e => by simpa [slotWith] using congrArg RSlot.isOpen e
  replace hz : (accumulated s lane x it).shot? x.id = some z := (shot?_congr (accumulated_only s lane x it).shot_eq _).trans hz
  unfold accumulationEnded
  split
  · exact ⟨z, _, hz, hslot⟩
  · rw [← hslot]
    exact completeChunk_rslot hz _ _ _

end Ended

/-- A contribution dropped on its lane is counted, and neither its shot nor the results change (R270). -/
theorem discarded_oldestTaken (hc : Canonical s) (lane : Nat) (it : LaneItem) (rest : List LaneItem) {sub : Nat} (hsub : sub ≤ 8) :
    (discarded (oldestTaken s lane rest) it.pipe it.beats sub 1).shot.shots = s.shot.shots ∧
      (discarded (oldestTaken s lane rest) it.pipe it.beats sub 1).obj 0x5201 sub 0 = s.obj 0x5201 sub 0 + 1 ∧
        (discarded (oldestTaken s lane rest) it.pipe it.beats sub 1).entry.results = s.entry.results := by
  have htaken : Canonical (oldestTaken s lane rest) := hc
  refine ⟨(congrArg ShotState.shots (discarded_shot ..)).trans rfl, (obj_discarded htaken _ _ _ hsub).trans ?_, discarded_results ..⟩
  rw [if_pos rfl]
  rfl

/-- Settles O42: a dropped contribution leaves its lane's queue `discarded`, any other one waits or ends as `accumulationEnded`. -/
theorem lanesAccumulateOnce : Obligations.LanesAccumulateOnce := by
  intro lane s it rest x hc hq htest hx r next leaves dropped room
  have hlanes (sub : Nat) : (discarded (oldestTaken s lane.val rest) it.pipe it.beats sub 1).shot.lanes =
      Map.put [] rest lane.val s.shot.lanes := congrArg ShotState.lanes (discarded_shot ..)
  obtain hlt | heq | hgt := lt_trichotomy it.chunk next
  · have hdrop : dropped := .inl hlt.ne
    exact ⟨fun _ => ⟨_, execLaneAccumulate_before hq htest hx hlt, discarded_owed .., hlanes 3,
      fun _ => discarded_oldestTaken hc _ _ _ (by decide), fun h => absurd h hlt.not_gt, fun h => absurd hdrop h⟩, fun h => absurd hdrop h⟩
  · cases hbit : r.bitmap.getLsbD it.contributor with
    | true =>
      have hdrop : dropped := .inr hbit
      exact ⟨fun _ => ⟨_, execLaneAccumulate_repeated hq htest hx heq hbit, discarded_owed .., hlanes 3,
        fun _ => discarded_oldestTaken hc _ _ _ (by decide), fun h => absurd heq h.ne', fun h => absurd hdrop h⟩, fun h => absurd hdrop h⟩
    | false =>
      have hkept : ¬ dropped := by simp [dropped, heq, hbit]
      refine ⟨fun h => ?_, fun _ hroom => execLaneAccumulate_waits hq htest hx heq hbit hroom⟩
      have hexec := execLaneAccumulate_accumulates hq htest hx heq hbit (h.resolve_left hkept)
      have hshot := reduceShot_shot? hx
      have hid : x.id = it.shot := shot?_id hshot
      obtain ⟨howed, hqueue⟩ := accumulationEnded_keeps (oldestTaken s lane.val rest) lane.val x it
      obtain ⟨y, sent, hy, hslot⟩ := accumulationEnded_rslot (oldestTaken s lane.val rest) lane.val x it (hid ▸ hshot)
      refine ⟨_, hexec, howed, hqueue, fun h => ?_, fun h => absurd heq h.ne', fun _ => ⟨y, hid ▸ hy, ?_⟩⟩
      · simp [heq] at h
      · rw [hslot]
        refine ⟨rfl, rfl, rfl, rfl, obj_accumulationEnded .., fun hmore => accumulationEnded_results _ _ _ _ hmore,
          fun hlast hmax hsum => ⟨_, slotPackets_ne_nil _ _ _ _, accumulationEnded_packets _ _ _ _ hlast ⟨hmax, hsum⟩, fun q hq => ?_⟩⟩
        rw [← hid]
        exact mem_slotPackets hq
  · have hdrop : dropped := .inl hgt.ne'
    exact ⟨fun _ => ⟨_, execLaneAccumulate_after hq htest hx hgt, discarded_owed .., hlanes 6,
      fun h => absurd h (by omega), fun _ => discarded_oldestTaken hc _ _ _ (by decide), fun h => absurd hdrop h⟩, fun h => absurd hdrop h⟩

end Sys2Proof.Laws
